-- ==== Sys2Proof/Word.lean ====
section
/-! DEFINITION. The words of the part and the fixed-size table the state is made of. -/

namespace Sys2Proof

/-- One byte of the exchange memory, or one character of a line. -/
abbrev Byte := BitVec 8

/-- A word is 16 bits (section 1.7). Signed quantities are its two's complement reading. -/
abbrev Word := BitVec 16

/-- A reading of the 32-bit millisecond time counter (section 1.7). -/
abbrev Time := BitVec 32

/-- A table of exactly `n` entries: the part's counts of section 1.5 are fixed. -/
structure Table (n : Nat) (α : Type) where
  cells : List α
  size : cells.length = n
  deriving DecidableEq, Repr

/-- A table with the same entry at every index. -/
def Table.replicate (n : Nat) {α : Type} (a : α) : Table n α :=
  { cells := List.replicate n a, size := List.length_replicate }

/-- The entry at an index; an index past the table (a field of 255 that means none) reads the default. -/
def Table.get {n : Nat} {α : Type} [Inhabited α] (t : Table n α) (i : Nat) : α :=
  t.cells.getD i default

/-- Replaces the entry at an index; an index past the table changes nothing. -/
def Table.set {n : Nat} {α : Type} (t : Table n α) (i : Nat) (a : α) : Table n α :=
  { cells := t.cells.set i a, size := (List.length_set).trans t.size }

/-- Applies a function to every entry. -/
def Table.map {n : Nat} {α β : Type} (f : α → β) (t : Table n α) : Table n β :=
  { cells := t.cells.map f, size := (List.length_map f).trans t.size }

/-- The table whose entry at each index below `n` is given by a function of the index. -/
def Table.tabulate (n : Nat) {α : Type} (f : Nat → α) : Table n α :=
  { cells := (List.range n).map f, size := by simp }

/-- A count that rises by 1 and stops at its stated maximum (section 1.7, Arithmetic). -/
def saturate (limit a : Nat) : Nat := min (a + 1) limit

end Sys2Proof
end

