-- ==== Sys2Proof/Config.lean ====
section
/-! DEFINITION. The figures the manual fixes for the part, and the value it leaves open. -/

namespace Sys2Proof.Config

/-- The revision of the part (R169, R179). The spec names it and gives it no value: a free value. -/
opaque revision : Byte

/-- IDENT holds the part code 0x2610 (R186). -/
def partCode : Word := 0x2610#16

/-- One body line character is 44 µs (section 3.2). -/
def lineChar : Nat := 44

/-- The longest gap inside a reply, in µs (R41). -/
def replyGap : Nat := 88

/-- The turnaround after every attempt, in µs (R43). -/
def turnaround : Nat := 60

/-- The response timeout in µs of each code of the line settings (R55). -/
def responseTimeout (code : Nat) : Nat :=
  match code with
  | 0 => 40
  | 1 => 80
  | 2 => 160
  | _ => 320

/-- The scan period in ms of each scan period code (R16). -/
def scanPeriod (code : Nat) : Nat :=
  match code with
  | 0 => 5
  | 1 => 10
  | 2 => 20
  | _ => 50

/-- Timers the manual fixes, in ms. -/
def sweepPeriod : Nat := 50
def supplyPeriod : Nat := 5
def supplyLowDelay : Nat := 100
def stopDelay : Nat := 500
def proofPeriod : Nat := 100
def retryDelay : Nat := 1000
def lampCheckTime : Nat := 2000
def toneTime : Nat := 300
def gaugePeriod : Nat := 20
def sessionIdle : Nat := 5000
def configIdle : Nat := 60000

/-- The whole homing drive in microsteps (R143). -/
def homingSteps : Nat := 4752

/-- The lamp proof thresholds in mA (R124). -/
def openLoadThreshold : Nat := 20
def overcurrentLimit : Nat := 2000

end Sys2Proof.Config
end

