-- ==== Sys2Proof/Syntax.lean ====
section
/-! DEFINITION. The commands of the part: one constructor per row of spec/opcode_table.json. The table gives its
rows no operand fields and no bits, so each constructor carries the operands that its rule names. -/

namespace Sys2Proof

/-- The two channels of the body line (section 3.1). -/
inductive Channel where
  | a
  | b
  deriving DecidableEq, Repr, Inhabited

/-- Which bytes of a word a host write enables (R175). -/
inductive ByteEnable where
  | low
  | high
  | both
  deriving DecidableEq, Repr, Inhabited

/-- The port registers every write to which is refused (R177). -/
inductive ReadOnlyRegister where
  | ident
  | noticeWrite
  | refusedAddress
  | timeMs
  deriving DecidableEq, Repr, Inhabited

/-- The two flash timebases (R123). -/
inductive FlashRate where
  | hz1
  | hz3
  deriving DecidableEq, Repr, Inhabited

/-- How a workshop character arrived (R163). -/
inductive CharError where
  | none
  | parity
  | framing
  deriving DecidableEq, Repr, Inhabited

/-- The commands. `places` is the slot a sweep has reached when the next command is taken: a whole sweep is 16 or
more. `reading` is the raw reading of a sense channel. `samples` counts equal consecutive samples. `after` is µs.
`gap` is the time in µs from the end of the poll frame or of the latest reply character to the beginning of this one;
a character that begins before that end, such as one during the part's own poll frame, has a negative `gap`. -/
inductive Instr where
  -- the host port
  | hostMemoryWrite (addr : BitVec 14) (en : ByteEnable) (data : Word)
  | postRequest (slot : Fin 16) (kind : Option Byte)
  | withdrawRequest (slot : Fin 16)
  | releaseSlot (slot : Fin 16)
  | portRegisterWrite (reg : ReadOnlyRegister) (en : ByteEnable) (data : Word)
  | clearNoticeOverflow
  | clearWriteRefused
  | intEnable (on : Bool)
  | softReset
  | attention (value : Word) (places : Nat)
  | noticeRead (value : Word)
  -- the port unit's own timers
  | sweepTimerExpiry (places : Nat)
  | heldSweepStart (places : Nat)
  | setupValidationEnd
  | livenessTimerExpiry
  -- the signal image and the sense scanner
  | staleExpiry (signal : Fin 128)
  | senseSample (channel : Fin 48) (reading : BitVec 12)
  | debounceChange (channel : Fin 48) (reading : BitVec 12)
  | senseFaultEntry (channel : Fin 48) (reading : BitVec 12)
  | senseHeal (channel : Fin 48) (reading : BitVec 12)
  | frequencyEdge (channel : Fin 48) (after : Nat)
  | wiringCheckMeasurement (channel : Fin 48) (reading : BitVec 12)
  | supplyMeasurement (millivolts : Word)
  | supplyLowTimerExpiry
  | ignitionStateChange (on : Bool) (samples : Nat)
  -- the body line
  | minorCycleStart
  | replyCharacter (channel : Channel) (gap : Int) (data : Byte) (headerMark : Bool) (stopBit : Bool)
  | responseTimeout
  | replyGapTimeout
  | attemptWindowClose
  | turnaroundEnd
  -- doors and interlock
  | agreeTimerExpiry (door : Fin 4)
  | stopTimerExpiry
  | releaseTimerExpiry
  -- warnings
  | onDelayExpiry (warning : Fin 96)
  | offDelayExpiry (warning : Fin 96)
  -- tell-tales and sounder
  | flashPhaseChange (rate : FlashRate)
  | proofTimerExpiry (lamp : Fin 32) (milliamps : Nat)
  | lampOpenLoad (lamp : Fin 32) (milliamps : Nat)
  | lampProofHealed (lamp : Fin 32) (milliamps : Nat)
  | lampOvercurrent (lamp : Fin 32)
  | lampShorted (lamp : Fin 32)
  | overcurrentRetryExpiry (lamp : Fin 32)
  | lampCheckTimerExpiry
  | sounderPhaseChange
  | chimeToneEnd
  | testToneEnd
  -- gauges
  | gaugeUpdate (gauge : Fin 6)
  | holdTimerExpiry (gauge : Fin 6)
  -- the workshop line
  | workshopFrameDiscard (data : Byte) (error : CharError)
  | workshopGapTimeout
  | workshopResyncGap
  | unknownService (code : Byte) (tag : Byte) (data : List Byte)
  | identify (tag : Byte) (data : List Byte)
  | openSession (tag : Byte) (data : List Byte)
  | closeSession (tag : Byte) (data : List Byte)
  | readSignals (tag : Byte) (data : List Byte)
  | readFaults (tag : Byte) (data : List Byte)
  | readFaultSnapshot (tag : Byte) (data : List Byte)
  | workshopClearFaults (tag : Byte) (data : List Byte)
  | forceSignal (tag : Byte) (data : List Byte)
  | releaseSignal (tag : Byte) (data : List Byte)
  | actuatorTestGaugeSweep (tag : Byte) (rest : List Byte)
  | actuatorTestLampCheck (tag : Byte) (rest : List Byte)
  | actuatorTestChime (tag : Byte) (rest : List Byte)
  | actuatorTestStatus (tag : Byte) (rest : List Byte)
  | readDoorCounters (tag : Byte) (data : List Byte)
  | resetDoorCounter (tag : Byte) (data : List Byte)
  | readLog (tag : Byte) (data : List Byte)
  | answerEnd
  | sessionIdleTimerExpiry
  -- run states
  | releaseChannelWake (door : Fin 4) (reading : BitVec 12) (samples : Nat)
  | workshopLineWake
  | configIdleTimerExpiry
  | standbyEntry
  | runOnTimerExpiry
  | powerOn
  | workshopCharacterReceived (data : Byte) (error : CharError)
  deriving DecidableEq, Repr

end Sys2Proof
end

