-- ==== Sys2Proof/Machine/State.lean ====
section
/-! DEFINITION. Everything the spec gives the part, as plain data; faults and refusals; the state after reset
(power-on, R202). INVENTORY.md lists each field with its rule and its reset value. Each group of fields belongs to
one block of the part. A record the part owns carries its update count as `upd` (R178). -/

namespace Sys2Proof.Machine

/-! ### Names shared by the blocks -/

/-- R195. -/
inductive RunState where
  | standby
  | config
  | run
  | shutdown
  deriving DecidableEq, Repr, Inhabited

/-- R2. -/
inductive SignalStatus where
  | notConfigured
  | noData
  | valid
  | stale
  | fault
  | forced
  deriving DecidableEq, Repr, Inhabited

/-- R27: the fault classes of a sense channel. -/
inductive FaultClass where
  | none
  | shortToGround
  | shortToSupply
  | openCircuit
  | short
  | belowLimit
  | aboveLimit
  | wiring
  deriving DecidableEq, Repr, Inhabited

/-- R18: the raw state of a contact sample. -/
inductive Contact where
  | closed
  | opened
  deriving DecidableEq, Repr, Inhabited

/-- R27: the band or class a sense entry shows. -/
inductive Shown where
  | zero
  | band (b : Nat)
  | inLimits
  | fault (c : FaultClass)
  deriving DecidableEq, Repr, Inhabited

/-- R33. -/
inductive DetectedKind where
  | driven
  | nothing
  | toGround
  | toSupply
  | resistive
  deriving DecidableEq, Repr, Inhabited

/-- R39: the direction a poll frame names. -/
inductive Direction where
  | fetch
  | deliver
  deriving DecidableEq, Repr, Inhabited

/-- The outcomes of section 3.3, and SKIPPED of R60. -/
inductive LineOutcome where
  | ok
  | busy
  | refused
  | noResponse
  | incomplete
  | characterError
  | checkError
  | wrongAddress
  | skipped
  deriving DecidableEq, Repr, Inhabited

/-- R63. -/
inductive StationState where
  | unused
  | unknown
  | online
  | silent
  deriving DecidableEq, Repr, Inhabited

/-- R51. -/
inductive NetworkSummary where
  | normal
  | degraded
  | down
  deriving DecidableEq, Repr, Inhabited

/-- R87. -/
inductive DoorState where
  | unknown
  | closedLocked
  | closedUnlocked
  | opening
  | opened
  | closing
  | reversing
  | released
  deriving DecidableEq, Repr, Inhabited

/-- R77: the phases a door controller reports. -/
inductive Phase where
  | idleClosed
  | opening
  | opened
  | closing
  | reversing
  deriving DecidableEq, Repr, Inhabited

/-- R89. -/
inductive Motion where
  | unknown
  | stopped
  | moving
  deriving DecidableEq, Repr, Inhabited

/-- R88. -/
inductive SpeedSource where
  | primary
  | fallback
  | none
  deriving DecidableEq, Repr, Inhabited

/-- R93. -/
inductive Interlock where
  | demand
  | releasing
  | released
  | overridden
  deriving DecidableEq, Repr, Inhabited

/-- R104. -/
inductive WarningState where
  | inactive
  | arming
  | active
  | clearing
  | latched
  deriving DecidableEq, Repr, Inhabited

/-- R121: what a display slot holds. -/
inductive SlotKind where
  | empty
  | warning
  | banner
  deriving DecidableEq, Repr, Inhabited

/-- R99. -/
inductive WarningClass where
  | info
  | caution
  | warning
  | stop
  | undefined
  deriving DecidableEq, Repr, Inhabited

/-- R99, R130. -/
inductive Pattern where
  | none
  | chime
  | slow
  | fast
  | continuous
  | undefined
  deriving DecidableEq, Repr, Inhabited

/-- R123. -/
inductive LampCommand where
  | off
  | on
  | flash
  deriving DecidableEq, Repr, Inhabited

/-- R124, R126. -/
inductive ProofState where
  | untested
  | ok
  | openLoad
  | shorted
  deriving DecidableEq, Repr, Inhabited

/-- R141. -/
inductive GaugeState where
  | parked
  | homing
  | tracking
  | holding
  | parking
  | sweeping
  deriving DecidableEq, Repr, Inhabited

/-- R152. -/
inductive FaultStatus where
  | empty
  | active
  | passive
  deriving DecidableEq, Repr, Inhabited

/-- R166: the session. -/
inductive Session where
  | detached
  | read
  | service
  deriving DecidableEq, Repr, Inhabited

/-- R165: the workshop line rates. -/
inductive LineRate where
  | slow
  | fast
  deriving DecidableEq, Repr, Inhabited

/-- R173: the state of an entry of the workshop test record. -/
inductive TestState where
  | none
  | running
  | completed
  | endedEarly
  deriving DecidableEq, Repr, Inhabited

/-- R173: why a workshop test ended early. -/
inductive EndCause where
  | moving
  | leftRun
  | reset
  | session
  deriving DecidableEq, Repr, Inhabited

/-- R180. -/
inductive SlotState where
  | empty
  | posted
  | taken
  | done
  | failed
  deriving DecidableEq, Repr, Inhabited

/-- R185: the result codes of a request slot. -/
inductive ResultCode where
  | ok
  | wrongState
  | badParameter
  | busy
  | queueFull
  | noReply
  | notPending
  | notAcknowledgeable
  | refusedMoving
  | refusedWorkshop
  | aborted
  | setupInvalid
  deriving DecidableEq, Repr, Inhabited

/-- R188; `none` is code 0, no kind. -/
inductive NoticeKind where
  | none
  | requestDone
  | stateChange
  | stationChange
  | channelChange
  | stationService
  | senseFaultChange
  | doorChange
  | compositionChanged
  | faultRecord
  | faultMemoryLost
  | workshopChange
  | writeRefused
  | logHalf
  | logWrap
  deriving DecidableEq, Repr, Inhabited

/-! ### Setup, as it stood when APPLY_SETUP last succeeded. An `undefined` value is a stored code that names none of
the field's values; APPLY_SETUP refuses it where a check covers the field. -/

inductive SourceKind where
  | none
  | station
  | sense
  | supplied
  | undefined
  deriving DecidableEq, Repr, Inhabited

/-- R1. -/
structure SignalSetup where
  kind : SourceKind := .none
  index : Nat := 0
  staleLimit : Nat := 0
  rangeMin : Int := 0
  rangeMax : Int := 0
  deriving DecidableEq, Repr, Inhabited

inductive SenseKind where
  | unused
  | switchToGround
  | switchToSupply
  | resistiveSender
  | voltage
  | frequency
  | undefined
  deriving DecidableEq, Repr, Inhabited

inductive Substitution where
  | hold
  | substitute0
  | substitute1
  | undefined
  deriving DecidableEq, Repr, Inhabited

/-- R16. -/
structure SenseSetup where
  kind : SenseKind := .unused
  invert : Bool := false
  substitution : Substitution := .hold
  debounce : Nat := 0
  periodCode : Nat := 0
  low : Nat := 0
  high : Nat := 0
  deriving DecidableEq, Repr, Inhabited

inductive RetryChannel where
  | same
  | other
  | undefined
  deriving DecidableEq, Repr, Inhabited

/-- R55; a preferred channel of `none` is an undefined code. -/
structure LineSettings where
  preferred : Option Channel := some .a
  timeoutCode : Nat := 0
  cycleLength : Nat := 0
  retries : Nat := 0
  retryChannel : RetryChannel := .same
  deriving DecidableEq, Repr, Inhabited

inductive DeliverSource where
  | asShown
  | usableOnly
  | undefined
  deriving DecidableEq, Repr, Inhabited

/-- R56. -/
structure StationSetup where
  enabled : Bool := false
  silentLimit : Nat := 0
  serviceLength : Nat := 0
  deliverSource : DeliverSource := .asShown
  deriving DecidableEq, Repr, Inhabited

inductive DataKind where
  | signals
  | summary
  deriving DecidableEq, Repr, Inhabited

inductive LogPolicy where
  | always
  | errors
  | never
  | undefined
  deriving DecidableEq, Repr, Inhabited

/-- R57; a direction of `none` is an undefined code. -/
structure PollEntry where
  station : Nat := 0
  block : Nat := 0
  direction : Option Direction := some .fetch
  length : Nat := 0
  mask : BitVec 8 := 0#8
  dataKind : DataKind := .signals
  first : Nat := 0
  count : Nat := 0
  retries : Nat := 0
  retryChannel : RetryChannel := .same
  logPolicy : LogPolicy := .always
  deriving DecidableEq, Repr, Inhabited

inductive FaultAction where
  | park
  | hold
  | undefined
  deriving DecidableEq, Repr, Inhabited

/-- R136; `points` are the breakpoints in use. -/
structure GaugeSetup where
  inUse : Bool := false
  faultAction : FaultAction := .park
  signal : Nat := 0
  damping : Nat := 0
  rateLimit : Nat := 0
  sweepRate : Nat := 0
  travel : Nat := 0
  park : Nat := 0
  staleHold : Nat := 0
  count : Nat := 0
  points : List (Int × Nat) := []
  deriving DecidableEq, Repr, Inhabited

inductive Colour where
  | red
  | amber
  | green
  | blue
  | white
  | undefined
  deriving DecidableEq, Repr, Inhabited

/-- R122. -/
structure LampSetup where
  colour : Colour := .red
  day : Nat := 0
  night : Nat := 0
  proofEnabled : Bool := false
  flashRate : FlashRate := .hz1
  deriving DecidableEq, Repr, Inhabited

/-- R77. -/
structure DoorSetup where
  enabled : Bool := false
  leaves : Nat := 0
  leaf1 : Nat := 0
  leaf2 : Nat := 0
  lock : Nat := 0
  obstruction : Nat := 0
  release : Nat := 0
  ramp : Nat := 0
  phaseSignal : Nat := 0
  obstructionSignal : Nat := 0
  agreeTime : Nat := 0
  releaseDelay : Nat := 0
  deriving DecidableEq, Repr, Inhabited

inductive ConditionKind where
  | unused
  | signalTest
  | internal
  | undefined
  deriving DecidableEq, Repr, Inhabited

inductive Operator where
  | above
  | below
  | equal
  | notEqual
  | bitsAny
  | notValid
  | undefined
  deriving DecidableEq, Repr, Inhabited

/-- R103: the internal sources. -/
inductive Source where
  | doorNotClosed
  | doorMovingOpen
  | doorDisagree
  | doorObstructed
  | doorReleased
  | doorViewLost
  | rampOut
  | interlockOverridden
  | speedUnknown
  | senseFault
  | stationSilent
  | stationFault
  | channelFailed
  | networkDown
  | lampFault
  | supplyLow
  | displayLost
  | undefined
  deriving DecidableEq, Repr, Inhabited

inductive AckMode where
  | none
  | silence
  | hide
  | undefined
  deriving DecidableEq, Repr, Inhabited

/-- R99. -/
structure WarningSetup where
  kind : ConditionKind := .unused
  operator : Operator := .above
  source : Source := .doorNotClosed
  index : Nat := 0
  threshold : Int := 0
  hysteresis : Nat := 0
  onDelay : Nat := 0
  offDelay : Nat := 0
  base : Nat := 0
  cls : WarningClass := .info
  latch : Bool := false
  flash : Bool := false
  banner : Bool := false
  motionMode : Bool := false
  ackMode : AckMode := .none
  lamp : Nat := 0
  pattern : Pattern := .none
  boost : Nat := 0
  textId : Nat := 0
  faultCode : Nat := 0
  deriving DecidableEq, Repr, Inhabited

/-- The general setup fields that R88 to R94, R116, R122, R131, R155, R158, R166, R183 and R199 name. -/
structure GeneralSetup where
  primarySpeed : Nat := 0
  fallbackSpeed : Nat := 0
  moveThreshold : Nat := 0
  stopThreshold : Nat := 0
  override : Nat := 0
  ackInput : Nat := 0
  dimmer : Nat := 0
  masterRed : Nat := 0
  masterAmber : Nat := 0
  snapshot : List Nat := []
  agingLimit : Nat := 0
  parkingBrake : Nat := 0
  livenessWindow : Nat := 0
  runOnTime : Nat := 0
  deriving DecidableEq, Repr, Inhabited

/-- The nine setup regions of section 1.4 as values. -/
structure Setup where
  settings : LineSettings := {}
  stations : Table 16 StationSetup := Table.replicate 16 {}
  schedule : Table 64 PollEntry := Table.replicate 64 {}
  signals : Table 128 SignalSetup := Table.replicate 128 {}
  sense : Table 48 SenseSetup := Table.replicate 48 {}
  gauges : Table 6 GaugeSetup := Table.replicate 6 {}
  lamps : Table 32 LampSetup := Table.replicate 32 {}
  doors : Table 4 DoorSetup := Table.replicate 4 {}
  warnings : Table 96 WarningSetup := Table.replicate 96 {}
  general : GeneralSetup := {}
  deriving DecidableEq, Repr

/-! ### The port unit and the run-state logic. Every timer is the instant in µs at which it next expires, on the
clock `State.now`; `none` is not running. -/

/-- R188. -/
structure Notice where
  kind : NoticeKind := .none
  index : Byte := 0#8
  detail : Word := 0#16
  time : Time := 0#32
  deriving DecidableEq, Repr, Inhabited

/-- R176, R177, R181 to R184, R179. -/
structure Port where
  ring : Table 128 Notice := Table.replicate 128 {}
  noticeRead : BitVec 7 := 0#7
  noticeWrite : BitVec 7 := 0#7
  noticeOverflow : Bool := false
  writeRefused : Bool := false
  refusedAddress : BitVec 14 := 0#14
  intEnable : Bool := false
  displayLost : Bool := false
  livenessTimer : Option Nat := none
  sweepTimer : Option Nat := none
  sweepPlace : Option Nat := none
  sweepHeld : Bool := false
  sweepCount : Word := 0#16
  statusUpd : Byte := 0#8
  deriving DecidableEq, Repr, Inhabited

/-- R195 to R202. `applySlot` is the slot of the APPLY_SETUP that is TAKEN. `standbyPending` stands from the expiry
of the CONFIG idle timer until STANDBY is entered or the entry is cancelled. -/
structure RunLogic where
  state : RunState := .config
  ignition : Bool := false
  ignitionTally : Nat := 0
  ignitionCycle : Word := 0#16
  runOnTimer : Option Nat := none
  configIdleTimer : Option Nat := none
  standbyPending : Bool := false
  applySlot : Option Nat := none
  lastResult : ResultCode := .ok
  lastDetail : Nat := 0
  memoryLost : Bool := false
  releaseTallies : Table 4 Nat := Table.replicate 4 0
  deriving DecidableEq, Repr, Inhabited

/-! ### The signal image -/

/-- R2: a signal image entry and its three hidden items. The stale deadline is in ms of the time counter, not
reduced modulo 2^32. -/
structure Signal where
  value : Word := 0#16
  underlying : Word := 0#16
  status : SignalStatus := .notConfigured
  upd : Byte := 0#8
  lastUpdate : Word := 0#16
  sourceValue : Word := 0#16
  sourceStatus : SignalStatus := .notConfigured
  staleDeadline : Option Nat := none
  deriving DecidableEq, Repr, Inhabited

/-! ### The sense scanner -/

/-- R32: a wiring check that runs: its slot and the bands measured so far (U, then D). -/
structure WiringCheck where
  slot : Nat
  bands : List Nat
  deriving DecidableEq, Repr, Inhabited

/-- R27: a sense state entry, and beside it the counts and times the scanner keeps inside. IN_FAULT is
`faultClass ≠ none`, UNDER_CHECK is `check.isSome`, DEBOUNCE_RUNNING is `debounce > 0`. `edges` holds the instants
in µs of the latest rising edges, newest first, at most two. -/
structure SenseChannel where
  logical : Word := 0#16
  reading : Word := 0#16
  shown : Shown := .zero
  faultClass : FaultClass := .none
  changeCount : Byte := 0#8
  settled : Bool := false
  upd : Byte := 0#8
  contact : Option Contact := none
  debounce : Nat := 0
  faultRun : Nat := 0
  healthyRun : Nat := 0
  edges : List Nat := []
  sampleTimer : Option Nat := none
  check : Option WiringCheck := none
  deriving DecidableEq, Repr, Inhabited

/-- The channels, and the supply monitor of R29. -/
structure SenseUnit where
  channels : Table 48 SenseChannel := Table.replicate 48 {}
  supplyMv : Word := 0#16
  supplyLow : Bool := false
  lowTimer : Option Nat := none
  supplyTimer : Option Nat := none
  deriving DecidableEq, Repr, Inhabited

/-! ### The body line controller -/

/-- R193: the station flags of a reply. -/
structure StationFlags where
  busy : Bool := false
  service : Bool := false
  stationFault : Bool := false
  blockRefused : Bool := false
  deriving DecidableEq, Repr, Inhabited

/-- R65, and `deferred`, the mark of a deferred service fetch (R69). -/
structure Station where
  state : StationState := .unused
  failures : Nat := 0
  flags : StationFlags := {}
  good : Nat := 0
  failed : Nat := 0
  lastGood : Time := 0#32
  servicePending : Bool := false
  mailboxLength : Nat := 0
  mailbox : Table 8 Word := Table.replicate 8 0#16
  upd : Byte := 0#8
  deferred : Bool := false
  deriving DecidableEq, Repr, Inhabited

/-- R47, R48: a channel's health count and state. -/
structure ChannelHealth where
  count : Nat := 0
  failed : Bool := false
  deriving DecidableEq, Repr, Inhabited

/-- R66. -/
inductive OneShot where
  | transfer (slot : Nat) (station block : Nat) (dir : Direction) (length : Nat) (words : List Word)
  | service (station : Nat)
  deriving DecidableEq, Repr, Inhabited

/-- What an attempt is made for: a schedule entry, the one-shot at the head of the list, or a probe of an entry. -/
inductive Purpose where
  | entry (e : Nat)
  | oneShot
  | probe (e : Nat)
  deriving DecidableEq, Repr, Inhabited

/-- R39, R44: what every attempt of a transaction sends, and the attempts already made, newest first. -/
structure Transaction where
  purpose : Purpose
  station : Nat
  block : Nat
  dir : Direction
  length : Nat
  words : List Word
  retries : Nat
  retryChannel : RetryChannel
  made : List (Channel × LineOutcome)
  deriving DecidableEq, Repr, Inhabited

/-- R38: a character of a frame as it stands on the line: its data bits, its header mark and its stop bit. -/
structure LineCharacter where
  data : Byte
  headerMark : Bool
  stopBit : Bool := true
  deriving DecidableEq, Repr, Inhabited

/-- R41: an attempt on the line: its channel, its start, the poll frame it sent, the reply characters received, and
the instant at which the poll frame or the latest reply character ended. -/
structure Attempt where
  channel : Channel
  start : Nat
  poll : List LineCharacter
  received : List Byte
  lastEnd : Nat
  deriving DecidableEq, Repr, Inhabited

/-- R37, R43: the line is idle, awaits a reply, holds its channel to the window's close with its outcome fixed, or
keeps the turnaround. -/
inductive LinePhase where
  | idle
  | reply (a : Attempt)
  | holding (a : Attempt) (o : LineOutcome)
  | turnaround (ends : Nat)
  deriving DecidableEq, Repr, Inhabited

/-- R71. -/
structure LogRecord where
  upd : Byte := 0#8
  entry : Nat := 0
  time : Time := 0#32
  station : Nat := 0
  block : Nat := 0
  dir : Direction := .fetch
  length : Nat := 0
  probe : Bool := false
  channel : Channel := .a
  attempts : Nat := 0
  outcome : LineOutcome := .ok
  flags : StationFlags := {}
  word0 : Word := 0#16
  word1 : Word := 0#16
  deriving DecidableEq, Repr, Inhabited

/-- Chapters 3 and 4. `minorNext` is the start of the next minor cycle; `walk` holds the entries of the present
walk not yet taken up; `transaction` is the transaction or probe in progress, also while a retry waits out the
turnaround; `probeNext` is a probe that follows the turnaround. -/
structure BodyLine where
  healthA : ChannelHealth := {}
  healthB : ChannelHealth := {}
  current : Option Channel := none
  search : Option Channel := none
  summary : NetworkSummary := .normal
  stations : Table 16 Station := Table.replicate 16 {}
  oneShots : List OneShot := []
  minor : Nat := 0
  minorNext : Option Nat := none
  walk : List Nat := []
  phase : LinePhase := .idle
  transaction : Option Transaction := none
  probeNext : Option Transaction := none
  probeMade : Bool := false
  overrun : Nat := 0
  log : Table 256 LogRecord := Table.replicate 256 {}
  logHead : BitVec 8 := 0#8
  logWrap : Word := 0#16
  deriving DecidableEq, Repr, Inhabited

/-! ### The door supervisor -/

/-- R87, and the agree timer of R84. `written` stands from the first write of the record after power-on: until then
the record reads zero (R96, R202), whatever codes its values have. -/
structure Door where
  state : DoorState := .unknown
  proven : Bool := false
  disagree : Bool := false
  movingOpen : Bool := false
  viewLost : Bool := false
  opened : Bool := false
  obstructed : Bool := false
  leaf1 : Option Bool := none
  leaf2 : Option Bool := none
  phase : Option Phase := none
  cycles : Nat := 0
  obstructions : Nat := 0
  lastChange : Time := 0#32
  agreeTimer : Option Nat := none
  written : Bool := false
  upd : Byte := 0#8
  deriving DecidableEq, Repr, Inhabited

/-- R92: the reason mask. -/
structure Reasons where
  door : Bool := false
  ramp : Bool := false
  release : Bool := false
  deriving DecidableEq, Repr, Inhabited

/-- The door records, and the motion and interlock record of R95 with its two timers. `written` is as in `Door`. -/
structure DoorUnit where
  doors : Table 4 Door := Table.replicate 4 {}
  motion : Motion := .unknown
  speedSource : SpeedSource := .none
  speed : Nat := 0
  stopTimer : Option Nat := none
  interlock : Interlock := .demand
  reasons : Reasons := {}
  override : Bool := false
  releaseDelay : Nat := 0
  releaseTimer : Option Nat := none
  motionTime : Time := 0#32
  interlockTime : Time := 0#32
  written : Bool := false
  upd : Byte := 0#8
  deriving DecidableEq, Repr, Inhabited

/-! ### The warning unit -/

/-- R112, with the full activation time, the delay that runs (on-delay in ARMING, off-delay in CLEARING) and the
stored mark of R110. -/
structure Warning where
  state : WarningState := .inactive
  acked : Bool := false
  condition : Bool := false
  boosted : Bool := false
  forcedOccurrence : Bool := false
  priority : Nat := 0
  occurrences : Nat := 0
  activation : Time := 0#32
  delay : Option Nat := none
  stored : Bool := false
  upd : Byte := 0#8
  deriving DecidableEq, Repr, Inhabited

/-! ### The composition unit -/

/-- R121: a slot entry of the composition record. -/
structure SlotEntry where
  kind : SlotKind := .empty
  index : Nat := 255
  textId : Nat := 0
  cls : WarningClass := .info
  priority : Nat := 0
  acked : Bool := false
  deriving DecidableEq, Repr, Inhabited

/-- R121 without its update count. -/
structure CompositionRecord where
  top : SlotEntry := {}
  second : SlotEntry := {}
  third : SlotEntry := {}
  bannerMask : BitVec 4 := 0#4
  active : Nat := 0
  unacked : Nat := 0
  pattern : Pattern := .none
  displayLost : Bool := false
  changed : Time := 0#32
  deriving DecidableEq, Repr, Inhabited

/-- R127, and the counts and timers of R124 and R126. -/
structure Lamp where
  command : LampCommand := .off
  proof : ProofState := .untested
  duty : Nat := 0
  openCount : Nat := 0
  healCount : Nat := 0
  trips : Nat := 0
  retryTimer : Option Nat := none
  proofTimer : Option Nat := none
  deriving DecidableEq, Repr, Inhabited

/-- R128: what started a lamp check that runs. -/
inductive CheckOwner where
  | request (slot : Nat)
  | workshop
  deriving DecidableEq, Repr, Inhabited

/-- R123: a flash timebase: its half (on or off) and the instant it ends. -/
structure Timebase where
  on : Bool := false
  timer : Option Nat := none
  deriving DecidableEq, Repr, Inhabited

/-- Chapter 7. `phaseOn` and `phaseTimer` are the sounder pattern's own phase. -/
structure CompositionUnit where
  record : CompositionRecord := {}
  upd : Byte := 0#8
  lamps : Table 32 Lamp := Table.replicate 32 {}
  flash1 : Timebase := {}
  flash3 : Timebase := {}
  check : Option CheckOwner := none
  checkTimer : Option Nat := none
  phaseOn : Bool := false
  phaseTimer : Option Nat := none
  chimeTimer : Option Nat := none
  testTimer : Option Nat := none
  deriving DecidableEq, Repr, Inhabited

/-! ### The gauge drive -/

/-- R142: what the hold timer runs for. -/
inductive HoldUse where
  | stale
  | firstData
  deriving DecidableEq, Repr, Inhabited

/-- R145: what started a sweep, with its gauge set. -/
inductive SweepOwner where
  | request (slot : Nat) (set : BitVec 8)
  | workshop (set : BitVec 8)
  deriving DecidableEq, Repr, Inhabited

/-- R146: a gauge's sweep. -/
structure Sweep where
  resume : GaugeState
  returnPoint : Nat
  back : Bool
  owner : SweepOwner
  deriving DecidableEq, Repr, Inhabited

/-- R148, with the timers of R137 and R142, the homing microsteps that remain (R143) and the sweep's own state. -/
structure Gauge where
  state : GaugeState := .parked
  target : Nat := 0
  filtered : Nat := 0
  command : Nat := 0
  needle : Nat := 0
  known : Bool := false
  holdTimer : Option (HoldUse × Nat) := none
  sweep : Option Sweep := none
  homingLeft : Nat := 0
  updateTimer : Option Nat := none
  upd : Byte := 0#8
  deriving DecidableEq, Repr, Inhabited

/-! ### The fault memory -/

/-- R155: a snapshot entry. -/
structure SnapshotEntry where
  index : Nat := 0
  status : SignalStatus := .notConfigured
  value : Word := 0#16
  deriving DecidableEq, Repr, Inhabited

/-- R152. -/
structure FaultRecord where
  upd : Byte := 0#8
  status : FaultStatus := .empty
  code : Nat := 0
  origin : Nat := 0
  occurrences : Nat := 0
  aging : Nat := 0
  firstCycle : Word := 0#16
  lastCycle : Word := 0#16
  firstTime : Time := 0#32
  lastTime : Time := 0#32
  snapshot : Table 6 SnapshotEntry := Table.replicate 6 {}
  deriving DecidableEq, Repr, Inhabited

/-- R161. -/
structure FaultMemory where
  records : Table 48 FaultRecord := Table.replicate 48 {}
  full : Bool := false
  deriving DecidableEq, Repr, Inhabited

/-! ### The workshop port -/

/-- R163: the receiver. `answering` carries the answer frame that is being sent. -/
inductive Receiver where
  | idle
  | receiving (characters : List Byte)
  | resync
  | answering (answer : List Byte)
  deriving DecidableEq, Repr, Inhabited

/-- R173: the workshop test record. -/
structure TestRecord where
  sweepState : TestState := .none
  sweepCause : EndCause := .moving
  sweepSet : BitVec 8 := 0#8
  lampState : TestState := .none
  lampCause : EndCause := .moving
  lampProofs : Table 32 ProofState := Table.replicate 32 .untested
  deriving DecidableEq, Repr, Inhabited

/-- Chapter 10. `gapTimer` is the end of the gap of 3 character times; `nextRate` is a change of rate that takes
effect when the answer ends. -/
structure Workshop where
  session : Session := .detached
  rate : LineRate := .slow
  nextRate : Option LineRate := none
  receiver : Receiver := .idle
  gapTimer : Option Nat := none
  idleTimer : Option Nat := none
  forced : List Nat := []
  tests : TestRecord := {}
  deriving DecidableEq, Repr, Inhabited

/-! ### The whole machine -/

/-- `pending` is the queue of commands that wait, first in, first out. `now` is the clock in µs since the time
counter was last zeroed; the 32-bit time counter is `now / 1000` modulo 2^32. `mem` holds the bytes of the exchange
memory that the host may write: setup regions, request slots and free memory; the records the part owns are the
other groups. -/
structure State where
  pending : List Instr := []
  now : Nat := 0
  run : RunLogic := {}
  port : Port := {}
  mem : List Host.Cell := []
  setup : Setup := {}
  signals : Table 128 Signal := Table.replicate 128 {}
  sense : SenseUnit := {}
  line : BodyLine := {}
  doors : DoorUnit := {}
  warnings : Table 96 Warning := Table.replicate 96 {}
  comp : CompositionUnit := {}
  gauges : Table 6 Gauge := Table.replicate 6 {}
  faults : FaultMemory := {}
  shop : Workshop := {}
  deriving DecidableEq, Repr

/-- The model has no fault: the spec names no command that stops the part, and gives every command an effect. -/
inductive Fault where
  deriving DecidableEq, Repr

/-- Why a command has no meaning here. -/
inductive Refusal where
  /-- Raised by the dispatch of a command that the model does not give its meaning. Safe: nothing is claimed of it. -/
  | notModelled (mnemonic : String)
  deriving DecidableEq, Repr

/-- The state after power-on (R202): CONFIG, ignition OFF, the exchange memory zero, memory-lost set, the CONFIG
idle and supply timers running, the sweep timer stopped (R184), and FAULT_MEMORY_LOST as the first notice. The applied
setup is all zero, with no snapshot signal (R161), and so is the composition record (R134). DESIGN CHOICE (assumption
50): the first supply measurement falls 5 ms after power-on. -/
def State.reset : State :=
  { run := { configIdleTimer := some (1000 * Config.configIdle), memoryLost := true }
    port :=
      { ring := (Table.replicate 128 {}).set 0 { kind := .faultMemoryLost }
        noticeWrite := 1#7 }
    sense := { supplyTimer := some (1000 * Config.supplyPeriod) }
    comp := { record := { top := { index := 0 }, second := { index := 0 }, third := { index := 0 } } }
    setup := { general := { snapshot := List.replicate 6 255 } } }

end Sys2Proof.Machine
end

