-- ==== Sys2Proof/Machine/Memory.lean ====
section
/-! DEFINITION. The exchange memory as an addressed RAM: one byte at an offset, kept in one canonical form, and the
byte order of R185. Power-on zeroes the memory (R202), so a byte that is not listed reads 0. -/

namespace Sys2Proof.Machine

/-- The exchange memory: (offset, byte) pairs, offsets strictly rising, no byte 0 listed. -/
abbrev Memory := List Host.Cell

/-- What an unlisted offset reads as: power-on zeroes the exchange memory (R202). -/
def Memory.background : Byte := 0#8

/-- The byte at an offset. -/
def Memory.read : Memory → Nat → Byte
  | [], _ => Memory.background
  | (k, v) :: rest, a => if k = a then v else Memory.read rest a

/-- Stores one byte, keeping the canonical form. -/
def Memory.write : Memory → Nat → Byte → Memory
  | [], a, b => if b = Memory.background then [] else [(a, b)]
  | (k, v) :: rest, a, b =>
    if a < k then
      if b = Memory.background then (k, v) :: rest else (a, b) :: (k, v) :: rest
    else if a = k then
      if b = Memory.background then rest else (a, b) :: rest
    else (k, v) :: Memory.write rest a b

/-- Every listed offset lies above `low`, they rise strictly, and no listed byte is the background. -/
def Memory.sortedAbove : Option Nat → Memory → Bool
  | _, [] => true
  | low, (k, v) :: rest =>
    (match low with
      | none => true
      | some l => decide (l < k)) &&
    decide (v ≠ Memory.background) && Memory.sortedAbove (some k) rest

/-- The canonical form holds. -/
def Memory.wf (m : Memory) : Bool := Memory.sortedAbove none m

/-- Stores bytes at successive offsets. -/
def Memory.writeBytes (m : Memory) (a : Nat) : List Byte → Memory
  | [] => m
  | b :: rest => Memory.writeBytes (Memory.write m a b) (a + 1) rest

/-- A one-byte field as a number. -/
def Memory.u8 (m : Memory) (a : Nat) : Nat := (Memory.read m a).toNat

/-- A two-byte field as a number: the low byte stands at the lower offset (R185). -/
def Memory.u16 (m : Memory) (a : Nat) : Nat := Memory.u8 m a + 256 * Memory.u8 m (a + 1)

/-- A two-byte signed field (R185). -/
def Memory.i16 (m : Memory) (a : Nat) : Int := (BitVec.ofNat 16 (Memory.u16 m a)).toInt

/-- Flag `i` of a one-byte set of flags (R185). -/
def Memory.flag (m : Memory) (a i : Nat) : Bool := (Memory.read m a).getLsbD i

/-- A word as its two bytes, low byte first (R185). -/
def wordBytes (w : Word) : List Byte := [w.setWidth 8, (w >>> 8).setWidth 8]

/-- A number as one byte. -/
def byteOf (n : Nat) : Byte := BitVec.ofNat 8 n

/-- A number as two bytes, low byte first. -/
def wordOf (n : Nat) : List Byte := wordBytes (BitVec.ofNat 16 n)

/-- A 32-bit value as four bytes, low byte first (R185). -/
def timeBytes (t : Time) : List Byte :=
  [t.setWidth 8, (t >>> 8).setWidth 8, (t >>> 16).setWidth 8, (t >>> 24).setWidth 8]

/-- The word made of two characters or bytes, low one first (R185). -/
def wordOfBytes (low high : Byte) : Word := high ++ low

/-- Pads a list of bytes with zeros to a length, and cuts it there (R185: bytes that no field names read 0). -/
def padTo (n : Nat) (l : List Byte) : List Byte := (l ++ List.replicate n 0#8).take n

end Sys2Proof.Machine
end

