-- ==== Sys2Proof/Machine/Codes.lean ====
section
/-! DEFINITION. The numbers of the enumerated fields (R185: from 0 in the order the manual lists the values, with
R185's exceptions), and the values that setup codes name. -/

namespace Sys2Proof.Machine

def RunState.code : RunState → Nat
  | .standby => 0
  | .config => 1
  | .run => 2
  | .shutdown => 3

def SignalStatus.code : SignalStatus → Nat
  | .notConfigured => 0
  | .noData => 1
  | .valid => 2
  | .stale => 3
  | .fault => 4
  | .forced => 5

def FaultClass.code : FaultClass → Nat
  | .none => 0
  | .shortToGround => 1
  | .shortToSupply => 2
  | .openCircuit => 3
  | .short => 4
  | .belowLimit => 5
  | .aboveLimit => 6
  | .wiring => 7

def DetectedKind.code : DetectedKind → Nat
  | .driven => 0
  | .nothing => 1
  | .toGround => 2
  | .toSupply => 3
  | .resistive => 4

def channelCode : Channel → Nat
  | .a => 0
  | .b => 1

/-- SKIPPED is 8 by R185; the eight outcomes before it stand in the order of section 3.3. -/
def LineOutcome.code : LineOutcome → Nat
  | .ok => 0
  | .busy => 1
  | .refused => 2
  | .noResponse => 3
  | .incomplete => 4
  | .characterError => 5
  | .checkError => 6
  | .wrongAddress => 7
  | .skipped => 8

def StationState.code : StationState → Nat
  | .unused => 0
  | .unknown => 1
  | .online => 2
  | .silent => 3

def NetworkSummary.code : NetworkSummary → Nat
  | .normal => 0
  | .degraded => 1
  | .down => 2

/-- The order in which R80 first lists the states (R185). DEDUCED (assumption 51): R87 and R193 list them later. -/
def DoorState.code : DoorState → Nat
  | .unknown => 0
  | .released => 1
  | .closedUnlocked => 2
  | .closedLocked => 3
  | .opening => 4
  | .reversing => 5
  | .closing => 6
  | .opened => 7

def Motion.code : Motion → Nat
  | .unknown => 0
  | .stopped => 1
  | .moving => 2

def SpeedSource.code : SpeedSource → Nat
  | .primary => 0
  | .fallback => 1
  | .none => 2

def Interlock.code : Interlock → Nat
  | .demand => 0
  | .releasing => 1
  | .released => 2
  | .overridden => 3

def WarningState.code : WarningState → Nat
  | .inactive => 0
  | .arming => 1
  | .active => 2
  | .clearing => 3
  | .latched => 4

/-- EMPTY 0, WARNING 1, BANNER 2 (R185). -/
def SlotKind.code : SlotKind → Nat
  | .empty => 0
  | .warning => 1
  | .banner => 2

def WarningClass.code : WarningClass → Nat
  | .info => 0
  | .caution => 1
  | .warning => 2
  | .stop => 3
  | .undefined => 4

/-- The order of R130, NONE lowest. -/
def Pattern.code : Pattern → Nat
  | .none => 0
  | .chime => 1
  | .slow => 2
  | .fast => 3
  | .continuous => 4
  | .undefined => 0

def LampCommand.code : LampCommand → Nat
  | .off => 0
  | .on => 1
  | .flash => 2

/-- R185. -/
def ProofState.code : ProofState → Nat
  | .untested => 0
  | .ok => 1
  | .openLoad => 2
  | .shorted => 3

/-- R185. -/
def GaugeState.code : GaugeState → Nat
  | .parked => 0
  | .homing => 1
  | .tracking => 2
  | .holding => 3
  | .parking => 4
  | .sweeping => 5

def FaultStatus.code : FaultStatus → Nat
  | .empty => 0
  | .active => 1
  | .passive => 2

/-- READ 1, SERVICE 2 (R165). -/
def Session.code : Session → Nat
  | .detached => 0
  | .read => 1
  | .service => 2

/-- R165. -/
def LineRate.code : LineRate → Nat
  | .slow => 0
  | .fast => 1

def TestState.code : TestState → Nat
  | .none => 0
  | .running => 1
  | .completed => 2
  | .endedEarly => 3

def EndCause.code : EndCause → Nat
  | .moving => 0
  | .leftRun => 1
  | .reset => 2
  | .session => 3

def SlotState.code : SlotState → Nat
  | .empty => 0
  | .posted => 1
  | .taken => 2
  | .done => 3
  | .failed => 4

/-- The state a slot's state byte names. The part and the port's judgement store no other code. -/
def SlotState.ofCode : Nat → SlotState
  | 1 => .posted
  | 2 => .taken
  | 3 => .done
  | 4 => .failed
  | _ => .empty

/-- R185. -/
def ResultCode.code : ResultCode → Nat
  | .ok => 0
  | .wrongState => 1
  | .badParameter => 2
  | .busy => 3
  | .queueFull => 4
  | .noReply => 5
  | .notPending => 6
  | .notAcknowledgeable => 7
  | .refusedMoving => 8
  | .refusedWorkshop => 9
  | .aborted => 10
  | .setupInvalid => 11

/-- R188. -/
def NoticeKind.code : NoticeKind → Nat
  | .none => 0
  | .requestDone => 1
  | .stateChange => 2
  | .stationChange => 3
  | .channelChange => 4
  | .stationService => 5
  | .senseFaultChange => 6
  | .doorChange => 7
  | .compositionChanged => 8
  | .faultRecord => 9
  | .faultMemoryLost => 10
  | .workshopChange => 11
  | .writeRefused => 12
  | .logHalf => 13
  | .logWrap => 14

/-! ### Values of setup codes -/

def SourceKind.ofCode : Nat → SourceKind
  | 0 => .none
  | 1 => .station
  | 2 => .sense
  | 3 => .supplied
  | _ => .undefined

def SenseKind.ofCode : Nat → SenseKind
  | 0 => .unused
  | 1 => .switchToGround
  | 2 => .switchToSupply
  | 3 => .resistiveSender
  | 4 => .voltage
  | 5 => .frequency
  | _ => .undefined

def Substitution.ofCode : Nat → Substitution
  | 0 => .hold
  | 1 => .substitute0
  | 2 => .substitute1
  | _ => .undefined

def channelOfCode : Nat → Option Channel
  | 0 => some .a
  | 1 => some .b
  | _ => none

def directionOfCode : Nat → Option Direction
  | 0 => some .fetch
  | 1 => some .deliver
  | _ => none

def RetryChannel.ofCode : Nat → RetryChannel
  | 0 => .same
  | 1 => .other
  | _ => .undefined

def DeliverSource.ofCode : Nat → DeliverSource
  | 0 => .asShown
  | 1 => .usableOnly
  | _ => .undefined

def LogPolicy.ofCode : Nat → LogPolicy
  | 0 => .always
  | 1 => .errors
  | 2 => .never
  | _ => .undefined

def FaultAction.ofCode : Nat → FaultAction
  | 0 => .park
  | 1 => .hold
  | _ => .undefined

def Colour.ofCode : Nat → Colour
  | 0 => .red
  | 1 => .amber
  | 2 => .green
  | 3 => .blue
  | 4 => .white
  | _ => .undefined

def ConditionKind.ofCode : Nat → ConditionKind
  | 0 => .unused
  | 1 => .signalTest
  | 2 => .internal
  | _ => .undefined

def Operator.ofCode : Nat → Operator
  | 0 => .above
  | 1 => .below
  | 2 => .equal
  | 3 => .notEqual
  | 4 => .bitsAny
  | 5 => .notValid
  | _ => .undefined

/-- The order of R103's table. -/
def Source.ofCode : Nat → Source
  | 0 => .doorNotClosed
  | 1 => .doorMovingOpen
  | 2 => .doorDisagree
  | 3 => .doorObstructed
  | 4 => .doorReleased
  | 5 => .doorViewLost
  | 6 => .rampOut
  | 7 => .interlockOverridden
  | 8 => .speedUnknown
  | 9 => .senseFault
  | 10 => .stationSilent
  | 11 => .stationFault
  | 12 => .channelFailed
  | 13 => .networkDown
  | 14 => .lampFault
  | 15 => .supplyLow
  | 16 => .displayLost
  | _ => .undefined

def AckMode.ofCode : Nat → AckMode
  | 0 => .none
  | 1 => .silence
  | 2 => .hide
  | _ => .undefined

def WarningClass.ofCode : Nat → WarningClass
  | 0 => .info
  | 1 => .caution
  | 2 => .warning
  | 3 => .stop
  | _ => .undefined

def Pattern.ofCode : Nat → Pattern
  | 0 => .none
  | 1 => .chime
  | 2 => .slow
  | 3 => .fast
  | 4 => .continuous
  | _ => .undefined

/-- The station flags as a byte, bits from bit 0 upward in the order listed (R193). -/
def StationFlags.byte (f : StationFlags) : Byte :=
  byteOf (f.busy.toNat + 2 * f.service.toNat + 4 * f.stationFault.toNat + 8 * f.blockRefused.toNat)

/-- The station flags of a reply's flags character; bits 4 to 7 are ignored (R193). -/
def StationFlags.ofByte (b : Byte) : StationFlags :=
  { busy := b.getLsbD 0, service := b.getLsbD 1, stationFault := b.getLsbD 2, blockRefused := b.getLsbD 3 }

end Sys2Proof.Machine
end

