-- ==== Sys2Proof/Machine/Layout.lean ====
section
/-! DEFINITION. The setup regions of the exchange memory read as values. Section 1.4 gives each region's offset and
entry size and R185 the byte order and codes; the offset of a field inside a setup entry is not given by the spec and
is this model's DESIGN CHOICE (assumption 3, unsafe): the fields in the order their rule lists them, each in as few
whole bytes as its values need, flags in one byte, and the sense entry's 4-bit debounce count and 2-bit scan period
code sharing a byte so that its 8 bytes hold all its fields. -/

namespace Sys2Proof.Machine

def stationSetupBase : Nat := 0x0900
def scheduleBase : Nat := 0x0A00
def signalSetupBase : Nat := 0x0E00
def senseSetupBase : Nat := 0x1200
def gaugeSetupBase : Nat := 0x1380
def lampSetupBase : Nat := 0x14A0
def doorSetupBase : Nat := 0x1520
def warningSetupBase : Nat := 0x15A0
def generalSetupBase : Nat := 0x1EA0

/-- R55: entry 0 of the station setup region. -/
def lineSettingsOf (m : Memory) : LineSettings :=
  let a := stationSetupBase
  { preferred := channelOfCode (m.u8 a)
    timeoutCode := m.u8 (a + 1)
    cycleLength := m.u8 (a + 2)
    retries := m.u8 (a + 3)
    retryChannel := .ofCode (m.u8 (a + 4)) }

/-- R56. -/
def stationSetupOf (m : Memory) (i : Nat) : StationSetup :=
  let a := stationSetupBase + 16 * i
  { enabled := i ≠ 0 && m.flag a 0
    silentLimit := m.u8 (a + 1)
    serviceLength := m.u8 (a + 2)
    deliverSource := .ofCode (m.u8 (a + 3)) }

/-- R57. DESIGN CHOICE (assumption 54): a data kind code that names neither SIGNALS nor SUMMARY, which no check of R76
refuses, reads as SIGNALS. -/
def pollEntryOf (m : Memory) (i : Nat) : PollEntry :=
  let a := scheduleBase + 16 * i
  { station := m.u8 a
    block := m.u8 (a + 1)
    direction := directionOfCode (m.u8 (a + 2))
    length := m.u8 (a + 3)
    mask := m.read (a + 4)
    dataKind := if m.u8 (a + 5) = 1 then .summary else .signals
    first := m.u8 (a + 6)
    count := m.u8 (a + 7)
    retries := m.u8 (a + 8)
    retryChannel := .ofCode (m.u8 (a + 9))
    logPolicy := .ofCode (m.u8 (a + 10)) }

/-- R1. -/
def signalSetupOf (m : Memory) (i : Nat) : SignalSetup :=
  let a := signalSetupBase + 8 * i
  { kind := .ofCode (m.u8 a)
    index := m.u8 (a + 1)
    staleLimit := m.u16 (a + 2)
    rangeMin := m.i16 (a + 4)
    rangeMax := m.i16 (a + 6) }

/-- R16. DESIGN CHOICE (assumption 3): the debounce count stands in bits 0 to 3 of byte 3 and the scan period code in bits
4 and 5, and bits 6 and 7 of that byte are ignored. -/
def senseSetupOf (m : Memory) (i : Nat) : SenseSetup :=
  let a := senseSetupBase + 8 * i
  { kind := .ofCode (m.u8 a)
    invert := m.flag (a + 1) 0
    substitution := .ofCode (m.u8 (a + 2))
    debounce := m.u8 (a + 3) % 16
    periodCode := m.u8 (a + 3) / 16 % 4
    low := m.u16 (a + 4)
    high := m.u16 (a + 6) }

/-- R136. DESIGN CHOICE (assumption 3): byte 13 of the entry is unused, so that the breakpoints start at byte 14 and
stand on even offsets. -/
def gaugeSetupOf (m : Memory) (i : Nat) : GaugeSetup :=
  let a := gaugeSetupBase + 48 * i
  { inUse := m.flag a 0
    faultAction := .ofCode (m.u8 (a + 1))
    signal := m.u8 (a + 2)
    damping := m.u8 (a + 3)
    rateLimit := m.u8 (a + 4)
    sweepRate := m.u8 (a + 5)
    travel := m.u16 (a + 6)
    park := m.u16 (a + 8)
    staleHold := m.u16 (a + 10)
    count := m.u8 (a + 12)
    points := (List.range (min 8 (m.u8 (a + 12)))).map fun j => (m.i16 (a + 14 + 4 * j), m.u16 (a + 16 + 4 * j)) }

/-- R122. DESIGN CHOICE (assumption 3): the flash rate, whose two values need one bit, stands as bit 1 of byte 3 beside the
proof flag, 0 for 1 Hz and 1 for 3 Hz, and bits 2 to 7 of that byte are ignored. -/
def lampSetupOf (m : Memory) (i : Nat) : LampSetup :=
  let a := lampSetupBase + 4 * i
  { colour := .ofCode (m.u8 a)
    day := m.u8 (a + 1)
    night := m.u8 (a + 2)
    proofEnabled := m.flag (a + 3) 0
    flashRate := if m.flag (a + 3) 1 then .hz3 else .hz1 }

/-- R77. -/
def doorSetupOf (m : Memory) (i : Nat) : DoorSetup :=
  let a := doorSetupBase + 32 * i
  { enabled := m.flag a 0
    leaves := m.u8 (a + 1)
    leaf1 := m.u8 (a + 2)
    leaf2 := m.u8 (a + 3)
    lock := m.u8 (a + 4)
    obstruction := m.u8 (a + 5)
    release := m.u8 (a + 6)
    ramp := m.u8 (a + 7)
    phaseSignal := m.u8 (a + 8)
    obstructionSignal := m.u8 (a + 9)
    agreeTime := m.u16 (a + 10)
    releaseDelay := m.u16 (a + 12) }

/-- R99. -/
def warningSetupOf (m : Memory) (i : Nat) : WarningSetup :=
  let a := warningSetupBase + 24 * i
  { kind := .ofCode (m.u8 a)
    operator := .ofCode (m.u8 (a + 1))
    source := .ofCode (m.u8 (a + 2))
    index := m.u8 (a + 3)
    threshold := m.i16 (a + 4)
    hysteresis := m.u16 (a + 6)
    onDelay := m.u16 (a + 8)
    offDelay := m.u16 (a + 10)
    base := m.u8 (a + 12)
    cls := .ofCode (m.u8 (a + 13))
    latch := m.flag (a + 14) 0
    flash := m.flag (a + 14) 1
    banner := m.flag (a + 14) 2
    motionMode := m.flag (a + 14) 3
    ackMode := .ofCode (m.u8 (a + 15))
    lamp := m.u8 (a + 16)
    pattern := .ofCode (m.u8 (a + 17))
    boost := m.u8 (a + 18)
    textId := m.u16 (a + 19)
    faultCode := m.u16 (a + 21) }

/-- The general setup fields. DESIGN CHOICE (assumption 3): they stand in the order in which the checks of the region come
(R98, R116, R135, R162, R174, R183, R198), with the aging limit, which no check reads, after the snapshot signals. -/
def generalSetupOf (m : Memory) : GeneralSetup :=
  let a := generalSetupBase
  { primarySpeed := m.u8 a
    fallbackSpeed := m.u8 (a + 1)
    moveThreshold := m.u16 (a + 2)
    stopThreshold := m.u16 (a + 4)
    override := m.u8 (a + 6)
    ackInput := m.u8 (a + 7)
    dimmer := m.u8 (a + 8)
    masterRed := m.u8 (a + 9)
    masterAmber := m.u8 (a + 10)
    snapshot := (List.range 6).map fun j => m.u8 (a + 11 + j)
    agingLimit := m.u8 (a + 17)
    parkingBrake := m.u8 (a + 18)
    livenessWindow := m.u16 (a + 19)
    runOnTime := m.u16 (a + 21) }

/-- The setup that the setup regions hold. -/
def Setup.ofMemory (m : Memory) : Setup :=
  { settings := lineSettingsOf m
    stations := Table.tabulate 16 (stationSetupOf m)
    schedule := Table.tabulate 64 (pollEntryOf m)
    signals := Table.tabulate 128 (signalSetupOf m)
    sense := Table.tabulate 48 (senseSetupOf m)
    gauges := Table.tabulate 6 (gaugeSetupOf m)
    lamps := Table.tabulate 32 (lampSetupOf m)
    doors := Table.tabulate 4 (doorSetupOf m)
    warnings := Table.tabulate 96 (warningSetupOf m)
    general := generalSetupOf m }

end Sys2Proof.Machine
end

