-- ==== Sys2Proof/Machine/Operands.lean ====
section
/-! DEFINITION. What the part makes of the operands of its commands, as pure functions: sense readings (R18 to R20,
R33), body line frames and budgets (R39 to R42, R60, R193), the duty of a lamp (R122), the arithmetic of a gauge
(R138 to R140) and workshop frames (R163, R194). -/

namespace Sys2Proof.Machine

/-! ### Sense readings -/

/-- The two switch kinds of R16. -/
def SenseKind.isSwitch : SenseKind → Bool
  | .switchToGround | .switchToSupply => true
  | _ => false

/-- What a sample of a channel is, before debounce and qualification (R18, R19): a fault sample of a class, a
contact sample, an in-limit sample with its measurement, or a void hold sample. -/
inductive Sample where
  | fault (c : FaultClass)
  | contact (c : Contact)
  | inLimits (m : Nat)
  | void
  deriving DecidableEq, Repr, Inhabited

/-- The band of a reading (R18). -/
def bandOf (reading : Nat) : Nat := reading / 256

/-- The bands of R18; `none` is a hold band. -/
def bandState (kind : SenseKind) (b : Nat) : Option Sample :=
  match kind with
  | .switchToGround =>
    if b = 0 then some (.fault .shortToGround)
    else if b ≤ 5 then some (.contact .closed)
    else if b ≤ 7 then none
    else if b ≤ 13 then some (.contact .opened)
    else some (.fault .openCircuit)
  | .switchToSupply =>
    if b ≤ 1 then some (.fault .openCircuit)
    else if b ≤ 7 then some (.contact .opened)
    else if b ≤ 9 then none
    else if b ≤ 14 then some (.contact .closed)
    else some (.fault .shortToSupply)
  | _ => none

/-- A sample of a switch kind, from its band and the channel's contact state (R18). -/
def switchSample (kind : SenseKind) (contact : Option Contact) (reading : Nat) : Sample :=
  match bandState kind (bandOf reading) with
  | some x => x
  | none =>
    match contact with
    | some c => .contact c
    | none => .void

/-- The measurement of R19: ohms, or millivolts in steps of 8. -/
def measurement (kind : SenseKind) (reading : Nat) : Nat :=
  match kind with
  | .voltage => reading * 8
  | _ => reading

/-- The fault classes of R19: below the low limit, above the high limit. -/
def limitClasses (kind : SenseKind) : FaultClass × FaultClass :=
  match kind with
  | .voltage => (.belowLimit, .aboveLimit)
  | _ => (.short, .openCircuit)

/-- A sample of RESISTIVE_SENDER or VOLTAGE (R19). -/
def limitSample (u : SenseSetup) (reading : Nat) : Sample :=
  let m := measurement u.kind reading
  if m < u.low then .fault (limitClasses u.kind).1
  else if u.high < m then .fault (limitClasses u.kind).2
  else .inLimits m

/-- The measurement of a frequency channel in tenths of a hertz (R20), from its edge history (newest first) at an
instant in µs. A period below 1 µs saturates like one of 1 µs (assumption 14). -/
def frequencyOf (edges : List Nat) (now : Nat) : Nat :=
  match edges with
  | e1 :: e0 :: _ => if e1 + 2000000 ≤ now then 0 else min (10000000 / max (e1 - e0) 1) 32767
  | _ => 0

/-- Classification, step 1 of R17. -/
def classify (u : SenseSetup) (ch : SenseChannel) (reading now : Nat) : Sample :=
  if u.kind.isSwitch then switchSample u.kind ch.contact reading
  else if u.kind = .frequency then .inLimits (frequencyOf ch.edges now)
  else limitSample u reading

/-- The logical value of a contact state (R18). -/
def contactValue (invert : Bool) (c : Contact) : Word :=
  match c, invert with
  | .closed, false | .opened, true => 1#16
  | _, _ => 0#16

/-- The raw state that corresponds to a logical value (R21). -/
def contactOfValue (invert : Bool) (v : Word) : Contact :=
  if contactValue invert .closed = v then .closed else .opened

/-- The number of differing samples that change a switch's value: 0 is taken as 1 (R16). -/
def debounceLimit (u : SenseSetup) : Nat := max u.debounce 1

/-- The logical value a channel shows on entry into fault (R24). An unsettled channel with HOLD shows 0. -/
def substituteValue (sub : Substitution) (held : Word) (settled : Bool) : Word :=
  match sub with
  | .substitute0 => 0#16
  | .substitute1 => 1#16
  | _ => if settled then held else 0#16

/-- The detected kind of a wiring check (R33), from the bands U, D and F. -/
def detectKind (u d f : Nat) : DetectedKind :=
  if 2 ≤ f ∧ u ≤ d + 1 ∧ d ≤ u + 1 then .driven
  else if 14 ≤ u ∧ d ≤ 1 then .nothing
  else if u ≤ 13 ∧ d ≤ 1 then .toGround
  else if 14 ≤ u ∧ 2 ≤ d then .toSupply
  else .resistive

/-- R33: whether the detected kind matches the configured one. -/
def DetectedKind.fits (d : DetectedKind) (k : SenseKind) : Bool :=
  match d, k with
  | .driven, .voltage => true
  | .nothing, .unused => true
  | .toGround, .switchToGround => true
  | .toSupply, .switchToSupply => true
  | .resistive, .resistiveSender => true
  | _, _ => false

/-! ### Signals -/

/-- A usable status (R3). -/
def SignalStatus.usable (s : SignalStatus) : Bool := s = .valid || s = .forced

/-- The magnitude of a signed 16-bit value (R88): −32,768 gives 32,768. -/
def magnitude (v : Word) : Nat := v.toInt.natAbs

/-! ### The body line -/

/-- The other channel. -/
def otherChannel : Channel → Channel
  | .a => .b
  | .b => .a

/-- The window of an attempt in µs (R41). -/
def attemptWindow (timeoutCode length : Nat) : Nat :=
  (7 + 2 * length) * Config.lineChar + Config.responseTimeout timeoutCode

/-- The budget of an attempt in µs, B(L) of section 4.2.1. -/
def attemptBudget (timeoutCode length : Nat) : Nat := attemptWindow timeoutCode length + Config.turnaround

/-- The sum of characters modulo 256. -/
def sumBytes (l : List Byte) : Byte := l.foldl (· + ·) 0#8

/-- The check character that brings the sum to 0 modulo 256 (R39, R163). -/
def checkOf (l : List Byte) : Byte := 0#8 - sumBytes l

/-- The block and direction character (R193). -/
def blockCharacter (block : Nat) (dir : Direction) : Byte :=
  byteOf (block % 32 + (if dir = .deliver then 128 else 0))

/-- The data bits of the poll frame's characters (R39, R193). -/
def pollBytes (station block : Nat) (dir : Direction) (length : Nat) (words : List Word) : List Byte :=
  let body := [byteOf station, blockCharacter block dir, byteOf length] ++
    (if dir = .deliver then words.flatMap wordBytes else [])
  body ++ [checkOf body]

/-- The characters of a frame that the part sends: the header mark is set in the first and clear in every later one,
and each has its stop bit (R38). -/
def framed : List Byte → List LineCharacter
  | [] => []
  | b :: rest => { data := b, headerMark := true } :: rest.map fun d => { data := d, headerMark := false }

/-- The poll frame (R38, R39). -/
def pollFrame (station block : Nat) (dir : Direction) (length : Nat) (words : List Word) : List LineCharacter :=
  framed (pollBytes station block dir length words)

/-- The number of characters of a reply, once its flags have arrived (R40). -/
def replyLength (dir : Direction) (length : Nat) (flags : StationFlags) : Nat :=
  if dir = .fetch && !flags.busy && !flags.blockRefused then 3 + 2 * length else 3

/-- Whether the reply is complete (R40). -/
def replyComplete (dir : Direction) (length : Nat) (received : List Byte) : Bool :=
  2 ≤ received.length &&
    received.length = replyLength dir length (.ofByte (received.getD 1 0#8))

/-- The judgement of a complete reply (R42). -/
def judgeReply (station : Nat) (received : List Byte) : LineOutcome :=
  let flags := StationFlags.ofByte (received.getD 1 0#8)
  if sumBytes received ≠ 0#8 then .checkError
  else if received.getD 0 0#8 ≠ byteOf station then .wrongAddress
  else if flags.blockRefused then .refused
  else if flags.busy then .busy
  else .ok

/-- A good outcome: OK, BUSY or REFUSED (section 3.3). -/
def LineOutcome.good : LineOutcome → Bool
  | .ok | .busy | .refused => true
  | _ => false

/-- The words a reply or a workshop frame carries, low character first (R185). -/
def wordsOf : List Byte → List Word
  | low :: high :: rest => wordOfBytes low high :: wordsOf rest
  | _ => []

/-- The words fetched by a complete OK reply to a FETCH of `length` words (R40). -/
def replyWords (length : Nat) (received : List Byte) : List Word :=
  wordsOf ((received.drop 2).take (2 * length))

/-- Whether a scheduled transaction, or a probe, is logged (R71). -/
def LogPolicy.logs (p : LogPolicy) (outcome : LineOutcome) (attempts : Nat) : Bool :=
  match p with
  | .always => true
  | .errors => outcome ≠ .ok || 1 < attempts
  | _ => false

/-! ### Lamps -/

/-- The duty of R122, in 1,024ths of the drive period. -/
def dutyOf (day night step : Nat) : Nat := ((day * (32 - step) + night * step) * 4 + 16) / 32

/-- The dimming step: the dimmer signal's value clamped to 0–32 (R122). -/
def dimmingStep (v : Word) : Nat := min v.toInt.toNat 32

/-! ### Gauges -/

/-- The nearest integer to num / den, an exact half rounded away from zero (R138); den is positive. -/
def roundDiv (num : Int) (den : Nat) : Int :=
  if num < 0 then -((((-num).toNat * 2 + den) / (2 * den) : Nat) : Int)
  else ((num.toNat * 2 + den) / (2 * den) : Nat)

/-- The target on the segments of a curve, past its first breakpoint (R138). -/
def targetOnCurve (v : Int) : List (Int × Nat) → Nat
  | (x0, p0) :: (x1, p1) :: rest =>
    if v < x1 then ((p0 : Int) + roundDiv ((v - x0) * ((p1 : Int) - p0)) (x1 - x0).toNat).toNat
    else targetOnCurve v ((x1, p1) :: rest)
  | [(_, p)] => p
  | [] => 0

/-- Stage 1: the target of a signal value on the calibration curve (R138). -/
def targetOf (points : List (Int × Nat)) (v : Int) : Nat :=
  match points with
  | (x0, p0) :: _ => if v ≤ x0 then p0 else targetOnCurve v points
  | [] => 0

/-- Stage 2: one step of the damping, the new filtered value (R139). -/
def dampStep (target filtered damping : Nat) : Nat :=
  let d : Int := 16 * (target : Int) - (filtered : Int)
  let s : Int := (d * (damping + 1 : Nat)).tdiv 256
  let s' : Int := if s = 0 ∧ d ≠ 0 then (if d < 0 then -1 else 1) else s
  ((filtered : Int) + s').toNat

/-- The command of a filtered value (R139). -/
def commandOf (filtered : Nat) : Nat := (filtered + 8) / 16

/-- Stage 3: a move of at most `limit` toward an aim (R140). -/
def moveToward (needle aim limit : Nat) : Nat :=
  if needle ≤ aim then (if aim - needle ≤ limit then aim else needle + limit)
  else (if needle - aim ≤ limit then aim else needle - limit)

/-- A rate limit or sweep rate of 0 is taken as 1 (R136). -/
def rateOf (field : Nat) : Nat := max field 1

/-! ### Workshop frames -/

/-- A request frame (R163, R194). -/
def requestFrame (code tag : Byte) (data : List Byte) : List Byte :=
  let body := [byteOf (data.length + 4), code, tag] ++ data
  body ++ [checkOf body]

/-- An answer frame (R163, R194). -/
def answerFrame (code tag result : Byte) (data : List Byte) : List Byte :=
  let body := [byteOf (data.length + 5), code, tag, result] ++ data
  body ++ [checkOf body]

/-- The time of 3 workshop characters in µs at a line rate (section 10.1). -/
def workshopGap : LineRate → Nat
  | .slow => 3 * 573
  | .fast => 3 * 191

end Sys2Proof.Machine
end

