-- ==== Sys2Proof/Machine/SetupChecks.lean ====
section
/-! DEFINITION. The checks of APPLY_SETUP (R198), region by region in map order: the first check that fails gives
the region code, the entry and the check number. -/

namespace Sys2Proof.Machine

/-- A failed check: region code, entry, check number. -/
abbrev SetupFailure := Nat × Nat × Nat

/-- The number of the first check of a list that fails. -/
def firstFailing : List (Nat × Bool) → Option Nat
  | [] => none
  | (n, fails) :: rest => if fails then some n else firstFailing rest

/-- The first failure of the entries of a region. -/
def regionFailure (region : Nat) (entries : List Nat) (checks : Nat → List (Nat × Bool)) : Option SetupFailure :=
  entries.findSome? fun e => (firstFailing (checks e)).map fun n => (region, e, n)

/-- A channel field names a channel of a switch kind (R97, R98, R116). -/
def Setup.switchChannel (u : Setup) (c : Nat) : Bool := c < 48 && (u.sense.get c).kind.isSwitch

/-- A signal field names a signal whose source kind is not NONE. -/
def Setup.configured (u : Setup) (n : Nat) : Bool := n < 128 && (u.signals.get n).kind ≠ .none

/-- 255, or a configured signal. -/
def Setup.optionalSignal (u : Setup) (n : Nat) : Bool := n = 255 || u.configured n

/-- R75. -/
def stationChecks (u : Setup) (i : Nat) : List (Nat × Bool) :=
  if i = 0 then
    [(1, u.settings.preferred.isNone || 3 < u.settings.timeoutCode),
     (2, u.settings.cycleLength < 5 || 50 < u.settings.cycleLength),
     (3, 2 < u.settings.retries || u.settings.retryChannel = .undefined)]
  else if (u.stations.get i).enabled then
    [(4, (u.stations.get i).silentLimit < 1 || 15 < (u.stations.get i).silentLimit),
     (5, (u.stations.get i).serviceLength < 1 || 8 < (u.stations.get i).serviceLength),
     (6, (u.stations.get i).deliverSource = .undefined)]
  else []

/-- A schedule entry in use (R57). -/
def PollEntry.inUse (e : PollEntry) : Bool := e.station ≠ 0

/-- The signal span of an entry contains a signal (R57). -/
def PollEntry.spans (e : PollEntry) (n : Nat) : Bool := e.first ≤ n && n < e.first + e.count

/-- R76, first pass. -/
def scheduleChecks (u : Setup) (i : Nat) : List (Nat × Bool) :=
  let e := u.schedule.get i
  if e.inUse then
    [(1, 15 < e.station || !(u.stations.get e.station).enabled),
     (2, 30 < e.block || e.direction.isNone),
     (3, 16 < e.length),
     (4, e.mask = 0#8),
     (5, e.length < e.count || (0 < e.count && 128 < e.first + e.count)),
     (6, e.dataKind = .summary && (e.direction = some .fetch || e.length ≠ 4 || e.count ≠ 0)),
     (7, 2 < e.retries || e.retryChannel = .undefined || e.logPolicy = .undefined)]
  else []

/-- The entries in use whose mask includes a minor cycle, in ascending index (R59). -/
def Setup.dueIn (u : Setup) (m : Nat) : List Nat :=
  (List.range 64).filter fun i => (u.schedule.get i).inUse && (u.schedule.get i).mask.getLsbD m

/-- R76, second pass: the budgets of a minor cycle exceed 900 µs for each ms of its length. -/
def cycleChecks (u : Setup) (m : Nat) : List (Nat × Bool) :=
  [(8, u.settings.cycleLength * 900 <
    ((u.dueIn m).map fun i => attemptBudget u.settings.timeoutCode (u.schedule.get i).length).sum)]

/-- R76, third pass. -/
def polledChecks (u : Setup) (a : Nat) : List (Nat × Bool) :=
  [(9, (u.stations.get a).enabled && !(List.range 64).any fun i => (u.schedule.get i).station = a)]

/-- A FETCH entry in use. -/
def PollEntry.isFetch (e : PollEntry) : Bool := e.inUse && e.direction = some .fetch

/-- R15. -/
def signalChecks (u : Setup) (n : Nat) : List (Nat × Bool) :=
  let g := u.signals.get n
  let station := g.kind = .station
  let sense := g.kind = .sense
  [(1, g.kind = .undefined),
   (2, station && 63 < g.index),
   (3, station && !((u.schedule.get g.index).isFetch && (u.schedule.get g.index).spans n)),
   (4, sense && 47 < g.index),
   (5, sense && (List.range n).any fun k => (u.signals.get k).kind = .sense && (u.signals.get k).index = g.index),
   (6, g.kind ≠ .none && g.rangeMax < g.rangeMin),
   (7, (List.range 64).any fun i =>
      (u.schedule.get i).isFetch && (u.schedule.get i).spans n && !(station && g.index = i))]

/-- R36. -/
def senseChecks (u : Setup) (c : Nat) : List (Nat × Bool) :=
  let k := (u.sense.get c).kind
  let limits := k = .resistiveSender || k = .voltage
  [(1, k = .undefined),
   (2, c < 44 && k = .frequency),
   (3, 44 ≤ c && !(k = .frequency || k = .unused)),
   (4, (k.isSwitch || limits) && (u.sense.get c).substitution = .undefined),
   (5, limits && (u.sense.get c).high < (u.sense.get c).low),
   (6, k = .unused && (List.range 128).any fun n =>
      (u.signals.get n).kind = .sense && (u.signals.get n).index = c)]

/-- The x values of the breakpoints do not ascend strictly (R151). -/
def notAscending : List (Int × Nat) → Bool
  | (x0, _) :: (x1, p1) :: rest => x1 ≤ x0 || notAscending ((x1, p1) :: rest)
  | _ => false

/-- R151. -/
def gaugeChecks (u : Setup) (i : Nat) : List (Nat × Bool) :=
  let g := u.gauges.get i
  if g.inUse then
    [(1, g.faultAction = .undefined),
     (2, !u.configured g.signal),
     (3, g.travel < 16 || 4320 < g.travel),
     (4, 240 < g.rateLimit || 240 < g.sweepRate),
     (5, g.travel < g.park),
     (6, 10000 < g.staleHold),
     (7, g.count < 2 || 8 < g.count),
     (8, notAscending g.points),
     (9, g.points.any fun q => g.travel < q.2)]
  else []

/-- R135, check 1. -/
def lampChecks (u : Setup) (i : Nat) : List (Nat × Bool) := [(1, (u.lamps.get i).colour = .undefined)]

/-- The channels a door names (R77): leaf 2 counts with two leaves only, and 255 names none. -/
def DoorSetup.channels (d : DoorSetup) : List Nat :=
  [d.leaf1] ++ (if d.leaves = 2 then [d.leaf2] else []) ++ [d.release] ++
    ([d.lock, d.obstruction, d.ramp].filter (· ≠ 255))

/-- A list holds an entry twice. -/
def hasRepeat : List Nat → Bool
  | [] => false
  | a :: rest => rest.contains a || hasRepeat rest

/-- The doors that are enabled. -/
def Setup.enabledDoors (u : Setup) : List Nat := (List.range 4).filter fun d => (u.doors.get d).enabled

/-- An enabled door names the channel. -/
def Setup.doorChannel (u : Setup) (c : Nat) : Bool :=
  u.enabledDoors.any fun d => (u.doors.get d).channels.contains c

/-- R97. -/
def doorChecks (u : Setup) (i : Nat) : List (Nat × Bool) :=
  let d := u.doors.get i
  if d.enabled then
    [(1, d.leaves ≠ 1 && d.leaves ≠ 2),
     (2, d.channels.any (47 < ·)),
     (3, d.channels.any fun c => !(u.sense.get c).kind.isSwitch),
     (4, hasRepeat d.channels || d.channels.any fun c =>
        (List.range i).any fun j => (u.doors.get j).enabled && (u.doors.get j).channels.contains c),
     (5, !(u.optionalSignal d.phaseSignal && u.optionalSignal d.obstructionSignal)),
     (6, d.phaseSignal ≠ 255 && (d.agreeTime < 100 || 2000 < d.agreeTime)),
     (7, 2000 < d.releaseDelay)]
  else []

/-- The lowest index and one past the highest of a source that takes one (R103); `none` ignores its index. -/
def Source.range : Source → Option (Nat × Nat)
  | .doorNotClosed | .doorMovingOpen | .doorDisagree | .doorObstructed | .doorReleased | .doorViewLost | .rampOut =>
    some (0, 4)
  | .senseFault => some (0, 48)
  | .stationSilent | .stationFault => some (1, 16)
  | .channelFailed => some (0, 2)
  | .lampFault => some (0, 32)
  | _ => none

/-- The door sources of R91. -/
def Source.isDoor : Source → Bool
  | .doorNotClosed | .doorMovingOpen | .doorDisagree | .doorObstructed | .doorReleased | .doorViewLost | .rampOut =>
    true
  | _ => false

/-- R115, check 3. -/
def internalFails (u : Setup) (w : WarningSetup) : Bool :=
  w.source = .undefined ||
    (match w.source.range with
      | none => false
      | some (lo, hi) =>
        w.index ≠ 255 &&
          (w.index < lo || hi ≤ w.index || (w.source.isDoor && !(u.doors.get w.index).enabled)))

/-- R115. -/
def warningChecks (u : Setup) (i : Nat) : List (Nat × Bool) :=
  let w := u.warnings.get i
  (1, w.kind = .undefined) ::
    (if w.kind = .unused then [] else
      [(2, w.kind = .signalTest && (w.operator = .undefined || !u.configured w.index)),
       (3, w.kind = .internal && internalFails u w),
       (4, w.kind = .signalTest && (w.operator = .above || w.operator = .below) && 32767 < w.hysteresis),
       (5, 15 < w.base || w.cls = .undefined),
       (6, w.ackMode = .undefined || (w.latch && w.ackMode = .none)),
       (7, (w.lamp ≠ 255 && 31 < w.lamp) || w.pattern = .undefined || 3 < w.boost)])

/-- R98, R116, R135, R162, R174, R183 and R198: the checks of general setup. -/
def generalChecks (u : Setup) : List (Nat × Bool) :=
  let g := u.general
  [(1, !u.configured g.primarySpeed),
   (2, !u.optionalSignal g.fallbackSpeed || g.fallbackSpeed = g.primarySpeed),
   (3, g.moveThreshold < 1 || g.stopThreshold < 1 || g.moveThreshold < g.stopThreshold),
   (4, g.override ≠ 255 && (!u.switchChannel g.override || u.doorChannel g.override)),
   (5, g.ackInput ≠ 255 &&
      (!u.switchChannel g.ackInput || u.doorChannel g.ackInput || g.ackInput = g.override)),
   (6, !u.optionalSignal g.dimmer),
   (7, (g.masterRed ≠ 255 && !(g.masterRed < 32 && (u.lamps.get g.masterRed).colour = .red)) ||
      (g.masterAmber ≠ 255 && !(g.masterAmber < 32 && (u.lamps.get g.masterAmber).colour = .amber))),
   (8, g.snapshot.any fun n => n ≠ 255 && 127 < n),
   (9, !u.optionalSignal g.parkingBrake),
   (10, g.livenessWindow ≠ 0 && (g.livenessWindow < 100 || 5000 < g.livenessWindow)),
   (11, 600 < g.runOnTime)]

/-- The validation of APPLY_SETUP (R198): the first check that fails, in map order. -/
def Setup.firstFailure (u : Setup) : Option SetupFailure :=
  (regionFailure 1 (List.range 16) (stationChecks u)).or <|
  (regionFailure 2 (List.range 64) (scheduleChecks u)).or <|
  (regionFailure 2 (List.range 8) (cycleChecks u)).or <|
  (regionFailure 2 ((List.range 16).drop 1) (polledChecks u)).or <|
  (regionFailure 3 (List.range 128) (signalChecks u)).or <|
  (regionFailure 4 (List.range 48) (senseChecks u)).or <|
  (regionFailure 5 (List.range 6) (gaugeChecks u)).or <|
  (regionFailure 6 (List.range 32) (lampChecks u)).or <|
  (regionFailure 7 (List.range 4) (doorChecks u)).or <|
  (regionFailure 8 (List.range 96) (warningChecks u)).or <|
  (regionFailure 9 [0] fun _ => generalChecks u)

end Sys2Proof.Machine
end

