-- ==== Sys2Proof/Machine/Ops.lean ====
section
/-! DEFINITION. The named operations over State that every block uses: one update per group of fields, the clock,
notices (R182), request slots (R180, R181) and writes of the status block (R179). -/

namespace Sys2Proof.Machine

/-! ### One update per group of fields -/

def State.setPending (s : State) (x : List Instr) : State := { s with pending := x }
def State.setNow (s : State) (x : Nat) : State := { s with now := x }
def State.setRun (s : State) (x : RunLogic) : State := { s with run := x }
def State.setPort (s : State) (x : Port) : State := { s with port := x }
def State.setMem (s : State) (x : Memory) : State := { s with mem := x }
def State.setSetup (s : State) (x : Setup) : State := { s with setup := x }
def State.setSignals (s : State) (x : Table 128 Signal) : State := { s with signals := x }
def State.setSense (s : State) (x : SenseUnit) : State := { s with sense := x }
def State.setLine (s : State) (x : BodyLine) : State := { s with line := x }
def State.setDoors (s : State) (x : DoorUnit) : State := { s with doors := x }
def State.setWarnings (s : State) (x : Table 96 Warning) : State := { s with warnings := x }
def State.setComp (s : State) (x : CompositionUnit) : State := { s with comp := x }
def State.setGauges (s : State) (x : Table 6 Gauge) : State := { s with gauges := x }
def State.setFaults (s : State) (x : FaultMemory) : State := { s with faults := x }
def State.setShop (s : State) (x : Workshop) : State := { s with shop := x }

/-- Does something for each index of a list, in order. -/
def forEach (l : List Nat) (f : Nat → State → State) (s : State) : State := l.foldl (fun t i => f i t) s

/-- Does something where a condition holds. -/
def when (c : Bool) (f : State → State) (s : State) : State := if c then f s else s

/-! ### Time -/

/-- The millisecond part of the clock, not reduced. -/
def State.ms (s : State) : Nat := s.now / 1000

/-- The 32-bit time counter (R195). -/
def State.time (s : State) : Time := BitVec.ofNat 32 s.ms

/-- The instant `d` ms from now. -/
def State.inMs (s : State) (d : Nat) : Nat := s.now + 1000 * d

/-- A timer's expiry is taken at its instant: the clock is then no earlier than that (assumption 2). -/
def State.reach (s : State) (due : Nat) : State := s.setNow (max s.now due)

/-- The part is awake: CONFIG, RUN or SHUTDOWN (R195). -/
def State.awake (s : State) : Bool := s.run.state ≠ .standby

/-- The part is in RUN. -/
def State.inRun (s : State) : Bool := s.run.state = .run

/-- An event of a timer: with the timer running, the clock reaches its instant and the effect follows; with the
timer not running the event does not arise (assumption 1). -/
def onTimer (timer : Option Nat) (f : Nat → State → State) (s : State) : State :=
  match timer with
  | some due => f due (s.reach due)
  | none => s

/-! ### The update count and the status block -/

/-- One write of a record: its update count rises by two (R178). -/
def bump (u : Byte) : Byte := u + 2#8

/-- One write of the status block (R179). -/
def writeStatus (s : State) : State := s.setPort { s.port with statusUpd := bump s.port.statusUpd }

/-! ### Notices -/

/-- The unread count (R182), modulo 128. -/
def State.unread (s : State) : BitVec 7 := s.port.noticeWrite - s.port.noticeRead

/-- The port unit after a notice is posted (R182). -/
def Port.posted (p : Port) (n : Notice) : Port :=
  if p.noticeWrite - p.noticeRead = 127#7 then { p with noticeOverflow := true }
  else { p with ring := p.ring.set p.noticeWrite.toNat n, noticeWrite := p.noticeWrite + 1#7 }

/-- Posts a notice (R182, R188). -/
def post (kind : NoticeKind) (index detail : Nat) (s : State) : State :=
  s.setPort (s.port.posted { kind, index := byteOf index, detail := BitVec.ofNat 16 detail, time := s.time })

/-! ### Request slots -/

/-- The offset of a request slot (R187). A slot index is taken modulo the 16 slots, so that no slot lies outside its
region. -/
def slotBase (i : Nat) : Nat := 0x0100 + 64 * (i % 16)

/-- The state of a slot (R180). -/
def State.slotState (s : State) (i : Nat) : SlotState := .ofCode (Memory.u8 s.mem (slotBase i))

/-- Parameter byte `k` of a slot's body (R187). -/
def State.slotByte (s : State) (i k : Nat) : Nat := Memory.u8 s.mem (slotBase i + 8 + k)

/-- Parameter word at byte `k` of a slot's body (R185, R187). -/
def State.slotWord (s : State) (i k : Nat) : Word := BitVec.ofNat 16 (Memory.u16 s.mem (slotBase i + 8 + k))

/-- The notify flag of a slot (R187). -/
def State.slotNotify (s : State) (i : Nat) : Bool := Memory.flag s.mem (slotBase i + 2) 0

/-- Moves a slot to a state. -/
def setSlotState (i : Nat) (x : SlotState) (s : State) : State :=
  s.setMem (Memory.write s.mem (slotBase i) (byteOf x.code))

/-- Writes the result code, the detail and the result body of a request that ends, and then its state byte (R181).
The body after the result reads 0 (R185). -/
def finishSlot (i : Nat) (x : SlotState) (code : ResultCode) (detail : Nat) (body : List Byte) (s : State) : State :=
  let m := Memory.write s.mem (slotBase i + 3) (byteOf code.code)
  let m := Memory.writeBytes m (slotBase i + 6) (wordOf detail)
  let m := Memory.writeBytes m (slotBase i + 8) (padTo 56 body)
  setSlotState i x (s.setMem m)

/-- The REQUEST_DONE notice of a slot whose notify flag is set (R181). -/
def notifyDone (i : Nat) (code : ResultCode) (s : State) : State :=
  when (s.slotNotify i) (post .requestDone i code.code) s

/-- A request ends DONE with OK. -/
def slotDone (i : Nat) (body : List Byte) (s : State) : State :=
  notifyDone i .ok (finishSlot i .done .ok 0 body s)

/-- A request ends FAILED. -/
def slotFailed (i : Nat) (code : ResultCode) (detail : Nat) (body : List Byte) (s : State) : State :=
  notifyDone i code (finishSlot i .failed code detail body s)

/-! ### Readings the blocks share -/

/-- The value and status of a signal, read together (R3). -/
def State.signal (s : State) (n : Nat) : Signal := s.signals.get n

/-- A signal named by a field that may be 255 is configured, and usable (R3). -/
def State.usableSignal (s : State) (n : Nat) : Bool := n ≠ 255 && (s.signals.get n).status.usable

end Sys2Proof.Machine
end

