-- ==== Sys2Proof/Machine/Flags.lean ====
section
/-! DEFINITION. The flags and lines that follow from the state at every moment: PORT_STATUS, the interrupt line, the
wake output, the stop-brake demand, and whether a lamp or the sounder is driven. -/

namespace Sys2Proof.Machine

/-- NOTICES_PENDING (R182). -/
def State.noticesPending (s : State) : Bool := s.unread ≠ 0#7

/-- The interrupt line (R182); in STANDBY it is released. -/
def State.interruptLine (s : State) : Bool := s.awake && s.port.intEnable && s.noticesPending

/-- The wake output line (R195). -/
def State.wakeOutput (s : State) : Bool := s.awake

/-- WORKSHOP_ACTIVE (R168, R177). -/
def State.workshopActive (s : State) : Bool := s.shop.session ≠ .detached

/-- The stop-brake demand output is asserted (R95). -/
def State.stopBrakeDemand (s : State) : Bool := s.doors.interlock = .demand || s.doors.interlock = .releasing

/-- PORT_STATUS (R186). -/
def State.portStatus (s : State) : Word :=
  BitVec.ofNat 16 (s.run.state.code + 4 * s.noticesPending.toNat + 8 * s.port.noticeOverflow.toNat +
    16 * s.port.writeRefused.toNat + 32 * s.port.displayLost.toNat + 64 * s.workshopActive.toNat)

/-- The half of a lamp's flash timebase (R123). -/
def State.flashOn (s : State) : FlashRate → Bool
  | .hz1 => s.comp.flash1.on
  | .hz3 => s.comp.flash3.on

/-- The output of a lamp is on (R123): its command calls for drive, it waits out no retry, and it is not SHORTED. -/
def State.lampOn (s : State) (l : Nat) : Bool :=
  let lamp := s.comp.lamps.get l
  (lamp.command = .on || (lamp.command = .flash && s.flashOn (s.setup.lamps.get l).flashRate)) &&
    lamp.retryTimer.isNone && lamp.proof ≠ .shorted

/-- The sounder sounds (R130, R132). It is silent outside RUN (R133). -/
def State.sounderOn (s : State) : Bool :=
  s.inRun && (s.comp.testTimer.isSome ||
    (match s.comp.record.pattern with
      | .continuous => true
      | .slow | .fast => s.comp.phaseOn
      | .chime => s.comp.chimeTimer.isSome
      | _ => false))

end Sys2Proof.Machine
end

