-- ==== Sys2Proof/Machine/FaultMemory.lean ====
section
/-! DEFINITION. The fault memory (chapter 9): occurrences, gone events, aging and clearing. -/

namespace Sys2Proof.Machine

/-- The detail of a FAULT_RECORD notice (R157, R185). -/
inductive FaultDetail where
  | new
  | updated
  | replaced
  | dropped
  | passive
  | agedOut
  | cleared
  | restarted
  deriving DecidableEq, Repr

def FaultDetail.code : FaultDetail → Nat
  | .new => 0
  | .updated => 1
  | .replaced => 2
  | .dropped => 3
  | .passive => 4
  | .agedOut => 5
  | .cleared => 6
  | .restarted => 7

/-- The fault record count of the status block: the non-empty records (R157). -/
def State.faultCount (s : State) : Nat := s.faults.records.cells.countP fun r => r.status ≠ .empty

/-- The record of a fault code and origin warning, if there is one (R153, R156). -/
def State.findRecord (s : State) (code origin : Nat) : Option Nat :=
  (List.range 48).find? fun i =>
    (s.faults.records.get i).status ≠ .empty && (s.faults.records.get i).code = code &&
      (s.faults.records.get i).origin = origin

/-- The lowest-numbered EMPTY record (R153). -/
def State.emptyRecord (s : State) : Option Nat :=
  (List.range 48).find? fun i => (s.faults.records.get i).status = .empty

/-- The keys of R154: `a` is replaced before `b`, the record index deciding last by the order of the search. -/
def FaultRecord.replacedBefore (a b : FaultRecord) : Bool :=
  if a.aging ≠ b.aging then b.aging < a.aging
  else if a.lastCycle ≠ b.lastCycle then a.lastCycle.toNat < b.lastCycle.toNat
  else a.lastTime.toNat < b.lastTime.toNat

/-- The PASSIVE record that R154 chooses: a later index is taken only where its record stands strictly first. -/
def State.passiveChoice (s : State) : Option Nat :=
  ((List.range 48).filter fun i => (s.faults.records.get i).status = .passive).foldl
    (fun best i =>
      match best with
      | none => some i
      | some b => if (s.faults.records.get i).replacedBefore (s.faults.records.get b) then some i else some b)
    none

/-- One snapshot entry, of a signal index or 255 (R155). -/
def State.snapshotEntry (s : State) (n : Nat) : SnapshotEntry :=
  if n < 128 then { index := n, status := (s.signals.get n).status, value := (s.signals.get n).value }
  else { index := 255, status := .notConfigured, value := 0#16 }

/-- The snapshot as it stands (R155). -/
def State.snapshot (s : State) : Table 6 SnapshotEntry :=
  Table.tabulate 6 fun j => s.snapshotEntry (s.setup.general.snapshot.getD j 255)

/-- Writes a record (R178). -/
def putRecord (i : Nat) (r : FaultRecord) (s : State) : State :=
  s.setFaults { s.faults with
    records := s.faults.records.set i { r with upd := bump (s.faults.records.get i).upd } }

/-- Hands a change of the fault memory on in the order of R157: the change, the status block where the count or the
flag changed, the notice. -/
def handOn (index : Nat) (detail : FaultDetail) (change : State → State) (s : State) : State :=
  post .faultRecord index detail.code
    (when ((change s).faultCount ≠ s.faultCount || (change s).faults.full ≠ s.faults.full) writeStatus (change s))

/-- A record made new for an occurrence, or restarted by a clear (R153, R160). -/
def State.freshRecord (s : State) (code origin : Nat) : FaultRecord :=
  { status := .active, code, origin, occurrences := 1, aging := 0
    firstCycle := s.run.ignitionCycle, lastCycle := s.run.ignitionCycle
    firstTime := s.time, lastTime := s.time, snapshot := s.snapshot }

/-- An occurrence that matches a record (R153). -/
def State.updatedRecord (s : State) (r : FaultRecord) : FaultRecord :=
  { r with status := .active, occurrences := saturate 255 r.occurrences, aging := 0
           lastCycle := s.run.ignitionCycle, lastTime := s.time }

/-- The FAULT MEMORY FULL flag is set (R153). -/
def markFull (s : State) : State := s.setFaults { s.faults with full := true }

/-- The fault memory takes an occurrence (R153). -/
def occurrence (code origin : Nat) (s : State) : State :=
  match s.findRecord code origin with
  | some i => handOn i .updated (putRecord i (s.updatedRecord (s.faults.records.get i))) s
  | none =>
    match s.emptyRecord with
    | some i => handOn i .new (putRecord i (s.freshRecord code origin)) s
    | none =>
      match s.passiveChoice with
      | some i => handOn i .replaced (putRecord i (s.freshRecord code origin)) s
      | none => handOn 255 .dropped markFull s

/-- The fault memory takes a gone event (R156). -/
def goneEvent (code origin : Nat) (s : State) : State :=
  match s.findRecord code origin with
  | some i =>
    when ((s.faults.records.get i).status = .active)
      (handOn i .passive (putRecord i { s.faults.records.get i with status := .passive, aging := 0 })) s
  | none => s

/-- Aging of one record at an ignition wake (R158). -/
def ageRecord (i : Nat) (s : State) : State :=
  let r := s.faults.records.get i
  let aged := { r with aging := saturate 255 r.aging }
  when (r.status = .passive)
    (fun t =>
      if s.setup.general.agingLimit ≠ 0 ∧ s.setup.general.agingLimit ≤ aged.aging then
        handOn i .agedOut (putRecord i {}) (putRecord i aged t)
      else putRecord i aged t) s

/-- Aging at an ignition wake, record 0 to 47 (R158). -/
def ageRecords (s : State) : State := forEach (List.range 48) ageRecord s

/-- A clear takes a record: every record, or those of one fault code (R160). -/
def FaultRecord.taken (r : FaultRecord) (scope : Option Nat) : Bool :=
  match scope with
  | none => true
  | some c => r.status ≠ .empty && r.code = c

/-- What a clear does to one record (R160). -/
def clearRecord (scope : Option Nat) (i : Nat) (s : State) : State :=
  let r := s.faults.records.get i
  if r.taken scope then
    match r.status with
    | .passive => handOn i .cleared (putRecord i {}) s
    | .active => handOn i .restarted (putRecord i (s.freshRecord r.code r.origin)) s
    | .empty => s
  else s

/-- How many records a clear empties, and how many it restarts (R159, R172). -/
def State.clearCounts (s : State) (scope : Option Nat) : Nat × Nat :=
  (s.faults.records.cells.countP fun r => r.taken scope && r.status = .passive,
   s.faults.records.cells.countP fun r => r.taken scope && r.status = .active)

/-- A clear of the whole memory or of one fault code (R160): the flag is cleared whatever the clear empties. -/
def clearFaults (scope : Option Nat) (s : State) : State :=
  let t := forEach (List.range 48) (clearRecord scope) s
  writeStatus (t.setFaults { t.faults with full := false })

end Sys2Proof.Machine
end

