-- ==== Sys2Proof/Machine/Composition.lean ====
section
/-! DEFINITION. The composition unit (chapter 7): effective priorities, ranking and slots, lamp commands and the
sounder choice. -/

namespace Sys2Proof.Machine

/-- A warning is in force: ACTIVE, CLEARING or LATCHED. -/
def Warning.inForce (w : Warning) : Bool := w.state = .active || w.state = .clearing || w.state = .latched

/-- An unacknowledged warning in force. -/
def Warning.calling (w : Warning) : Bool := w.inForce && !w.acked

/-! ### Effective priority -/

/-- A lamp's proof state is OPEN_LOAD or SHORTED (R103, R117). -/
def ProofState.failed (p : ProofState) : Bool := p = .openLoad || p = .shorted

/-- Step 2 of R117: the motion bit. -/
def motionBase (u : WarningSetup) (m : Motion) : Nat :=
  if u.base = 0 then 0
  else if u.motionMode then u.base / 2 * 2 + (if m = .stopped then 0 else 1) else u.base

/-- The boost of step 3 of R117, 0 where none is added. -/
def boostOf (u : WarningSetup) (m : Motion) (lampFailed : Bool) : Nat :=
  if 1 ≤ motionBase u m ∧ lampFailed then u.boost else 0

/-- The effective priority (R117). -/
def priorityOf (u : WarningSetup) (m : Motion) (lampFailed : Bool) : Nat :=
  min (motionBase u m + boostOf u m lampFailed) 15

/-- Whether the lamp of a warning has failed; 255 is no lamp. -/
def State.lampFailed (s : State) (u : WarningSetup) : Bool :=
  u.lamp ≠ 255 && (s.comp.lamps.get u.lamp).proof.failed

/-- The priority figures of warning `w` differ from those its record shows. -/
def State.priorityMoves (s : State) (w : Nat) : Bool :=
  let u := s.setup.warnings.get w
  u.kind ≠ .unused &&
    ((s.warnings.get w).priority ≠ priorityOf u s.doors.motion (s.lampFailed u) ||
      (s.warnings.get w).boosted ≠ decide (1 ≤ boostOf u s.doors.motion (s.lampFailed u)))

/-- Writes a warning's record (R112, R178). -/
def putWarning (w : Nat) (x : Warning) (s : State) : State :=
  s.setWarnings (s.warnings.set w { x with upd := bump (s.warnings.get w).upd })

/-- Works out the effective priority of one warning afresh (R117). -/
def takePriority (w : Nat) (s : State) : State :=
  let u := s.setup.warnings.get w
  when (s.priorityMoves w)
    (putWarning w { s.warnings.get w with
      priority := priorityOf u s.doors.motion (s.lampFailed u)
      boosted := decide (1 ≤ boostOf u s.doors.motion (s.lampFailed u)) }) s

/-! ### Ranking -/

/-- Eligible for the display slots (R118). -/
def State.eligible (s : State) (w : Nat) : Bool :=
  (s.warnings.get w).inForce && 1 ≤ (s.warnings.get w).priority &&
    !((s.warnings.get w).acked && (s.setup.warnings.get w).ackMode = .hide)

/-- The keys of R118: warning `a` ranks before warning `b`. -/
def State.outranks (s : State) (a b : Nat) : Bool :=
  let x := s.warnings.get a
  let y := s.warnings.get b
  let cx := (s.setup.warnings.get a).cls.code
  let cy := (s.setup.warnings.get b).cls.code
  if x.priority ≠ y.priority then y.priority < x.priority
  else if cx ≠ cy then cy < cx
  else if x.acked ≠ y.acked then y.acked
  else if x.activation ≠ y.activation then x.activation.toNat < y.activation.toNat
  else a < b

/-- The first-ranked of a list of warnings. -/
def State.firstRanked (s : State) (l : List Nat) : Option Nat :=
  l.foldl
    (fun best w =>
      match best with
      | none => some w
      | some b => if s.outranks w b then some w else some b)
    none

/-- The first `k` of a list of warnings in rank order. -/
def State.ranking (s : State) : Nat → List Nat → List Nat
  | 0, _ => []
  | k + 1, l =>
    match s.firstRanked l with
    | none => []
    | some w => w :: s.ranking k (l.filter (· ≠ w))

/-- The eligible warnings, by index. -/
def State.eligibleList (s : State) : List Nat := (List.range 96).filter s.eligible

/-- The slot entry of a warning, or EMPTY (R121). -/
def State.entryOf (s : State) : Option Nat → SlotEntry
  | some w =>
    { kind := .warning, index := w, textId := (s.setup.warnings.get w).textId, cls := (s.setup.warnings.get w).cls
      priority := (s.warnings.get w).priority, acked := (s.warnings.get w).acked }
  | none => {}

/-- The banner's slot entry (R121). -/
def bannerEntry : SlotEntry := { kind := .banner }

/-- Door `d` is enabled and not proven closed. -/
def State.doorOpen (s : State) (d : Nat) : Bool := (s.setup.doors.get d).enabled && !(s.doors.doors.get d).proven

/-- The banner door mask (R119). -/
def State.bannerMask (s : State) : BitVec 4 :=
  BitVec.ofNat 4 ((s.doorOpen 0).toNat + 2 * (s.doorOpen 1).toNat + 4 * (s.doorOpen 2).toNat +
    8 * (s.doorOpen 3).toNat)

/-- The first-ranked warning carries BANNER and a door is not proven closed (R119). -/
def State.bannerStands (s : State) (top : Option Nat) : Bool :=
  match top with
  | some w => (s.setup.warnings.get w).banner && s.bannerMask ≠ 0#4
  | none => false

/-- The indices of the warnings with a property. -/
def State.warningsWhere (s : State) (p : Warning → Bool) : List Nat :=
  (List.range 96).filter fun w => p (s.warnings.get w)

/-! ### The sounder choice -/

/-- The higher of two patterns (R130). -/
def Pattern.higher (p q : Pattern) : Pattern := if p.code < q.code then q else p

/-- An unacknowledged warning of class STOP is in force (R130). -/
def State.stopCalls (s : State) : Bool :=
  (s.warningsWhere Warning.calling).any fun w => (s.setup.warnings.get w).cls = .stop

/-- The sounder pattern chosen (R130). -/
def State.patternChoice (s : State) : Pattern :=
  let p := (s.warningsWhere Warning.calling).foldl
    (fun best w => best.higher (s.setup.warnings.get w).pattern) Pattern.none
  if s.port.displayLost && s.stopCalls then p.higher .slow else p

/-! ### The lamp commands -/

/-- The command of R123 from the warnings in force. -/
def State.mappedCommand (s : State) (inForce : List Nat) (l : Nat) : LampCommand :=
  let mine := inForce.filter fun w => (s.setup.warnings.get w).lamp = l
  if mine.any (fun w => !(s.warnings.get w).acked && (s.setup.warnings.get w).flash) then .flash
  else if mine.isEmpty then .off else .on

/-- The command of a master lamp in the fallback (R131), for the classes it stands for. -/
def State.masterCommand (s : State) (inForce : List Nat) (classes : List WarningClass) : LampCommand :=
  let mine := inForce.filter fun w => classes.contains (s.setup.warnings.get w).cls
  if mine.any (fun w => !(s.warnings.get w).acked) then .flash
  else if mine.any (fun w => (s.warnings.get w).acked && (s.warnings.get w).state ≠ .latched) then .on
  else .off

/-- The command of a lamp (R123, R128, R131). -/
def State.lampCommand (s : State) (inForce : List Nat) (l : Nat) : LampCommand :=
  if s.comp.check.isSome then .on
  else if s.port.displayLost && l = s.setup.general.masterRed then s.masterCommand inForce [.stop, .warning]
  else if s.port.displayLost && l = s.setup.general.masterAmber then s.masterCommand inForce [.caution]
  else s.mappedCommand inForce l

/-- All lamps with their commands chosen afresh. -/
def State.commandedLamps (s : State) : Table 32 Lamp :=
  let inForce := s.warningsWhere Warning.inForce
  Table.tabulate 32 fun l => { s.comp.lamps.get l with command := s.lampCommand inForce l }

/-! ### A taking of the composition -/

/-- The slots of the ranking (R119). -/
def State.slotsOf (s : State) (r : List Nat) : SlotEntry × SlotEntry × SlotEntry :=
  if s.bannerStands r[0]? then (s.entryOf r[0]?, bannerEntry, s.entryOf r[1]?)
  else (s.entryOf r[0]?, s.entryOf r[1]?, s.entryOf r[2]?)

/-- The composition for the inputs that stand, with the time of change it had (R120, R121). -/
def State.composition (s : State) : CompositionRecord :=
  let slots := s.slotsOf (s.ranking 3 s.eligibleList)
  { top := slots.1, second := slots.2.1, third := slots.2.2
    bannerMask := s.bannerMask
    active := (s.warningsWhere Warning.inForce).length
    unacked := (s.warningsWhere Warning.calling).length
    pattern := s.patternChoice
    displayLost := s.port.displayLost
    changed := s.comp.record.changed }

/-- The identity of a slot entry: its kind, warning index and acknowledged flag (R121). -/
def SlotEntry.identity (e : SlotEntry) : SlotKind × Nat × Bool := (e.kind, e.index, e.acked)

/-- A write from one record to another posts COMPOSITION_CHANGED (R121). -/
def CompositionRecord.announces (old new : CompositionRecord) : Bool :=
  old.top.identity ≠ new.top.identity || old.second.identity ≠ new.second.identity ||
    old.third.identity ≠ new.third.identity || old.pattern ≠ new.pattern

/-- The on and off times of a pattern in ms (R130). -/
def Pattern.phases : Pattern → Option (Nat × Nat)
  | .slow => some (300, 700)
  | .fast => some (150, 100)
  | _ => Option.none

/-- The sounder takes a choice: a new pattern starts at its on phase, an unchanged one runs on; a choice other than
CHIME ends the chime tone, and an announcement under the choice CHIME starts it (R130). -/
def CompositionUnit.sound (c : CompositionUnit) (s : State) (new : Pattern) (announce : Bool) : CompositionUnit :=
  { c with
    phaseOn := if new = c.record.pattern then c.phaseOn else new.phases.isSome
    phaseTimer := if new = c.record.pattern then c.phaseTimer else new.phases.map fun p => s.inMs p.1
    chimeTimer :=
      if new ≠ .chime then none else if announce then some (s.inMs Config.toneTime) else c.chimeTimer }

/-- The composition unit after a taking (R120). -/
def State.composedUnit (s : State) (announce : Bool) : CompositionUnit :=
  let new := s.composition
  { s.comp.sound s new.pattern announce with
    record := if s.comp.record.announces new then { new with changed := s.time } else new
    upd := if new = s.comp.record then s.comp.upd else bump s.comp.upd
    lamps := s.commandedLamps }

/-- A taking of the composition (R120). `announce` says that a CHIME warning enters ACTIVE (R130). Outside RUN only
the DISPLAY_LOST field of the record follows its flag (R121, R133; assumption 21). -/
def compose (announce : Bool) (s : State) : State :=
  if s.inRun then
    when (s.comp.record.announces s.composition)
      (post .compositionChanged 0 (bump s.comp.upd).toNat)
      (s.setComp (s.composedUnit announce))
  else if s.comp.record.displayLost = s.port.displayLost then s
  else s.setComp { s.comp with
    record := { s.comp.record with displayLost := s.port.displayLost }, upd := bump s.comp.upd }

/-- Works out the priorities of some warnings afresh, and takes the composition where a figure changed (R117). -/
def takePriorities (l : List Nat) (s : State) : State :=
  when (l.any s.priorityMoves) (compose false) (forEach l takePriority s)

/-- The duties of all lamps, for the dimmer signal as it stands (R122). -/
def takeDuties (s : State) : State :=
  let step := if s.usableSignal s.setup.general.dimmer then
      dimmingStep (s.signals.get s.setup.general.dimmer).value else 0
  s.setComp { s.comp with
    lamps := Table.tabulate 32 fun l => { s.comp.lamps.get l with
      duty := dutyOf (s.setup.lamps.get l).day (s.setup.lamps.get l).night step } }

end Sys2Proof.Machine
end

