-- ==== Sys2Proof/Machine/Warnings.lean ====
section
/-! DEFINITION. The warning unit (chapter 6): conditions, the state machine of R104, acknowledgement and fault
events. -/

namespace Sys2Proof.Machine

/-! ### Internal sources -/

/-- The reading of a ramp channel is stowed (R78). -/
def SenseChannel.trusted (c : SenseChannel) : Bool := c.faultClass = .none && c.check.isNone

/-- A door channel's reading (R78): `none` while not SETTLED; the unsafe sense while IN_FAULT or UNDER_CHECK. -/
def State.doorReading (s : State) (c : Nat) (unsafeSense : Bool) : Option Bool :=
  let ch := s.sense.channels.get c
  if !ch.settled then none
  else if ch.trusted then some (ch.logical = 1#16) else some unsafeSense

/-- A door's ramp does not read stowed; no reading counts as out (R91). -/
def State.rampOut (s : State) (d : Nat) : Bool :=
  (s.setup.doors.get d).ramp ≠ 255 && s.doorReading (s.setup.doors.get d).ramp false ≠ some true

/-- The truth of a door source for an enabled door (R91). -/
def State.doorSource (s : State) (src : Source) (d : Nat) : Bool :=
  let door := s.doors.doors.get d
  (s.setup.doors.get d).enabled &&
    (match src with
      | .doorNotClosed => !door.proven
      | .doorMovingOpen => door.movingOpen
      | .doorDisagree => door.disagree
      | .doorObstructed => door.state = .reversing
      | .doorReleased => door.state = .released
      | .doorViewLost => door.viewLost
      | .rampOut => s.rampOut d
      | _ => false)

/-- The channel of the body line that an index names (R103). -/
def BodyLine.health (b : BodyLine) : Channel → ChannelHealth
  | .a => b.healthA
  | .b => b.healthB

/-- The truth of an internal source at one index (R103). -/
def State.sourceAt (s : State) (src : Source) (i : Nat) : Bool :=
  match src with
  | .interlockOverridden => s.doors.interlock = .overridden
  | .speedUnknown => s.doors.motion = .unknown
  | .senseFault => (s.sense.channels.get i).faultClass ≠ .none
  | .stationSilent => (s.line.stations.get i).state = .silent
  | .stationFault => (s.line.stations.get i).state = .online && (s.line.stations.get i).flags.stationFault
  | .channelFailed => if i = 0 then s.line.healthA.failed else s.line.healthB.failed
  | .networkDown => s.line.summary = .down
  | .lampFault => (s.comp.lamps.get i).proof.failed
  | .supplyLow => s.sense.supplyLow
  | .displayLost => s.port.displayLost
  | .undefined => false
  | door => s.doorSource door i

/-- The truth an INTERNAL warning reads: an index of 255 stands for any member of the source's range (R103). -/
def State.sourceTrue (s : State) (src : Source) (index : Nat) : Bool :=
  match src.range with
  | some (lo, hi) =>
    if index = 255 then ((List.range hi).drop lo).any (s.sourceAt src) else s.sourceAt src index
  | none => s.sourceAt src 0

/-! ### Conditions -/

/-- A value test on a usable signal (R101, R102). -/
def valueTest (u : WarningSetup) (present : Bool) (v : Word) : Bool :=
  match u.operator with
  | .above => if present then !decide (v.toInt ≤ u.threshold - u.hysteresis) else decide (u.threshold < v.toInt)
  | .below => if present then !decide (u.threshold + u.hysteresis ≤ v.toInt) else decide (v.toInt < u.threshold)
  | .equal => decide (v.toInt = u.threshold)
  | .notEqual => decide (v.toInt ≠ u.threshold)
  | .bitsAny => decide (v &&& BitVec.ofInt 16 u.threshold ≠ 0#16)
  | _ => false

/-- A signal test (R102). -/
def signalTest (u : WarningSetup) (present : Bool) (g : Signal) : Bool :=
  if u.operator = .notValid then !g.status.usable
  else
    match g.status with
    | .valid | .forced => valueTest u present g.value
    | .stale => present
    | _ => false

/-- The condition value of a warning, taken afresh (R100). -/
def State.conditionOf (s : State) (w : Nat) : Bool :=
  let u := s.setup.warnings.get w
  match u.kind with
  | .signalTest => signalTest u (s.warnings.get w).condition (s.signals.get u.index)
  | .internal => s.sourceTrue u.source u.index
  | _ => false

/-! ### The state machine -/

/-- The tested signal of a warning is FORCED (R110). -/
def State.testsForced (s : State) (w : Nat) : Bool :=
  (s.setup.warnings.get w).kind = .signalTest &&
    (s.signals.get (s.setup.warnings.get w).index).status = .forced

/-- What a move of a warning hands on besides its record (R110, R111, R130). -/
structure Handing where
  occurs : Bool := false
  gone : Bool := false
  announce : Bool := false
  deriving DecidableEq, Repr

/-- A warning after a move, and what is handed on. -/
abbrev WarningMove := Warning × Handing

/-- Entry into ACTIVE from INACTIVE, ARMING or LATCHED (R105, R110). `announce` is false from LATCHED (R130).

DESIGN CHOICE (assumption 68): where the tested signal is FORCED and the fault code is 0, step 2 of R110 sets
FORCED_OCCURRENCE and step 4, which has no "otherwise", would clear it. Steps 2 to 4 are taken as alternatives, the first
that applies alone, so the flag is set; no event goes out either way. -/
def Warning.activated (x : Warning) (u : WarningSetup) (forced : Bool) (time : Time) (announce : Bool) :
    WarningMove :=
  ({ x with
      state := .active, acked := false, activation := time, delay := none
      occurrences := saturate 255 x.occurrences
      forcedOccurrence := forced
      stored := x.stored || (!forced && u.faultCode ≠ 0) },
   { occurs := !forced && u.faultCode ≠ 0, announce := announce && u.pattern = .chime })

/-- Entry into INACTIVE (R105, R111). -/
def Warning.ended (x : Warning) : WarningMove :=
  ({ x with state := .inactive, acked := false, delay := none, stored := false }, { gone := x.stored })

/-- Entry into LATCHED (R111). -/
def Warning.latch (x : Warning) : WarningMove :=
  ({ x with state := .latched, delay := none, stored := false }, { gone := x.stored })

/-- The expiry of the off-delay in CLEARING (R104). -/
def Warning.cleared (x : Warning) (u : WarningSetup) : WarningMove :=
  if x.acked || !u.latch then x.ended else x.latch

/-- The move of R104 on a change of the condition value; `due` gives the instant a delay in ms ends. -/
def Warning.onCondition (x : Warning) (u : WarningSetup) (c forced : Bool) (time : Time) (now : Nat) : WarningMove :=
  let y := { x with condition := c }
  match x.state, c with
  | .inactive, true =>
    if u.onDelay = 0 then y.activated u forced time true
    else ({ y with state := .arming, delay := some (now + 1000 * u.onDelay) }, {})
  | .arming, false => y.ended
  | .active, false =>
    if u.offDelay = 0 then y.cleared u
    else ({ y with state := .clearing, delay := some (now + 1000 * u.offDelay) }, {})
  | .clearing, true => ({ y with state := .active, delay := none }, {})
  | .latched, true => y.activated u forced time false
  | _, _ => (y, {})

/-- Hands a warning's move on in the order of R112: the record, the fault event, the composition. -/
def commitWarning (w : Nat) (m : WarningMove) (s : State) : State :=
  compose m.2.announce
    (when m.2.gone (goneEvent (s.setup.warnings.get w).faultCode w)
      (when m.2.occurs (occurrence (s.setup.warnings.get w).faultCode w)
        (putWarning w m.1 s)))

/-- A taking of a warning's condition value in RUN; a change is handed to the state machine (R100, R104). -/
def takeCondition (w : Nat) (s : State) : State :=
  if s.inRun && (s.setup.warnings.get w).kind ≠ .unused && s.conditionOf w ≠ (s.warnings.get w).condition then
    commitWarning w
      ((s.warnings.get w).onCondition (s.setup.warnings.get w) (s.conditionOf w) (s.testsForced w) s.time s.now) s
  else s

/-- The warnings that test a signal. -/
def State.testersOf (s : State) (n : Nat) : List Nat :=
  (List.range 96).filter fun w =>
    (s.setup.warnings.get w).kind = .signalTest && (s.setup.warnings.get w).index = n

/-- The warnings that read an internal source at an index, by that index or by 255 (R103). -/
def State.readersOf (s : State) (src : Source) (i : Nat) : List Nat :=
  (List.range 96).filter fun w =>
    (s.setup.warnings.get w).kind = .internal && (s.setup.warnings.get w).source = src &&
      (src.range.isNone || (s.setup.warnings.get w).index = i || (s.setup.warnings.get w).index = 255)

/-- The conditions of the warnings that test a signal are taken afresh (R100). -/
def takeTests (n : Nat) (s : State) : State := forEach (s.testersOf n) takeCondition s

/-- The conditions of the warnings that read an internal source are taken afresh (R100). -/
def takeSource (src : Source) (i : Nat) (s : State) : State := forEach (s.readersOf src i) takeCondition s

/-- The delay of a warning expires (R104): the on-delay in ARMING, the off-delay in CLEARING. -/
def warningDelayExpires (w : Nat) (s : State) : State :=
  let x := s.warnings.get w
  let u := s.setup.warnings.get w
  match x.state with
  | .arming => commitWarning w (x.activated u (s.testsForced w) s.time true) s
  | .clearing => commitWarning w (x.cleared u) s
  | _ => s

/-! ### Acknowledgement -/

/-- R109's effect on an accepted warning. -/
def Warning.acknowledged (x : Warning) : WarningMove :=
  match x.state with
  | .latched => x.ended
  | _ => ({ x with acked := true }, {})

/-- The refusal of R106 for a warning named as target, if it is refused. -/
def State.ackRefusal (s : State) (w : Nat) : Option ResultCode :=
  let u := s.setup.warnings.get w
  let x := s.warnings.get w
  if u.kind = .unused || u.ackMode = .none then some .notAcknowledgeable
  else if x.state = .inactive || x.state = .arming || (x.state ≠ .latched && x.acked) then some .notPending
  else none

/-- An accepted acknowledgement (R109). -/
def acknowledge (w : Nat) (s : State) : State := commitWarning w (s.warnings.get w).acknowledged s

/-- The warning that holds the TOP display slot. -/
def State.topWarning (s : State) : Option Nat :=
  if s.comp.record.top.kind = .warning then some s.comp.record.top.index else none

/-- An acknowledge edge (R107). -/
def acknowledgeEdge (s : State) : State :=
  match s.topWarning with
  | some w => when (s.ackRefusal w).isNone (acknowledge w) s
  | none => s

/-! ### Leaving RUN -/

/-- One warning as the warning unit stops: its delay is cancelled, and a stored mark ends in a gone event (R113). -/
def stopWarning (w : Nat) (s : State) : State :=
  let x := s.warnings.get w
  when x.stored (goneEvent (s.setup.warnings.get w).faultCode w)
    (s.setWarnings (s.warnings.set w { x with delay := none, stored := false }))

/-- The warning unit stops (R113). DESIGN CHOICE (assumption 55): the gone events of several stored marks are sent in
ascending warning index. -/
def stopWarnings (s : State) : State := forEach (List.range 96) stopWarning s

end Sys2Proof.Machine
end

