-- ==== Sys2Proof/Machine/Lamps.lean ====
section
/-! DEFINITION. Lamp proof, lamp checks, flash timebases and the sounder's timers (sections 7.4 to 7.7). -/

namespace Sys2Proof.Machine

/-- Replaces a lamp. -/
def setLamp (l : Nat) (x : Lamp) (s : State) : State := s.setComp { s.comp with lamps := s.comp.lamps.set l x }

/-- The warnings, other than UNUSED, that name a lamp. -/
def State.warningsOfLamp (s : State) (l : Nat) : List Nat :=
  (List.range 96).filter fun w => (s.setup.warnings.get w).kind ≠ .unused && (s.setup.warnings.get w).lamp = l

/-- A change of a lamp's proof state is handed on after its entry is written (R125). -/
def handProof (l : Nat) (s : State) : State :=
  takePriorities (s.warningsOfLamp l) (takeSource .lampFault l s)

/-- Writes a lamp, and hands a change of its proof state on (R125). -/
def changeLamp (l : Nat) (x : Lamp) (s : State) : State :=
  when (x.proof ≠ (s.comp.lamps.get l).proof) (handProof l) (setLamp l x s)

/-- A good check (R124). -/
def Lamp.goodCheck (x : Lamp) : Lamp :=
  match x.proof with
  | .openLoad => if 3 ≤ x.healCount + 1 then { x with proof := .ok, healCount := 0 }
                 else { x with healCount := x.healCount + 1 }
  | .shorted => x
  | _ => { x with proof := .ok, openCount := 0 }

/-- A low-current check (R124). -/
def Lamp.lowCheck (x : Lamp) : Lamp :=
  match x.proof with
  | .openLoad => { x with healCount := 0 }
  | .shorted => x
  | _ => if 3 ≤ x.openCount + 1 then { x with proof := .openLoad, openCount := 0 }
         else { x with openCount := x.openCount + 1 }

/-- A measurement of a lamp's current (R124, R126). DESIGN CHOICE (assumption 62): at or above the overcurrent limit it
is a good check as R124 has it, keeps the trip count, and is no overcurrent of R126, which a command of its own tells. -/
def Lamp.measured (x : Lamp) (checks : Bool) (milliamps : Nat) : Lamp :=
  let y := if milliamps < Config.overcurrentLimit then { x with trips := 0 } else x
  if checks then (if milliamps < Config.openLoadThreshold then y.lowCheck else y.goodCheck) else y

/-- A lamp's current is measured where its output is on (R124). -/
def measureLamp (l : Nat) (milliamps : Nat) (s : State) : State :=
  when (s.lampOn l)
    (changeLamp l ((s.comp.lamps.get l).measured
      ((s.setup.lamps.get l).proofEnabled && !s.sense.supplyLow) milliamps)) s

/-- A lamp's proof timer expires in RUN: it runs on, and the lamp is measured (R124). -/
def proofExpires (l : Nat) (milliamps : Nat) (s : State) : State :=
  onTimer (if s.inRun then (s.comp.lamps.get l).proofTimer else none)
    (fun due t =>
      measureLamp l milliamps
        (setLamp l { t.comp.lamps.get l with proofTimer := some (due + 1000 * Config.proofPeriod) } t)) s

/-- The lamp after an overcurrent (R126). -/
def Lamp.overcurrent (x : Lamp) (supplyLow : Bool) (retryAt : Nat) : Lamp :=
  let trips := if supplyLow then x.trips else x.trips + 1
  if 3 ≤ trips then { x with trips, proof := .shorted, retryTimer := none }
  else { x with trips, retryTimer := some retryAt }

/-- An overcurrent on a lamp output that is on (R126). -/
def overcurrent (l : Nat) (s : State) : State :=
  when (s.inRun && s.lampOn l)
    (changeLamp l ((s.comp.lamps.get l).overcurrent s.sense.supplyLow (s.inMs Config.retryDelay))) s

/-- A retry timer expires (R126). -/
def retryExpires (l : Nat) (s : State) : State :=
  onTimer (s.comp.lamps.get l).retryTimer
    (fun _ t => setLamp l { t.comp.lamps.get l with retryTimer := none } t) s

/-! ### LAMP_CHECK -/

/-- Sounds one test tone (R132). -/
def startTestTone (s : State) : State :=
  s.setComp { s.comp with testTimer := some (s.inMs Config.toneTime) }

/-- A lamp at the start of a lamp check (R128). -/
def Lamp.unproven (x : Lamp) : Lamp := { x with proof := .untested, openCount := 0, healCount := 0, trips := 0 }

/-- A lamp check starts (R128). DESIGN CHOICE (assumption 61): the lamps whose proof changes are handed on from lamp 0 to
31, each to its LAMP_FAULT warnings (R103) and then to its priorities (R117), and one composition follows them all. -/
def startLampCheck (owner : CheckOwner) (s : State) : State :=
  let changed := (List.range 32).filter fun l => (s.comp.lamps.get l).proof ≠ .untested
  let t := s.setComp { s.comp with
    lamps := s.comp.lamps.map Lamp.unproven
    check := some owner
    checkTimer := some (s.inMs Config.lampCheckTime) }
  compose false (forEach changed handProof (startTestTone t))

/-- The proof states of the 32 lamps. -/
def State.proofs (s : State) : Table 32 ProofState := s.comp.lamps.map Lamp.proof

/-- The workshop test record's lamp check entry (R173). -/
def setLampTest (x : TestState) (cause : EndCause) (s : State) : State :=
  s.setShop { s.shop with tests := { s.shop.tests with
    lampState := x, lampCause := cause, lampProofs := s.proofs } }

/-- The lamp check is over, and the lamps return to their commands (R128, R129). -/
def stopLampCheck (s : State) : State := compose false (s.setComp { s.comp with check := none, checkTimer := none })

/-- The lamp check timer expires (R128). -/
def lampCheckExpires (s : State) : State :=
  onTimer s.comp.checkTimer
    (fun _ t =>
      match s.comp.check with
      | some (.request i) => slotDone i (t.proofs.cells.map fun p => byteOf p.code) (stopLampCheck t)
      | some .workshop => setLampTest .completed .moving (stopLampCheck t)
      | none => t) s

/-- A running lamp check ends early, with the result code of a request and the cause of a workshop test (R129). -/
def endLampCheck (code : ResultCode) (cause : EndCause) (s : State) : State :=
  match s.comp.check with
  | some (.request i) => slotFailed i code 0 [] (stopLampCheck s)
  | some .workshop => setLampTest .endedEarly cause (stopLampCheck s)
  | none => s

/-- A lamp check that the workshop started ends with its session (R129). -/
def endWorkshopLampCheck (cause : EndCause) (s : State) : State :=
  if s.comp.check = some .workshop then setLampTest .endedEarly cause (stopLampCheck s) else s

/-! ### Flash timebases and the sounder's timers -/

/-- The on and off times of a flash timebase in ms (R123). -/
def flashTimes : FlashRate → Nat × Nat
  | .hz1 => (500, 500)
  | .hz3 => (167, 166)

/-- A timebase passes to its other half (R123). -/
def Timebase.flip (b : Timebase) (rate : FlashRate) (due : Nat) : Timebase :=
  { on := !b.on
    timer := some (due + 1000 * (if b.on then (flashTimes rate).2 else (flashTimes rate).1)) }

/-- A timebase that starts afresh with its on half (R134). -/
def Timebase.started (rate : FlashRate) (now : Nat) : Timebase :=
  { on := true, timer := some (now + 1000 * (flashTimes rate).1) }

/-- A flash timebase changes half (R123). -/
def flashExpires (rate : FlashRate) (s : State) : State :=
  match rate with
  | .hz1 => onTimer s.comp.flash1.timer
      (fun due t => t.setComp { t.comp with flash1 := t.comp.flash1.flip .hz1 due }) s
  | .hz3 => onTimer s.comp.flash3.timer
      (fun due t => t.setComp { t.comp with flash3 := t.comp.flash3.flip .hz3 due }) s

/-- The other phase of the sounder pattern that runs starts at an instant (R130). -/
def flipSounder (due : Nat) (s : State) : State :=
  match s.comp.record.pattern.phases with
  | some p => s.setComp { s.comp with
      phaseOn := !s.comp.phaseOn
      phaseTimer := some (due + 1000 * (if s.comp.phaseOn then p.2 else p.1)) }
  | none => s

/-- The sounder pattern passes between its on and off phases (R130). -/
def sounderExpires (s : State) : State := onTimer s.comp.phaseTimer flipSounder s

/-- The chime tone ends (R130). -/
def chimeExpires (s : State) : State :=
  onTimer s.comp.chimeTimer (fun _ t => t.setComp { t.comp with chimeTimer := none }) s

/-- A test tone ends (R132). -/
def testToneExpires (s : State) : State :=
  onTimer s.comp.testTimer (fun _ t => t.setComp { t.comp with testTimer := none }) s

/-! ### Leaving RUN -/

/-- A lamp when the part leaves RUN: its output off, its retry timer cancelled, proof state and duty kept (R133). -/
def Lamp.switchedOff (x : Lamp) : Lamp := { x with command := .off, retryTimer := none, proofTimer := none }

/-- The composition unit stops (R133): the check ends first (R129). -/
def stopComposition (s : State) : State :=
  let t := endLampCheck .aborted .leftRun s
  t.setComp { t.comp with
    lamps := t.comp.lamps.map Lamp.switchedOff
    flash1 := {}, flash3 := {}
    phaseOn := false, phaseTimer := none, chimeTimer := none, testTimer := none }

end Sys2Proof.Machine
end

