-- ==== Sys2Proof/Machine/Gauges.lean ====
section
/-! DEFINITION. The gauge drive (chapter 8): signal statuses, updates, homing, parking and sweeps. -/

namespace Sys2Proof.Machine

/-! ### Moves between states -/

/-- Entry into PARKING from where the needle stands (R144); a hold timer is cancelled. DESIGN CHOICE (assumption 53): C,
T and f take the park position at the first update in PARKING, not at the entry. -/
def Gauge.toParking (g : Gauge) : Gauge := { g with state := .parking, holdTimer := none, sweep := none }

/-- The hold timer starts; with a stale hold of 0 the gauge goes to PARKING at once (R142). -/
def Gauge.startHold (g : Gauge) (use : HoldUse) (staleHold now : Nat) : Gauge :=
  if staleHold = 0 then g.toParking else { g with holdTimer := some (use, now + 1000 * staleHold) }

/-- Return to TRACKING from where the needle stands (R141). -/
def Gauge.toTracking (g : Gauge) (now : Nat) : Gauge :=
  { g with state := .tracking, filtered := 16 * g.needle, holdTimer := none
           updateTimer := if g.updateTimer.isNone then some (now + 1000 * Config.gaugePeriod) else g.updateTimer }

/-- The hold timer runs for first data. -/
def Gauge.waitsForData (g : Gauge) : Bool :=
  match g.holdTimer with
  | some (.firstData, _) => true
  | _ => false

/-- The table of R141: a gauge in use takes up its signal's status. -/
def Gauge.takeUp (g : Gauge) (u : GaugeSetup) (status : SignalStatus) (now : Nat) : Gauge :=
  match g.state with
  | .tracking =>
    match status with
    | .valid | .forced => { g with holdTimer := none }
    | .stale => { g with state := .holding, holdTimer := none }.startHold .stale u.staleHold now
    | .fault =>
      if u.faultAction = .hold then { g with state := .holding, holdTimer := none } else g.toParking
    | .noData | .notConfigured => if g.waitsForData then g else g.toParking
  | .holding =>
    match status with
    | .valid | .forced => { g with state := .tracking, holdTimer := none }
    | .stale => if g.holdTimer.isSome then g else g.startHold .stale u.staleHold now
    | .fault => if u.faultAction = .hold then { g with holdTimer := none } else g.toParking
    | .noData | .notConfigured => g.toParking
  | .parking | .parked => if status.usable then g.toTracking now else g
  | .homing | .sweeping => g

/-- The gauge with the items its state entry does not show blanked (R148): what is left are the fields shown. -/
def Gauge.visible (g : Gauge) : Gauge :=
  { g with
    holdTimer := g.holdTimer.map fun h => (h.1, 0)
    sweep := g.sweep.map fun w => { w with resume := .parked, returnPoint := 0, owner := .workshop 0#8 }
    homingLeft := 0, updateTimer := none, upd := 0#8 }

/-- Replaces a gauge; its entry is written where a field it shows changed (R148). -/
def putGauge (i : Nat) (g : Gauge) (s : State) : State :=
  let old := s.gauges.get i
  s.setGauges (s.gauges.set i
    { g with upd := if g.visible = old.visible then old.upd else bump old.upd })

/-- Gauge `i` takes up its signal's status in RUN (R141). -/
def takeUpGauge (i : Nat) (s : State) : State :=
  let u := s.setup.gauges.get i
  when (s.inRun && u.inUse) (putGauge i ((s.gauges.get i).takeUp u (s.signals.get u.signal).status s.now)) s

/-- The gauges in use that show a signal. -/
def State.gaugesOf (s : State) (n : Nat) : List Nat :=
  (List.range 6).filter fun i => (s.setup.gauges.get i).inUse && (s.setup.gauges.get i).signal = n

/-- The gauges take up a change of a signal's status (R141). -/
def takeUpStatus (n : Nat) (s : State) : State := forEach (s.gaugesOf n) takeUpGauge s

/-! ### Sweeps -/

/-- A gauge starts its sweep (R146). -/
def Gauge.startSweep (g : Gauge) (u : GaugeSetup) (owner : SweepOwner) (now : Nat) : Gauge :=
  { g with
    state := .sweeping
    holdTimer := none
    sweep := some
      { resume := g.state
        returnPoint := if g.state = .tracking || g.state = .holding then g.command else u.park
        back := false
        owner }
    updateTimer := if g.updateTimer.isNone then some (now + 1000 * Config.gaugePeriod) else g.updateTimer }

/-- The gauges of a set. -/
def gaugesIn (set : BitVec 8) : List Nat := (List.range 6).filter fun i => set.getLsbD i

/-- Every gauge of a set starts its sweep (R145, R146). -/
def startSweeps (set : BitVec 8) (owner : SweepOwner) (s : State) : State :=
  forEach (gaugesIn set)
    (fun i t => putGauge i ((t.gauges.get i).startSweep (t.setup.gauges.get i) owner t.now) t) s

/-- A gauge leaves its sweep for its resume state (R146, R147). A gauge that was PARKED and stands away from its
park position goes to PARKING, so that it moves on at the rate limit (R147; assumption 22). -/
def Gauge.resumed (g : Gauge) (u : GaugeSetup) : Gauge :=
  match g.sweep with
  | some w =>
    if w.resume = .parked then
      (if g.needle = u.park then { g with state := .parked, sweep := none, updateTimer := none } else g.toParking)
    else { g with state := w.resume, sweep := none }
  | none => g

/-- Gauge `i` sweeps for an owner that a test accepts. -/
def State.sweepsFor (s : State) (mine : SweepOwner → Bool) (i : Nat) : Bool :=
  match (s.gauges.get i).sweep with
  | some w => (s.gauges.get i).state = .sweeping && mine w.owner
  | none => false

/-- The slots of the requests whose sweeps a test accepts. DESIGN CHOICE (assumption 63): in ascending slot index. -/
def State.sweepSlots (s : State) (mine : SweepOwner → Bool) : List Nat :=
  (List.range 16).filter fun k =>
    (List.range 6).any fun i => s.sweepsFor
      (fun o => mine o && (match o with
        | .request j _ => decide (j = k)
        | .workshop _ => false)) i

/-- A workshop sweep. -/
def SweepOwner.isWorkshop : SweepOwner → Bool
  | .workshop _ => true
  | .request _ _ => false

/-- The workshop test record's sweep entry becomes something (R173). -/
def setSweepTest (x : TestState) (cause : EndCause) (s : State) : State :=
  s.setShop { s.shop with tests := { s.shop.tests with sweepState := x, sweepCause := cause } }

/-- The last gauge of a sweep has ended: its request completes, or the workshop test (R146, R173). -/
def sweepFinished (owner : SweepOwner) (s : State) : State :=
  if (List.range 6).any (s.sweepsFor (fun o => decide (o = owner))) then s
  else
    match owner with
    | .request k set => slotDone k [set] s
    | .workshop set =>
      when (s.shop.tests.sweepState = .running && s.shop.tests.sweepSet = set)
        (setSweepTest .completed .moving) s

/-- Ends the sweeps that a test accepts (R147). `leave` is what each gauge does. DESIGN CHOICE (assumption 63): the
gauges leave first, in ascending index, then the slots of the requests fail, and the test record follows. -/
def endSweeps (mine : SweepOwner → Bool) (leave : Nat → State → State) (code : ResultCode) (cause : EndCause)
    (s : State) : State :=
  when ((List.range 6).any (s.sweepsFor fun o => mine o && o.isWorkshop) && s.shop.tests.sweepState = .running)
    (setSweepTest .endedEarly cause)
    (forEach (s.sweepSlots mine) (fun k => slotFailed k code 0 [])
      (forEach ((List.range 6).filter (s.sweepsFor mine)) leave s))

/-- A gauge returns at once to its resume state and takes up its signal's status (R147). -/
def returnGauge (i : Nat) (s : State) : State :=
  takeUpGauge i (putGauge i ((s.gauges.get i).resumed (s.setup.gauges.get i)) s)

/-- A gauge enters PARKING from where it stands. -/
def parkGauge (i : Nat) (s : State) : State := putGauge i (s.gauges.get i).toParking s

/-- Motion leaves STOPPED: every sweep ends early (R147). -/
def sweepsMeetMotion (s : State) : State := endSweeps (fun _ => true) returnGauge .refusedMoving .moving s

/-- The workshop session is demoted or ends: workshop sweeps end, request sweeps run on (R147). -/
def endWorkshopSweeps (cause : EndCause) (s : State) : State :=
  endSweeps SweepOwner.isWorkshop returnGauge .aborted cause s

/-! ### Updates -/

/-- Stage 1 (R137, R138). -/
def Gauge.tracked (g : Gauge) (u : GaugeSetup) (sig : Signal) : Gauge :=
  if sig.status.usable then { g with target := targetOf u.points sig.value.toInt } else g

/-- Stages 2 and 3 at the rate limit (R139, R140). -/
def Gauge.damped (g : Gauge) (u : GaugeSetup) : Gauge :=
  { g with
    filtered := dampStep g.target g.filtered u.damping
    command := commandOf (dampStep g.target g.filtered u.damping)
    needle := moveToward g.needle (commandOf (dampStep g.target g.filtered u.damping)) (rateOf u.rateLimit) }

/-- An update in PARKING (R137, R144): at the park position the gauge becomes PARKED and its timer stops. -/
def Gauge.parkStep (g : Gauge) (u : GaugeSetup) : Gauge :=
  let n := moveToward g.needle u.park (rateOf u.rateLimit)
  let h := { g with target := u.park, filtered := 16 * u.park, command := u.park, needle := n }
  if n = u.park then { h with state := .parked, updateTimer := none } else h

/-- An update in SWEEPING (R146), and whether the gauge's sweep ends with it. -/
def Gauge.sweepStep (g : Gauge) (u : GaugeSetup) (w : Sweep) : Gauge × Bool :=
  let aim := if w.back then w.returnPoint else u.travel
  let n := moveToward g.needle aim (rateOf u.sweepRate)
  let h := { g with needle := n, sweep := some { w with back := w.back || decide (n = u.travel) } }
  (h, w.back && n = w.returnPoint)

/-- The end of homing (R143): in RUN the gauge enters TRACKING, outside RUN PARKING (R149). -/
def Gauge.homed (g : Gauge) (u : GaugeSetup) (status : SignalStatus) (inRun : Bool) (now : Nat) : Gauge :=
  let h := { g with needle := 0, filtered := 0, command := 0, known := true, homingLeft := 0, holdTimer := none }
  if inRun then
    if status = .noData then { h with state := .tracking }.startHold .firstData u.staleHold now
    else { h with state := .tracking }
  else h.toParking

/-- Gauge `i` takes an update (R137): what its state calls for, and then the ends that follow. -/
def updateGauge (i : Nat) (s : State) : State :=
  let g := s.gauges.get i
  let u := s.setup.gauges.get i
  let sig := s.signals.get u.signal
  match g.state with
  | .tracking => putGauge i ((g.tracked u sig).damped u) s
  | .holding => putGauge i (g.damped u) s
  | .parking => putGauge i (g.parkStep u) s
  | .homing =>
    if g.homingLeft ≤ rateOf u.rateLimit then
      takeUpGauge i (putGauge i ((g.tracked u sig).homed u sig.status s.inRun s.now) s)
    else putGauge i { g.tracked u sig with homingLeft := g.homingLeft - rateOf u.rateLimit } s
  | .sweeping =>
    match g.sweep with
    | some w =>
      let r := (g.tracked u sig).sweepStep u w
      if r.2 then sweepFinished w.owner (returnGauge i (putGauge i r.1 s)) else putGauge i r.1 s
    | none => s
  | .parked => s

/-- A gauge's update timer expires in an awake state (R137): the timer runs on, and the update is taken. -/
def gaugeExpires (i : Nat) (s : State) : State :=
  onTimer (s.gauges.get i).updateTimer
    (fun due t =>
      updateGauge i
        (putGauge i { t.gauges.get i with updateTimer := some (due + 1000 * Config.gaugePeriod) } t)) s

/-- A gauge's hold timer expires: the gauge goes to PARKING (R142). -/
def holdExpires (i : Nat) (s : State) : State :=
  onTimer ((s.gauges.get i).holdTimer.map (·.2)) (fun _ t => parkGauge i t) s

/-- Every gauge is PARKED. -/
def State.allParked (s : State) : Bool := s.gauges.cells.all fun g => g.state = .parked

/-! ### Leaving RUN and soft reset -/

/-- What a gauge does when the part leaves RUN (R149). -/
def Gauge.leftRun (g : Gauge) : Gauge :=
  match g.state with
  | .tracking | .holding => g.toParking
  | _ => { g with holdTimer := none }

/-- The gauge drive when the part leaves RUN (R147, R149). -/
def stopGauges (s : State) : State :=
  forEach (List.range 6) (fun i t => putGauge i (t.gauges.get i).leftRun t)
    (endSweeps (fun _ => true) parkGauge .aborted .leftRun s)

end Sys2Proof.Machine
end

