-- ==== Sys2Proof/Machine/DoorSupervisor.lean ====
section
/-! DEFINITION. The door supervisor (chapter 5): door states and proof, the DISAGREE and MOVING_OPEN latches, and the
stop-brake interlock. Motion stands with the signal image. -/

namespace Sys2Proof.Machine

/-! ### Readings (R78, R79) -/

/-- The reading of an optional channel; 255 is no channel. -/
def State.optionalReading (s : State) (c : Nat) (unsafeSense : Bool) : Option Bool :=
  if c = 255 then none else s.doorReading c unsafeSense

/-- The value of a phase signal names a phase (R77). -/
def phaseOfValue (v : Int) : Option Phase :=
  if v = 0 then some .idleClosed
  else if v = 1 then some .opening
  else if v = 2 then some .opened
  else if v = 3 then some .closing
  else if v = 4 then some .reversing
  else none

/-- The phase view of a door: present, and then the phase, or not (R79). -/
def State.phaseView (s : State) (d : Nat) : Option Phase :=
  let n := (s.setup.doors.get d).phaseSignal
  if s.usableSignal n then phaseOfValue (s.signals.get n).value.toInt else none

/-- VIEW_LOST: a phase signal is configured and gives no view (R79). -/
def State.viewLost (s : State) (d : Nat) : Bool :=
  (s.setup.doors.get d).phaseSignal ≠ 255 && (s.phaseView d).isNone

/-- The station obstruction report is present (R79). -/
def State.stationObstruction (s : State) (d : Nat) : Bool :=
  let n := (s.setup.doors.get d).obstructionSignal
  s.usableSignal n && (s.signals.get n).value ≠ 0#16

/-- An obstruction is active for a door (R79). -/
def State.obstructionActive (s : State) (d : Nat) : Bool :=
  s.optionalReading (s.setup.doors.get d).obstruction true = some true || s.stationObstruction d

/-- The channels a door has configured (R77). -/
def DoorSetup.configuredChannels (u : DoorSetup) : List Nat := u.channels

/-- Some configured channel of a door gives no reading (R80, line 1). -/
def State.doorUnread (s : State) (d : Nat) : Bool :=
  (s.setup.doors.get d).configuredChannels.any fun c => !(s.sense.channels.get c).settled

/-- The readings of the leaves: closed is true. -/
def State.leafReadings (s : State) (d : Nat) : List (Option Bool) :=
  let u := s.setup.doors.get d
  s.doorReading u.leaf1 false :: (if u.leaves = 2 then [s.doorReading u.leaf2 false] else [])

/-- Every leaf reads closed. -/
def State.leavesClosed (s : State) (d : Nat) : Bool := (s.leafReadings d).all (· = some true)

/-! ### The door state -/

/-- What a door's state is derived from (R80). -/
structure DoorView where
  unread : Bool
  pulled : Bool
  closed : Bool
  unlocked : Bool
  obstructed : Bool
  phase : Option Phase
  deriving DecidableEq, Repr

/-- The state of R80: the first line that applies. -/
def DoorView.state (v : DoorView) : DoorState :=
  if v.unread then .unknown
  else if v.pulled then .released
  else if v.closed then (if v.unlocked then .closedUnlocked else .closedLocked)
  else
    match v.phase with
    | some .opening => .opening
    | some .closing => if v.obstructed then .reversing else .closing
    | some .reversing => .reversing
    | _ => .opened

/-- The view of a door that stands (R78, R79). -/
def State.doorView (s : State) (d : Nat) : DoorView :=
  let u := s.setup.doors.get d
  { unread := s.doorUnread d
    pulled := s.doorReading u.release true = some true
    closed := s.leavesClosed d
    unlocked := s.optionalReading u.lock false = some false
    obstructed := s.obstructionActive d
    phase := s.phaseView d }

/-- The two views of a door agree (R84). -/
def DoorView.agree (v : DoorView) : Bool := v.closed = decide (v.phase = some .idleClosed)

/-- The agree timer of R84, with its start at an instant in µs. -/
def agreeTimerOf (latch agree : Bool) (running : Option Nat) (due : Nat) : Option Nat :=
  if latch = agree then (if running.isSome then running else some due) else none

/-- The latch and agree timer of a door for the views that stand (R84, R85). -/
def Door.compared (x : Door) (v : DoorView) (due : Nat) : Door :=
  if v.phase.isSome then { x with agreeTimer := agreeTimerOf x.disagree v.agree x.agreeTimer due }
  else { x with agreeTimer := none, disagree := false }

/-- The proven-closed flag of R83. -/
def Door.proof (x : Door) (rampOut : Bool) : Bool := x.state = .closedLocked && !rampOut && !x.disagree

/-- The MOVING_OPEN latch of R90. -/
def Door.latched (x : Door) (m : Motion) : Door :=
  if m = .moving && !x.proven then { x with movingOpen := true }
  else if m = .stopped && x.proven then { x with movingOpen := false }
  else x

/-- A change of the door's state (R81), with the obstruction count (R82) and the opened mark (R86). -/
def Door.moved (x : Door) (new : DoorState) (time : Time) : Door :=
  if new = x.state then x
  else
    { x with
      state := new
      obstructions := if x.state = .closing && new = .reversing then saturate 65535 x.obstructions
        else x.obstructions
      opened := x.opened || new = .opened
      lastChange := time }

/-- The proven-closed flag taken afresh (R83), with the cycle count (R86). -/
def Door.reproven (x : Door) (rampOut : Bool) : Door :=
  let p := x.proof rampOut
  if p && !x.proven && x.opened then
    { x with proven := true, cycles := saturate 4294967295 x.cycles, opened := false }
  else { x with proven := p }

/-- The fields of a door record that its views give (R87). -/
def Door.shown (x : Door) (s : State) (d : Nat) : Door :=
  { x with
    viewLost := s.viewLost d
    obstructed := s.obstructionActive d
    leaf1 := s.doorReading (s.setup.doors.get d).leaf1 false
    leaf2 := if (s.setup.doors.get d).leaves = 2 then s.doorReading (s.setup.doors.get d).leaf2 false else none
    phase := s.phaseView d }

/-- A door taken up afresh: views, comparison, state, proof (R81 to R87). The MOVING_OPEN latch follows on a change
of the proven-closed flag (R90). DESIGN CHOICE (assumption 52): VIEW_LOST is clear at RUN entry, and a phase signal that
gives no view sets it at the door's first taking, whatever brings that taking. -/
def State.doorTaken (s : State) (d : Nat) : Door :=
  let x := s.doors.doors.get d
  let v := s.doorView d
  let due := s.inMs (s.setup.doors.get d).agreeTime
  let y := (((x.shown s d).compared v due).moved v.state s.time).reproven (s.rampOut d)
  if y.proven = x.proven then y else y.latched s.doors.motion

/-- The door with the items its record does not show blanked (R87). -/
def Door.visible (x : Door) : Door := { x with agreeTimer := none, written := false, upd := 0#8 }

/-- Replaces a door; its record is written where a field it shows changed (R87). -/
def putDoor (d : Nat) (x : Door) (s : State) : State :=
  let old := s.doors.doors.get d
  s.setDoors { s.doors with
    doors := s.doors.doors.set d { x with
      written := old.written || decide (x.visible ≠ old.visible)
      upd := if x.visible = old.visible then old.upd else bump old.upd } }

/-! ### The interlock -/

/-- The DOOR flag of a door (R92). -/
def State.doorReason (s : State) (d : Nat) : Bool :=
  let x := s.doors.doors.get d
  (x.state ≠ .closedLocked && x.state ≠ .released) || x.disagree

/-- The reason mask of R92. -/
def State.reasons (s : State) : Reasons :=
  { door := s.setup.enabledDoors.any s.doorReason
    ramp := s.setup.enabledDoors.any s.rampOut
    release := s.setup.enabledDoors.any fun d => (s.doors.doors.get d).state = .released }

/-- The demand conditions (R92): an enabled door is not proven closed. -/
def State.demandConditions (s : State) : Bool := s.setup.enabledDoors.any s.doorOpen

/-- The override input is active (R94). -/
def State.overrideActive (s : State) : Bool :=
  let c := s.setup.general.override
  c ≠ 255 && (s.sense.channels.get c).settled && (s.sense.channels.get c).trusted &&
    (s.sense.channels.get c).logical = 1#16

/-- The interlock release delay (R92): the longest among the enabled doors. -/
def Setup.releaseDelay (u : Setup) : Nat :=
  (u.enabledDoors.map fun d => (u.doors.get d).releaseDelay).foldl max 0

/-- The end of the demand conditions in DEMAND or OVERRIDDEN (R93), at an instant in µs. -/
def releaseStart (delay now : Nat) : Interlock × Option Nat :=
  if delay = 0 then (.released, none) else (.releasing, some (now + 1000 * delay))

/-- The move of R93 for the conditions and the override that stand: the state and the release timer. -/
def interlockMove (state : Interlock) (conditions override : Bool) (timer : Option Nat) (delay now : Nat) :
    Interlock × Option Nat :=
  if conditions then (if override then .overridden else .demand, none)
  else
    match state with
    | .demand | .overridden => releaseStart delay now
    | .releasing | .released => (state, timer)

/-- The unit after a taking of the interlock; `upd` is settled by `putMotion`. -/
def State.interlockTaken (s : State) : DoorUnit :=
  let m := interlockMove s.doors.interlock s.demandConditions s.overrideActive s.doors.releaseTimer
    s.doors.releaseDelay s.now
  { s.doors with
    interlock := m.1
    releaseTimer := m.2
    reasons := s.reasons
    override := s.overrideActive
    interlockTime := if m.1 = s.doors.interlock then s.doors.interlockTime else s.time }

/-- The unit with all that the motion and interlock record does not show blanked (R95): the stop timer shows only
whether it runs. -/
def DoorUnit.visible (u : DoorUnit) : DoorUnit :=
  { u with
    doors := Table.replicate 4 {}, stopTimer := u.stopTimer.map fun _ => 0, releaseTimer := none
    written := false, upd := 0#8 }

/-- Replaces the motion and interlock fields; the record is written where a field it shows changed (R95). -/
def putMotion (x : DoorUnit) (s : State) : State :=
  s.setDoors { x with
    written := s.doors.written || decide (x.visible ≠ s.doors.visible)
    upd := if x.visible = s.doors.visible then s.doors.upd else bump s.doors.upd }

/-- A taking of the interlock in RUN (R92 to R94). INTERLOCK_OVERRIDDEN follows a change of the state (R91). -/
def takeInterlock (s : State) : State :=
  when (s.interlockTaken.interlock ≠ s.doors.interlock) (takeSource .interlockOverridden 0)
    (putMotion s.interlockTaken s)

/-! ### A taking of a door -/

/-- The door sources of R91. -/
def doorSources : List Source :=
  [.doorNotClosed, .doorMovingOpen, .doorDisagree, .doorObstructed, .doorReleased, .doorViewLost, .rampOut]

/-- The conditions that read a door's sources are taken afresh (R91). DESIGN CHOICE (assumption 17): several sources that
change at one taking are handed on source by source, in the order of R91's table. -/
def takeDoorSources (d : Nat) (s : State) : State := doorSources.foldl (fun t src => takeSource src d t) s

/-- What follows the write of a door's record: the notice of a change of state (R81), the sources (R91), the
interlock (R92), and the composition where the banner's flag changed (R120). -/
def doorWritten (d : Nat) (old new : Door) (s : State) : State :=
  when (new.proven ≠ old.proven) (compose false)
    (takeInterlock
      (takeDoorSources d
        (when (new.state ≠ old.state) (post .doorChange d new.state.code) s)))

/-- A door that is enabled is taken up afresh in RUN (R81). -/
def takeDoor (d : Nat) (s : State) : State :=
  when (s.inRun && (s.setup.doors.get d).enabled)
    (fun t => doorWritten d (s.doors.doors.get d) (s.doorTaken d) (putDoor d (s.doorTaken d) t)) s

/-- The doors that name a channel (R81). DESIGN CHOICE (assumption 60): they are taken in ascending index. -/
def State.doorsOfChannel (s : State) (c : Nat) : List Nat :=
  s.setup.enabledDoors.filter fun d => (s.setup.doors.get d).channels.contains c

/-- A write of a channel's sense entry is handed to the doors and to the override (R81, R94). -/
def takeChannel (c : Nat) (s : State) : State :=
  when (s.inRun && s.setup.general.override = c) takeInterlock (forEach (s.doorsOfChannel c) takeDoor s)

/-- The doors that name a signal (R81). DESIGN CHOICE (assumption 60): they are taken in ascending index. -/
def State.doorsOfSignal (s : State) (n : Nat) : List Nat :=
  s.setup.enabledDoors.filter fun d =>
    (s.setup.doors.get d).phaseSignal = n || (s.setup.doors.get d).obstructionSignal = n

/-- The agree timer of a door expires: the latch moves, and proof is taken up afresh (R84). -/
def agreeExpires (d : Nat) (s : State) : State :=
  onTimer (s.doors.doors.get d).agreeTimer
    (fun _ t =>
      let x := t.doors.doors.get d
      let y := ({ x with agreeTimer := none, disagree := !x.disagree } : Door).reproven (t.rampOut d)
      let z := if y.proven = x.proven then y else y.latched t.doors.motion
      doorWritten d x z (putDoor d z t)) s

/-- The release timer expires (R93). -/
def releaseExpires (s : State) : State :=
  onTimer s.doors.releaseTimer
    (fun _ t =>
      when (t.doors.interlock = .releasing) (takeSource .interlockOverridden 0)
        (putMotion
          (if t.doors.interlock = .releasing then
            { t.doors with interlock := .released, releaseTimer := none, interlockTime := t.time }
           else { t.doors with releaseTimer := none }) t)) s

/-- RESET_DOOR_COUNTER zeroes a door's two counts and writes the record (R86). -/
def resetCounters (d : Nat) (s : State) : State :=
  let x := s.doors.doors.get d
  s.setDoors { s.doors with
    doors := s.doors.doors.set d { x with cycles := 0, obstructions := 0, written := true, upd := bump x.upd } }

/-! ### Leaving RUN, wake, soft reset and RUN entry -/

/-- The door supervisor stops when the part leaves RUN (R95). -/
def stopDoors (s : State) : State :=
  putMotion { s.doors with
    doors := s.doors.doors.map fun x => { x with agreeTimer := none }
    interlock := .demand
    reasons := {}
    releaseTimer := none
    stopTimer := none
    interlockTime := if s.doors.interlock = .demand then s.doors.interlockTime else s.time } s

/-- A door record at wake, soft reset or RUN entry: the counts are kept, and the record is written (R96). -/
def Door.blanked (x : Door) (time : Time) : Door :=
  { cycles := x.cycles, obstructions := x.obstructions, lastChange := time, written := true, upd := bump x.upd }

/-- The door unit at wake, soft reset or RUN entry (R96). -/
def DoorUnit.blanked (u : DoorUnit) (time : Time) (delay : Nat) : DoorUnit :=
  { doors := u.doors.map fun x => x.blanked time
    releaseDelay := delay
    motionTime := time
    interlockTime := time
    written := true
    upd := bump u.upd }

end Sys2Proof.Machine
end

