-- ==== Sys2Proof/Machine/SignalImage.lean ====
section
/-! DEFINITION. The signal image (chapter 1) with what follows a write of one of its entries: motion (R88 to R90),
the readers of the signal, and the demotion or end of a workshop session (R167, R168).

A demotion releases forces, and a release is itself a write of a signal. So the readers' part takes as an argument
what a demotion does: inside a demotion the session is already lowered, a further demotion changes nothing (R168),
and the argument is `id`; everywhere else it is `demoteSession`. -/

namespace Sys2Proof.Machine

/-! ### Motion (R88, R89) -/

/-- The speed as it is taken: its source, and its magnitude if there is one (R88). -/
def State.speedTaken (s : State) : SpeedSource × Option Nat :=
  let g := s.setup.general
  if (s.signals.get g.primarySpeed).status.usable then (.primary, some (magnitude (s.signals.get g.primarySpeed).value))
  else if s.usableSignal g.fallbackSpeed then (.fallback, some (magnitude (s.signals.get g.fallbackSpeed).value))
  else (.none, Option.none)

/-- The table of R89: motion and the stop timer after a taking of the speed; `due` is where a timer that starts now
ends. -/
def speedMove (m : Motion) (speed : Option Nat) (move stop : Nat) (timer : Option Nat) (due : Nat) :
    Motion × Option Nat :=
  let started := if timer.isSome then timer else some due
  match speed with
  | none => (.unknown, none)
  | some v =>
    match m with
    | .unknown => if stop ≤ v then (.moving, none) else (.unknown, started)
    | .moving => if stop ≤ v then (.moving, none) else (.moving, started)
    | .stopped => if move ≤ v then (.moving, none) else (.stopped, none)

/-- The MOVING_OPEN latch of one enabled door is taken up at a change of motion (R90). -/
def takeLatch (d : Nat) (s : State) : State :=
  when (s.setup.doors.get d).enabled (putDoor d ((s.doors.doors.get d).latched s.doors.motion)) s

/-- Motion leaves STOPPED: sweeps and a lamp check end early (R129, R147), and a SERVICE session is demoted (R167).
DESIGN CHOICE (assumption 59): in that order. -/
def leaveStopped (demote : State → State) (s : State) : State :=
  demote (endLampCheck .refusedMoving .moving (sweepsMeetMotion s))

/-- A change of motion is handed on (R89). DESIGN CHOICE (assumption 59): the latches of doors 0 to 3 (R90), the source
DOOR_MOVING_OPEN of each, SPEED_UNKNOWN, the priorities (R117), and then, as motion leaves STOPPED, the sweeps, the lamp
check and the session. -/
def handMotion (demote : State → State) (old : Motion) (s : State) : State :=
  when (old = .stopped) (leaveStopped demote)
    (takePriorities ((List.range 96).filter fun w => (s.setup.warnings.get w).motionMode)
      (takeSource .speedUnknown 0
        (forEach (List.range 4) (fun d => takeSource .doorMovingOpen d)
          (forEach (List.range 4) takeLatch s))))

/-- Replaces the motion fields, and hands a change of motion on (R89). -/
def changeMotion (demote : State → State) (x : DoorUnit) (s : State) : State :=
  when (x.motion ≠ s.doors.motion) (handMotion demote s.doors.motion) (putMotion x s)

/-- The unit after a taking of the speed (R88, R89). -/
def State.speedUnit (s : State) : DoorUnit :=
  let g := s.setup.general
  let m := speedMove s.doors.motion s.speedTaken.2 g.moveThreshold g.stopThreshold s.doors.stopTimer
    (s.inMs Config.stopDelay)
  { s.doors with
    motion := m.1
    stopTimer := m.2
    speedSource := s.speedTaken.1
    speed := s.speedTaken.2.getD 0
    motionTime := if m.1 = s.doors.motion then s.doors.motionTime else s.time }

/-- The speed is taken afresh (R88). -/
def takeSpeed (demote : State → State) (s : State) : State := changeMotion demote s.speedUnit s

/-! ### The readers of a signal -/

/-- A signal is one of the two speed signals. -/
def GeneralSetup.isSpeed (g : GeneralSetup) (n : Nat) : Bool := n = g.primarySpeed || n = g.fallbackSpeed

/-- The parking brake signal is usable and non-zero (R166). -/
def State.brakeSet (s : State) : Bool :=
  s.usableSignal s.setup.general.parkingBrake && (s.signals.get s.setup.general.parkingBrake).value ≠ 0#16

/-- The readers of signal `n` in RUN, after a write of its entry that changed its value or its status: the lamp
duties (R122), the gauges at a change of status (R141), the doors (R81), the speed (R88), the session (R167) and the
warnings (R100). -/
def signalRead (demote : State → State) (n : Nat) (statusChanged : Bool) (s : State) : State :=
  takeTests n
    (when (n = s.setup.general.parkingBrake && !s.brakeSet) demote
      (when (s.setup.general.isSpeed n) (takeSpeed demote)
        (forEach (s.doorsOfSignal n) takeDoor
          (when statusChanged (takeUpStatus n)
            (when (n = s.setup.general.dimmer) takeDuties s)))))

/-- Writes the entry of signal `n` (R2, R178). -/
def putSignal (n : Nat) (x : Signal) (s : State) : State :=
  s.setSignals (s.signals.set n { x with upd := bump (s.signals.get n).upd })

/-- Writes the entry of signal `n`, and its readers take a change of value or status up. -/
def writeSignal (demote : State → State) (n : Nat) (x : Signal) (s : State) : State :=
  let old := s.signals.get n
  when (s.inRun && (x.value ≠ old.value || x.status ≠ old.status))
    (signalRead demote n (x.status ≠ old.status)) (putSignal n x s)

/-! ### Forces -/

/-- A released signal shows its source's view (R9). -/
def Signal.released (x : Signal) : Signal := { x with value := x.sourceValue, status := x.sourceStatus }

/-- Releases the force on signal `n` (R9). -/
def releaseForce (demote : State → State) (n : Nat) (s : State) : State :=
  writeSignal demote n (s.signals.get n).released s

/-- The entries of a list of signals show their source's view, all together (R9). -/
def releaseEntries (l : List Nat) (s : State) : State :=
  forEach l (fun n t => putSignal n (t.signals.get n).released t) s

/-- The readers of signal `n` take up its released entry, where that differs from what it showed. They take it with
the session lowered, so that they demote nothing further (R168). -/
def releaseRead (shown : Table 128 Signal) (n : Nat) (s : State) : State :=
  when (s.inRun && ((shown.get n).value ≠ (s.signals.get n).value || (shown.get n).status ≠ (s.signals.get n).status))
    (signalRead id n ((shown.get n).status ≠ (s.signals.get n).status)) s

/-- A demotion or an end of the session releases all its forces together: every reading of one of those signals that
follows is of its source's view (R9). The readers then take the signals up in ascending index (assumption 46). -/
def releaseTogether (l : List Nat) (s : State) : State :=
  forEach l (releaseRead s.signals) (releaseEntries l s)

/-! ### The workshop session (R168) -/

/-- The detail of a WORKSHOP_CHANGE notice is the new level. -/
def postLevel (s : State) : State := post .workshopChange 0 s.shop.session.code s

/-- Steps 1 to 5 of R168, for a new level and the cause the test record shows; the forces are released together
(R9). -/
def lowerSession (level : Session) (cause : EndCause) (s : State) : State :=
  let forced := s.shop.forced
  let lowered := s.setShop { s.shop with session := level }
  let released := releaseTogether forced lowered
  let emptied := released.setShop { released.shop with forced := [] }
  postLevel (writeStatus (endWorkshopLampCheck cause (endWorkshopSweeps cause emptied)))

/-- A SERVICE session is demoted to READ (R167, R168). -/
def demoteFor (cause : EndCause) (s : State) : State :=
  when (s.shop.session = .service) (lowerSession .read cause) s

/-- The demotion of R167 while the part stays in RUN. -/
def demoteSession (s : State) : State := demoteFor .session s

/-- An open session ends (R167, R168): the idle timer stops, and the line rate is 19,200 bit/s at once, or after the
answer where CLOSE_SESSION ends it. DESIGN CHOICE (assumption 67): an end in the middle of a frame keeps the frame, and a
gap that is being measured keeps the length that the rate before gave it; an end in the middle of an answer changes the
rate at once too. -/
def endSession (cause : EndCause) (byClose : Bool) (s : State) : State :=
  when (s.shop.session ≠ .detached)
    (fun t => lowerSession .detached cause
      (t.setShop { t.shop with
        idleTimer := none
        rate := if byClose then t.shop.rate else .slow
        nextRate := if byClose then some .slow else none })) s

/-! ### Deliveries -/

/-- The items every delivery writes (R5, R6): the last-update time and the stale deadline. -/
def Signal.delivered (x : Signal) (staleLimit ms : Nat) : Signal :=
  { x with
    lastUpdate := BitVec.ofNat 16 ms
    staleDeadline := if staleLimit = 0 then none else some (ms + staleLimit) }

/-- An unforced signal shows its source's view (R2). -/
def Signal.following (x : Signal) : Signal := if x.status = .forced then x else x.released

/-- The judgement of a value delivery (R5). -/
def Signal.valued (x : Signal) (u : SignalSetup) (v : Word) (ms : Nat) : Signal :=
  let inRange := decide (u.rangeMin ≤ v.toInt ∧ v.toInt ≤ u.rangeMax)
  ({ x.delivered u.staleLimit ms with
      underlying := v
      sourceValue := if inRange then v else x.sourceValue
      sourceStatus := if inRange then .valid else .fault } : Signal).following

/-- A fault declaration, with or without a substitute (R6). -/
def Signal.faulted (x : Signal) (u : SignalSetup) (substitute : Option Word) (ms : Nat) : Signal :=
  ({ x.delivered u.staleLimit ms with
      underlying := substitute.getD x.underlying
      sourceValue := substitute.getD x.sourceValue
      sourceStatus := .fault } : Signal).following

/-- A value delivery to signal `n` (R5). -/
def deliverValue (n : Nat) (v : Word) (s : State) : State :=
  writeSignal demoteSession n ((s.signals.get n).valued (s.setup.signals.get n) v s.ms) s

/-- A fault declaration to signal `n` (R6). -/
def declareFault (n : Nat) (substitute : Option Word) (s : State) : State :=
  writeSignal demoteSession n ((s.signals.get n).faulted (s.setup.signals.get n) substitute s.ms) s

/-- The stale deadline of signal `n` is reached (R7): a forced signal's entry is not written. -/
def goStale (n : Nat) (s : State) : State :=
  let x : Signal := { s.signals.get n with sourceStatus := .stale, staleDeadline := none }
  if x.status = .forced then s.setSignals (s.signals.set n x) else writeSignal demoteSession n x.following s

/-- The stale deadline of a signal in RUN, on the clock of the part (R7, R13). -/
def State.staleDue (s : State) (n : Nat) : Option Nat :=
  if s.inRun then (s.signals.get n).staleDeadline.map (1000 * ·) else none

/-- R7. -/
def staleExpires (n : Nat) (s : State) : State := onTimer (s.staleDue n) (fun _ t => goStale n t) s

/-- A force on signal `n` (R8). -/
def placeForce (n : Nat) (w : Word) (s : State) : State :=
  writeSignal demoteSession n { s.signals.get n with value := w, status := .forced } s

/-- The stop timer expires (R89). -/
def stopExpires (s : State) : State :=
  onTimer s.doors.stopTimer
    (fun _ t =>
      changeMotion demoteSession
        { t.doors with
          motion := .stopped
          stopTimer := none
          motionTime := if t.doors.motion = .stopped then t.doors.motionTime else t.time } t) s

/-! ### Leaving RUN, wake, soft reset and RUN entry -/

/-- The signal image when the part leaves RUN: no deadline runs (R13). -/
def stopSignals (s : State) : State :=
  s.setSignals (s.signals.map fun x => { x with staleDeadline := none })

/-- A signal at wake or soft reset (R14): the entry is written. -/
def Signal.blanked (x : Signal) : Signal := { upd := bump x.upd }

/-- A signal at RUN entry (R12). -/
def Signal.fresh (x : Signal) (kind : SourceKind) : Signal :=
  let status := if kind = .none then SignalStatus.notConfigured else SignalStatus.noData
  { status, sourceStatus := status, upd := bump x.upd }

/-- All signals at RUN entry (R12). -/
def State.freshSignals (s : State) : Table 128 Signal :=
  Table.tabulate 128 fun n => (s.signals.get n).fresh (s.setup.signals.get n).kind

end Sys2Proof.Machine
end

