-- ==== Sys2Proof/Machine/SenseScanner.lean ====
section
/-! DEFINITION. The sense scanner (chapter 2): samples, wiring checks and the supply monitor. -/

namespace Sys2Proof.Machine

/-! ### What a sample does to a channel -/

/-- The logical value changes, and then the change count rises modulo 256 (R23). -/
def SenseChannel.withLogical (x : SenseChannel) (v : Word) : SenseChannel :=
  { x with logical := v, changeCount := if v = x.logical then x.changeCount else x.changeCount + 1#8 }

/-- A contact sample of a switch that is not in fault (R21), and whether debounce changed the value or settled it. -/
def SenseChannel.debounced (x : SenseChannel) (u : SenseSetup) (c : Contact) : SenseChannel × Bool :=
  let v := contactValue u.invert c
  if x.settled then
    if v = x.logical then ({ x with debounce := 0 }, false)
    else if debounceLimit u ≤ x.debounce + 1 then ({ x.withLogical v with debounce := 0 }, true)
    else ({ x with debounce := x.debounce + 1 }, false)
  else
    let n := if x.contact = some c then x.debounce + 1 else 1
    if debounceLimit u ≤ n then ({ x.withLogical v with debounce := 0, settled := true }, true)
    else ({ x with debounce := n }, false)

/-- Entry into fault, or into a WIRING fault: the substitute is shown and the channel settles (R24, R33). -/
def SenseChannel.enterFault (x : SenseChannel) (u : SenseSetup) (c : FaultClass) : SenseChannel :=
  { x.withLogical (substituteValue u.substitution x.logical x.settled) with
    faultClass := c, settled := true, debounce := 0, faultRun := 0, healthyRun := 0 }

/-- The logical value that a contact or in-limit sample gives. -/
def sampleValue (u : SenseSetup) : Sample → Word
  | .contact c => contactValue u.invert c
  | .inLimits m => BitVec.ofNat 16 m
  | _ => 0#16

/-- Healing with the value of the eighth sample (R25). -/
def SenseChannel.healed (x : SenseChannel) (u : SenseSetup) (p : Sample) : SenseChannel :=
  { x.withLogical (sampleValue u p) with faultClass := .none, healthyRun := 0, debounce := 0 }

/-- The contact state follows the contact samples (R18). -/
def SenseChannel.contacted (x : SenseChannel) (p : Sample) : SenseChannel :=
  match p with
  | .contact c => { x with contact := some c }
  | _ => x

/-- Steps 2 and 3 of R17 for a channel not in fault (R21, R22, R24). -/
def SenseChannel.healthyStep (x : SenseChannel) (u : SenseSetup) (p : Sample) : SenseChannel × Bool :=
  match p with
  | .fault c => if 4 ≤ x.faultRun + 1 then (x.enterFault u c, false) else ({ x with faultRun := x.faultRun + 1 }, false)
  | .contact c => ({ (x.debounced u c).1 with faultRun := 0 }, (x.debounced u c).2)
  | .inLimits _ => ({ x.withLogical (sampleValue u p) with settled := true, faultRun := 0 }, false)
  | .void => (x, false)

/-- Steps 2 and 3 of R17 for a channel in fault (R24, R25). -/
def SenseChannel.faultStep (x : SenseChannel) (u : SenseSetup) (p : Sample) : SenseChannel :=
  if x.faultClass = .wiring then x
  else
    match p with
    | .fault c => { x with faultClass := c, healthyRun := 0 }
    | .void => x
    | _ => if 8 ≤ x.healthyRun + 1 then x.healed u p else { x with healthyRun := x.healthyRun + 1 }

/-- What the band or class field shows (R27). -/
def shownOf (kind : SenseKind) (p : Sample) (reading : Nat) : Shown :=
  if kind.isSwitch then .band (bandOf reading)
  else if kind = .frequency then .zero
  else
    match p with
    | .fault c => .fault c
    | _ => .inLimits

/-- The last reading field: for a frequency channel its measurement (R27). -/
def SenseChannel.readingOf (x : SenseChannel) (kind : SenseKind) (reading now : Nat) : Word :=
  if kind = .frequency then BitVec.ofNat 16 (frequencyOf x.edges now) else BitVec.ofNat 16 reading

/-- A channel after a sample at an instant (R17), and whether debounce changed or settled it. While supply low holds
only the last reading moves (R30). -/
def SenseChannel.sampled (x : SenseChannel) (u : SenseSetup) (supplyLow : Bool) (reading now : Nat) :
    SenseChannel × Bool :=
  let p := classify u x reading now
  let y := { x with reading := x.readingOf u.kind reading now }
  if supplyLow then (y, false)
  else
    let z := { y with shown := shownOf u.kind p reading }
    if x.faultClass = .none then
      (((z.healthyStep u p).1).contacted p, (z.healthyStep u p).2)
    else ((z.faultStep u p).contacted p, false)

/-! ### Writing and handing on -/

/-- Writes a channel's sense state entry (R27, R178). -/
def putChannel (c : Nat) (x : SenseChannel) (s : State) : State :=
  s.setSense { s.sense with
    channels := s.sense.channels.set c { x with upd := bump (s.sense.channels.get c).upd } }

/-- What a write of the entry must change for the doors and the override to take it up (R81, R94). -/
def SenseChannel.doorItems (x : SenseChannel) : Word × Bool × Bool × Bool :=
  (x.logical, x.settled, decide (x.faultClass ≠ .none), x.check.isSome)

/-- Writes a channel's entry, and hands a change to the doors and the override. -/
def writeChannel (c : Nat) (x : SenseChannel) (s : State) : State :=
  when (x.doorItems ≠ (s.sense.channels.get c).doorItems) (takeChannel c) (putChannel c x s)

/-- The signal that a channel feeds, if there is one (R15, R26). -/
def State.signalOfChannel (s : State) (c : Nat) : Option Nat :=
  (List.range 128).find? fun n => (s.setup.signals.get n).kind = .sense && (s.setup.signals.get n).index = c

/-- The substitute a fault declaration carries (R26). -/
def Substitution.value : Substitution → Option Word
  | .substitute0 => some 0#16
  | .substitute1 => some 1#16
  | _ => none

/-- The delivery a channel makes with a state of it (R26). -/
def deliverChannel (c : Nat) (x : SenseChannel) (s : State) : State :=
  match s.signalOfChannel c with
  | some n =>
    if x.settled then
      (if x.faultClass = .none then deliverValue n x.logical s
       else declareFault n (s.setup.sense.get c).substitution.value s)
    else s
  | none => s

/-- The SENSE_FAULT_CHANGE notice, and then the internal source SENSE_FAULT (R28). DESIGN CHOICE (assumption 48): the
spec gives the two no order. -/
def faultChanged (c : Nat) (x : SenseChannel) (s : State) : State :=
  takeSource .senseFault c (post .senseFaultChange c x.faultClass.code s)

/-- An acknowledge edge: debounce changes the acknowledge input from 0 to 1 (R28). -/
def State.isAckEdge (s : State) (c : Nat) (old new : SenseChannel) (debounced : Bool) : Bool :=
  debounced && old.settled && old.logical = 0#16 && new.logical = 1#16 && s.setup.general.ackInput = c

/-- Steps 4 to 6 of R17. -/
def sampleTaken (c : Nat) (r : SenseChannel × Bool) (s : State) : State :=
  let old := s.sense.channels.get c
  when (s.isAckEdge c old r.1 r.2) acknowledgeEdge
    (when (r.1.faultClass ≠ old.faultClass) (faultChanged c r.1)
      (deliverChannel c r.1 (writeChannel c r.1 s)))

/-- The instant of the next sample (R16, R17). -/
def State.nextSample (s : State) (c due : Nat) : Nat :=
  due + 1000 * Config.scanPeriod (s.setup.sense.get c).periodCode

/-- A channel's sample timer runs on. -/
def advanceSample (c due : Nat) (s : State) : State :=
  let x : SenseChannel := { s.sense.channels.get c with sampleTimer := some (s.nextSample c due) }
  s.setSense { s.sense with channels := s.sense.channels.set c x }

/-- The instant of an ordinary sample: the sample timer of a channel in RUN that is not under check. -/
def State.sampleDue (s : State) (c : Nat) : Option Nat :=
  if s.inRun && (s.sense.channels.get c).check.isNone then (s.sense.channels.get c).sampleTimer else none

/-- The channel after the sample that is due. -/
def State.sampleOf (s : State) (c reading : Nat) : SenseChannel × Bool :=
  (s.sense.channels.get c).sampled (s.setup.sense.get c) s.sense.supplyLow reading s.now

/-- One ordinary sample (R17). -/
def sample (c reading : Nat) (s : State) : State :=
  onTimer (s.sampleDue c)
    (fun due t => sampleTaken c ((advanceSample c due t).sampleOf c reading) (advanceSample c due t)) s

/-- The channel after the sample that is due, where one is due. -/
def State.sampleAhead (s : State) (c reading : Nat) : Option (SenseChannel × Bool) :=
  (s.sampleDue c).map fun due => (s.reach due).sampleOf c reading

/-- The sample that is due reaches the debounce limit (R21). -/
def State.willDebounce (s : State) (c reading : Nat) : Bool := (s.sampleAhead c reading).any fun r => r.2

/-- The sample that is due puts the channel in fault (R24). -/
def State.willFault (s : State) (c reading : Nat) : Bool :=
  (s.sampleAhead c reading).any fun r => r.1.faultClass ≠ .none && (s.sense.channels.get c).faultClass = .none

/-- The sample that is due heals the channel (R25). -/
def State.willHeal (s : State) (c reading : Nat) : Bool :=
  (s.sampleAhead c reading).any fun r => r.1.faultClass = .none && (s.sense.channels.get c).faultClass ≠ .none

/-- A rising edge on a frequency channel in RUN, `after` µs past the one before it (R20). -/
def edge (c after : Nat) (s : State) : State :=
  when (s.inRun && (s.setup.sense.get c).kind = .frequency)
    (fun t =>
      let x := t.sense.channels.get c
      let at' := max t.now (x.edges.headD 0 + after)
      (t.reach at').setSense { t.sense with
        channels := t.sense.channels.set c { x with edges := (at' :: x.edges).take 2 } }) s

/-! ### Wiring checks -/

/-- A wiring check starts (R32). -/
def startCheck (slot c : Nat) (s : State) : State :=
  let x := s.sense.channels.get c
  writeChannel c
    { x with
      check := some { slot, bands := [] }
      sampleTimer := if (s.setup.sense.get c).kind = .unused then some (s.nextSample c s.now) else x.sampleTimer } s

/-- The outcome of a judgement on the channel (R33). -/
def SenseChannel.judged (x : SenseChannel) (u : SenseSetup) (fits : Bool) : SenseChannel :=
  let y := { x with
    check := none, debounce := 0, faultRun := 0, healthyRun := 0
    sampleTimer := if u.kind = .unused then none else x.sampleTimer }
  if fits then (if y.faultClass = .wiring then { y with faultClass := .none } else y)
  else if u.kind = .unused then y
  else y.enterFault u .wiring

/-- A judgement posts SENSE_FAULT_CHANGE (R33). -/
def judgementPosts (u : SenseSetup) (x : SenseChannel) (fits : Bool) : Bool :=
  if fits then x.faultClass = .wiring else u.kind ≠ .unused

/-- The result body of a wiring check (R33, R185): the detected kind, U, D, F, and MATCH 0 or MISMATCH 1. -/
def checkBody (d : DetectedKind) (bands : List Nat) (fits : Bool) : List Byte :=
  [byteOf d.code, byteOf (bands.getD 0 0), byteOf (bands.getD 1 0), byteOf (bands.getD 2 0),
   if fits then 0#8 else 1#8]

/-- The third measurement: the judgement, and the delivery of the held state (R32, R33). -/
def judgeCheck (c : Nat) (w : WiringCheck) (held measured : SenseChannel) (s : State) : State :=
  let u := s.setup.sense.get c
  let d := detectKind (w.bands.getD 0 0) (w.bands.getD 1 0) (w.bands.getD 2 0)
  let fits := d.fits u.kind
  let x := measured.judged u fits
  when (judgementPosts u measured fits) (faultChanged c x)
    (deliverChannel c held
      (writeChannel c x (slotDone w.slot (checkBody d w.bands fits) s)))

/-- One measurement of a wiring check (R32). -/
def measured (c reading : Nat) (w : WiringCheck) (s : State) : State :=
  let held := s.sense.channels.get c
  let bands := w.bands ++ [bandOf reading]
  let x := { held with
    reading := BitVec.ofNat 16 reading
    shown := .band (bandOf reading)
    check := some { w with bands } }
  if 3 ≤ bands.length then judgeCheck c { w with bands } held x s
  else deliverChannel c held (writeChannel c x s)

/-- A measurement time of a channel under check (R32). -/
def wiringMeasurement (c reading : Nat) (s : State) : State :=
  match (s.sense.channels.get c).check with
  | some w =>
    onTimer (s.sense.channels.get c).sampleTimer
      (fun due t => measured c reading w (advanceSample c due t)) s
  | none => s

/-- A channel whose wiring check ends early (R34): UNDER_CHECK clears, and a channel that only the check sampled is
sampled no more. -/
def SenseChannel.unchecked (x : SenseChannel) (kind : SenseKind) : SenseChannel :=
  { x with check := none, sampleTimer := if kind = .unused then none else x.sampleTimer }

/-- The counts restart at 0 (R34). -/
def SenseChannel.restarted (x : SenseChannel) : SenseChannel := { x with debounce := 0, faultRun := 0, healthyRun := 0 }

/-- A running wiring check of a channel ends early: the slot fails with ABORTED and UNDER_CHECK clears (R34). Where
supply low ends it the counts restart at 0; where the part leaves RUN the channel keeps its state. DESIGN CHOICE
(assumption 49): the counts are zeroed at the abort, where the spec has them at 0 when supply low clears; and the slot
fails, with its REQUEST_DONE notice, before the write of the entry that clears UNDER_CHECK and the takings of the doors
that follow it, two effects that R34 sets side by side. -/
def abortCheck (restart : Bool) (c : Nat) (s : State) : State :=
  let x := s.sense.channels.get c
  match x.check with
  | some w =>
    let y := x.unchecked (s.setup.sense.get c).kind
    writeChannel c (if restart then y.restarted else y) (slotFailed w.slot .aborted 0 [] s)
  | none => s

/-- Every running wiring check ends early, in ascending channel order (DESIGN CHOICE, assumption 49). -/
def abortChecks (restart : Bool) (s : State) : State := forEach (List.range 48) (abortCheck restart) s

/-! ### The supply monitor -/

/-- The supply-low flag and the low timer after a measurement (R29). -/
def SenseUnit.supplied (u : SenseUnit) (millivolts : Word) (lowAt : Nat) : SenseUnit :=
  let v := millivolts.toNat
  { u with
    supplyMv := millivolts
    supplyLow := u.supplyLow && !decide (17000 < v)
    lowTimer :=
      if 16000 ≤ v then none
      else if !u.supplyLow && u.lowTimer.isNone then some lowAt else u.lowTimer }

/-- A supply measurement, every 5 ms in an awake state (R29). -/
def supplyMeasured (millivolts : Word) (s : State) : State :=
  onTimer (if s.awake then s.sense.supplyTimer else none)
    (fun due t =>
      when ((t.sense.supplied millivolts (t.inMs Config.supplyLowDelay)).supplyLow ≠ t.sense.supplyLow)
        (takeSource .supplyLow 0)
        (writeStatus (t.setSense { t.sense.supplied millivolts (t.inMs Config.supplyLowDelay) with
          supplyTimer := some (due + 1000 * Config.supplyPeriod) }))) s

/-- The low timer expires: supply low sets, and running wiring checks are aborted (R29, R34). DESIGN CHOICE
(assumption 49): the checks end, in ascending channel order, before the source SUPPLY_LOW is taken up. -/
def supplyLowExpires (s : State) : State :=
  onTimer s.sense.lowTimer
    (fun _ t =>
      takeSource .supplyLow 0
        (abortChecks true (writeStatus (t.setSense { t.sense with supplyLow := true, lowTimer := none })))) s

/-! ### Leaving RUN, wake, soft reset and RUN entry -/

/-- The scanner when the part leaves RUN: checks end, and no channel is sampled (R34, R35). -/
def stopSense (s : State) : State :=
  let t := abortChecks false s
  t.setSense { t.sense with channels := t.sense.channels.map fun x => { x with sampleTimer := none } }

/-- A channel at wake, soft reset or RUN entry: its entry is written (R35). -/
def SenseChannel.blanked (x : SenseChannel) : SenseChannel := { upd := bump x.upd }

/-- All channels at RUN entry, each kind but UNUSED with its first sample one scan period ahead (R17, R35). -/
def State.freshChannels (s : State) : Table 48 SenseChannel :=
  Table.tabulate 48 fun c =>
    { (s.sense.channels.get c).blanked with
      sampleTimer := if (s.setup.sense.get c).kind = .unused then none else some (s.nextSample c s.now) }

end Sys2Proof.Machine
end

