-- ==== Sys2Proof/Machine/BodyLine.lean ====
section
/-! DEFINITION. The body line controller (chapters 3 and 4): attempts, transactions and probes, channel health, search
mode, stations, the one-shot list and the message log. -/

namespace Sys2Proof.Machine

/-! ### Channels (R46 to R51) -/

/-- The normal channel (R46). -/
def State.normalChannel (s : State) : Channel :=
  let p := s.setup.settings.preferred.getD .a
  if (s.line.health p).failed then otherChannel p else p

/-- The channel of the first attempt of a scheduled entry (R46). -/
def State.entryChannel (s : State) : Channel := s.line.search.getD s.normalChannel

/-- The channel of a retry (R45), from the channel of the attempt just made. -/
def retryOn (retry : RetryChannel) (made : Channel) (otherFailed : Bool) : Channel :=
  if retry = .other && !otherFailed then otherChannel made else made

/-- Replaces the health of a channel. -/
def BodyLine.withHealth (b : BodyLine) (c : Channel) (h : ChannelHealth) : BodyLine :=
  match c with
  | .a => { b with healthA := h }
  | .b => { b with healthB := h }

/-- A count that falls by 1 (R47), and the state that follows it (R48). -/
def ChannelHealth.fallen (h : ChannelHealth) : ChannelHealth :=
  { count := h.count - 1, failed := h.failed && h.count - 1 ≠ 0 }

/-- A count that rises by 2, stopping at 16 (R47), and the state that follows it (R48). -/
def ChannelHealth.risen (h : ChannelHealth) : ChannelHealth :=
  { count := min (h.count + 2) 16, failed := h.failed || decide (16 ≤ h.count + 2) }

/-- The enabled stations. -/
def Setup.enabledStations (u : Setup) : List Nat := ((List.range 16).drop 1).filter fun a => (u.stations.get a).enabled

/-- Search mode holds (R50). -/
def State.searchHolds (s : State) : Bool :=
  !s.setup.enabledStations.isEmpty && s.setup.enabledStations.all fun a => (s.line.stations.get a).state = .silent

/-- Search mode begins or ends (R50). -/
def takeSearch (s : State) : State :=
  s.setLine { s.line with
    search := if s.searchHolds then (if s.line.search.isSome then s.line.search else some s.normalChannel) else none }

/-- The network summary (R51). -/
def State.summaryNow (s : State) : NetworkSummary :=
  if (s.line.healthA.failed && s.line.healthB.failed) || s.line.search.isSome then .down
  else if s.line.healthA.failed || s.line.healthB.failed then .degraded
  else .normal

/-- The network summary is taken afresh and written when it changes (R51). -/
def takeSummary (s : State) : State :=
  when (s.summaryNow ≠ s.line.summary)
    (fun t => takeSource .networkDown 0 (writeStatus (t.setLine { t.line with summary := s.summaryNow }))) s

/-- A change of a channel's state is handed on (R48). DESIGN CHOICE (assumption 57): the notice, the source
CHANNEL_FAILED, then the summary with the source NETWORK_DOWN (R51). -/
def channelChanged (c : Channel) (failed : Bool) (s : State) : State :=
  takeSummary (takeSource .channelFailed (channelCode c) (post .channelChange (channelCode c) failed.toNat s))

/-- Moves the health of a channel, and hands a change of its state on (R47, R48). -/
def changeHealth (c : Channel) (h : ChannelHealth) (s : State) : State :=
  let old := s.line.health c
  when (h.failed ≠ old.failed) (channelChanged c h.failed)
    (when (h ≠ old) writeStatus (s.setLine (s.line.withHealth c h)))

/-- Any attempt of a list failed on a channel. -/
def failedOn (c : Channel) (made : List (Channel × LineOutcome)) : Bool := made.any fun m => m.1 = c && !m.2.good

/-- The health counts at a transaction's end (R47); `made` is newest first. DESIGN CHOICE (assumption 57): the fall of
the final channel is handed on before the rise of the other. -/
def moveHealth (made : List (Channel × LineOutcome)) (s : State) : State :=
  match made with
  | (y, o) :: earlier =>
    if o.good then
      (fun t : State => when (failedOn (otherChannel y) earlier)
          (fun t => changeHealth (otherChannel y) (t.line.health (otherChannel y)).risen t) t)
        (changeHealth y (s.line.health y).fallen s)
    else s
  | [] => s

/-- The health count of the probed channel (R49). -/
def moveProbeHealth (c : Channel) (o : LineOutcome) (s : State) : State :=
  changeHealth c (if o.good then (s.line.health c).fallen else (s.line.health c).risen) s

/-! ### Stations (R63 to R65) -/

/-- Writes a station record (R65, R178). -/
def putStation (a : Nat) (x : Station) (s : State) : State :=
  s.setLine { s.line with stations := s.line.stations.set a { x with upd := bump (s.line.stations.get a).upd } }

/-- A good transaction (R63, R64). -/
def Station.goodEnd (x : Station) (flags : StationFlags) (time : Time) : Station :=
  { x with
    failures := 0, good := saturate 65535 x.good, lastGood := time, flags
    state := if x.state = .unknown || x.state = .silent then .online else x.state }

/-- A failed transaction (R63). -/
def Station.failedEnd (x : Station) (limit : Nat) : Station :=
  { x with
    failures := saturate 255 x.failures, failed := saturate 65535 x.failed
    state := if limit ≤ saturate 255 x.failures && (x.state = .unknown || x.state = .online) then .silent
      else x.state }

/-- A change of a station's state is handed on (R63). DESIGN CHOICE (assumption 57): the notice, search mode, then the
summary with the source NETWORK_DOWN (R51). -/
def stationChanged (a : Nat) (x : Station) (s : State) : State :=
  takeSummary (takeSearch (post .stationChange a x.state.code s))

/-- Writes a station record, and hands on its state and its sources (R63, R64). DESIGN CHOICE (assumption 57): a change
of state is handed on first, NETWORK_DOWN with it, and STATION_SILENT and then STATION_FAULT are taken up (R103). -/
def changeStation (a : Nat) (x : Station) (s : State) : State :=
  takeSource .stationFault a
    (takeSource .stationSilent a
      (when (x.state ≠ (s.line.stations.get a).state) (stationChanged a x) (putStation a x s)))

/-- The station record at a transaction's end (R63); `flags` are those of a good final attempt. -/
def moveStation (a : Nat) (made : List (Channel × LineOutcome)) (flags : StationFlags) (s : State) : State :=
  let u := s.setup.stations.get a
  match made with
  | (_, o) :: _ =>
    when u.enabled
      (changeStation a
        (if o.good then (s.line.stations.get a).goodEnd flags s.time
         else (s.line.stations.get a).failedEnd u.silentLimit)) s
  | [] => s

/-! ### The one-shot list (R66, R69, R70) -/

/-- Appends a one-shot at the tail (R66). -/
def appendOneShot (o : OneShot) (s : State) : State :=
  s.setLine { s.line with oneShots := s.line.oneShots ++ [o] }

/-- The list holds 4 one-shots. -/
def State.listFull (s : State) : Bool := 4 ≤ s.line.oneShots.length

/-- Service pending is set, and a one-shot for the service fetch is appended, or its fetch deferred (R69). -/
def askService (a : Nat) (s : State) : State :=
  if s.listFull then putStation a { s.line.stations.get a with servicePending := true, deferred := true } s
  else appendOneShot (.service a) (putStation a { s.line.stations.get a with servicePending := true } s)

/-- The SERVICE flag of a good reply (R69). -/
def serviceFlag (a : Nat) (flags : StationFlags) (s : State) : State :=
  when ((s.setup.stations.get a).enabled && flags.service && !(s.line.stations.get a).servicePending)
    (askService a) s

/-- The lowest station with a deferred service fetch (R69). -/
def State.deferredStation (s : State) : Option Nat :=
  (List.range 16).find? fun a => (s.line.stations.get a).deferred

/-- A place freed at the head serves a deferred service fetch first (R66, R69). -/
def serveDeferred (s : State) : State :=
  match s.deferredStation with
  | some a =>
    if s.listFull then s
    else
      appendOneShot (.service a)
        (s.setLine { s.line with
          stations := s.line.stations.set a { s.line.stations.get a with deferred := false } })
  | none => s

/-- The head leaves the list (R66). -/
def leaveHead (s : State) : State :=
  serveDeferred (s.setLine { s.line with oneShots := s.line.oneShots.drop 1 })

/-- A service fetch ends (R70): service pending is cleared, and an OK reply fills the mailbox. -/
def endService (a : Nat) (o : LineOutcome) (words : List Word) (s : State) : State :=
  let x := { s.line.stations.get a with servicePending := false, deferred := false }
  if o = .ok then
    post .stationService a 0
      (putStation a { x with
        mailboxLength := words.length
        mailbox := Table.tabulate 8 fun i => words.getD i 0#16 } s)
  else putStation a x s

/-- The result body of a STATION_TRANSFER that ends well (R68). -/
def transferBody (o : LineOutcome) (flags : StationFlags) (c : Channel) (attempts : Nat) (words : List Word) :
    List Byte :=
  [byteOf o.code, flags.byte, byteOf (channelCode c), byteOf attempts] ++ words.flatMap wordBytes

/-- A STATION_TRANSFER ends with its transaction (R68). -/
def endTransfer (slot : Nat) (o : LineOutcome) (flags : StationFlags) (c : Channel) (attempts : Nat)
    (words : List Word) (s : State) : State :=
  if o.good then slotDone slot (transferBody o flags c attempts words) s
  else slotFailed slot .noReply o.code [byteOf (channelCode c), byteOf attempts] s

/-! ### The message log (R71, R72) -/

/-- Writes a log record at the head, and advances the head (R72). -/
def appendLog (r : LogRecord) (s : State) : State :=
  let h := s.line.logHead
  let t := writeStatus (s.setLine { s.line with
    log := s.line.log.set h.toNat { r with upd := bump (s.line.log.get h.toNat).upd }
    logHead := h + 1#8
    logWrap := if h = 255#8 then s.line.logWrap + 1#16 else s.line.logWrap })
  if h = 127#8 then post .logHalf 0 0 t else if h = 255#8 then post .logWrap 0 0 t else t

/-- The entry index of a log record: 255 for a one-shot (R71). -/
def Purpose.entryIndex : Purpose → Nat
  | .entry e => e
  | .probe e => e
  | .oneShot => 255

/-- The first two words of a log record (R71). -/
def Transaction.loggedWords (t : Transaction) (o : LineOutcome) (attempts : Nat) (fetched : List Word) : List Word :=
  match t.dir with
  | .fetch => if o = .ok then fetched else []
  | .deliver => if attempts = 0 then [] else t.words

/-- The log record of a transaction or probe (R71). -/
def State.recordOf (s : State) (t : Transaction) (o : LineOutcome) (c : Channel) (attempts : Nat)
    (flags : StationFlags) (fetched : List Word) : LogRecord :=
  let words := t.loggedWords o attempts fetched
  { entry := t.purpose.entryIndex, time := s.time, station := t.station, block := t.block, dir := t.dir
    length := t.length
    probe := match t.purpose with
      | .probe _ => true
      | _ => false
    channel := c, attempts, outcome := o, flags, word0 := words.getD 0 0#16, word1 := words.getD 1 0#16 }

/-- Whether a transaction or probe is logged (R71). -/
def State.logged (s : State) (t : Transaction) (o : LineOutcome) (attempts : Nat) : Bool :=
  match t.purpose with
  | .entry e => (s.setup.schedule.get e).logPolicy.logs o attempts
  | .probe e => (s.setup.schedule.get e).logPolicy.logs o 1
  | .oneShot => true

/-- Logs a transaction or probe as its policy calls for. -/
def logEnd (t : Transaction) (o : LineOutcome) (c : Channel) (attempts : Nat) (flags : StationFlags)
    (fetched : List Word) (s : State) : State :=
  when (s.logged t o attempts) (appendLog (s.recordOf t o c attempts flags fetched)) s

/-- The overrun count rises (R60). -/
def countOverrun (s : State) : State :=
  writeStatus (s.setLine { s.line with overrun := saturate 65535 s.line.overrun })

/-! ### The end of a transaction (R44, R61) -/

/-- The words of an OK FETCH of an entry go to its signals (R4, R61). -/
def deliverWords (e : Nat) (words : List Word) (s : State) : State :=
  let u := s.setup.schedule.get e
  forEach (List.range u.count)
    (fun i t => when t.inRun (deliverValue (u.first + i) (words.getD i 0#16)) t) s

/-- The signals of a transaction or probe that ends (R61). -/
def deliverEnd (t : Transaction) (o : LineOutcome) (fetched : List Word) (s : State) : State :=
  match t.purpose with
  | .entry e => when (o = .ok && t.dir = .fetch) (deliverWords e fetched) s
  | .probe e => when (o = .ok) (deliverWords e fetched) s
  | .oneShot => s

/-- The end of a one-shot beside what every transaction does (R66, R68, R70): the head leaves, and its fetch or its
request ends. The SERVICE flag is acted on after a service fetch has ended and before a slot's result is written. DESIGN
CHOICE (assumption 56): the head is freed first, and a deferred fetch takes the place, before the SERVICE flag of the
one-shot that ended is acted on. -/
def endOneShot (a : Nat) (o : LineOutcome) (flags : StationFlags) (c : Channel) (attempts : Nat) (fetched : List Word)
    (s : State) : State :=
  match s.line.oneShots with
  | .service b :: _ => serviceFlag a flags (endService b o fetched (leaveHead s))
  | .transfer slot _ _ _ _ _ :: _ => endTransfer slot o flags c attempts fetched (serviceFlag a flags (leaveHead s))
  | [] => serviceFlag a flags s

/-- The channel of the final attempt. -/
def finalChannel (made : List (Channel × LineOutcome)) (fallback : Channel) : Channel :=
  match made with
  | (c, _) :: _ => c
  | [] => fallback

/-- A transaction ends (R44, R61). `flags` and `fetched` are those of a good final attempt. R61 orders the steps of a
scheduled transaction, and R68 has a slot's result before the log record. DESIGN CHOICE (assumption 56): the health counts
(R47) move before those steps, and a one-shot keeps their order, so that the station record and its STATION_CHANGE notice
(R63) come before the end of the one-shot, its STATION_SERVICE or its REQUEST_DONE notice. -/
def endTransaction (t : Transaction) (o : LineOutcome) (flags : StationFlags) (fetched : List Word) (s : State) :
    State :=
  let c := finalChannel t.made s.normalChannel
  let served := moveStation t.station t.made flags
    (deliverEnd t o fetched
      (moveHealth t.made (s.setLine { s.line with transaction := none })))
  let closed :=
    if t.purpose = .oneShot then endOneShot t.station o flags c t.made.length fetched served
    else serviceFlag t.station flags served
  logEnd t o c t.made.length flags fetched closed

/-- The time at which the present minor cycle ends holds an attempt of `length` words from now (R60). -/
def State.fits (s : State) (length : Nat) : Bool :=
  match s.line.minorNext with
  | some ends => s.now + attemptBudget s.setup.settings.timeoutCode length ≤ ends
  | none => false

/-- The probe that follows a transaction (R49), if one does. -/
def State.probeAfter (s : State) (t : Transaction) (o : LineOutcome) : Option Transaction :=
  match t.purpose, t.made with
  | .entry e, (c, _) :: _ =>
    if s.inRun && s.line.minor = 0 && !s.line.probeMade && t.dir = .fetch && o = .ok &&
        !(s.line.health c).failed && (s.line.health (otherChannel c)).failed && s.fits t.length then
      some { t with purpose := .probe e, made := [(c, o)] }
    else none
  | _, _ => none

/-- The probe of R49 is set down to follow the turnaround. -/
def setProbe (t : Transaction) (o : LineOutcome) (s : State) : State :=
  match s.probeAfter t o with
  | some p => s.setLine { s.line with probeNext := some p, probeMade := true }
  | none => s

/-- A probe ends (R49, R62). -/
def endProbe (t : Transaction) (c : Channel) (o : LineOutcome) (flags : StationFlags) (fetched : List Word)
    (s : State) : State :=
  let u := s.setup.stations.get t.station
  let told := when (u.enabled && o.good)
    (fun t' => changeStation t.station { t'.line.stations.get t.station with flags } t')
    (deliverEnd t o fetched
      (moveProbeHealth c o (s.setLine { s.line with transaction := none })))
  logEnd t o c 1 flags fetched (serviceFlag t.station flags told)

/-! ### Emptying the list (R73) -/

/-- A listed one-shot is dropped as the part leaves RUN. -/
def abortOneShot (o : OneShot) (s : State) : State :=
  match o with
  | .transfer slot _ _ _ _ _ => slotFailed slot .aborted 0 [] s
  | .service _ => s

/-- A station's service pending and deferred fetch are cleared. -/
def clearPending (a : Nat) (s : State) : State :=
  when (s.line.stations.get a).servicePending
    (fun t => putStation a { t.line.stations.get a with servicePending := false, deferred := false } t) s

/-- The one-shot list is emptied (R73). DESIGN CHOICE (assumption 58): the listed transfers fail from the head to the
tail, and the service pendings are cleared after them, from station 0 to 15. -/
def emptyList (s : State) : State :=
  forEach (List.range 16) clearPending
    (s.line.oneShots.foldl (fun t o => abortOneShot o t) (s.setLine { s.line with oneShots := [] }))

/-! ### Starting attempts (R59, R60, R62, R66) -/

/-- The poll frame goes out on a channel (R38, R39). -/
def startAttempt (c : Channel) (t : Transaction) (s : State) : State :=
  let poll := pollFrame t.station t.block t.dir t.length t.words
  s.setLine { s.line with
    transaction := some t
    phase := .reply { channel := c, start := s.now, poll, received := []
                      lastEnd := s.now + Config.lineChar * poll.length } }

/-- The first attempt of a transaction: the current channel is set (R46). -/
def startFirst (c : Channel) (t : Transaction) (s : State) : State :=
  startAttempt c t (s.setLine { s.line with current := some c })

/-- One word of a SIGNALS DELIVER (R62). -/
def State.deliveredWord (s : State) (src : DeliverSource) (n : Nat) : Word :=
  if src = .usableOnly && !(s.signals.get n).status.usable then BitVec.ofInt 16 (-32768) else (s.signals.get n).value

/-- The summary block (R62, R193). -/
def State.summaryWords (s : State) : List Word :=
  let door := fun d => (s.doors.doors.get d).state.code
  [BitVec.ofNat 16 (door 0 + 16 * door 1 + 256 * door 2 + 4096 * door 3),
   BitVec.ofNat 16 (s.doors.interlock.code + 16 * s.doors.reasons.door.toNat + 32 * s.doors.reasons.ramp.toNat +
     64 * s.doors.reasons.release.toNat),
   BitVec.ofNat 16 s.doors.motion.code,
   BitVec.ofNat 16 s.comp.record.active]

/-- The words of a DELIVER entry as they stand (R62). -/
def State.entryWords (s : State) (u : PollEntry) : List Word :=
  match u.dataKind with
  | .summary => s.summaryWords
  | .signals => (List.range u.length).map fun i =>
      if i < u.count then s.deliveredWord (s.setup.stations.get u.station).deliverSource (u.first + i) else 0#16

/-- The transaction of a schedule entry (R57). -/
def State.entryTransaction (s : State) (e : Nat) : Transaction :=
  let u := s.setup.schedule.get e
  let dir := u.direction.getD .fetch
  { purpose := .entry e, station := u.station, block := u.block, dir, length := u.length
    words := if dir = .deliver then s.entryWords u else []
    retries := u.retries, retryChannel := u.retryChannel, made := [] }

/-- The transaction of a one-shot (R66, R69). -/
def State.oneShotTransaction (s : State) (o : OneShot) : Transaction :=
  let g := s.setup.settings
  match o with
  | .transfer _ station block dir length words =>
    { purpose := .oneShot, station, block, dir, length, words, retries := g.retries, retryChannel := g.retryChannel
      made := [] }
  | .service a =>
    { purpose := .oneShot, station := a, block := 31, dir := .fetch, length := (s.setup.stations.get a).serviceLength
      words := [], retries := g.retries, retryChannel := g.retryChannel, made := [] }

/-- The one-shot list is run: the head starts where it fits (R66). -/
def runList (s : State) : State :=
  match s.line.oneShots with
  | o :: _ => when (s.fits (s.oneShotTransaction o).length) (startFirst s.normalChannel (s.oneShotTransaction o)) s
  | [] => s

/-- A scheduled entry is SKIPPED before its first attempt (R60). -/
def skipEntry (e : Nat) (s : State) : State :=
  countOverrun (logEnd (s.entryTransaction e) .skipped s.entryChannel 0 {} [] s)

/-- The walk goes on with the entries of a list, and then with the one-shot list (R59, R60, R66). -/
def walkOn : List Nat → State → State
  | [], s => runList (s.setLine { s.line with walk := [] })
  | e :: rest, s =>
    if s.fits (s.setup.schedule.get e).length then
      startFirst s.entryChannel (s.entryTransaction e) (s.setLine { s.line with walk := rest })
    else walkOn rest (skipEntry e s)

/-- The next entry or one-shot starts where the line is free in RUN. -/
def startNext (s : State) : State := when s.inRun (fun t => walkOn t.line.walk t) s

/-! ### Minor cycles (R58) -/

/-- The start of a minor cycle at an instant. -/
def startMinor (m due : Nat) (s : State) : State :=
  startNext (s.setLine { s.line with
    minor := m
    minorNext := some (due + 1000 * s.setup.settings.cycleLength)
    walk := s.setup.dueIn m
    search := if m = 0 then s.line.search.map otherChannel else s.line.search
    probeMade := s.line.probeMade && m ≠ 0 })

/-- The minor cycle timer, with the line idle (R58). -/
def State.minorDue (s : State) : Option Nat :=
  if s.inRun && s.line.phase = .idle then s.line.minorNext else none

/-- The next minor cycle starts (R58). -/
def minorExpires (s : State) : State :=
  onTimer s.minorDue (fun due t => startMinor ((t.line.minor + 1) % 8) due t) s

/-! ### The end of an attempt (R43, R44) -/

/-- The flags of a good reply, and the words of an OK FETCH (R42). -/
def replyHandover (t : Transaction) (o : LineOutcome) (received : List Byte) : StationFlags × List Word :=
  (if o.good then .ofByte (received.getD 1 0#8) else {},
   if o = .ok ∧ t.dir = .fetch then replyWords t.length received else [])

/-- An attempt of a transaction has ended with an outcome (R44). -/
def attemptEnded (t : Transaction) (c : Channel) (o : LineOutcome) (received : List Byte) (s : State) : State :=
  let h := replyHandover t o received
  let made := { t with made := (c, o) :: t.made }
  match t.purpose with
  | .probe _ => endProbe t c o h.1 h.2 s
  | _ =>
    if o.good || t.retries ≤ t.made.length || !s.inRun then
      setProbe made o (endTransaction made o h.1 h.2 s)
    else s.setLine { s.line with transaction := some made }

/-- The attempt ends now: the turnaround starts (R43), and out of RUN the one-shot list is emptied (R52, R73). -/
def endAttempt (a : Attempt) (o : LineOutcome) (s : State) : State :=
  let turned := s.setLine { s.line with phase := .turnaround (s.now + Config.turnaround) }
  match s.line.transaction with
  | some t => when (!s.inRun) emptyList (attemptEnded t a.channel o a.received turned)
  | none => turned

/-- The instant the window of an attempt closes (R41). -/
def State.windowClose (s : State) (a : Attempt) : Nat :=
  let length := match s.line.transaction with
    | some t => t.length
    | none => 0
  a.start + attemptWindow s.setup.settings.timeoutCode length

/-- The latest instant at which the first character may begin (R41). -/
def State.replyBy (s : State) (a : Attempt) : Nat :=
  a.start + Config.lineChar * a.poll.length + Config.responseTimeout s.setup.settings.timeoutCode

/-- The response timeout runs out: NO_RESPONSE (R41, R43). -/
def responseExpires (s : State) : State :=
  match s.line.phase with
  | .reply a => if a.received.isEmpty then endAttempt a .noResponse (s.reach (s.replyBy a)) else s
  | _ => s

/-- An outcome is fixed, and the attempt holds its channel until the window closes (R43). -/
def hold (a : Attempt) (o : LineOutcome) (s : State) : State := s.setLine { s.line with phase := .holding a o }

/-- The window closes (R41, R43). -/
def windowExpires (s : State) : State :=
  match s.line.phase with
  | .reply a => if a.received.isEmpty then s else endAttempt a .incomplete (s.reach (s.windowClose a))
  | .holding a o => endAttempt a o (s.reach (s.windowClose a))
  | _ => s

/-- 88 µs pass inside a reply without the next character beginning: INCOMPLETE (R41). -/
def gapExpires (s : State) : State :=
  match s.line.phase with
  | .reply a =>
    if a.received.isEmpty || s.windowClose a < a.lastEnd + Config.replyGap then s
    else hold a .incomplete (s.reach (a.lastEnd + Config.replyGap))
  | _ => s

/-- The instant a reply character begins, `gap` µs after the end of the one before; it ends no earlier than now. -/
def State.characterBegins (s : State) (a : Attempt) (gap : Nat) : Nat :=
  max (a.lastEnd + gap) (s.now - Config.lineChar)

/-- A character of a channel is one that an attempt listens to: it awaits a reply on that channel, and the character
does not begin before the poll frame or the character before it has ended (R37). -/
def Attempt.listens (a : Attempt) (c : Channel) (gap : Int) : Bool := a.channel = c && 0 ≤ gap

/-- A reply character that has arrived in time is judged (R38, R42). -/
def judgeCharacter (a : Attempt) (ends : Nat) (data : Byte) (headerMark stopBit : Bool) (s : State) : State :=
  if !stopBit || headerMark ≠ a.received.isEmpty then hold a .characterError (s.reach ends)
  else
    let b : Attempt := { a with received := a.received ++ [data], lastEnd := ends }
    match s.line.transaction with
    | some t =>
      if replyComplete t.dir t.length b.received then
        endAttempt b (judgeReply t.station b.received) (s.reach ends)
      else (s.reach ends).setLine { s.line with phase := .reply b }
    | none => s

/-- A reply character arrives (R37, R38, R41). A character on the other channel, during the part's own poll frame or
while no reply is awaited changes nothing. A character that begins too late finds the outcome fixed before it, and is
ignored. -/
def replyCharacterArrives (c : Channel) (gap : Int) (data : Byte) (headerMark stopBit : Bool) (s : State) : State :=
  match s.line.phase with
  | .reply a =>
    if !a.listens c gap then s
    else
      let begins := s.characterBegins a gap.toNat
      if a.received.isEmpty && s.replyBy a < begins then responseExpires s
      else if !a.received.isEmpty && a.lastEnd + Config.replyGap < begins &&
          a.lastEnd + Config.replyGap ≤ s.windowClose a then gapExpires s
      else if s.windowClose a < begins + Config.lineChar then windowExpires s
      else judgeCharacter a (begins + Config.lineChar) data headerMark stopBit s
  | _ => s

/-! ### The turnaround (R43 to R45) -/

/-- A retry that is due starts, or the transaction ends SKIPPED where it does not fit (R44, R45, R60). -/
def retryDue (t : Transaction) (s : State) : State :=
  let c := finalChannel t.made s.normalChannel
  if s.fits t.length then
    startAttempt (retryOn t.retryChannel c (s.line.health (otherChannel c)).failed) t s
  else startNext (countOverrun (endTransaction t .skipped {} [] s))

/-- A probe that is due starts on the FAILED channel, where it fits (R49, R60). -/
def probeDue (p : Transaction) (s : State) : State :=
  let t := s.setLine { s.line with probeNext := none }
  if s.fits p.length then
    startAttempt (otherChannel (finalChannel p.made s.normalChannel)) { p with made := [] } t
  else startNext t

/-- The turnaround ends, and the next attempt may start (R43). -/
def turnaroundExpires (s : State) : State :=
  match s.line.phase with
  | .turnaround ends =>
    let t := (s.reach ends).setLine { s.line with phase := .idle }
    match t.line.transaction, t.line.probeNext with
    | some x, _ => retryDue x t
    | none, some p => probeDue p t
    | none, none => startNext t
  | _ => s

/-! ### Leaving RUN, wake, soft reset and RUN entry -/

/-- A retry that waits out the turnaround as the part leaves RUN is not started: the transaction ends with the
outcome of the attempt made (R52). -/
def endWaiting (s : State) : State :=
  match s.line.phase, s.line.transaction with
  | .turnaround _, some t =>
    (match t.made with
      | (_, o) :: _ => endTransaction t o {} [] s
      | [] => s)
  | _, _ => s

/-- An attempt is in progress on the line. -/
def LinePhase.attempting : LinePhase → Bool
  | .reply _ | .holding _ _ => true
  | _ => false

/-- The body line when the part leaves RUN (R52, R73): the walk and the minor cycle timer stop, an attempt in
progress runs on, and with none the list is emptied at once. -/
def stopLine (s : State) : State :=
  let t := s.setLine { s.line with walk := [], minorNext := none, probeNext := none }
  if t.line.phase.attempting then t else emptyList (endWaiting t)

/-- The line is cut (R52): no outcome, nothing handed on. -/
def BodyLine.cut (b : BodyLine) : BodyLine :=
  { b with phase := .idle, transaction := none, probeNext := none, walk := [], minorNext := none, oneShots := [] }

/-- A station at wake, soft reset or RUN entry: its record is written (R74). -/
def Station.blanked (x : Station) (state : StationState) : Station := { state, upd := bump x.upd }

/-- The line at wake, soft reset or RUN entry (R53, R74): the log, its head and its wrap count are kept, and entry 0
of the station records stays zero (R65). -/
def BodyLine.blanked (b : BodyLine) (states : Nat → StationState) (current : Option Channel) : BodyLine :=
  { stations := Table.tabulate 16 fun a => if a = 0 then {} else (b.stations.get a).blanked (states a)
    current, log := b.log, logHead := b.logHead, logWrap := b.logWrap }

/-- The state of a station at RUN entry (R74). -/
def Setup.stationAtEntry (u : Setup) (a : Nat) : StationState :=
  if (u.stations.get a).enabled then .unknown else .unused

end Sys2Proof.Machine
end

