-- ==== Sys2Proof/Machine/Formats.lean ====
section
/-! DEFINITION. The records of the part as bytes. R186 to R192 lay out the port registers, the notice, the signal
entry, the fault record, the log record and the composition record; for the other records the spec lists the fields
and this model takes them in that order, the update count first (assumption 4). -/

namespace Sys2Proof.Machine

/-- A number as four bytes, low byte first. -/
def longOf (n : Nat) : List Byte := timeBytes (BitVec.ofNat 32 n)

/-- A set of flags as a byte, from bit 0 upward (R185). -/
def flagByte : List Bool → Nat
  | [] => 0
  | b :: rest => b.toNat + 2 * flagByte rest

/-- R188. -/
def Notice.bytes (n : Notice) : List Byte :=
  [byteOf n.kind.code, n.index] ++ wordBytes n.detail ++ timeBytes n.time

/-- R189. -/
def Signal.bytes (x : Signal) : List Byte :=
  wordBytes x.value ++ wordBytes x.underlying ++ [byteOf x.status.code, x.upd] ++ wordBytes x.lastUpdate

/-- A snapshot entry of R190. -/
def SnapshotEntry.bytes (e : SnapshotEntry) : List Byte := [byteOf e.index, byteOf e.status.code] ++ wordBytes e.value

/-- R190, the fields from the snapshot on. -/
def FaultRecord.bytes (r : FaultRecord) : List Byte :=
  padTo 64 ([r.upd, byteOf r.status.code] ++ wordOf r.code ++ [byteOf r.origin, byteOf r.occurrences, byteOf r.aging,
    0#8] ++ wordBytes r.firstCycle ++ wordBytes r.lastCycle ++ timeBytes r.firstTime ++ timeBytes r.lastTime ++
    r.snapshot.cells.flatMap SnapshotEntry.bytes)

/-- Offset 9 of a log record (R191). -/
def LogRecord.attemptByte (r : LogRecord) : Byte :=
  byteOf (r.attempts % 4 + 4 * channelCode r.channel + 8 * r.probe.toNat)

/-- R191. -/
def LogRecord.bytes (r : LogRecord) : List Byte :=
  [r.upd, byteOf r.entry] ++ timeBytes r.time ++
    [byteOf r.station, blockCharacter r.block r.dir, byteOf r.length, r.attemptByte, byteOf r.outcome.code,
     r.flags.byte] ++ wordBytes r.word0 ++ wordBytes r.word1

/-- A slot entry of R192. -/
def SlotEntry.bytes (e : SlotEntry) : List Byte :=
  [byteOf e.kind.code, byteOf e.index] ++ wordOf e.textId ++
    [byteOf e.cls.code, byteOf e.priority, byteOf e.acked.toNat, 0#8]

/-- R192. -/
def CompositionUnit.bytes (c : CompositionUnit) : List Byte :=
  let r := c.record
  padTo 64 ([c.upd, byteOf r.displayLost.toNat, r.bannerMask.setWidth 8, byteOf r.pattern.code, byteOf r.active,
    byteOf r.unacked, 0#8, 0#8] ++ timeBytes r.changed ++ r.top.bytes ++ r.second.bytes ++ r.third.bytes)

/-! ### Records whose fields the spec lists (assumption 4) -/

/-- The fields of R65. -/
def Station.bytes (x : Station) : List Byte :=
  padTo 32 ([x.upd, byteOf x.state.code, byteOf x.failures, x.flags.byte] ++ wordOf x.good ++ wordOf x.failed ++
    timeBytes x.lastGood ++ [byteOf x.servicePending.toNat, byteOf x.mailboxLength] ++
    x.mailbox.cells.flatMap wordBytes)

/-- The band or class field of R27: IN_LIMITS 0, a band or a fault class by its number. -/
def Shown.code : Shown → Nat
  | .zero => 0
  | .band b => b
  | .inLimits => 0
  | .fault c => c.code

/-- The fields of R27 in its 8 bytes. DESIGN CHOICE (assumption 4): the flags byte stands at offset 1, out of the order in
which R27 lists the fields, so that the two words stand on even offsets; byte 6 holds the band or class in its lower four
bits and the fault class in its upper four, and byte 7 the change count. -/
def SenseChannel.bytes (x : SenseChannel) : List Byte :=
  [x.upd, byteOf (flagByte [x.settled, decide (x.faultClass ≠ .none), x.check.isSome, decide (0 < x.debounce)])] ++
    wordBytes x.logical ++ wordBytes x.reading ++ [byteOf (x.shown.code + 16 * x.faultClass.code), x.changeCount]

/-- The flags of R148. -/
def Gauge.flags (g : Gauge) : List Bool :=
  [g.known, g.holdTimer.any fun h => h.1 = .stale, g.holdTimer.any fun h => h.1 = .firstData,
   g.sweep.any fun w => w.back]

/-- The fields of R148. -/
def Gauge.bytes (g : Gauge) : List Byte :=
  padTo 16 ([g.upd, byteOf g.state.code] ++ wordOf g.target ++ longOf g.filtered ++ wordOf g.command ++
    wordOf g.needle ++ [byteOf (flagByte g.flags)])

/-- The one word of R127. DESIGN CHOICE (assumption 4): the command stands in bits 0 and 1, the proof state in bits 2 and
3, and the duty, of 10 bits, from bit 4 on. -/
def Lamp.bytes (x : Lamp) : List Byte := wordOf (x.command.code + 4 * x.proof.code + 16 * x.duty)

/-- A reading of a leaf (R87): closed 0, not closed 1, none 2. -/
def leafCode : Option Bool → Nat
  | some true => 0
  | some false => 1
  | none => 2

/-- The phase view (R77, R87): the phase's value, and 5 for none. -/
def phaseCode : Option Phase → Nat
  | some .idleClosed => 0
  | some .opening => 1
  | some .opened => 2
  | some .closing => 3
  | some .reversing => 4
  | none => 5

/-- The fields of R87. A record that nothing has written since power-on is zero (R96, R202). -/
def Door.bytes (x : Door) : List Byte :=
  if !x.written then List.replicate 32 0#8
  else
    padTo 32 ([x.upd, byteOf x.state.code, byteOf x.proven.toNat, byteOf (flagByte [x.disagree, x.movingOpen]),
      byteOf (flagByte [x.viewLost, x.opened, x.obstructed]), byteOf (leafCode x.leaf1), byteOf (leafCode x.leaf2),
      byteOf (phaseCode x.phase)] ++ longOf x.cycles ++ wordOf x.obstructions ++ timeBytes x.lastChange)

/-- The fields of R95. A record that nothing has written since power-on is zero (R96, R202). -/
def DoorUnit.bytes (u : DoorUnit) : List Byte :=
  if !u.written then List.replicate 32 0#8
  else
    padTo 32 ([u.upd, byteOf u.motion.code, byteOf u.speedSource.code] ++ wordOf u.speed ++
      [byteOf u.stopTimer.isSome.toNat, byteOf u.interlock.code,
       byteOf (flagByte [u.reasons.door, u.reasons.ramp, u.reasons.release]), byteOf u.override.toNat] ++
      wordOf u.releaseDelay ++ timeBytes u.motionTime ++ timeBytes u.interlockTime)

/-- The fields of R112 in the entry's 8 bytes. DESIGN CHOICE (assumption 4): the byte the seven of fields leave over
reads 0 and stands at offset 5, so that the activation time is the word at 6. -/
def Warning.bytes (w : Warning) : List Byte :=
  [w.upd, byteOf w.state.code, byteOf (flagByte [w.acked, w.condition, w.boosted, w.forcedOccurrence]),
   byteOf w.priority, byteOf w.occurrences, 0#8] ++ wordBytes (w.activation.setWidth 16)

/-- The table sizes of section 1.5, in its order: request slots, notice entries, station entries, poll schedule entries,
signals, sense channels, gauges, lamps, doors, warnings, fault records and log records. The last takes two bytes. -/
def tableSizes : List Byte :=
  [16#8, 128#8, 16#8, 64#8, 128#8, 48#8, 6#8, 32#8, 4#8, 96#8, 48#8] ++ wordOf 256

/-- The fields of the status block (R179), in the order of its table. -/
def State.statusBytes (s : State) (faultCount : Nat) : List Byte :=
  padTo 256 ([s.port.statusUpd] ++ wordBytes Config.partCode ++ [Config.revision] ++
    tableSizes ++
    [byteOf s.run.state.code, byteOf s.run.ignition.toNat] ++ wordBytes s.run.ignitionCycle ++
    wordBytes s.sense.supplyMv ++ [byteOf s.sense.supplyLow.toNat, byteOf s.run.lastResult.code] ++
    wordOf s.run.lastDetail ++
    [byteOf s.line.healthA.count, byteOf s.line.healthA.failed.toNat, byteOf s.line.healthB.count,
     byteOf s.line.healthB.failed.toNat, byteOf s.line.summary.code] ++ wordOf s.line.overrun ++
    [s.line.logHead] ++ wordBytes s.line.logWrap ++ [byteOf faultCount, byteOf s.faults.full.toNat,
     byteOf s.run.memoryLost.toNat, byteOf s.shop.session.code, byteOf s.shop.forced.length] ++
    wordBytes s.port.sweepCount)

end Sys2Proof.Machine
end

