-- ==== Sys2Proof/Machine/Workshop.lean ====
section
/-! DEFINITION. The workshop port (chapter 10): the receiver, the judgement of a request, and the thirteen services. -/

namespace Sys2Proof.Machine

/-- The result codes of the workshop services, numbered in the order of chapter 10 (R165, R194). -/
inductive ShopResult where
  | accepted
  | unknownService
  | notInSession
  | levelTooLow
  | badLength
  | outOfRange
  | signalProtected
  | limitReached
  | busy
  | conditionsNotMet
  deriving DecidableEq, Repr

def ShopResult.code : ShopResult → Nat
  | .accepted => 0
  | .unknownService => 1
  | .notInSession => 2
  | .levelTooLow => 3
  | .badLength => 4
  | .outOfRange => 5
  | .signalProtected => 6
  | .limitReached => 7
  | .busy => 8
  | .conditionsNotMet => 9

/-- The thirteen services (R194). -/
inductive Service where
  | identify
  | openSession
  | closeSession
  | readSignals
  | readFaults
  | readFaultSnapshot
  | clearFaults
  | forceSignal
  | releaseSignal
  | actuatorTest
  | readDoorCounters
  | resetDoorCounter
  | readLog
  deriving DecidableEq, Repr

def Service.code : Service → Nat
  | .identify => 1
  | .openSession => 2
  | .closeSession => 3
  | .readSignals => 4
  | .readFaults => 5
  | .readFaultSnapshot => 6
  | .clearFaults => 7
  | .forceSignal => 8
  | .releaseSignal => 9
  | .actuatorTest => 10
  | .readDoorCounters => 11
  | .resetDoorCounter => 12
  | .readLog => 13

/-- The service a code names (R194). -/
def Service.ofCode : Nat → Option Service
  | 1 => some .identify
  | 2 => some .openSession
  | 3 => some .closeSession
  | 4 => some .readSignals
  | 5 => some .readFaults
  | 6 => some .readFaultSnapshot
  | 7 => some .clearFaults
  | 8 => some .forceSignal
  | 9 => some .releaseSignal
  | 10 => some .actuatorTest
  | 11 => some .readDoorCounters
  | 12 => some .resetDoorCounter
  | 13 => some .readLog
  | _ => none

/-- Data character `i` of a request as a number. -/
def dataAt (data : List Byte) (i : Nat) : Nat := (data.getD i 0#8).toNat

/-- The level a service needs (R165); ACTUATOR_TEST needs READ for its test STATUS only. DESIGN CHOICE (assumption 64):
a frame of it with no test character, or with none of the four tests, needs SERVICE. -/
def Service.level (v : Service) (data : List Byte) : Session :=
  match v with
  | .identify | .openSession => .detached
  | .closeSession | .readSignals | .readFaults | .readFaultSnapshot | .readDoorCounters | .readLog => .read
  | .clearFaults | .forceSignal | .releaseSignal | .resetDoorCounter => .service
  | .actuatorTest => if data ≠ [] ∧ dataAt data 0 = 3 then .read else .service

/-- The data length suits the service (R165). -/
def Service.suits (v : Service) (length : Nat) : Bool :=
  match v with
  | .identify | .closeSession | .readDoorCounters => length = 0
  | .openSession | .actuatorTest => length = 2
  | .readSignals => 1 ≤ length && length ≤ 16
  | .readFaults | .readFaultSnapshot | .releaseSignal | .resetDoorCounter | .readLog => length = 1
  | .clearFaults | .forceSignal => length = 3

/-- Tests 2 to 4 of R165: the first that fails. -/
def Service.refusal (v : Service) (session : Session) (data : List Byte) : Option ShopResult :=
  if session = .detached && v ≠ .identify && v ≠ .openSession then some .notInSession
  else if session.code < (v.level data).code then some .levelTooLow
  else if !v.suits data.length then some .badLength
  else none

/-- What a service answers: its result, its data, and the state after it. -/
abbrev Served := ShopResult × List Byte × State

/-- A service refused by its own conditions changes nothing (R165). -/
def declined (r : ShopResult) (s : State) : Served := (r, [], s)

/-! ### Services that read (R169, R170) -/

/-- IDENTIFY (R169). -/
def serveIdentify (s : State) : Served :=
  (.accepted,
   wordBytes Config.partCode ++ [Config.revision, byteOf s.run.state.code] ++ wordBytes s.run.ignitionCycle ++
     [byteOf s.shop.session.code, byteOf s.shop.rate.code],
   s)

/-- READ_SIGNALS (R169). -/
def serveReadSignals (data : List Byte) (s : State) : Served :=
  if data.any fun b => 127 < b.toNat then declined .outOfRange s
  else
    (.accepted,
     data.flatMap fun b => wordBytes (s.signals.get b.toNat).value ++ [byteOf (s.signals.get b.toNat).status.code],
     s)

/-- One record of READ_FAULTS (R170). -/
def State.faultLine (s : State) (i : Nat) : List Byte :=
  let r := s.faults.records.get i
  [byteOf i, byteOf r.status.code] ++ wordOf r.code ++ [byteOf r.origin, byteOf r.occurrences, byteOf r.aging]

/-- READ_FAULTS (R170). -/
def serveReadFaults (data : List Byte) (s : State) : Served :=
  if 11 < dataAt data 0 then declined .outOfRange s
  else
    (.accepted,
     ((List.range 4).flatMap fun k => s.faultLine (4 * dataAt data 0 + k)) ++
       [byteOf s.faultCount, byteOf s.faults.full.toNat],
     s)

/-- READ_FAULT_SNAPSHOT (R169). -/
def serveReadFaultSnapshot (data : List Byte) (s : State) : Served :=
  if 47 < dataAt data 0 then declined .outOfRange s
  else
    let r := s.faults.records.get (dataAt data 0)
    (.accepted,
     [byteOf r.status.code] ++ wordOf r.code ++ [byteOf r.origin, byteOf r.occurrences, byteOf r.aging] ++
       wordBytes r.firstCycle ++ wordBytes r.lastCycle ++ timeBytes r.firstTime ++ timeBytes r.lastTime ++
       r.snapshot.cells.flatMap SnapshotEntry.bytes,
     s)

/-- READ_DOOR_COUNTERS (R169). -/
def serveReadDoorCounters (s : State) : Served :=
  (.accepted,
   (List.range 4).flatMap fun d =>
     [byteOf (s.setup.doors.get d).enabled.toNat] ++ longOf (s.doors.doors.get d).cycles ++
       wordOf (s.doors.doors.get d).obstructions,
   s)

/-- The log record `k` places behind the head (R170). -/
def BodyLine.behindHead (b : BodyLine) (k : Nat) : LogRecord := b.log.get (b.logHead - BitVec.ofNat 8 k).toNat

/-- READ_LOG (R170). -/
def serveReadLog (data : List Byte) (s : State) : Served :=
  if 85 < dataAt data 0 then declined .outOfRange s
  else
    (.accepted,
     ((List.range 3).flatMap fun k => (s.line.behindHead (3 * dataAt data 0 + k + 1)).bytes) ++
       [s.line.logHead] ++ wordBytes s.line.logWrap,
     s)

/-! ### The session (R166) -/

/-- The conditions of a SERVICE session (R166). -/
def State.serviceConditions (s : State) : Bool := s.inRun && s.doors.motion = .stopped && s.brakeSet

/-- The session opens, or is promoted, at a level (R166, R168). -/
def raiseSession (level : Session) (s : State) : State :=
  postLevel (writeStatus (s.setShop { s.shop with
    session := level
    tests := if s.shop.session = .detached then {} else s.shop.tests }))

/-- The session takes a granted level: it opens, is promoted, is demoted, or stays (R166). -/
def grantSession (level : Session) (s : State) : State :=
  if s.shop.session = level then s
  else if s.shop.session = .service then demoteSession s
  else raiseSession level s

/-- What every grant does beside (R166): the idle timer, and the rate after the answer. -/
def sessionGranted (rate : LineRate) (s : State) : State :=
  s.setShop { s.shop with idleTimer := some (s.inMs Config.sessionIdle), nextRate := some rate }

/-- The line rate of a rate code (R165). -/
def rateOfCode (n : Nat) : LineRate := if n = 0 then .slow else .fast

/-- OPEN_SESSION (R166). -/
def serveOpenSession (data : List Byte) (s : State) : Served :=
  let level := dataAt data 0
  let rate := dataAt data 1
  if (level ≠ 1 && level ≠ 2) || 1 < rate then declined .outOfRange s
  else if level = 2 && !s.serviceConditions then declined .conditionsNotMet s
  else
    (.accepted, [byteOf level],
     sessionGranted (rateOfCode rate) (grantSession (if level = 2 then .service else .read) s))

/-- CLOSE_SESSION (R166). -/
def serveCloseSession (s : State) : Served := (.accepted, [], endSession .session true s)

/-! ### Forces (R171) -/

/-- The protected signals (R171). -/
def Setup.signalProtectedSignal (u : Setup) (n : Nat) : Bool :=
  (u.enabledDoors.any fun d => (u.doors.get d).phaseSignal = n || (u.doors.get d).obstructionSignal = n) ||
    u.general.isSpeed n || n = u.general.parkingBrake

/-- An index joins the forced set, which is kept ascending. -/
def joinForced (n : Nat) : List Nat → List Nat
  | [] => [n]
  | k :: rest => if n < k then n :: k :: rest else if n = k then k :: rest else k :: joinForced n rest

/-- FORCE_SIGNAL accepted (R8, R171). -/
def forceAccepted (n : Nat) (w : Word) (s : State) : State :=
  writeStatus (placeForce n w (s.setShop { s.shop with forced := joinForced n s.shop.forced }))

/-- FORCE_SIGNAL (R171). -/
def serveForceSignal (data : List Byte) (s : State) : Served :=
  let n := dataAt data 0
  let w := wordOfBytes (data.getD 1 0#8) (data.getD 2 0#8)
  if 127 < n || (s.setup.signals.get n).kind = .none then declined .outOfRange s
  else if s.setup.signalProtectedSignal n then declined .signalProtected s
  else if !s.shop.forced.contains n && 8 ≤ s.shop.forced.length then declined .limitReached s
  else (.accepted, [byteOf (joinForced n s.shop.forced).length], forceAccepted n w s)

/-- Releases some forces of the set (R171). -/
def releaseForces (gone : List Nat) (s : State) : State :=
  writeStatus
    (forEach gone (releaseForce demoteSession)
      (s.setShop { s.shop with forced := s.shop.forced.filter fun n => !gone.contains n }))

/-- The forces a RELEASE_SIGNAL names (R171). -/
def Workshop.named (w : Workshop) (n : Nat) : List Nat :=
  if n = 255 then w.forced else w.forced.filter fun k => k = n

/-- RELEASE_SIGNAL (R171). -/
def serveReleaseSignal (data : List Byte) (s : State) : Served :=
  let n := dataAt data 0
  if 127 < n && n ≠ 255 then declined .outOfRange s
  else
    let gone := s.shop.named n
    (.accepted, [byteOf (s.shop.forced.length - gone.length)],
     if gone.isEmpty then s else releaseForces gone s)

/-! ### Retained records (R172) -/

/-- CLEAR_FAULTS (R172). -/
def serveClearFaults (data : List Byte) (s : State) : Served :=
  let scope := dataAt data 0
  let code := dataAt data 1 + 256 * dataAt data 2
  if 1 < scope || (scope = 1 && code = 0) then declined .outOfRange s
  else
    let which := if scope = 0 then none else some code
    (.accepted, [byteOf (s.clearCounts which).1, byteOf (s.clearCounts which).2], clearFaults which s)

/-- RESET_DOOR_COUNTER (R172). -/
def serveResetDoorCounter (data : List Byte) (s : State) : Served :=
  if 3 < dataAt data 0 then declined .outOfRange s
  else (.accepted, [byteOf (dataAt data 0)], resetCounters (dataAt data 0) s)

/-! ### Actuator tests (R173) -/

/-- A gauge set that is empty, goes beyond gauge 5, or names a gauge not in use (R145). -/
def Setup.badSet (u : Setup) (set : BitVec 8) : Bool :=
  set = 0#8 || 64 ≤ set.toNat || (gaugesIn set).any fun i => !(u.gauges.get i).inUse

/-- A gauge of a set is SWEEPING or HOMING (R145). -/
def State.setBusy (s : State) (set : BitVec 8) : Bool :=
  (gaugesIn set).any fun i => (s.gauges.get i).state = .sweeping || (s.gauges.get i).state = .homing

/-- A workshop sweep starts, and the record follows it (R173). -/
def startWorkshopSweep (set : BitVec 8) (s : State) : State :=
  startSweeps set (.workshop set)
    (s.setShop { s.shop with tests := { s.shop.tests with
      sweepState := .running, sweepCause := .moving, sweepSet := set } })

/-- The GAUGE_SWEEP test (R173). -/
def serveGaugeSweep (set : BitVec 8) (s : State) : Served :=
  if s.setup.badSet set then declined .outOfRange s
  else if s.doors.motion ≠ .stopped then declined .conditionsNotMet s
  else if s.setBusy set then declined .busy s
  else (.accepted, [], startWorkshopSweep set s)

/-- A workshop lamp check starts (R128, R173): the record shows it RUNNING. -/
def startWorkshopCheck (s : State) : State :=
  startLampCheck .workshop
    (s.setShop { s.shop with tests := { s.shop.tests with
      lampState := .running, lampCause := .moving, lampProofs := Table.replicate 32 .untested } })

/-- The LAMP_CHECK test (R173). -/
def serveLampCheck (s : State) : Served :=
  if s.doors.motion ≠ .stopped then declined .conditionsNotMet s
  else if s.comp.check.isSome then declined .busy s
  else (.accepted, [], startWorkshopCheck s)

/-- The workshop test record as answer data (R173). DESIGN CHOICE (assumption 66): the answer has one length whatever
the states are: each entry carries a cause character, 0 (the code of MOVING) where the state is not ENDED_EARLY, and the
lamp check entry 32 proof characters, which are UNTESTED while it is NONE or RUNNING. -/
def TestRecord.bytes (r : TestRecord) : List Byte :=
  [byteOf r.sweepState.code, byteOf r.sweepCause.code, r.sweepSet, byteOf r.lampState.code,
   byteOf r.lampCause.code] ++ r.lampProofs.cells.map fun p => byteOf p.code

/-- ACTUATOR_TEST (R173). -/
def serveActuatorTest (data : List Byte) (s : State) : Served :=
  match dataAt data 0 with
  | 0 => serveGaugeSweep (data.getD 1 0#8) s
  | 1 => serveLampCheck s
  | 2 => (.accepted, [], startTestTone s)
  | 3 => (.accepted, s.shop.tests.bytes, s)
  | _ => declined .outOfRange s

/-! ### Taking a request (R165) -/

/-- A service whose tests 1 to 4 pass. -/
def Service.serve (v : Service) (data : List Byte) (s : State) : Served :=
  match v with
  | .identify => serveIdentify s
  | .openSession => serveOpenSession data s
  | .closeSession => serveCloseSession s
  | .readSignals => serveReadSignals data s
  | .readFaults => serveReadFaults data s
  | .readFaultSnapshot => serveReadFaultSnapshot data s
  | .clearFaults => serveClearFaults data s
  | .forceSignal => serveForceSignal data s
  | .releaseSignal => serveReleaseSignal data s
  | .actuatorTest => serveActuatorTest data s
  | .readDoorCounters => serveReadDoorCounters s
  | .resetDoorCounter => serveResetDoorCounter data s
  | .readLog => serveReadLog data s

/-- The judgement of R165. -/
def serveRequest (code : Byte) (data : List Byte) (s : State) : Served :=
  match Service.ofCode code.toNat with
  | none => declined .unknownService s
  | some v =>
    match v.refusal s.shop.session data with
    | some r => declined r s
    | none => v.serve data s

/-- The idle timer restarts at a request when a session is open (R165, R167). -/
def restartIdle (s : State) : State :=
  when (s.shop.session ≠ .detached)
    (fun t => t.setShop { t.shop with idleTimer := some (t.inMs Config.sessionIdle) }) s

/-- A request is taken at its completion (R165): it is carried out, and the part is answering (R163). -/
def takeRequest (code tag : Byte) (data : List Byte) (s : State) : State :=
  let r := serveRequest code data (restartIdle s)
  r.2.2.setShop { r.2.2.shop with
    receiver := .answering (answerFrame code tag (byteOf r.1.code) r.2.1)
    gapTimer := none }

/-! ### The receiver (R163) -/

/-- The receiver takes a state, and the gap of 3 character times is measured from now. -/
def receiveAs (r : Receiver) (s : State) : State :=
  s.setShop { s.shop with receiver := r, gapTimer := some (s.now + workshopGap s.shop.rate) }

/-- A complete frame is discarded or taken (R163). The characters are length, code, tag, data and check. -/
def frameComplete (frame : List Byte) (s : State) : State :=
  if sumBytes frame ≠ 0#8 then receiveAs .resync s
  else takeRequest (frame.getD 1 0#8) (frame.getD 2 0#8) ((frame.drop 3).dropLast) s

/-- A frame in reception gains a character (R163). -/
def frameGains (frame : List Byte) (s : State) : State :=
  if frame.length = (frame.getD 0 0#8).toNat then frameComplete frame s else receiveAs (.receiving frame) s

/-- A character arrives on the workshop line in an awake state (R163). -/
def receiveCharacter (data : Byte) (error : CharError) (s : State) : State :=
  match s.shop.receiver with
  | .idle =>
    if error ≠ .none || data.toNat < 4 || 64 < data.toNat then receiveAs .resync s
    else receiveAs (.receiving [data]) s
  | .receiving cs => if error ≠ .none then receiveAs .resync s else frameGains (cs ++ [data]) s
  | .resync => receiveAs .resync s
  | .answering _ => s

/-- The characters of a request frame arrive one by one (R163); out of the awake states nothing is received. -/
def receiveFrame (frame : List Byte) (s : State) : State :=
  when s.awake (fun t => frame.foldl (fun u b => receiveCharacter b .none u) t) s

/-- A character has the receiver discard a frame (R163). -/
def State.discards (s : State) (data : Byte) (error : CharError) : Bool :=
  s.awake &&
    (match s.shop.receiver with
      | .idle => error ≠ .none || data.toNat < 4 || 64 < data.toNat
      | .receiving cs =>
        error ≠ .none ||
          ((cs ++ [data]).length = ((cs ++ [data]).getD 0 0#8).toNat && sumBytes (cs ++ [data]) ≠ 0#8)
      | _ => false)

/-- A gap of more than 3 character times inside a frame discards it (R163). -/
def frameGapExpires (s : State) : State :=
  match s.shop.receiver with
  | .receiving _ => onTimer s.shop.gapTimer (fun _ t => receiveAs .resync t) s
  | _ => s

/-- A gap of more than 3 character times after a discard: the receiver is idle again (R163). -/
def resyncExpires (s : State) : State :=
  match s.shop.receiver with
  | .resync =>
    onTimer s.shop.gapTimer (fun _ t => t.setShop { t.shop with receiver := .idle, gapTimer := none }) s
  | _ => s

/-- The last character of an answer is sent (R163, R164): the receiver is idle, and a change of rate takes effect. -/
def answerEnds (s : State) : State :=
  match s.shop.receiver with
  | .answering _ =>
    s.setShop { s.shop with receiver := .idle, rate := s.shop.nextRate.getD s.shop.rate, nextRate := none }
  | _ => s

/-- The session idle timer expires (R167). -/
def sessionExpires (s : State) : State := onTimer s.shop.idleTimer (fun _ t => endSession .session false t) s

/-! ### STANDBY, wake and soft reset -/

/-- The line is unpowered or reset: the receiver is idle at 19,200 bit/s (R164, R174). -/
def quietShop (s : State) : State :=
  s.setShop { s.shop with receiver := .idle, gapTimer := none, rate := .slow, nextRate := none }

end Sys2Proof.Machine
end

