-- ==== Sys2Proof/Machine/RunStates.lean ====
section
/-! DEFINITION. The run-state logic (chapter 12): RUN entry and the ways out of RUN, STANDBY and the wake, soft reset
and power-on. What each block does at a change of run state stands with the block. -/

namespace Sys2Proof.Machine

/-- A change of run state is written, and announced with the old and the new state (R195). -/
def changeRunState (new : RunState) (s : State) : State :=
  post .stateChange 0 (s.run.state.code + 256 * new.code)
    (writeStatus (s.setRun { s.run with state := new }))

/-- The CONFIG idle timer starts from the full 60 s where ignition is OFF and no APPLY_SETUP is TAKEN (R197). -/
def startConfigIdle (s : State) : State :=
  when (!s.run.ignition && s.run.applySlot.isNone)
    (fun t => t.setRun { t.run with configIdleTimer := some (t.inMs Config.configIdle) }) s

/-! ### STANDBY (R197) -/

/-- The line is cut as the part enters RUN anew (R53): the slots of the transfers still held end with ABORTED, as
every TAKEN request ends (R200, assumption 24), in the order of `emptyList` (assumption 58). -/
def abortLine (s : State) : State :=
  let t := forEach (List.range 16) clearPending (s.line.oneShots.foldl (fun u o => abortOneShot o u) s)
  t.setLine t.line.cut

/-- The part enters STANDBY (R197): the session ends, the sweep timer stops, the lines are released. -/
def enterStandby (s : State) : State :=
  let t := quietShop (endSession .session false s)
  let p := t.setPort { t.port with sweepTimer := none, sweepPlace := none, sweepHeld := false }
  let q := p.setSense { p.sense with supplyTimer := none, lowTimer := none }
  writeStatus (q.setRun { q.run with
    state := .standby, runOnTimer := none, configIdleTimer := none, standbyPending := false
    releaseTallies := Table.replicate 4 0 })

/-- STANDBY is due: SHUTDOWN, or the wait of CONFIG, with every gauge PARKED (R197, R200). DEDUCED (assumption 24): it
waits for the line too, since an attempt in progress runs on to its end, its turnaround included, and its transaction
is handed on like any other (R52). -/
def State.standbyDue (s : State) : Bool :=
  (s.run.state = .shutdown || (s.run.state = .config && s.run.standbyPending)) && s.allParked && s.line.phase = .idle

/-- STANDBY is entered where it is due. -/
def standbyIfDue (s : State) : State := when s.standbyDue enterStandby s

/-! ### Leaving RUN (R199, R200) -/

/-- What each block does as the part leaves RUN, in chapter order but for the line first. -/
def stopBlocks (s : State) : State :=
  stopGauges (stopComposition (stopWarnings (stopDoors (stopSignals (stopSense (stopLine s))))))

/-- The part leaves RUN for CONFIG or SHUTDOWN; a session is left to the callers. -/
def leaveRun (new : RunState) (s : State) : State :=
  let t := stopBlocks (changeRunState new s)
  let p := t.setPort { t.port with livenessTimer := none }
  p.setRun { p.run with runOnTimer := none }

/-- RUN to CONFIG by ENTER_CONFIG (R199): a SERVICE session drops to READ. -/
def toConfig (s : State) : State := startConfigIdle (demoteFor .leftRun (leaveRun .config s))

/-- SHUTDOWN starts (R200): the session ends, and with every gauge PARKED and the line free the part enters STANDBY at
once. -/
def toShutdown (s : State) : State := standbyIfDue (endSession .leftRun false (leaveRun .shutdown s))

/-! ### RUN entry (R198, R200) -/

/-- A gauge at RUN entry by APPLY_SETUP (R143, R150). -/
def Gauge.atApply (g : Gauge) (u : GaugeSetup) (now : Nat) : Gauge :=
  if u.inUse then
    { state := .homing, homingLeft := Config.homingSteps
      updateTimer := some (now + 1000 * Config.gaugePeriod), upd := bump g.upd }
  else { upd := bump g.upd }

/-- A gauge at RUN entry by the return of ignition (R149, R150): T, f and C start from where the needle stands, and a
homing runs on. -/
def Gauge.atReturn (g : Gauge) (u : GaugeSetup) (now : Nat) : Gauge :=
  let h := { g with target := g.needle, filtered := 16 * g.needle, command := g.needle, upd := bump g.upd }
  if u.inUse && g.state ≠ .homing then
    ({ h with
        state := .tracking
        holdTimer := none, sweep := none
        updateTimer := if g.updateTimer.isNone then some (now + 1000 * Config.gaugePeriod) else g.updateTimer
      } : Gauge).startHold .firstData u.staleHold now
  else h

/-- All gauges at RUN entry (R150). -/
def State.freshGauges (s : State) (byApply : Bool) : Table 6 Gauge :=
  Table.tabulate 6 fun i =>
    if byApply then (s.gauges.get i).atApply (s.setup.gauges.get i) s.now
    else (s.gauges.get i).atReturn (s.setup.gauges.get i) s.now

/-- A warning at wake, soft reset or RUN entry (R114): the return of ignition keeps its count and activation time. -/
def Warning.blanked (x : Warning) (keep : Bool) : Warning :=
  { occurrences := if keep then x.occurrences else 0
    activation := if keep then x.activation else 0#32
    upd := bump x.upd }

/-- A lamp at RUN entry (R134): proof state and counts are kept, and the proof timer starts afresh. -/
def Lamp.atEntry (x : Lamp) (now : Nat) : Lamp :=
  { x with command := .off, retryTimer := none, proofTimer := some (now + 1000 * Config.proofPeriod) }

/-- The composition unit at RUN entry before its first taking (R134). -/
def CompositionUnit.atEntry (c : CompositionUnit) (displayLost : Bool) (now : Nat) : CompositionUnit :=
  { record := { changed := c.record.changed, displayLost }
    upd := c.upd
    lamps := c.lamps.map fun x => x.atEntry now
    flash1 := Timebase.started .hz1 now
    flash3 := Timebase.started .hz3 now }

/-- The first taking of the composition at RUN entry, which posts no notice (R134). -/
def firstComposition (s : State) : State :=
  s.setComp { s.comp.sound s s.patternChoice false with
    record := s.composition, upd := bump s.comp.upd, lamps := s.commandedLamps }

/-- The liveness timer at RUN entry or at a heartbeat: with a window of 0 it does not run (R183). -/
def startLiveness (s : State) : State :=
  s.setPort { s.port with
    livenessTimer :=
      if s.setup.general.livenessWindow = 0 then none else some (s.inMs s.setup.general.livenessWindow) }

/-- Each block's values at RUN entry, before anything is taken. -/
def setBlocks (byApply : Bool) (s : State) : State :=
  let a := s.setSignals s.freshSignals
  let b := a.setSense { a.sense with channels := a.freshChannels }
  let c := b.setLine (b.line.blanked b.setup.stationAtEntry b.setup.settings.preferred)
  let d := c.setDoors (c.doors.blanked c.time c.setup.releaseDelay)
  let e := d.setWarnings (d.warnings.map fun x => x.blanked (!byApply))
  let f := e.setComp (e.comp.atEntry e.port.displayLost e.now)
  let g := f.setGauges (f.freshGauges byApply)
  g.setShop { g.shop with forced := [] }

/-- What is taken at RUN entry: duties (R122), priorities (R117), the composition (R134), the interlock (R95) and the
conditions (R100, R114). DESIGN CHOICE (assumption 65): in that order, the conditions in ascending warning index. -/
def takeBlocks (s : State) : State :=
  forEach (List.range 96) takeCondition
    (takeInterlock
      (firstComposition
        (forEach (List.range 96) takePriority (takeDuties s))))

/-- The run-on timer starts at RUN entry with ignition OFF (R198). -/
def startRunOn (s : State) : State :=
  s.setRun { s.run with
    runOnTimer := if s.run.ignition then none else some (s.inMs (1000 * s.setup.general.runOnTime))
    configIdleTimer := none
    standbyPending := false }

/-- The part enters RUN (R198, R200): the blocks take their values, and minor cycle 0 starts (R58). A transfer still
in flight from before is aborted first. DESIGN CHOICE (assumption 24): the turnaround of an attempt that ended before
is dropped with it, and minor cycle 0 starts at once. DESIGN CHOICE (assumption 65): of what happens at RUN entry minor
cycle 0 comes last, after the takings, so that a SUMMARY DELIVER that it begins with sends what they left. -/
def enterRun (byApply : Bool) (s : State) : State :=
  let t := setBlocks byApply (changeRunState .run (abortLine s))
  startMinor 0 t.now (startRunOn (startLiveness (takeBlocks (writeStatus t))))

/-! ### Ignition (R31, R197, R199, R200) -/

/-- Ignition becomes OFF in RUN (R199). -/
def runOn (s : State) : State :=
  if s.setup.general.runOnTime = 0 then toShutdown s
  else s.setRun { s.run with runOnTimer := some (s.inMs (1000 * s.setup.general.runOnTime)) }

/-- The run-on timer expires: SHUTDOWN starts (R199). -/
def runOnExpires (s : State) : State := onTimer s.run.runOnTimer (fun _ t => toShutdown t) s

/-- The CONFIG idle timer expires: the entry into STANDBY waits for the gauges (R197). -/
def configIdleExpires (s : State) : State :=
  onTimer s.run.configIdleTimer
    (fun _ t => t.setRun { t.run with configIdleTimer := none, standbyPending := true }) s

/-! ### The wake (R196) -/

/-- The port unit at wake or soft reset (R184): the ring is emptied, and the sweep timer starts. DEDUCED (assumption 11): a
sweep under way at a soft reset is dropped and not counted, since the slots still POSTED are left for the next sweep
(R181, R201). -/
def Port.restarted (p : Port) (sweepAt : Nat) : Port :=
  { ring := p.ring, sweepTimer := some sweepAt, statusUpd := p.statusUpd }

/-- The composition unit at wake or soft reset (R134). -/
def CompositionUnit.blanked (c : CompositionUnit) : CompositionUnit := { upd := bump c.upd }

/-- A gauge at wake (R150). -/
def Gauge.atWake (g : Gauge) : Gauge := { upd := bump g.upd }

/-- What wake and soft reset share: signals, sense channels, line, doors, warnings and composition (R14, R35, R53,
R74, R96, R114, R134). -/
def blankBlocks (s : State) : State :=
  let a := s.setSignals (s.signals.map Signal.blanked)
  let b := a.setSense { a.sense with channels := a.sense.channels.map SenseChannel.blanked }
  let c := b.setLine (b.line.blanked (fun _ => .unused) none)
  let d := c.setDoors (c.doors.blanked 0#32 c.doors.releaseDelay)
  let e := d.setWarnings (d.warnings.map fun x => x.blanked false)
  e.setComp e.comp.blanked

/-- Steps 1 to 3 of the wake (R196): the time counter, the ring, and the blocks at their wake values. DESIGN CHOICE
(assumption 50): the first supply measurement falls 5 ms after the wake. -/
def wakeBlocks (s : State) : State :=
  let t := blankBlocks (s.setNow 0)
  let p := t.setPort (t.port.restarted (1000 * Config.sweepPeriod))
  let q := p.setSense { p.sense with
    supplyLow := false, lowTimer := none, supplyTimer := some (1000 * Config.supplyPeriod) }
  let r := q.setGauges (q.gauges.map Gauge.atWake)
  writeStatus (quietShop (r.setShop { r.shop with session := .detached, idleTimer := none, forced := [], tests := {} }))

/-- Step 4 of the wake: at an ignition wake the cycle number rises, and the fault memory ages (R158, R196). -/
def countCycle (s : State) : State :=
  when s.run.ignition
    (fun t => writeStatus (ageRecords (writeStatus (t.setRun { t.run with
      ignitionCycle := t.run.ignitionCycle + 1#16 })))) s

/-- The wake from STANDBY to CONFIG (R196). -/
def wake (s : State) : State :=
  startConfigIdle
    (changeRunState .config
      (countCycle (wakeBlocks (s.setRun { s.run with
        runOnTimer := none, configIdleTimer := none, standbyPending := false, applySlot := none }))))

/-- A STANDBY part wakes; an awake part does not (R196). -/
def wakeFromStandby (s : State) : State := when (s.run.state = .standby) wake s

/-- A raw state of a release channel in STANDBY counts toward the wake (R196): a contact band whose logical value is
1. -/
def releaseCounts (u : SenseSetup) (reading : Nat) : Bool :=
  match bandState u.kind (bandOf reading) with
  | some (.contact c) => contactValue u.invert c = 1#16
  | _ => false

/-- How many samples of a release channel in a row count toward the wake, after `samples` more. -/
def State.releaseTally (s : State) (d reading samples : Nat) : Nat :=
  if releaseCounts (s.setup.sense.get (s.setup.doors.get d).release) reading then
    s.run.releaseTallies.get d + samples else 0

/-- The tally is kept, and the tenth sample wakes the part (R196). -/
def tallyRelease (d reading samples : Nat) (s : State) : State :=
  if 10 ≤ s.releaseTally d reading samples then wake s
  else s.setRun { s.run with releaseTallies := s.run.releaseTallies.set d (s.releaseTally d reading samples) }

/-- `samples` equal samples of a door's release channel in STANDBY (R196). -/
def releaseSampled (d reading samples : Nat) (s : State) : State :=
  when (s.run.state = .standby && (s.setup.doors.get d).enabled && 0 < samples) (tallyRelease d reading samples) s

/-- What the run-state logic does with a new ignition state (R196, R197, R199, R200). -/
def ignitionChanged (s : State) : State :=
  match s.run.state, s.run.ignition with
  | .standby, true => wake s
  | .config, true => s.setRun { s.run with configIdleTimer := none, standbyPending := false }
  | .run, true => s.setRun { s.run with runOnTimer := none }
  | .shutdown, true => enterRun false s
  | .config, false => startConfigIdle s
  | .run, false => runOn s
  | _, _ => s

/-- `samples` samples of the ignition line at one level (R31). -/
def ignitionSampled (on : Bool) (samples : Nat) (s : State) : State :=
  if samples = 0 then s
  else if on = s.run.ignition then s.setRun { s.run with ignitionTally := 0 }
  else if s.run.ignitionTally + samples < 10 then
    s.setRun { s.run with ignitionTally := s.run.ignitionTally + samples }
  else ignitionChanged (writeStatus (s.setRun { s.run with ignition := on, ignitionTally := 0 }))

/-! ### Soft reset and power-on (R201, R202) -/

/-- A gauge at soft reset (R149): the position is kept, and a gauge in use parks. -/
def Gauge.atSoftReset (g : Gauge) (u : GaugeSetup) (now : Nat) : Gauge :=
  let h := { g with holdTimer := none, upd := bump g.upd }
  if u.inUse && g.known && g.state ≠ .homing then
    { h with
      state := .parking, sweep := none
      updateTimer := if g.updateTimer.isNone then some (now + 1000 * Config.gaugePeriod) else g.updateTimer }
  else h

/-- The TAKEN slots fail with ABORTED (R181, R201). DESIGN CHOICE (assumption 58): in ascending slot index. -/
def abortTaken (s : State) : State :=
  forEach (List.range 16) (fun i t => when (t.slotState i = .taken) (slotFailed i .aborted 0 []) t) s

/-- The stop of the warning unit that a soft reset taken in RUN does first (R113). -/
def stopWarningsFrom (old : RunState) (s : State) : State := when (old = .run) stopWarnings s

/-- The blocks at their soft-reset values (R201). -/
def softBlocks (s : State) : State :=
  let t := blankBlocks s
  let g := t.setGauges (Table.tabulate 6 fun i => (t.gauges.get i).atSoftReset (t.setup.gauges.get i) t.now)
  writeStatus (quietShop (g.setShop { g.shop with forced := [] }))

/-- The run-state logic at soft reset (R201): its timers stop, and a validation under way is abandoned. An APPLY_SETUP
that ends so is one that ends, and the last result shows it (R179, assumption 47). -/
def RunLogic.abandoned (r : RunLogic) : RunLogic :=
  { r with
    runOnTimer := none, configIdleTimer := none, standbyPending := false, applySlot := none
    lastResult := if r.applySlot.isSome then .aborted else r.lastResult
    lastDetail := if r.applySlot.isSome then 0 else r.lastDetail }

/-- Soft reset (R201). The notices come in the order that R201 gives. -/
def softReset (s : State) : State :=
  let a := s.setRun s.run.abandoned
  let b := changeRunState .config (a.setPort (a.port.restarted (a.inMs Config.sweepPeriod)))
  let c := endSession .reset false (stopWarningsFrom s.run.state b)
  startConfigIdle (abortTaken (softBlocks c))

/-- Power-on (R202): everything is as after reset. The queue of commands is the model's own and is kept. -/
def powerUp (s : State) : State := State.reset.setPending s.pending

end Sys2Proof.Machine
end

