-- ==== Sys2Proof/Machine/Requests.lean ====
section
/-! DEFINITION. The slot sweep and the ten request kinds (R181, R187), each with the checks that its own rule lists,
and the end of a setup validation (R198). -/

namespace Sys2Proof.Machine

/-- A request refused at taking goes to FAILED (R181). -/
def refuseRequest (i : Nat) (code : ResultCode) (detail : Nat) (s : State) : State := slotFailed i code detail [] s

/-! ### Requests of the run-state logic -/

/-- The last APPLY_SETUP result of the status block (R179). -/
def noteApplyResult (code : ResultCode) (detail : Nat) (s : State) : State :=
  writeStatus (s.setRun { s.run with lastResult := code, lastDetail := detail })

/-- An APPLY_SETUP refused at taking ends there (R181), and so the last APPLY_SETUP result shows it (R179). DESIGN CHOICE
(assumption 47): the slot is written first, as at a failed validation. -/
def refuseApplySetup (i : Nat) (code : ResultCode) (s : State) : State :=
  noteApplyResult code 0 (refuseRequest i code 0 s)

/-- APPLY_SETUP (R198). -/
def requestApplySetup (i : Nat) (s : State) : State :=
  if s.run.state ≠ .config then refuseApplySetup i .wrongState s
  else if s.run.applySlot.isSome then refuseApplySetup i .busy s
  else
    (setSlotState i .taken s).setRun { s.run with
      applySlot := some i, configIdleTimer := none, standbyPending := false }

/-- ENTER_CONFIG (R199). -/
def requestEnterConfig (i : Nat) (s : State) : State :=
  if s.inRun then toConfig (slotDone i [] s) else refuseRequest i .wrongState 0 s

/-- STANDBY_PERMIT (R199). -/
def requestStandbyPermit (i : Nat) (s : State) : State :=
  if s.inRun && !s.run.ignition then toShutdown (slotDone i [] s) else refuseRequest i .wrongState 0 s

/-! ### SUPPLY_SIGNAL (R10, R11) -/

/-- An item of SUPPLY_SIGNAL: its signal, its mode (VALUE 0, FAULT 1) and its value. -/
structure SupplyItem where
  signal : Nat
  mode : Nat
  value : Word
  deriving DecidableEq, Repr

/-- Item `k` of a request body, from 0: four bytes each, after the count. -/
def State.supplyItem (s : State) (i k : Nat) : SupplyItem :=
  { signal := s.slotByte i (1 + 4 * k), mode := s.slotByte i (2 + 4 * k), value := s.slotWord i (3 + 4 * k) }

/-- The items of a request body. -/
def State.supplyItems (s : State) (i : Nat) : List SupplyItem := (List.range (s.slotByte i 0)).map (s.supplyItem i)

/-- An item that R10 finds bad. -/
def Setup.badItem (u : Setup) (x : SupplyItem) : Bool :=
  127 < x.signal || (u.signals.get x.signal).kind ≠ .supplied || 1 < x.mode

/-- An item is applied (R11). -/
def applyItem (x : SupplyItem) (s : State) : State :=
  if x.mode = 0 then deliverValue x.signal x.value s else declareFault x.signal none s

/-- The items are applied in order, and the source status after each is noted (R11). -/
def applyItems : List SupplyItem → State → State × List Byte
  | [], s => (s, [])
  | x :: rest, s =>
    let t := applyItem x s
    let r := applyItems rest t
    (r.1, byteOf (t.signals.get x.signal).sourceStatus.code :: r.2)

/-- SUPPLY_SIGNAL (R10, R11). -/
def requestSupplySignal (i : Nat) (s : State) : State :=
  if !s.inRun then refuseRequest i .wrongState 0 s
  else if s.slotByte i 0 < 1 || 13 < s.slotByte i 0 then refuseRequest i .badParameter 0 s
  else
    match (s.supplyItems i).findIdx? s.setup.badItem with
    | some k => refuseRequest i .badParameter (k + 1) s
    | none => slotDone i (applyItems (s.supplyItems i) s).2 (applyItems (s.supplyItems i) s).1

/-! ### STATION_TRANSFER (R67) -/

/-- The words of a DELIVER transfer, after its four parameters. -/
def State.transferWords (s : State) (i length : Nat) : List Word :=
  (List.range length).map fun k => s.slotWord i (4 + 2 * k)

/-- STATION_TRANSFER (R67). -/
def requestStationTransfer (i : Nat) (s : State) : State :=
  let station := s.slotByte i 0
  let block := s.slotByte i 1
  let length := s.slotByte i 3
  if !s.inRun then refuseRequest i .wrongState 0 s
  else
    match directionOfCode (s.slotByte i 2) with
    | none => refuseRequest i .badParameter 0 s
    | some dir =>
      if station < 1 || 15 < station || 31 < block || 16 < length then refuseRequest i .badParameter 0 s
      else if s.listFull then refuseRequest i .queueFull 0 s
      else
        appendOneShot
          (.transfer i station block dir length (if dir = .deliver then s.transferWords i length else []))
          (setSlotState i .taken s)

/-! ### ACKNOWLEDGE (R106) -/

/-- The warning that a target names: an index, or 255 for TOP (R185). -/
def State.ackTarget (s : State) (target : Nat) : Option Nat := if target = 255 then s.topWarning else some target

/-- ACKNOWLEDGE (R106, R109). -/
def requestAcknowledge (i : Nat) (s : State) : State :=
  let target := s.slotByte i 0
  if !s.inRun then refuseRequest i .wrongState 0 s
  else if 95 < target && target ≠ 255 then refuseRequest i .badParameter 0 s
  else
    match s.ackTarget target with
    | none => refuseRequest i .notPending 0 s
    | some w =>
      match s.ackRefusal w with
      | some r => refuseRequest i r 0 s
      | none => slotDone i [byteOf w] (acknowledge w s)

/-! ### Tests and clears -/

/-- GAUGE_SWEEP (R145). -/
def requestGaugeSweep (i : Nat) (s : State) : State :=
  let set := byteOf (s.slotByte i 0)
  if !s.inRun then refuseRequest i .wrongState 0 s
  else if s.setup.badSet set then refuseRequest i .badParameter 0 s
  else if s.doors.motion ≠ .stopped then refuseRequest i .refusedMoving 0 s
  else if s.setBusy set then refuseRequest i .busy 0 s
  else startSweeps set (.request i set) (setSlotState i .taken s)

/-- LAMP_CHECK (R128). -/
def requestLampCheck (i : Nat) (s : State) : State :=
  if !s.inRun then refuseRequest i .wrongState 0 s
  else if s.doors.motion ≠ .stopped then refuseRequest i .refusedMoving 0 s
  else if s.comp.check.isSome then refuseRequest i .busy 0 s
  else startLampCheck (.request i) (setSlotState i .taken s)

/-- WIRING_CHECK (R32). -/
def requestWiringCheck (i : Nat) (s : State) : State :=
  let c := s.slotByte i 0
  if !s.inRun then refuseRequest i .wrongState 0 s
  else if 47 < c then refuseRequest i .badParameter 0 s
  else if (s.setup.sense.get c).kind = .frequency then refuseRequest i .badParameter 0 s
  else if (s.sense.channels.get c).check.isSome then refuseRequest i .busy 0 s
  else if s.sense.supplyLow then refuseRequest i .aborted 0 s
  else startCheck i c (setSlotState i .taken s)

/-- CLEAR_FAULTS of the host (R159). -/
def requestClearFaults (i : Nat) (s : State) : State :=
  if !s.inRun then refuseRequest i .wrongState 0 s
  else if s.doors.motion ≠ .stopped then refuseRequest i .refusedMoving 0 s
  else if s.shop.session = .service then refuseRequest i .refusedWorkshop 0 s
  else slotDone i [byteOf (s.clearCounts none).1, byteOf (s.clearCounts none).2] (clearFaults none s)

/-! ### The sweep (R181) -/

/-- The request kinds (R187). -/
inductive RequestKind where
  | applySetup
  | enterConfig
  | standbyPermit
  | supplySignal
  | stationTransfer
  | acknowledge
  | gaugeSweep
  | lampCheck
  | wiringCheck
  | clearFaults
  deriving DecidableEq, Repr

/-- The request kind that a code names (R187). -/
def RequestKind.ofCode : Nat → Option RequestKind
  | 1 => some .applySetup
  | 2 => some .enterConfig
  | 3 => some .standbyPermit
  | 4 => some .supplySignal
  | 5 => some .stationTransfer
  | 6 => some .acknowledge
  | 7 => some .gaugeSweep
  | 8 => some .lampCheck
  | 9 => some .wiringCheck
  | 10 => some .clearFaults
  | _ => none

/-- The request goes to the block that owns its kind (R187). -/
def RequestKind.route (k : RequestKind) (i : Nat) (s : State) : State :=
  match k with
  | .applySetup => requestApplySetup i s
  | .enterConfig => requestEnterConfig i s
  | .standbyPermit => requestStandbyPermit i s
  | .supplySignal => requestSupplySignal i s
  | .stationTransfer => requestStationTransfer i s
  | .acknowledge => requestAcknowledge i s
  | .gaugeSweep => requestGaugeSweep i s
  | .lampCheck => requestLampCheck i s
  | .wiringCheck => requestWiringCheck i s
  | .clearFaults => requestClearFaults i s

/-- A POSTED slot is taken (R181). -/
def takeSlot (i : Nat) (s : State) : State :=
  match RequestKind.ofCode (Memory.u8 s.mem (slotBase i + 1)) with
  | none => refuseRequest i .badParameter 0 s
  | some k => k.route i s

/-- The end of a sweep (R179, R181): the sweep count rises. -/
def endSweep (s : State) : State :=
  writeStatus (s.setPort { s.port with sweepPlace := none, sweepCount := s.port.sweepCount + 1#16 })

/-- The sweep goes on from a visited slot. A sweep that the entry into STANDBY has stopped goes no further. -/
def sweepOn (k : Nat) (s : State) : State :=
  if s.port.sweepPlace.isNone then s
  else if 15 ≤ k then endSweep s
  else s.setPort { s.port with sweepPlace := some (k + 1) }

/-- The sweep under way visits its next slot (R181). -/
def visitSlot (s : State) : State :=
  match s.port.sweepPlace with
  | some k => sweepOn k (when (s.slotState k = .posted) (takeSlot k) s)
  | none => s

/-- The sweep under way visits at most `n` slots. -/
def visitSlots : Nat → State → State
  | 0, s => s
  | n + 1, s => visitSlots n (visitSlot s)

/-- A sweep starts, and reaches `places` slots before the next command is taken. A start that falls while a sweep is
under way is held (R181). -/
def startSweep (places : Nat) (s : State) : State :=
  if s.port.sweepPlace.isSome then s.setPort { s.port with sweepHeld := true }
  else visitSlots (min places 16) (s.setPort { s.port with sweepPlace := some 0 })

/-- The instant at which the sweep timer expires. R184 has the timer stopped at power-on, and R181 has it run in
CONFIG: DEDUCED (assumption 9), its first expiry is then one period after power-on, and from there it runs on. -/
def State.sweepDue (s : State) : Option Nat :=
  if s.awake && s.port.sweepTimer.isNone then some (1000 * Config.sweepPeriod) else s.port.sweepTimer

/-- The sweep timer expires (R181): it runs on. -/
def sweepExpires (places : Nat) (s : State) : State :=
  onTimer s.sweepDue
    (fun due t => startSweep places (t.setPort { t.port with
      sweepTimer := some (due + 1000 * Config.sweepPeriod) })) s

/-- A held sweep starts. -/
def startHeld (places : Nat) (s : State) : State := startSweep places (s.setPort { s.port with sweepHeld := false })

/-- A held sweep starts when the present sweep ends (R181). -/
def heldSweepStarts (places : Nat) (s : State) : State :=
  when s.port.sweepHeld (fun t => when (visitSlots 16 t).port.sweepHeld (startHeld places) (visitSlots 16 t)) s

/-! ### The end of a validation (R198) -/

/-- A failed validation (R198). -/
def validationFails (i : Nat) (f : SetupFailure) (s : State) : State :=
  let t := slotFailed i .setupInvalid f.1 [byteOf f.1, byteOf f.2.1, byteOf f.2.2] s
  startConfigIdle (writeStatus (t.setRun { t.run with
    applySlot := none, lastResult := .setupInvalid, lastDetail := f.1 }))

/-- A validation that passes (R198): steps 1 to 5, and the REQUEST_DONE notice. -/
def validationPasses (i : Nat) (s : State) : State :=
  let t := writeStatus (s.setRun { s.run with
    applySlot := none, memoryLost := false, lastResult := .ok, lastDetail := 0 })
  notifyDone i .ok (enterRun true ((finishSlot i .done .ok 0 [] t).setSetup (Setup.ofMemory s.mem)))

/-- The validation of a TAKEN APPLY_SETUP ends (R198). -/
def validationEnds (s : State) : State :=
  match s.run.applySlot with
  | some i =>
    (match (Setup.ofMemory s.mem).firstFailure with
      | some f => validationFails i f s
      | none => validationPasses i s)
  | none => s

end Sys2Proof.Machine
end

