-- ==== Sys2Proof/Machine/HostPort.lean ====
section
/-! DEFINITION. The port unit (chapter 11): host writes and their judgement, the port registers, and host liveness. -/

namespace Sys2Proof.Machine

/-! ### Host liveness (R183) -/

/-- DISPLAY_LOST changes, and is handed on: the warning unit, and then the composition unit. -/
def setDisplayLost (lost : Bool) (s : State) : State :=
  when (lost ≠ s.port.displayLost)
    (fun t => compose false (takeSource .displayLost 0 (t.setPort { t.port with displayLost := lost }))) s

/-- A heartbeat (R183). -/
def heartbeat (s : State) : State := setDisplayLost false (when s.inRun startLiveness s)

/-- The liveness timer expires (R183). -/
def livenessExpires (s : State) : State :=
  onTimer s.port.livenessTimer
    (fun _ t => setDisplayLost true (t.setPort { t.port with livenessTimer := none })) s

/-! ### The judgement of a host write (R175, R180) -/

/-- The setup regions accept a host write (R175). -/
def State.setupWritable (s : State) : Bool := s.run.state = .config && s.run.applySlot.isNone

/-- A byte of a request slot may be written with a value (R180). -/
def slotWritable (x : SlotState) (isState : Bool) (value : Byte) : Bool :=
  match x with
  | .empty => !isState || value = 0#8 || value = 1#8
  | .posted | .done | .failed => isState && value = 0#8
  | .taken => false

/-- The byte at an offset below the port registers may be written with a value (R175). -/
def State.byteWritable (s : State) (a : Nat) (value : Byte) : Bool :=
  if a < 0x0100 then false
  else if a < 0x0500 then slotWritable (s.slotState ((a - 0x0100) / 64)) ((a - 0x0100) % 64 = 0) value
  else if a < 0x0900 then false
  else if a < 0x1F00 then s.setupWritable
  else 0x4700 ≤ a

/-- The bytes a write enables, with their offsets (R175, R185). -/
def enabledBytes (addr : BitVec 14) (en : ByteEnable) (data : Word) : List (Nat × Byte) :=
  let low := (2 * addr.toNat, data.setWidth 8)
  let high := (2 * addr.toNat + 1, (data >>> 8).setWidth 8)
  match en with
  | .low => [low]
  | .high => [high]
  | .both => [low, high]

/-- A refused write (R176). -/
def refuseWrite (addr : BitVec 14) (s : State) : State :=
  when (!s.port.writeRefused)
    (fun t => post .writeRefused 0 addr.toNat
      (t.setPort { t.port with writeRefused := true, refusedAddress := addr })) s

/-- An accepted write changes exactly the bytes it enables (R175). -/
def Memory.store (m : Memory) (bytes : List (Nat × Byte)) : Memory :=
  bytes.foldl (fun m b => Memory.write m b.1 b.2) m

/-- A host write below the port registers is judged, and accepted whole or dropped whole (R175). -/
def memoryWrite (addr : BitVec 14) (bytes : List (Nat × Byte)) (s : State) : State :=
  if bytes.all fun b => s.byteWritable b.1 b.2 then s.setMem (Memory.store s.mem bytes) else refuseWrite addr s

/-! ### Port registers (R177) -/

/-- The word a register write gives: a byte that is not enabled keeps what the register reads. -/
def mergedWord (en : ByteEnable) (data old : Word) : Word :=
  match en with
  | .low => (old &&& 0xFF00#16) ||| (data &&& 0x00FF#16)
  | .high => (old &&& 0x00FF#16) ||| (data &&& 0xFF00#16)
  | .both => data

/-- A write of PORT_STATUS (R177): a byte that is not enabled writes no 1. -/
def writePortStatus (value : Word) (s : State) : State :=
  s.setPort { s.port with
    noticeOverflow := s.port.noticeOverflow && !value.getLsbD 3
    writeRefused := s.port.writeRefused && !value.getLsbD 4 }

/-- A write of PORT_CONTROL (R177). -/
def writePortControl (value : Word) (s : State) : State :=
  when (value.getLsbD 1) softReset (s.setPort { s.port with intEnable := value.getLsbD 0 })

/-- A write of ATTENTION (R177, R181): a heartbeat, and a sweep start. -/
def writeAttention (places : Nat) (s : State) : State := startSweep places (heartbeat s)

/-- A NOTICE_READ value is accepted (R182). -/
def Port.releases (p : Port) (n : BitVec 7) : Bool := (n - p.noticeRead).toNat ≤ (p.noticeWrite - p.noticeRead).toNat

/-- A write of NOTICE_READ (R177, R182), and its heartbeat. The register has bits 0 to 6. -/
def writeNoticeRead (addr : BitVec 14) (value : Word) (s : State) : State :=
  let n : BitVec 7 := value.setWidth 7
  heartbeat (if s.port.releases n then s.setPort { s.port with noticeRead := n } else refuseWrite addr s)

/-- The word address of a port register (R186). -/
def registerAddress (k : Nat) : BitVec 14 := BitVec.ofNat 14 (0x3FF8 + k)

/-- PORT_CONTROL as it reads: SOFT_RESET reads 0 (R177). -/
def State.portControl (s : State) : Word := if s.port.intEnable then 1#16 else 0#16

/-- A write of the port register at a word address (R177); `places` is for ATTENTION. -/
def registerWrite (addr : BitVec 14) (en : ByteEnable) (data : Word) (places : Nat) (s : State) : State :=
  match addr.toNat - 0x3FF8 with
  | 1 => writePortStatus (mergedWord en data 0#16) s
  | 2 => writePortControl (mergedWord en data s.portControl) s
  | 3 => writeAttention places s
  | 4 => writeNoticeRead addr (mergedWord en data (s.port.noticeRead.setWidth 16)) s
  | _ => refuseWrite addr s

/-- A host write that is not lost goes to the exchange memory or to a port register (R175, R177). -/
def takeWrite (addr : BitVec 14) (en : ByteEnable) (data : Word) (places : Nat) (s : State) : State :=
  if addr.toNat < 0x3FF8 then memoryWrite addr (enabledBytes addr en data) s else registerWrite addr en data places s

/-- A host write (R175): in STANDBY it is lost. -/
def hostWrite (addr : BitVec 14) (en : ByteEnable) (data : Word) (places : Nat) (s : State) : State :=
  when s.awake (takeWrite addr en data places) s

/-- The word address of a slot's state byte and kind byte (R187). -/
def slotAddress (i : Nat) : BitVec 14 := BitVec.ofNat 14 (slotBase i / 2)

/-- The word address of a register that refuses every write (R186). -/
def readOnlyAddress : ReadOnlyRegister → BitVec 14
  | .ident => registerAddress 0
  | .noticeWrite => registerAddress 5
  | .refusedAddress => registerAddress 6
  | .timeMs => registerAddress 7

end Sys2Proof.Machine
end

