-- ==== Sys2Proof/Machine/View.lean ====
section
/-! DEFINITION. What the host processor reads (R175, R177, R185 to R192): each byte of the exchange memory as it
stands. No command changes by it; it is the observation of the state through the port. -/

namespace Sys2Proof.Machine

/-- Byte `k` of a list of bytes. -/
def byteAt (l : List Byte) (k : Nat) : Byte := l.getD k 0#8

/-- The content of a port register (R186). -/
def State.register (s : State) (k : Nat) : Word :=
  match k with
  | 0 => Config.partCode
  | 1 => s.portStatus
  | 2 => s.portControl
  | 4 => s.port.noticeRead.setWidth 16
  | 5 => s.port.noticeWrite.setWidth 16
  | 6 => s.port.refusedAddress.setWidth 16
  | 7 => s.time.setWidth 16
  | _ => 0#16

/-- The byte at an offset of a region the part owns (section 1.4). -/
def State.ownedByte (s : State) (a : Nat) : Byte :=
  if a < 0x0100 then byteAt (s.statusBytes s.faultCount) a
  else if a < 0x0900 then byteAt (s.port.ring.get ((a - 0x0500) / 8)).bytes ((a - 0x0500) % 8)
  else if a < 0x2100 then byteAt (s.line.stations.get ((a - 0x1F00) / 32)).bytes ((a - 0x1F00) % 32)
  else if a < 0x2500 then byteAt (s.signals.get ((a - 0x2100) / 8)).bytes ((a - 0x2100) % 8)
  else if a < 0x2680 then byteAt (s.sense.channels.get ((a - 0x2500) / 8)).bytes ((a - 0x2500) % 8)
  else if a < 0x26E0 then byteAt (s.gauges.get ((a - 0x2680) / 16)).bytes ((a - 0x2680) % 16)
  else if a < 0x2720 then byteAt (s.comp.lamps.get ((a - 0x26E0) / 2)).bytes ((a - 0x26E0) % 2)
  else if a < 0x27A0 then byteAt (s.doors.doors.get ((a - 0x2720) / 32)).bytes ((a - 0x2720) % 32)
  else if a < 0x27C0 then byteAt s.doors.bytes (a - 0x27A0)
  else if a < 0x2AC0 then byteAt (s.warnings.get ((a - 0x27C0) / 8)).bytes ((a - 0x27C0) % 8)
  else if a < 0x2B00 then byteAt s.comp.bytes (a - 0x2AC0)
  else if a < 0x3700 then byteAt (s.faults.records.get ((a - 0x2B00) / 64)).bytes ((a - 0x2B00) % 64)
  else byteAt (s.line.log.get ((a - 0x3700) / 16)).bytes ((a - 0x3700) % 16)

/-- A request slot, a setup region or free memory: bytes that the host may write (section 1.4). -/
def hostOwned (a : Nat) : Bool :=
  (0x0100 ≤ a && a < 0x0500) || (0x0900 ≤ a && a < 0x1F00) || (0x4700 ≤ a && a < 0x7FF0)

/-- The byte the host processor reads at an offset; in STANDBY every read returns 0 (R175). -/
def State.hostByte (s : State) (a : Nat) : Byte :=
  if !s.awake then 0#8
  else if hostOwned a then Memory.read s.mem a
  else if a < 0x7FF0 then s.ownedByte a
  else byteAt (wordBytes (s.register ((a - 0x7FF0) / 2))) (a % 2)

/-- The word the host processor reads at a word address. -/
def State.hostRead (s : State) (addr : BitVec 14) : Word :=
  wordOfBytes (s.hostByte (2 * addr.toNat)) (s.hostByte (2 * addr.toNat + 1))

end Sys2Proof.Machine
end

