-- ==== Sys2Proof/Machine/PortCommands.lean ====
section
/-! DEFINITION. The meanings of the host's writes and of the port unit's own timers (R175 to R184, R198, R201). -/

namespace Sys2Proof.Machine

/-- What a command answers. -/
abbrev Answer := Host.Outcome State Fault Refusal

/-- HOST_MEMORY_WRITE (R175). -/
def execHostMemoryWrite (addr : BitVec 14) (en : ByteEnable) (data : Word) (s : State) : Answer :=
  .next (hostWrite addr en data 16 s)

/-- POST_REQUEST (R180): POSTED into the state byte, with the kind byte in the same word where one is given. -/
def execPostRequest (slot : Fin 16) (kind : Option Byte) (s : State) : Answer :=
  .next (match kind with
    | none => hostWrite (slotAddress slot) .low 1#16 16 s
    | some k => hostWrite (slotAddress slot) .both (wordOfBytes 1#8 k) 16 s)

/-- WITHDRAW_REQUEST (R180): EMPTY into the state byte. -/
def execWithdrawRequest (slot : Fin 16) (s : State) : Answer := .next (hostWrite (slotAddress slot) .low 0#16 16 s)

/-- RELEASE_SLOT (R180): EMPTY into the state byte. -/
def execReleaseSlot (slot : Fin 16) (s : State) : Answer := .next (hostWrite (slotAddress slot) .low 0#16 16 s)

/-- PORT_REGISTER_WRITE (R177). -/
def execPortRegisterWrite (reg : ReadOnlyRegister) (en : ByteEnable) (data : Word) (s : State) : Answer :=
  .next (hostWrite (readOnlyAddress reg) en data 16 s)

/-- CLEAR_NOTICE_OVERFLOW (R177, R182): a 1 in bit 3 of PORT_STATUS. -/
def execClearNoticeOverflow (s : State) : Answer := .next (hostWrite (registerAddress 1) .both 8#16 16 s)

/-- CLEAR_WRITE_REFUSED (R176, R177): a 1 in bit 4 of PORT_STATUS. -/
def execClearWriteRefused (s : State) : Answer := .next (hostWrite (registerAddress 1) .both 16#16 16 s)

/-- INT_ENABLE (R177): PORT_CONTROL with SOFT_RESET clear. -/
def execIntEnable (on : Bool) (s : State) : Answer :=
  .next (hostWrite (registerAddress 2) .both (if on then 1#16 else 0#16) 16 s)

/-- SOFT_RESET (R201): a 1 in bit 1 of PORT_CONTROL. -/
def execSoftReset (s : State) : Answer := .next (hostWrite (registerAddress 2) .both 2#16 16 s)

/-- ATTENTION (R181, R183). -/
def execAttention (value : Word) (places : Nat) (s : State) : Answer :=
  .next (hostWrite (registerAddress 3) .both value places s)

/-- NOTICE_READ (R182, R183). -/
def execNoticeRead (value : Word) (s : State) : Answer := .next (hostWrite (registerAddress 4) .both value 16 s)

/-- SWEEP_TIMER_EXPIRY (R181). -/
def execSweepTimerExpiry (places : Nat) (s : State) : Answer := .next (sweepExpires places s)

/-- HELD_SWEEP_START (R181). -/
def execHeldSweepStart (places : Nat) (s : State) : Answer := .next (heldSweepStarts places s)

/-- SETUP_VALIDATION_END (R198). -/
def execSetupValidationEnd (s : State) : Answer := .next (validationEnds s)

/-- LIVENESS_TIMER_EXPIRY (R183). -/
def execLivenessTimerExpiry (s : State) : Answer := .next (livenessExpires s)

end Sys2Proof.Machine
end

