-- ==== Sys2Proof/Machine/SenseCommands.lean ====
section
/-! DEFINITION. The meanings of the events of the signal image and the sense scanner (R7, R17 to R33). A sample that
is named by what it brings about is the sample of R17, and arises only where that sample brings it about. -/

namespace Sys2Proof.Machine

/-- STALE_EXPIRY (R7). -/
def execStaleExpiry (signal : Fin 128) (s : State) : Answer := .next (staleExpires signal s)

/-- SENSE_SAMPLE (R17). -/
def execSenseSample (channel : Fin 48) (reading : BitVec 12) (s : State) : Answer :=
  .next (sample channel reading.toNat s)

/-- DEBOUNCE_CHANGE (R21). -/
def execDebounceChange (channel : Fin 48) (reading : BitVec 12) (s : State) : Answer :=
  .next (when (s.willDebounce channel reading.toNat) (sample channel reading.toNat) s)

/-- SENSE_FAULT_ENTRY (R24). -/
def execSenseFaultEntry (channel : Fin 48) (reading : BitVec 12) (s : State) : Answer :=
  .next (when (s.willFault channel reading.toNat) (sample channel reading.toNat) s)

/-- SENSE_HEAL (R25). -/
def execSenseHeal (channel : Fin 48) (reading : BitVec 12) (s : State) : Answer :=
  .next (when (s.willHeal channel reading.toNat) (sample channel reading.toNat) s)

/-- FREQUENCY_EDGE (R20). -/
def execFrequencyEdge (channel : Fin 48) (after : Nat) (s : State) : Answer := .next (edge channel after s)

/-- WIRING_CHECK_MEASUREMENT (R32, R33). -/
def execWiringCheckMeasurement (channel : Fin 48) (reading : BitVec 12) (s : State) : Answer :=
  .next (wiringMeasurement channel reading.toNat s)

/-- SUPPLY_MEASUREMENT (R29). -/
def execSupplyMeasurement (millivolts : Word) (s : State) : Answer := .next (supplyMeasured millivolts s)

/-- SUPPLY_LOW_TIMER_EXPIRY (R29). -/
def execSupplyLowTimerExpiry (s : State) : Answer := .next (supplyLowExpires s)

/-- IGNITION_STATE_CHANGE (R31): equal samples of the ignition line, of which the tenth changes the state. -/
def execIgnitionStateChange (on : Bool) (samples : Nat) (s : State) : Answer := .next (ignitionSampled on samples s)

end Sys2Proof.Machine
end

