-- ==== Sys2Proof/Machine/LineCommands.lean ====
section
/-! DEFINITION. The meanings of the events of the body line (R37 to R62). -/

namespace Sys2Proof.Machine

/-- MINOR_CYCLE_START (R58). -/
def execMinorCycleStart (s : State) : Answer := .next (minorExpires s)

/-- REPLY_CHARACTER (R37, R38, R42). -/
def execReplyCharacter (channel : Channel) (gap : Int) (data : Byte) (headerMark stopBit : Bool) (s : State) :
    Answer :=
  .next (replyCharacterArrives channel gap data headerMark stopBit s)

/-- RESPONSE_TIMEOUT (R41). -/
def execResponseTimeout (s : State) : Answer := .next (responseExpires s)

/-- REPLY_GAP_TIMEOUT (R41). -/
def execReplyGapTimeout (s : State) : Answer := .next (gapExpires s)

/-- ATTEMPT_WINDOW_CLOSE (R43). -/
def execAttemptWindowClose (s : State) : Answer := .next (windowExpires s)

/-- TURNAROUND_END (R43). A STANDBY that waits for the line is then due, and STANDBY_ENTRY or a tick makes it
(assumption 10). -/
def execTurnaroundEnd (s : State) : Answer := .next (turnaroundExpires s)

end Sys2Proof.Machine
end

