-- ==== Sys2Proof/Machine/DoorCommands.lean ====
section
/-! DEFINITION. The meanings of the timers of the door supervisor and the warning unit (R84, R89, R93, R104). -/

namespace Sys2Proof.Machine

/-- AGREE_TIMER_EXPIRY (R84). -/
def execAgreeTimerExpiry (door : Fin 4) (s : State) : Answer := .next (agreeExpires door s)

/-- STOP_TIMER_EXPIRY (R89). -/
def execStopTimerExpiry (s : State) : Answer := .next (stopExpires s)

/-- RELEASE_TIMER_EXPIRY (R93). -/
def execReleaseTimerExpiry (s : State) : Answer := .next (releaseExpires s)

/-- The delay of a warning that stands in a state (R104). -/
def State.delayIn (s : State) (w : Nat) (x : WarningState) : Option Nat :=
  if (s.warnings.get w).state = x then (s.warnings.get w).delay else none

/-- ON_DELAY_EXPIRY (R104). -/
def execOnDelayExpiry (warning : Fin 96) (s : State) : Answer :=
  .next (onTimer (s.delayIn warning .arming) (fun _ t => warningDelayExpires warning t) s)

/-- OFF_DELAY_EXPIRY (R104). -/
def execOffDelayExpiry (warning : Fin 96) (s : State) : Answer :=
  .next (onTimer (s.delayIn warning .clearing) (fun _ t => warningDelayExpires warning t) s)

end Sys2Proof.Machine
end

