-- ==== Sys2Proof/Machine/DisplayCommands.lean ====
section
/-! DEFINITION. The meanings of the events of the tell-tales, the sounder and the gauges (R123 to R146). A measurement
or an overcurrent that is named by what it brings about arises only where it brings it about. -/

namespace Sys2Proof.Machine

/-- FLASH_PHASE_CHANGE (R123). -/
def execFlashPhaseChange (rate : FlashRate) (s : State) : Answer := .next (flashExpires rate s)

/-- PROOF_TIMER_EXPIRY (R124). -/
def execProofTimerExpiry (lamp : Fin 32) (milliamps : Nat) (s : State) : Answer :=
  .next (proofExpires lamp milliamps s)

/-- Keeps an event where it takes a lamp's proof state from one set of values to another. -/
def whenProof (l : Nat) (old : ProofState → Bool) (new : ProofState) (f : State → State) (s : State) : State :=
  if old (s.comp.lamps.get l).proof && ((f s).comp.lamps.get l).proof = new then f s else s

/-- LAMP_OPEN_LOAD (R124): the measurement that brings the open-load count to 3. -/
def execLampOpenLoad (lamp : Fin 32) (milliamps : Nat) (s : State) : Answer :=
  .next (whenProof lamp (fun p => p ≠ .openLoad) .openLoad (proofExpires lamp milliamps) s)

/-- LAMP_PROOF_HEALED (R124): the measurement that brings the heal count to 3. -/
def execLampProofHealed (lamp : Fin 32) (milliamps : Nat) (s : State) : Answer :=
  .next (whenProof lamp (fun p => p = .openLoad) .ok (proofExpires lamp milliamps) s)

/-- LAMP_OVERCURRENT (R126). -/
def execLampOvercurrent (lamp : Fin 32) (s : State) : Answer := .next (overcurrent lamp s)

/-- LAMP_SHORTED (R126): the overcurrent that brings the trip count to 3. -/
def execLampShorted (lamp : Fin 32) (s : State) : Answer :=
  .next (whenProof lamp (fun p => p ≠ .shorted) .shorted (overcurrent lamp) s)

/-- OVERCURRENT_RETRY_EXPIRY (R126). -/
def execOvercurrentRetryExpiry (lamp : Fin 32) (s : State) : Answer := .next (retryExpires lamp s)

/-- LAMP_CHECK_TIMER_EXPIRY (R128). -/
def execLampCheckTimerExpiry (s : State) : Answer := .next (lampCheckExpires s)

/-- SOUNDER_PHASE_CHANGE (R130). -/
def execSounderPhaseChange (s : State) : Answer := .next (sounderExpires s)

/-- CHIME_TONE_END (R130). -/
def execChimeToneEnd (s : State) : Answer := .next (chimeExpires s)

/-- TEST_TONE_END (R132). -/
def execTestToneEnd (s : State) : Answer := .next (testToneExpires s)

/-- GAUGE_UPDATE (R137): the update that parks the last gauge brings a STANDBY that waits for it (R197, R200). -/
def execGaugeUpdate (gauge : Fin 6) (s : State) : Answer :=
  .next (if (gaugeExpires gauge s).allParked && !s.allParked then standbyIfDue (gaugeExpires gauge s)
    else gaugeExpires gauge s)

/-- HOLD_TIMER_EXPIRY (R142). -/
def execHoldTimerExpiry (gauge : Fin 6) (s : State) : Answer := .next (holdExpires gauge s)

end Sys2Proof.Machine
end

