-- ==== Sys2Proof/Machine/WorkshopCommands.lean ====
section
/-! DEFINITION. The meanings of the events of the workshop line (R163 to R173). A service command is the characters of
its request frame, arriving one by one without error. -/

namespace Sys2Proof.Machine

/-- WORKSHOP_FRAME_DISCARD (R163): the character at which the receiver discards a frame. -/
def execWorkshopFrameDiscard (data : Byte) (error : CharError) (s : State) : Answer :=
  .next (when (s.discards data error) (receiveCharacter data error) s)

/-- WORKSHOP_GAP_TIMEOUT (R163). -/
def execWorkshopGapTimeout (s : State) : Answer := .next (frameGapExpires s)

/-- WORKSHOP_RESYNC_GAP (R163). -/
def execWorkshopResyncGap (s : State) : Answer := .next (resyncExpires s)

/-- UNKNOWN_SERVICE (R165). -/
def execUnknownService (code tag : Byte) (data : List Byte) (s : State) : Answer :=
  .next (receiveFrame (requestFrame code tag data) s)

/-- The frame of a service request (R194). -/
def serviceFrame (v : Service) (tag : Byte) (data : List Byte) : List Byte := requestFrame (byteOf v.code) tag data

/-- IDENTIFY (R169). -/
def execIdentify (tag : Byte) (data : List Byte) (s : State) : Answer :=
  .next (receiveFrame (serviceFrame .identify tag data) s)

/-- OPEN_SESSION (R166). -/
def execOpenSession (tag : Byte) (data : List Byte) (s : State) : Answer :=
  .next (receiveFrame (serviceFrame .openSession tag data) s)

/-- CLOSE_SESSION (R166). -/
def execCloseSession (tag : Byte) (data : List Byte) (s : State) : Answer :=
  .next (receiveFrame (serviceFrame .closeSession tag data) s)

/-- READ_SIGNALS (R169). -/
def execReadSignals (tag : Byte) (data : List Byte) (s : State) : Answer :=
  .next (receiveFrame (serviceFrame .readSignals tag data) s)

/-- READ_FAULTS (R170). -/
def execReadFaults (tag : Byte) (data : List Byte) (s : State) : Answer :=
  .next (receiveFrame (serviceFrame .readFaults tag data) s)

/-- READ_FAULT_SNAPSHOT (R169). -/
def execReadFaultSnapshot (tag : Byte) (data : List Byte) (s : State) : Answer :=
  .next (receiveFrame (serviceFrame .readFaultSnapshot tag data) s)

/-- CLEAR_FAULTS of the workshop (R172). -/
def execWorkshopClearFaults (tag : Byte) (data : List Byte) (s : State) : Answer :=
  .next (receiveFrame (serviceFrame .clearFaults tag data) s)

/-- FORCE_SIGNAL (R171). -/
def execForceSignal (tag : Byte) (data : List Byte) (s : State) : Answer :=
  .next (receiveFrame (serviceFrame .forceSignal tag data) s)

/-- RELEASE_SIGNAL (R171). -/
def execReleaseSignal (tag : Byte) (data : List Byte) (s : State) : Answer :=
  .next (receiveFrame (serviceFrame .releaseSignal tag data) s)

/-- ACTUATOR_TEST with test GAUGE_SWEEP (R173). -/
def execActuatorTestGaugeSweep (tag : Byte) (rest : List Byte) (s : State) : Answer :=
  .next (receiveFrame (serviceFrame .actuatorTest tag (0#8 :: rest)) s)

/-- ACTUATOR_TEST with test LAMP_CHECK (R173). -/
def execActuatorTestLampCheck (tag : Byte) (rest : List Byte) (s : State) : Answer :=
  .next (receiveFrame (serviceFrame .actuatorTest tag (1#8 :: rest)) s)

/-- ACTUATOR_TEST with test CHIME (R173). -/
def execActuatorTestChime (tag : Byte) (rest : List Byte) (s : State) : Answer :=
  .next (receiveFrame (serviceFrame .actuatorTest tag (2#8 :: rest)) s)

/-- ACTUATOR_TEST with test STATUS (R173). -/
def execActuatorTestStatus (tag : Byte) (rest : List Byte) (s : State) : Answer :=
  .next (receiveFrame (serviceFrame .actuatorTest tag (3#8 :: rest)) s)

/-- READ_DOOR_COUNTERS (R169). -/
def execReadDoorCounters (tag : Byte) (data : List Byte) (s : State) : Answer :=
  .next (receiveFrame (serviceFrame .readDoorCounters tag data) s)

/-- RESET_DOOR_COUNTER (R172). -/
def execResetDoorCounter (tag : Byte) (data : List Byte) (s : State) : Answer :=
  .next (receiveFrame (serviceFrame .resetDoorCounter tag data) s)

/-- READ_LOG (R170). -/
def execReadLog (tag : Byte) (data : List Byte) (s : State) : Answer :=
  .next (receiveFrame (serviceFrame .readLog tag data) s)

/-- ANSWER_END (R164). -/
def execAnswerEnd (s : State) : Answer := .next (answerEnds s)

/-- SESSION_IDLE_TIMER_EXPIRY (R167). -/
def execSessionIdleTimerExpiry (s : State) : Answer := .next (sessionExpires s)

/-- WORKSHOP_CHARACTER_RECEIVED (R163). -/
def execWorkshopCharacterReceived (data : Byte) (error : CharError) (s : State) : Answer :=
  .next (when s.awake (receiveCharacter data error) s)

end Sys2Proof.Machine
end

