-- ==== Sys2Proof/Machine/RunCommands.lean ====
section
/-! DEFINITION. The meanings of the events of the run-state logic (R195 to R202). -/

namespace Sys2Proof.Machine

/-- RELEASE_CHANNEL_WAKE (R196): equal samples of a door's release channel in STANDBY, of which the tenth that reads
pulled wakes the part. -/
def execReleaseChannelWake (door : Fin 4) (reading : BitVec 12) (samples : Nat) (s : State) : Answer :=
  .next (releaseSampled door reading.toNat samples s)

/-- WORKSHOP_LINE_WAKE (R196). -/
def execWorkshopLineWake (s : State) : Answer := .next (wakeFromStandby s)

/-- CONFIG_IDLE_TIMER_EXPIRY (R197). -/
def execConfigIdleTimerExpiry (s : State) : Answer := .next (configIdleExpires s)

/-- STANDBY_ENTRY (R197). -/
def execStandbyEntry (s : State) : Answer := .next (standbyIfDue s)

/-- RUN_ON_TIMER_EXPIRY (R199). -/
def execRunOnTimerExpiry (s : State) : Answer := .next (runOnExpires s)

/-- POWER_ON (R202). -/
def execPowerOn (s : State) : Answer := .next (powerUp s)

end Sys2Proof.Machine
end

