-- ==== Sys2Proof/Machine/Clock.lean ====
section
/-! DEFINITION. What passes where no command waits: the clock, a sweep under way, and an entry into STANDBY that is
due. -/

namespace Sys2Proof.Machine

/-- The sweep under way visits its next slot, or a held sweep starts (R181). -/
def sweepMoves (s : State) : State :=
  if s.port.sweepPlace.isSome then visitSlot s
  else if s.port.sweepHeld then s.setPort { s.port with sweepHeld := false, sweepPlace := some 0 } else s

/-- One µs passes in an awake state; in STANDBY the time counter stands still (R195). -/
def tick (s : State) : State := when s.awake (fun t => standbyIfDue (sweepMoves (t.setNow (t.now + 1)))) s

end Sys2Proof.Machine
end

