-- ==== Sys2Proof/Machine/Dispatch.lean ====
section
/-! DEFINITION. One arm per command: the call of its meaning. -/

namespace Sys2Proof.Machine

def exec (i : Instr) (s : State) : Host.Outcome State Fault Refusal :=
  match i with
  | .hostMemoryWrite addr en data => Sys2Proof.Machine.execHostMemoryWrite addr en data s
  | .postRequest slot kind => Sys2Proof.Machine.execPostRequest slot kind s
  | .withdrawRequest slot => Sys2Proof.Machine.execWithdrawRequest slot s
  | .releaseSlot slot => Sys2Proof.Machine.execReleaseSlot slot s
  | .portRegisterWrite reg en data => Sys2Proof.Machine.execPortRegisterWrite reg en data s
  | .clearNoticeOverflow => Sys2Proof.Machine.execClearNoticeOverflow s
  | .clearWriteRefused => Sys2Proof.Machine.execClearWriteRefused s
  | .intEnable on => Sys2Proof.Machine.execIntEnable on s
  | .softReset => Sys2Proof.Machine.execSoftReset s
  | .attention value places => Sys2Proof.Machine.execAttention value places s
  | .noticeRead value => Sys2Proof.Machine.execNoticeRead value s
  | .sweepTimerExpiry places => Sys2Proof.Machine.execSweepTimerExpiry places s
  | .heldSweepStart places => Sys2Proof.Machine.execHeldSweepStart places s
  | .setupValidationEnd => Sys2Proof.Machine.execSetupValidationEnd s
  | .livenessTimerExpiry => Sys2Proof.Machine.execLivenessTimerExpiry s
  | .staleExpiry signal => Sys2Proof.Machine.execStaleExpiry signal s
  | .senseSample channel reading => Sys2Proof.Machine.execSenseSample channel reading s
  | .debounceChange channel reading => Sys2Proof.Machine.execDebounceChange channel reading s
  | .senseFaultEntry channel reading => Sys2Proof.Machine.execSenseFaultEntry channel reading s
  | .senseHeal channel reading => Sys2Proof.Machine.execSenseHeal channel reading s
  | .frequencyEdge channel after => Sys2Proof.Machine.execFrequencyEdge channel after s
  | .wiringCheckMeasurement channel reading => Sys2Proof.Machine.execWiringCheckMeasurement channel reading s
  | .supplyMeasurement millivolts => Sys2Proof.Machine.execSupplyMeasurement millivolts s
  | .supplyLowTimerExpiry => Sys2Proof.Machine.execSupplyLowTimerExpiry s
  | .ignitionStateChange on samples => Sys2Proof.Machine.execIgnitionStateChange on samples s
  | .minorCycleStart => Sys2Proof.Machine.execMinorCycleStart s
  | .replyCharacter channel gap data headerMark stopBit => Sys2Proof.Machine.execReplyCharacter channel gap data headerMark stopBit s
  | .responseTimeout => Sys2Proof.Machine.execResponseTimeout s
  | .replyGapTimeout => Sys2Proof.Machine.execReplyGapTimeout s
  | .attemptWindowClose => Sys2Proof.Machine.execAttemptWindowClose s
  | .turnaroundEnd => Sys2Proof.Machine.execTurnaroundEnd s
  | .agreeTimerExpiry door => Sys2Proof.Machine.execAgreeTimerExpiry door s
  | .stopTimerExpiry => Sys2Proof.Machine.execStopTimerExpiry s
  | .releaseTimerExpiry => Sys2Proof.Machine.execReleaseTimerExpiry s
  | .onDelayExpiry warning => Sys2Proof.Machine.execOnDelayExpiry warning s
  | .offDelayExpiry warning => Sys2Proof.Machine.execOffDelayExpiry warning s
  | .flashPhaseChange rate => Sys2Proof.Machine.execFlashPhaseChange rate s
  | .proofTimerExpiry lamp milliamps => Sys2Proof.Machine.execProofTimerExpiry lamp milliamps s
  | .lampOpenLoad lamp milliamps => Sys2Proof.Machine.execLampOpenLoad lamp milliamps s
  | .lampProofHealed lamp milliamps => Sys2Proof.Machine.execLampProofHealed lamp milliamps s
  | .lampOvercurrent lamp => Sys2Proof.Machine.execLampOvercurrent lamp s
  | .lampShorted lamp => Sys2Proof.Machine.execLampShorted lamp s
  | .overcurrentRetryExpiry lamp => Sys2Proof.Machine.execOvercurrentRetryExpiry lamp s
  | .lampCheckTimerExpiry => Sys2Proof.Machine.execLampCheckTimerExpiry s
  | .sounderPhaseChange => Sys2Proof.Machine.execSounderPhaseChange s
  | .chimeToneEnd => Sys2Proof.Machine.execChimeToneEnd s
  | .testToneEnd => Sys2Proof.Machine.execTestToneEnd s
  | .gaugeUpdate gauge => Sys2Proof.Machine.execGaugeUpdate gauge s
  | .holdTimerExpiry gauge => Sys2Proof.Machine.execHoldTimerExpiry gauge s
  | .workshopFrameDiscard data error => Sys2Proof.Machine.execWorkshopFrameDiscard data error s
  | .workshopGapTimeout => Sys2Proof.Machine.execWorkshopGapTimeout s
  | .workshopResyncGap => Sys2Proof.Machine.execWorkshopResyncGap s
  | .unknownService code tag data => Sys2Proof.Machine.execUnknownService code tag data s
  | .identify tag data => Sys2Proof.Machine.execIdentify tag data s
  | .openSession tag data => Sys2Proof.Machine.execOpenSession tag data s
  | .closeSession tag data => Sys2Proof.Machine.execCloseSession tag data s
  | .readSignals tag data => Sys2Proof.Machine.execReadSignals tag data s
  | .readFaults tag data => Sys2Proof.Machine.execReadFaults tag data s
  | .readFaultSnapshot tag data => Sys2Proof.Machine.execReadFaultSnapshot tag data s
  | .workshopClearFaults tag data => Sys2Proof.Machine.execWorkshopClearFaults tag data s
  | .forceSignal tag data => Sys2Proof.Machine.execForceSignal tag data s
  | .releaseSignal tag data => Sys2Proof.Machine.execReleaseSignal tag data s
  | .actuatorTestGaugeSweep tag rest => Sys2Proof.Machine.execActuatorTestGaugeSweep tag rest s
  | .actuatorTestLampCheck tag rest => Sys2Proof.Machine.execActuatorTestLampCheck tag rest s
  | .actuatorTestChime tag rest => Sys2Proof.Machine.execActuatorTestChime tag rest s
  | .actuatorTestStatus tag rest => Sys2Proof.Machine.execActuatorTestStatus tag rest s
  | .readDoorCounters tag data => Sys2Proof.Machine.execReadDoorCounters tag data s
  | .resetDoorCounter tag data => Sys2Proof.Machine.execResetDoorCounter tag data s
  | .readLog tag data => Sys2Proof.Machine.execReadLog tag data s
  | .answerEnd => Sys2Proof.Machine.execAnswerEnd s
  | .sessionIdleTimerExpiry => Sys2Proof.Machine.execSessionIdleTimerExpiry s
  | .releaseChannelWake door reading samples => Sys2Proof.Machine.execReleaseChannelWake door reading samples s
  | .workshopLineWake => Sys2Proof.Machine.execWorkshopLineWake s
  | .configIdleTimerExpiry => Sys2Proof.Machine.execConfigIdleTimerExpiry s
  | .standbyEntry => Sys2Proof.Machine.execStandbyEntry s
  | .runOnTimerExpiry => Sys2Proof.Machine.execRunOnTimerExpiry s
  | .powerOn => Sys2Proof.Machine.execPowerOn s
  | .workshopCharacterReceived data error => Sys2Proof.Machine.execWorkshopCharacterReceived data error s

end Sys2Proof.Machine
end

