-- ==== Sys2Proof/Safety.lean ====
section
/-! DEFINITION. What a safe state of the part is, and what a command may change: the terms of the statements. -/

namespace Sys2Proof.Machine

/-! ### What a command leaves unchanged -/

/-- The bytes of the exchange memory outside the request slots, each at its offset (section 1.4); an offset inside
the slots is blanked. -/
def State.outside (s : State) : Nat → Byte := fun a =>
  if 0x0100 ≤ a ∧ a < 0x0500 then 0#8 else Memory.read s.mem a

/-- The parts of the state that a frame names. `notices` is the ring with its write place and its overflow flag,
`statusBlock` the update count of the status block, `registers` the rest of the port unit, `slots` and `freeBytes` the
exchange memory inside and outside the request slots, `session` the workshop session with its forces and its test
record, and `receiver` the workshop receiver with its rate and its timers. -/
inductive Part where
  | queue
  | clock
  | runLogic
  | notices
  | statusBlock
  | registers
  | slots
  | freeBytes
  | setup
  | signals
  | sense
  | line
  | doors
  | warnings
  | composition
  | gauges
  | faults
  | session
  | receiver
  deriving DecidableEq, Repr

/-- The port unit with its notices and its status block count blanked. -/
def Port.registers (p : Port) : Port :=
  { p with ring := Table.replicate 128 {}, noticeWrite := 0#7, noticeOverflow := false, statusUpd := 0#8 }

/-- A part of the state is the same in two states. -/
def Part.same (s t : State) : Part → Prop
  | .queue => t.pending = s.pending
  | .clock => t.now = s.now
  | .runLogic => t.run = s.run
  | .notices => t.port.ring = s.port.ring ∧ t.port.noticeWrite = s.port.noticeWrite ∧
      t.port.noticeOverflow = s.port.noticeOverflow
  | .statusBlock => t.port.statusUpd = s.port.statusUpd
  | .registers => t.port.registers = s.port.registers
  | .slots => ∀ a, 0x0100 ≤ a → a < 0x0500 → Memory.read t.mem a = Memory.read s.mem a
  | .freeBytes => ∀ a, a < 0x0100 ∨ 0x0500 ≤ a → Memory.read t.mem a = Memory.read s.mem a
  | .setup => t.setup = s.setup
  | .signals => t.signals = s.signals
  | .sense => t.sense = s.sense
  | .line => t.line = s.line
  | .doors => t.doors = s.doors
  | .warnings => t.warnings = s.warnings
  | .composition => t.comp = s.comp
  | .gauges => t.gauges = s.gauges
  | .faults => t.faults = s.faults
  | .session => t.shop.session = s.shop.session ∧ t.shop.forced = s.shop.forced ∧ t.shop.tests = s.shop.tests
  | .receiver => t.shop.receiver = s.shop.receiver ∧ t.shop.rate = s.shop.rate ∧
      t.shop.nextRate = s.shop.nextRate ∧ t.shop.gapTimer = s.shop.gapTimer ∧ t.shop.idleTimer = s.shop.idleTimer

/-- Every part but the ones listed is the same in `t` as in `s`. -/
def State.changesOnly (s t : State) (l : List Part) : Prop := ∀ p : Part, p ∉ l → p.same s t

/-- The parts that a write of a signal may reach through its readers: gauges, doors, motion, warnings, the composition,
the fault memory, the session, and the slots of tests that motion ends. -/
def signalParts : List Part :=
  [.clock, .notices, .statusBlock, .slots, .signals, .doors, .warnings, .composition, .gauges, .faults, .session]

/-- The parts that a change of a warning may reach. -/
def warningParts : List Part := [.clock, .notices, .statusBlock, .warnings, .composition, .faults]

/-- All parts but the queue, the applied setup and the exchange memory outside the slots. -/
def runParts : List Part :=
  [.clock, .runLogic, .notices, .statusBlock, .registers, .slots, .signals, .sense, .line, .doors, .warnings,
   .composition, .gauges, .faults, .session, .receiver]

/-- The parts that a command may change. -/
def mayChange : Instr → List Part
  | .hostMemoryWrite _ _ _ => .freeBytes :: runParts
  | .postRequest _ _ | .withdrawRequest _ | .releaseSlot _ => [.notices, .registers, .slots]
  | .portRegisterWrite _ _ _ => [.notices, .registers]
  | .clearNoticeOverflow => [.notices]
  | .clearWriteRefused | .intEnable _ => [.registers]
  | .softReset | .attention _ _ | .sweepTimerExpiry _ | .heldSweepStart _ | .ignitionStateChange _ _
  | .gaugeUpdate _ | .standbyEntry | .runOnTimerExpiry | .releaseChannelWake _ _ _ | .workshopLineWake => runParts
  | .noticeRead _ => .registers :: warningParts
  | .setupValidationEnd => .setup :: runParts
  | .livenessTimerExpiry => .registers :: warningParts
  | .staleExpiry _ => signalParts
  | .senseSample _ _ | .debounceChange _ _ | .senseFaultEntry _ _ | .senseHeal _ _
  | .wiringCheckMeasurement _ _ => .sense :: signalParts
  | .frequencyEdge _ _ => [.clock, .sense]
  | .supplyMeasurement _ => .sense :: warningParts
  | .supplyLowTimerExpiry => .slots :: .sense :: .doors :: warningParts
  | .minorCycleStart => [.clock, .notices, .statusBlock, .line]
  | .replyCharacter _ _ _ _ _ | .responseTimeout | .attemptWindowClose | .turnaroundEnd => .line :: signalParts
  | .replyGapTimeout => [.clock, .line]
  | .agreeTimerExpiry _ | .releaseTimerExpiry => .doors :: warningParts
  | .stopTimerExpiry => signalParts
  | .onDelayExpiry _ | .offDelayExpiry _ => warningParts
  | .flashPhaseChange _ | .overcurrentRetryExpiry _ | .sounderPhaseChange | .chimeToneEnd | .testToneEnd =>
    [.clock, .composition]
  | .proofTimerExpiry _ _ | .lampOpenLoad _ _ | .lampProofHealed _ _ | .lampOvercurrent _ | .lampShorted _ =>
    warningParts
  | .lampCheckTimerExpiry => [.clock, .notices, .statusBlock, .slots, .composition, .session]
  | .holdTimerExpiry _ => [.clock, .gauges]
  | .workshopGapTimeout | .workshopResyncGap => [.clock, .receiver]
  | .answerEnd => [.receiver]
  | .workshopFrameDiscard _ _ => [.receiver]
  | .unknownService _ _ _ | .identify _ _ | .openSession _ _ | .closeSession _ _ | .readSignals _ _ | .readFaults _ _
  | .readFaultSnapshot _ _ | .workshopClearFaults _ _ | .forceSignal _ _ | .releaseSignal _ _
  | .actuatorTestGaugeSweep _ _ | .actuatorTestLampCheck _ _ | .actuatorTestChime _ _ | .actuatorTestStatus _ _
  | .readDoorCounters _ _ | .resetDoorCounter _ _ | .readLog _ _ | .sessionIdleTimerExpiry
  | .workshopCharacterReceived _ _ => .receiver :: signalParts
  | .configIdleTimerExpiry => [.clock, .runLogic]
  | .powerOn => .setup :: .freeBytes :: runParts

/-- From `s` to `t` exactly one notice is posted (R182): with 127 unread it is lost and the overflow flag is set. -/
def State.postsOne (s t : State) (n : Notice) : Prop :=
  if s.unread = 127#7 then
    t.port.ring = s.port.ring ∧ t.port.noticeWrite = s.port.noticeWrite ∧ t.port.noticeOverflow = true
  else
    t.port.ring = s.port.ring.set s.port.noticeWrite.toNat n ∧ t.port.noticeWrite = s.port.noticeWrite + 1#7 ∧
      t.port.noticeOverflow = s.port.noticeOverflow

/-- From `s` to `t` a host write at a word address is refused (R176): with the flag already set nothing changes;
otherwise the flag and the address are written and a notice is posted. -/
def State.refuses (s t : State) (addr : BitVec 14) : Prop :=
  if s.port.writeRefused then t = s
  else
    t.port.registers = { s.port.registers with writeRefused := true, refusedAddress := addr } ∧
      s.postsOne t { kind := .writeRefused, index := 0#8, detail := addr.setWidth 16, time := s.time } ∧
      s.changesOnly t [.notices, .registers]

/-! ### What deliveries and exchanges do -/

/-- A value delivery of `v` at the time counter `ms` takes the source's view of a signal from `x` to `y` (R5). -/
def Signal.tookValue (x y : Signal) (u : SignalSetup) (v : Word) (ms : Nat) : Prop :=
  y.underlying = v ∧ y.lastUpdate = BitVec.ofNat 16 ms ∧
    y.staleDeadline = (if u.staleLimit = 0 then none else some (ms + u.staleLimit)) ∧
    (u.rangeMin ≤ v.toInt → v.toInt ≤ u.rangeMax → y.sourceValue = v ∧ y.sourceStatus = .valid) ∧
    (v.toInt < u.rangeMin ∨ u.rangeMax < v.toInt → y.sourceValue = x.sourceValue ∧ y.sourceStatus = .fault)

/-- A fault declaration at the time counter `ms`, with or without a substitute, takes the source's view of a signal from
`x` to `y` (R6). -/
def Signal.tookFault (x y : Signal) (u : SignalSetup) (substitute : Option Word) (ms : Nat) : Prop :=
  y.sourceStatus = .fault ∧ y.lastUpdate = BitVec.ofNat 16 ms ∧
    y.staleDeadline = (if u.staleLimit = 0 then none else some (ms + u.staleLimit)) ∧
    (∀ v, substitute = some v → y.sourceValue = v ∧ y.underlying = v) ∧
    (substitute = none → y.sourceValue = x.sourceValue ∧ y.underlying = x.underlying)

/-- After a delivery an unforced signal shows its source's view, and a forced one what it showed (R5, R6). -/
def Signal.shownAfter (x y : Signal) : Prop :=
  (x.status ≠ .forced → y.value = y.sourceValue ∧ y.status = y.sourceStatus) ∧
    (x.status = .forced → y.value = x.value ∧ y.status = .forced)

/-- A channel's entry is SETTLED, neither IN_FAULT nor UNDER_CHECK, and of logical value 1: a door channel reads its safe
sense for a leaf, a lock or a ramp (R78), and an override channel is active (R94). -/
def SenseChannel.showsOne (x : SenseChannel) : Prop :=
  x.settled = true ∧ x.faultClass = .none ∧ x.check = none ∧ x.logical = 1#16

/-- A channel's entry is SETTLED, and IN_FAULT or UNDER_CHECK: its reading is then the unsafe one (R78). -/
def SenseChannel.doubtful (x : SenseChannel) : Prop := x.settled = true ∧ (x.faultClass ≠ .none ∨ x.check ≠ none)

/-- A door's view is what R78 and R79 read from the sense entries of its channels and from its two signals. -/
def DoorView.readsFrom (v : DoorView) (u : DoorSetup) (entry : Nat → SenseChannel) (signal : Nat → Signal) : Prop :=
  let unsettled := fun c => (entry c).settled = false
  let usable := fun n => n ≠ 255 ∧ ((signal n).status = .valid ∨ (signal n).status = .forced)
  let names := fun k => usable u.phaseSignal ∧ (signal u.phaseSignal).value.toInt = k
  (v.unread = true ↔ unsettled u.leaf1 ∨ (u.leaves = 2 ∧ unsettled u.leaf2) ∨ unsettled u.release ∨
      (u.lock ≠ 255 ∧ unsettled u.lock) ∨ (u.obstruction ≠ 255 ∧ unsettled u.obstruction) ∨
      (u.ramp ≠ 255 ∧ unsettled u.ramp)) ∧
    (v.pulled = true ↔ (entry u.release).showsOne ∨ (entry u.release).doubtful) ∧
    (v.closed = true ↔ (entry u.leaf1).showsOne ∧ (u.leaves = 2 → (entry u.leaf2).showsOne)) ∧
    (v.unlocked = true ↔ u.lock ≠ 255 ∧ ¬unsettled u.lock ∧ ¬(entry u.lock).showsOne) ∧
    (v.obstructed = true ↔
      (u.obstruction ≠ 255 ∧ ((entry u.obstruction).showsOne ∨ (entry u.obstruction).doubtful)) ∨
        (usable u.obstructionSignal ∧ (signal u.obstructionSignal).value ≠ 0#16)) ∧
    (v.phase = some .idleClosed ↔ names 0) ∧ (v.phase = some .opening ↔ names 1) ∧
    (v.phase = some .opened ↔ names 2) ∧ (v.phase = some .closing ↔ names 3) ∧
    (v.phase = some .reversing ↔ names 4)

/-- A door's record shows what R80 and R83 derive from its view: the state by the first of the nine lines that applies,
and the proven-closed flag. -/
def Door.derivedFrom (x : Door) (v : DoorView) (rampOut : Bool) : Prop :=
  (v.unread = true → x.state = .unknown) ∧
    (v.unread = false →
      (v.pulled = true → x.state = .released) ∧
      (v.pulled = false →
        (v.closed = true → v.unlocked = true → x.state = .closedUnlocked) ∧
        (v.closed = true → v.unlocked = false → x.state = .closedLocked) ∧
        (v.closed = false →
          (v.phase = some .opening → x.state = .opening) ∧
          (v.phase = some .closing → v.obstructed = true → x.state = .reversing) ∧
          (v.phase = some .closing → v.obstructed = false → x.state = .closing) ∧
          (v.phase = some .reversing → x.state = .reversing) ∧
          (v.phase = none ∨ v.phase = some .idleClosed ∨ v.phase = some .opened → x.state = .opened)))) ∧
    (x.proven = true ↔ x.state = .closedLocked ∧ rampOut = false ∧ x.disagree = false)

/-- A sample has changed what a channel's entry gives the doors (R81): its value, its settling or its being in fault. -/
def SenseChannel.movesDoors (y z : SenseChannel) : Prop :=
  z.logical ≠ y.logical ∨ z.settled ≠ y.settled ∨ (z.faultClass = .none ↔ y.faultClass ≠ .none)

/-- Signal `n` is read by no door, gives no speed and is not the parking brake. -/
def Setup.readsNoDoor (u : Setup) (n : Nat) : Prop :=
  (∀ e, e < 4 → (u.doors.get e).phaseSignal ≠ n ∧ (u.doors.get e).obstructionSignal ≠ n) ∧
    n ≠ u.general.primarySpeed ∧ n ≠ u.general.fallbackSpeed ∧ n ≠ u.general.parkingBrake

/-- The motion fields follow the speed that the signals give (R88), from motion `m` and a stop timer by the table of
R89. -/
def DoorUnit.followsSpeed (u : DoorUnit) (g : GeneralSetup) (signals : Table 128 Signal) (m : Motion)
    (stopTimer : Option Nat) (now : Nat) : Prop :=
  let usable := fun n => (signals.get n).status = .valid ∨ (signals.get n).status = .forced
  let size := fun n => (signals.get n).value.toInt.natAbs
  let started := if stopTimer = none then some (now + 500000) else stopTimer
  let moves := fun (v : Nat) =>
    (g.moveThreshold ≤ v → g.stopThreshold ≤ v → u.motion = .moving ∧ u.stopTimer = none) ∧
    (v < g.moveThreshold → g.stopThreshold ≤ v →
      u.motion = (if m = .stopped then .stopped else .moving) ∧ u.stopTimer = none) ∧
    (v < g.stopThreshold → v < g.moveThreshold →
      u.motion = m ∧ u.stopTimer = (if m = .stopped then none else started)) ∧
    u.speed = v
  (usable g.primarySpeed → u.speedSource = .primary ∧ moves (size g.primarySpeed)) ∧
    (¬usable g.primarySpeed → g.fallbackSpeed ≠ 255 → usable g.fallbackSpeed →
      u.speedSource = .fallback ∧ moves (size g.fallbackSpeed)) ∧
    (¬usable g.primarySpeed → g.fallbackSpeed = 255 ∨ ¬usable g.fallbackSpeed →
      u.speedSource = .none ∧ u.speed = 0 ∧ u.motion = .unknown ∧ u.stopTimer = none)

/-- Search mode and the network summary follow a change of a station's state from `s` to `t` (R50, R51): search mode holds
with some station enabled and every one SILENT, begins on the normal channel, and keeps its channel while it holds. -/
def State.searchFollows (s t : State) : Prop :=
  let enabled := fun b => 1 ≤ b ∧ b < 16 ∧ (t.setup.stations.get b).enabled = true
  let silent := (∃ b, enabled b) ∧ ∀ b, enabled b → (t.line.stations.get b).state = .silent
  let failed := fun c => (t.line.health c).failed = true
  (silent → s.line.search = none → ∀ p, t.setup.settings.preferred = some p →
      (failed p → t.line.search = some (otherChannel p)) ∧ (¬failed p → t.line.search = some p)) ∧
    (silent → s.line.search ≠ none → t.line.search = s.line.search) ∧ (¬silent → t.line.search = none) ∧
    (t.line.summary = .down ↔ (failed .a ∧ failed .b) ∨ t.line.search ≠ none) ∧
    (t.line.summary = .degraded ↔ t.line.search = none ∧ (failed .a ↔ ¬failed .b))

/-- The table of R141: a gauge in use goes from `x` to `y` as it takes up a status of its signal at an instant; a hold
timer of 0 parks it at once (R142). -/
def Gauge.takesStatus (x y : Gauge) (u : GaugeSetup) (status : SignalStatus) (now : Nat) : Prop :=
  let usable := status = .valid ∨ status = .forced
  let absent := status = .noData ∨ status = .notConfigured
  let waits := x.waitsForData = true
  let stays := y.state = x.state ∧ y.holdTimer = x.holdTimer
  let tracks := y.state = .tracking ∧ y.holdTimer = none
  let parks := y.state = .parking ∧ y.holdTimer = none
  let holds := (u.faultAction = .hold → y.state = .holding ∧ y.holdTimer = none) ∧ (u.faultAction ≠ .hold → parks)
  let starts := (u.staleHold = 0 → parks) ∧
    (u.staleHold ≠ 0 → y.state = .holding ∧ y.holdTimer = some (.stale, now + 1000 * u.staleHold))
  (x.state = .tracking →
    (usable → tracks) ∧ (status = .stale → starts) ∧ (status = .fault → holds) ∧ (absent → waits → stays) ∧
      (absent → ¬waits → parks)) ∧
  (x.state = .holding →
    (usable → tracks) ∧ (status = .stale → x.holdTimer ≠ none → stays) ∧
      (status = .stale → x.holdTimer = none → starts) ∧ (status = .fault → holds) ∧ (absent → parks)) ∧
  (x.state = .tracking ∨ x.state = .holding → y.filtered = x.filtered ∧ y.updateTimer = x.updateTimer) ∧
  (x.state = .parking ∨ x.state = .parked →
    (usable → tracks ∧ y.filtered = 16 * x.needle ∧
      y.updateTimer = (if x.updateTimer = none then some (now + 20000) else x.updateTimer)) ∧
    (¬usable → stays ∧ y.filtered = x.filtered ∧ y.updateTimer = x.updateTimer)) ∧
  (x.state = .homing ∨ x.state = .sweeping → y = x) ∧
  y.needle = x.needle ∧ y.target = x.target ∧ y.command = x.command

/-- A reply character of data `data`, `gap` µs after the end of the one before, is in time and completes the reply of the
attempt `a` of transaction `x` (R40, R41). -/
def State.completes (s : State) (a : Attempt) (x : Transaction) (gap : Nat) (data : Byte) : Prop :=
  s.line.phase = .reply a ∧ s.line.transaction = some x ∧ s.now ≤ a.lastEnd ∧ a.received ≠ [] ∧ gap ≤ 88 ∧
    a.lastEnd + gap + 44 ≤ s.windowClose a ∧ replyComplete x.dir x.length (a.received ++ [data]) = true

/-- The command of that character, on the attempt's own channel and well formed. -/
def Attempt.lastCharacter (a : Attempt) (gap : Nat) (data : Byte) : Instr :=
  .replyCharacter a.channel gap data false true

/-- No wiring check, sweep, lamp check or transfer that is under way holds the request slot. -/
def State.slotFree (s : State) (k : Nat) : Prop :=
  (∀ c, c < 48 → ∀ w, (s.sense.channels.get c).check = some w → w.slot % 16 ≠ k % 16) ∧
    (∀ i, i < 6 → ∀ w j set, (s.gauges.get i).sweep = some w → w.owner = .request j set → j % 16 ≠ k % 16) ∧
    (∀ j, s.comp.check = some (.request j) → j % 16 ≠ k % 16) ∧
    (∀ j a b d l ws, OneShot.transfer j a b d l ws ∈ s.line.oneShots → j % 16 ≠ k % 16)

/-! ### What the body line starts -/

/-- The words of a DELIVER of schedule entry `u`, as `s` shows its signals, its doors and its warnings (R62, R193). The
codes of the door states are read by inference (assumption 51). -/
def State.sends (s : State) (u : PollEntry) (words : List Word) : Prop :=
  let source := (s.setup.stations.get u.station).deliverSource
  let signal := fun i => s.signals.get (u.first + i)
  let usable := fun i => (signal i).status = .valid ∨ (signal i).status = .forced
  let word := fun i => words.getD i 0#16
  (u.dataKind = .signals →
    words.length = u.length ∧
    ∀ i, i < u.length →
      (i < u.count → source = .asShown ∨ usable i → word i = (signal i).value) ∧
      (i < u.count → source = .usableOnly → ¬usable i → word i = 0x8000#16) ∧
      (u.count ≤ i → word i = 0#16)) ∧
  (u.dataKind = .summary →
    words.length = 4 ∧
    (∀ d, d < 4 → (word 0).toNat / 16 ^ d % 16 = (s.doors.doors.get d).state.code) ∧
    (word 1).toNat % 16 = s.doors.interlock.code ∧ (word 1).getLsbD 4 = s.doors.reasons.door ∧
    (word 1).getLsbD 5 = s.doors.reasons.ramp ∧ (word 1).getLsbD 6 = s.doors.reasons.release ∧
    (word 1).toNat < 128 ∧ (word 2).toNat = s.doors.motion.code ∧
    word 3 = BitVec.ofNat 16 s.comp.record.active)

/-- The poll frame of transaction `x` (R38, R39, R193): its header, its block and direction, its word count, the words of
a DELIVER low character first, and the check; the header mark stands in the first character alone. -/
def Transaction.polledBy (x : Transaction) (poll : List LineCharacter) : Prop :=
  let data := fun i => (poll.map (·.data)).getD i 0#8
  poll.length = (if x.dir = .fetch then 4 else 4 + 2 * x.words.length) ∧
    data 0 = byteOf x.station ∧ data 1 = blockCharacter x.block x.dir ∧ data 2 = byteOf x.length ∧
    (x.dir = .deliver → ∀ i, i < x.words.length →
      (data (4 + 2 * i) ++ data (3 + 2 * i) : Word) = x.words.getD i 0#16) ∧
    (poll.map (·.data)).foldl (· + ·) 0#8 = 0#8 ∧ (∀ z ∈ poll, z.stopBit = true) ∧
    poll.map (·.headerMark) = true :: List.replicate (poll.length - 1) false

/-- In `t` the first attempt of transaction `x` starts on channel `c`, with its poll frame (R38, R41, R46). -/
def State.startsFirst (t : State) (x : Transaction) (c : Channel) : Prop :=
  t.line.transaction = some x ∧ x.made = [] ∧ t.line.current = some c ∧
    ∃ a, t.line.phase = .reply a ∧ a.channel = c ∧ a.start = t.now ∧ a.received = [] ∧
      a.poll = pollFrame x.station x.block x.dir x.length x.words ∧ x.polledBy a.poll ∧
      a.lastEnd = a.start + 44 * a.poll.length

/-- Channel `c` is the normal channel (R46): the preferred one, or with that one FAILED the other. -/
def State.onNormal (t : State) (c : Channel) : Prop :=
  c = t.normalChannel ∧
    ∀ p, t.setup.settings.preferred = some p →
      ((t.line.health p).failed = false → c = p) ∧ ((t.line.health p).failed = true → c = otherChannel p)

/-- From `s` to `t` the transaction of schedule entry `e` starts: what the entry names, the words of a DELIVER as they
stand, and the search channel, or outside search mode the normal one (R46, R57, R59, R62). -/
def State.startsEntry (s t : State) (e : Nat) : Prop :=
  let u := s.setup.schedule.get e
  ∃ x c, t.startsFirst x c ∧ (∀ q, t.line.search = some q → c = q) ∧ (t.line.search = none → t.onNormal c) ∧
    x.purpose = .entry e ∧ x.station = u.station ∧ x.block = u.block ∧ x.length = u.length ∧
    x.retries = u.retries ∧ x.retryChannel = u.retryChannel ∧ (∀ d, u.direction = some d → x.dir = d) ∧
    (x.dir = .fetch → x.words = []) ∧ (x.dir = .deliver → s.sends u x.words)

/-- The word count of a one-shot (R66, R69). -/
def State.wordsOfOneShot (s : State) : OneShot → Nat
  | .transfer _ _ _ _ length _ => length
  | .service a => (s.setup.stations.get a).serviceLength

/-- From `s` to `t` the transaction of one-shot `o` starts on the normal channel, with the retries of the line settings
(R46, R66, R67, R69). -/
def State.startsOneShot (s t : State) (o : OneShot) : Prop :=
  ∃ x c, t.startsFirst x c ∧ t.onNormal c ∧ x.purpose = .oneShot ∧ x.length = s.wordsOfOneShot o ∧
    x.retries = s.setup.settings.retries ∧ x.retryChannel = s.setup.settings.retryChannel ∧
    (∀ slot a block dir length words, o = .transfer slot a block dir length words →
      x.station = a ∧ x.block = block ∧ x.dir = dir ∧ x.words = words) ∧
    (∀ a, o = .service a → x.station = a ∧ x.block = 31 ∧ x.dir = .fetch ∧ x.words = [])

/-- From `s`, with the line free and the entries `l` still to be walked in a minor cycle that ends at `next`, to `t`: the
first entry that fits starts, those before it are passed over and counted as overruns, and with none left the head of the
one-shot list starts where it fits and else waits (R59, R60, R66). -/
def State.walks (s t : State) (l : List Nat) (next : Nat) : Prop :=
  let response := Config.responseTimeout s.setup.settings.timeoutCode
  let fits := fun length => t.now + ((7 + 2 * length) * 44 + response + 60) ≤ next
  let late := fun e => ¬fits (s.setup.schedule.get e).length
  let overruns := fun n =>
    t.line.overrun = if n = 0 then s.line.overrun else min (s.line.overrun + n) 65535
  (∀ passed e rest, l = passed ++ e :: rest → (∀ x ∈ passed, late x) → ¬late e →
    t.line.walk = rest ∧ overruns passed.length ∧ s.startsEntry t e) ∧
  ((∀ x ∈ l, late x) →
    t.line.walk = [] ∧ overruns l.length ∧
    (s.line.oneShots = [] → t.line.phase = .idle ∧ t.line.transaction = s.line.transaction) ∧
    (∀ o rest, s.line.oneShots = o :: rest →
      (fits (s.wordsOfOneShot o) → s.startsOneShot t o) ∧
      (¬fits (s.wordsOfOneShot o) → t.line.phase = .idle ∧ t.line.transaction = s.line.transaction))) ∧
  t.line.oneShots = s.line.oneShots ∧ t.line.stations = s.line.stations ∧ t.line.healthA = s.line.healthA ∧
  t.line.healthB = s.line.healthB

/-! ### What the return of ignition leaves -/

/-- RUN entry sets a signal up afresh from `x` to `y` (R12). -/
def Signal.startsAfresh (x y : Signal) (u : SignalSetup) : Prop :=
  y.value = 0#16 ∧ y.underlying = 0#16 ∧ y.lastUpdate = 0#16 ∧ y.sourceValue = 0#16 ∧ y.staleDeadline = none ∧
    y.status = (if u.kind = .none then .notConfigured else .noData) ∧ y.sourceStatus = y.status ∧ y.upd = x.upd + 2#8

/-- RUN entry at the time `time` takes a door from `x` to `y` (R96): all but its two counts starts afresh. -/
def Door.startsAfresh (x y : Door) (time : Time) : Prop :=
  y.state = .unknown ∧ y.proven = false ∧ y.disagree = false ∧ y.movingOpen = false ∧ y.viewLost = false ∧
    y.opened = false ∧ y.obstructed = false ∧ y.leaf1 = none ∧ y.leaf2 = none ∧ y.phase = none ∧
    y.agreeTimer = none ∧ y.cycles = x.cycles ∧ y.obstructions = x.obstructions ∧ y.lastChange = time

/-- The return of ignition takes a warning from `x` to `y`: it starts INACTIVE with its count and its activation time kept
(R114), and its condition is then taken once (R100, R102, R104), no signal being usable yet. -/
def Warning.returns (x y : Warning) (u : WarningSetup) (time : Time) (now : Nat) : Prop :=
  y.acked = false ∧ (u.kind = .unused → y.condition = false) ∧
    (u.kind = .signalTest → (y.condition = true ↔ u.operator = .notValid)) ∧
    (y.condition = false → y.state = .inactive) ∧
    (y.condition = true → u.onDelay = 0 → y.state = .active) ∧
    (y.condition = true → u.onDelay ≠ 0 → y.state = .arming ∧ y.delay = some (now + 1000 * u.onDelay)) ∧
    (y.state ≠ .active → y.occurrences = x.occurrences ∧ y.activation = x.activation) ∧
    (y.state = .active → y.occurrences = min (x.occurrences + 1) 255 ∧ y.activation = time)

/-- The return of ignition takes a gauge from `x` to `y` (R149, R150): from where its needle stands, in TRACKING with the
first-data timer, or with a hold time of 0 parking at once (R142); a homing runs on. -/
def Gauge.returns (x y : Gauge) (u : GaugeSetup) (now : Nat) : Prop :=
  y.needle = x.needle ∧ y.known = x.known ∧ y.target = x.needle ∧ y.filtered = 16 * x.needle ∧ y.command = x.needle ∧
    (u.inUse = true → x.state ≠ .homing →
      y.sweep = none ∧ y.updateTimer = (if x.updateTimer = none then some (now + 20000) else x.updateTimer) ∧
      (u.staleHold ≠ 0 → y.state = .tracking ∧ y.holdTimer = some (.firstData, now + 1000 * u.staleHold)) ∧
      (u.staleHold = 0 → y.state = .parking ∧ y.holdTimer = none)) ∧
    (u.inUse = true → x.state = .homing →
      y.state = .homing ∧ y.homingLeft = x.homingLeft ∧ y.updateTimer = x.updateTimer) ∧
    (u.inUse = false → y.state = x.state)

/-- From `s` in SHUTDOWN to `t` the return of ignition enters RUN with each block at its values of RUN entry: the signals
(R12), the doors, motion and the interlock (R95, R96), the warnings (R114), the gauges (R149), the stations and minor
cycle 0 (R58, R74), and the liveness timer (R183). That minor cycle 0 starts after the rest is the model's choice
(assumption 65). -/
def State.returnsToRun (s t : State) : Prop :=
  let window := s.setup.general.livenessWindow
  let guarded := ∃ d, d < 4 ∧ (s.setup.doors.get d).enabled = true
  let next := s.now + 1000 * s.setup.settings.cycleLength
  t.run.state = .run ∧ t.setup = s.setup ∧ t.now = s.now ∧ t.run.ignitionCycle = s.run.ignitionCycle ∧
    t.run.runOnTimer = none ∧ t.shop.forced = [] ∧ t.shop.session = s.shop.session ∧
    t.port.livenessTimer = (if window = 0 then none else some (s.now + 1000 * window)) ∧
    (∀ n, n < 128 → (s.signals.get n).startsAfresh (t.signals.get n) (s.setup.signals.get n)) ∧
    (∀ d, d < 4 → (s.doors.doors.get d).startsAfresh (t.doors.doors.get d) s.time) ∧
    t.doors.motion = .unknown ∧ t.doors.speedSource = .none ∧ t.doors.speed = 0 ∧ t.doors.stopTimer = none ∧
    (guarded → t.doors.interlock = .demand ∧ t.stopBrakeDemand = true) ∧
    (¬guarded → t.doors.interlock = .released ∧ t.stopBrakeDemand = false) ∧
    (∀ w, w < 96 → (s.warnings.get w).returns (t.warnings.get w) (s.setup.warnings.get w) s.time s.now) ∧
    (∀ g, g < 6 → (s.gauges.get g).returns (t.gauges.get g) (s.setup.gauges.get g) s.now) ∧
    (∀ a, 1 ≤ a → a < 16 →
      t.line.stations.get a = { state := if (s.setup.stations.get a).enabled then .unknown else .unused
                                upd := (t.line.stations.get a).upd }) ∧
    t.line.oneShots = [] ∧ t.line.minor = 0 ∧ t.line.minorNext = some next ∧
    (t.setLine { t.line with overrun := 0 }).walks t (s.setup.dueIn 0) next ∧ s.changesOnly t runParts

/-! ### Safe states -/

/-- The exchange memory stands in its one canonical form. -/
def State.memorySound (s : State) : Prop := Memory.wf s.mem = true

/-- Outside RUN the interlock is DEMAND, so that the stop-brake demand output is asserted, and no agree timer runs
(R95). -/
def State.brakeHeld (s : State) : Prop :=
  s.run.state ≠ .run →
    s.doors.interlock = .demand ∧ (s.doors.doors.cells.all fun x => x.agreeTimer.isNone) = true

/-- In RUN the interlock asks for no demand only where R95 lets it: RELEASING and RELEASED with every enabled door proven
closed, OVERRIDDEN with the override input active. -/
def State.brakeProven (s : State) : Prop :=
  s.run.state = .run →
    (s.doors.interlock = .releasing ∨ s.doors.interlock = .released → s.demandConditions = false) ∧
      (s.doors.interlock = .overridden → s.demandConditions = true ∧ s.overrideActive = true)

/-- The forced set holds at most 8 signals, and no index twice (R171); the model keeps it ascending (assumption 46). -/
def State.forcedSound (s : State) : Prop := s.shop.forced.length ≤ 8 ∧ s.shop.forced.Pairwise (· < ·)

/-- Each timer of the run-state logic runs only in the run state it belongs to, and a validation is under way only in
CONFIG (R197 to R200). -/
def State.runSound (s : State) : Prop :=
  (s.run.applySlot.isSome → s.run.state = .config ∧ s.run.configIdleTimer = none ∧ s.run.standbyPending = false) ∧
  (s.run.runOnTimer.isSome → s.run.state = .run ∧ s.run.ignition = false) ∧
  (s.run.configIdleTimer.isSome → s.run.state = .config ∧ s.run.ignition = false) ∧
  (s.run.standbyPending = true → s.run.state = .config ∧ s.run.ignition = false) ∧
  (s.port.livenessTimer.isSome → s.run.state = .run)

/-- A SERVICE session stands only while its conditions hold (R166, R167): RUN, motion STOPPED, and the parking brake signal
configured, usable and non-zero. -/
def State.serviceSound (s : State) : Prop :=
  let brake := s.setup.general.parkingBrake
  s.shop.session = .service →
    s.run.state = .run ∧ s.doors.motion = .stopped ∧ brake ≠ 255 ∧
      ((s.signals.get brake).status = .valid ∨ (s.signals.get brake).status = .forced) ∧
      (s.signals.get brake).value ≠ 0#16

/-- The acknowledged flag stands in ACTIVE and CLEARING only (R105). -/
def State.acksSound (s : State) : Prop :=
  ∀ w, w < 96 → (s.warnings.get w).acked = true →
    (s.warnings.get w).state = .active ∨ (s.warnings.get w).state = .clearing

end Sys2Proof.Machine
end

