-- ==== Sys2Proof/WellFormed.lean ====
section
/-! DEFINITION. Which commands are well formed: the operands a command carries are ones that its rule can give it. The
meanings take every command, well formed or not. -/

namespace Sys2Proof

/-- A run of equal samples holds at least one sample (R31, R196). -/
def samplesOk (samples : Nat) : Bool := 0 < samples

/-- A channel that can be of kind FREQUENCY: channels 44 to 47 (chapter 2, R36). -/
def frequencyChannel (channel : Fin 48) : Bool := 44 ≤ channel.val

/-- A service code that names none of the thirteen services (R194). -/
def unknownCode (code : Byte) : Bool := code = 0#8 || 13 < code.toNat

/-- A request frame holds at most 60 data characters (R163). -/
def dataFits (data : List Byte) : Bool := data.length ≤ 60

/-- The characters that follow the test of an ACTUATOR_TEST (R165). -/
def restFits (rest : List Byte) : Bool := rest.length ≤ 59

/-- A byte or a word of exchange memory stands below the port registers (R175, R186). -/
def memoryAddress (addr : BitVec 14) : Bool := addr.toNat < 0x3FF8

/-- A command is well formed. -/
def Instr.WellFormed : Instr → Bool
  | .hostMemoryWrite addr _ _ => memoryAddress addr
  | .frequencyEdge channel _ => frequencyChannel channel
  | .ignitionStateChange _ samples => samplesOk samples
  | .releaseChannelWake _ _ samples => samplesOk samples
  | .unknownService code _ data => unknownCode code && dataFits data
  | .identify _ data | .openSession _ data | .closeSession _ data | .readSignals _ data | .readFaults _ data
  | .readFaultSnapshot _ data | .workshopClearFaults _ data | .forceSignal _ data | .releaseSignal _ data
  | .readDoorCounters _ data | .resetDoorCounter _ data | .readLog _ data => dataFits data
  | .actuatorTestGaugeSweep _ rest | .actuatorTestLampCheck _ rest | .actuatorTestChime _ rest
  | .actuatorTestStatus _ rest => restFits rest
  | .postRequest _ _ | .withdrawRequest _ | .releaseSlot _ | .portRegisterWrite _ _ _ | .clearNoticeOverflow
  | .clearWriteRefused | .intEnable _ | .softReset | .attention _ _ | .noticeRead _ | .sweepTimerExpiry _
  | .heldSweepStart _ | .setupValidationEnd | .livenessTimerExpiry | .staleExpiry _ | .senseSample _ _
  | .debounceChange _ _ | .senseFaultEntry _ _ | .senseHeal _ _ | .wiringCheckMeasurement _ _
  | .supplyMeasurement _ | .supplyLowTimerExpiry | .minorCycleStart | .replyCharacter _ _ _ _ _ | .responseTimeout
  | .replyGapTimeout | .attemptWindowClose | .turnaroundEnd | .agreeTimerExpiry _ | .stopTimerExpiry
  | .releaseTimerExpiry | .onDelayExpiry _ | .offDelayExpiry _ | .flashPhaseChange _ | .proofTimerExpiry _ _
  | .lampOpenLoad _ _ | .lampProofHealed _ _ | .lampOvercurrent _ | .lampShorted _ | .overcurrentRetryExpiry _
  | .lampCheckTimerExpiry | .sounderPhaseChange | .chimeToneEnd | .testToneEnd | .gaugeUpdate _
  | .holdTimerExpiry _ | .workshopFrameDiscard _ _ | .workshopGapTimeout | .workshopResyncGap | .answerEnd
  | .sessionIdleTimerExpiry | .workshopLineWake | .configIdleTimerExpiry | .standbyEntry | .runOnTimerExpiry
  | .powerOn | .workshopCharacterReceived _ _ => true

end Sys2Proof
end

