-- ==== Sys2Proof/Certificates/Slice0/Obligations.lean ====
section
/-! DEFINITION. The statements for the provers. Each docstring says which part of the spec a statement formalises, or
that it is the model's own choice. -/

section

open Sys2Proof Sys2Proof.Machine

/-! ### The whole machine -/

/-- A step takes the command at the front of the queue and runs it with the queue's rest. The queue is the model's
own (assumption 41). -/
def Obligations.StepTakesTheFrontCommand : Prop :=
  ∀ (c : Instr) (rest : List Instr) (s : State), s.pending = c :: rest → step s = exec c (s.setPending rest)

/-- Every command has an effect and keeps its frame: exec answers a next state for every command in every state, and
what lies outside the parts that the rules name for the command is as it was. The queue is left to the step. That a
command whose event cannot arise answers with no effect is the model's choice (assumption 1). -/
def Obligations.CommandsAnswerWithinTheirFrames : Prop :=
  ∀ (c : Instr) (s : State), ∃ t, exec c s = .next t ∧ s.changesOnly t (mayChange c)

/-- Every step keeps the exchange memory in its canonical form. The form is the model's own; that an unlisted byte
reads 0 is R202. -/
def Obligations.StepsKeepMemorySound : Prop :=
  ∀ s t : State, s.memorySound → step s = .next t → t.memorySound

/-- Every step keeps the interlock at DEMAND outside RUN, and so the stop-brake demand asserted there; and in RUN every
step keeps the rule that the demand is released only with every enabled door proven closed, or under an active override
(R95; R92 to R94, R199 to R201). That no agree timer runs outside RUN, which `brakeHeld` says too, is the model's choice
(assumption 18). -/
def Obligations.StepsKeepBrakeHeld : Prop :=
  ∀ s t : State, step s = .next t →
    (s.brakeHeld → t.brakeHeld ∧ (t.run.state ≠ .run → t.stopBrakeDemand = true)) ∧
    (s.brakeProven → t.brakeProven ∧
      (t.run.state = .run → t.stopBrakeDemand = false →
        (∀ d, d < 4 → (t.setup.doors.get d).enabled = true → (t.doors.doors.get d).proven = true) ∨
          t.overrideActive = true))

/-- Every step keeps the timers of the run-state logic in the run states they belong to. The rules are R183 and R197
to R200. -/
def Obligations.StepsKeepRunTimersSound : Prop :=
  ∀ s t : State, s.runSound → step s = .next t → t.runSound

/-- Every step keeps the acknowledged flag out of INACTIVE, ARMING and LATCHED (R105), the forced set at 8 signals or
fewer with none twice (R171), and the one-shot list at 4 one-shots or fewer (R66); and, where the timers of the
run-state logic are sound, a SERVICE session to the conditions it was granted under: RUN, motion STOPPED, and the
parking brake signal usable and non-zero (R166, R167, R172, R174). The ascending order of the set is the model's
(assumption 46). -/
def Obligations.StepsKeepAcknowledgementsAndLimits : Prop :=
  ∀ s t : State, step s = .next t →
    (s.acksSound → t.acksSound) ∧ (s.forcedSound → t.forcedSound) ∧
      (s.line.oneShots.length ≤ 4 → t.line.oneShots.length ≤ 4) ∧
      (s.runSound → s.serviceSound → t.serviceSound)

/-- The state after reset meets every invariant. The rules are R96, R184 and R202; the values of reset that the spec
does not state are the model's choice (assumption 40). -/
def Obligations.ResetIsSound : Prop :=
  State.reset.memorySound ∧ State.reset.brakeHeld ∧ State.reset.brakeProven ∧ State.reset.runSound ∧
    State.reset.acksSound ∧ State.reset.forcedSound ∧ State.reset.line.oneShots.length ≤ 4 ∧
    State.reset.serviceSound

/-- RUN is entered from CONFIG by the end of a validation, and from SHUTDOWN by the return of ignition; STANDBY is
left for CONFIG by one of the three wakes or by power-on; by nothing else (R196, R198, R200, R202). -/
def Obligations.RunStateMovesByItsEvents : Prop :=
  (∀ (c : Instr) (s t : State), s.runSound → s.run.state ≠ .run → exec c s = .next t → t.run.state = .run →
     (c = .setupValidationEnd ∧ s.run.state = .config) ∨
       (∃ samples, c = .ignitionStateChange true samples ∧ s.run.state = .shutdown)) ∧
  (∀ (c : Instr) (s t : State), s.runSound → s.run.state = .standby → exec c s = .next t →
     t.run.state ≠ .standby →
     t.run.state = .config ∧
       ((∃ samples, c = .ignitionStateChange true samples) ∨ (∃ d r n, c = .releaseChannelWake d r n) ∨
         c = .workshopLineWake ∨ c = .powerOn))

/-- Power-on: every record is zero or empty, the part is in CONFIG with ignition OFF and the interlock demanding, the
sweep timer is stopped, and FAULT_MEMORY_LOST is the one notice. The queue of waiting commands is the model's own and is
kept. The rules are R31, R96, R134, R161, R174, R184 and R202; that the stopped sweep timer has its first expiry 50 ms
after power-on is read by inference (assumption 9), the queue is assumption 45 and the values that the spec does not
state are assumption 40. -/
def Obligations.PowerOnStartsAfresh : Prop :=
  ∀ s : State, ∃ t, exec .powerOn s = .next t ∧ t = State.reset.setPending s.pending ∧
    t.run.state = .config ∧ t.run.ignition = false ∧ t.run.ignitionCycle = 0#16 ∧ t.run.memoryLost = true ∧
    t.now = 0 ∧ (∀ a, Memory.read t.mem a = 0#8) ∧
    (∀ a, 0x1F00 ≤ a → a < 0x7FF0 → t.hostByte a = 0#8) ∧
    t.port.noticeRead = 0#7 ∧ t.port.noticeWrite = 1#7 ∧ (t.port.ring.get 0).kind = .faultMemoryLost ∧
    t.port.intEnable = false ∧ t.port.sweepTimer = none ∧ t.sweepDue = some 50000 ∧
    t.doors.interlock = .demand ∧ t.stopBrakeDemand = true ∧
    t.shop.session = .detached ∧ t.shop.forced = [] ∧ t.faults.full = false ∧
    (∀ i, i < 48 → (t.faults.records.get i).status = .empty) ∧
    (∀ n, n < 128 → (t.signals.get n).status = .notConfigured) ∧
    (∀ d, d < 4 → (t.doors.doors.get d).cycles = 0 ∧ (t.doors.doors.get d).obstructions = 0)

/-! ### The host port -/

/-- A host write to a region that the part owns, or to a setup region outside CONFIG or while a validation runs, is
refused; free memory always accepts, and setup in CONFIG does. A write into a request slot is judged by the slot's state:
an EMPTY slot takes any byte, its state byte EMPTY or POSTED alone; a POSTED, DONE or FAILED slot takes EMPTY into its
state byte and nothing else; a TAKEN slot takes nothing; and a word that holds one refused byte is refused whole (R175,
R180). A write that owns every byte it enables changes exactly those bytes; and in STANDBY every host write is lost (R175,
R176). The index and detail of the notice of a refused write are read by inference (assumption 13). -/
def Obligations.HostWritesAreJudgedByTheirRegion : Prop :=
  (∀ (addr : BitVec 14) (en : ByteEnable) (data : Word) (s : State), s.run.state ≠ .standby →
    ((addr.toNat < 0x0080 ∨ (0x0280 ≤ addr.toNat ∧ addr.toNat < 0x0480) ∨
        (0x0F80 ≤ addr.toNat ∧ addr.toNat < 0x2380) ∨
        (0x0480 ≤ addr.toNat ∧ addr.toNat < 0x0F80 ∧ ¬(s.run.state = .config ∧ s.run.applySlot = none))) →
      ∃ t, exec (.hostMemoryWrite addr en data) s = .next t ∧ s.refuses t addr) ∧
    (((0x2380 ≤ addr.toNat ∧ addr.toNat < 0x3FF8) ∨
        (0x0480 ≤ addr.toNat ∧ addr.toNat < 0x0F80 ∧ s.run.state = .config ∧ s.run.applySlot = none)) →
      exec (.hostMemoryWrite addr en data) s =
        .next (s.setMem (Memory.store s.mem (enabledBytes addr en data)))) ∧
    (addr.toNat < 0x3FF8 → s.memorySound → (∀ b ∈ enabledBytes addr en data, s.byteWritable b.1 b.2 = true) →
      ∃ t, exec (.hostMemoryWrite addr en data) s = .next t ∧
        (∀ b ∈ enabledBytes addr en data, Memory.read t.mem b.1 = b.2) ∧
        (∀ a, a ∉ (enabledBytes addr en data).map (·.1) → Memory.read t.mem a = Memory.read s.mem a) ∧
        s.changesOnly t [.slots, .freeBytes]) ∧
    (0x0080 ≤ addr.toNat → addr.toNat < 0x0280 → s.memorySound →
      (let i := (addr.toNat - 0x0080) / 32
       let x := s.slotState i
       let value := data.toNat % 256
       let toState := addr.toNat % 32 = 0 ∧ en ≠ .high
       let toOthers := addr.toNat % 32 ≠ 0 ∨ en ≠ .low
       let accepted := (x = .empty ∧ (toState → value = 0 ∨ value = 1)) ∨
         ((x = .posted ∨ x = .done ∨ x = .failed) ∧ ¬toOthers ∧ value = 0)
       (accepted →
         ∃ t, exec (.hostMemoryWrite addr en data) s = .next t ∧
           (∀ b ∈ enabledBytes addr en data, Memory.read t.mem b.1 = b.2) ∧
           (∀ a, a ∉ (enabledBytes addr en data).map (·.1) → Memory.read t.mem a = Memory.read s.mem a) ∧
           (toState → t.slotState i = if value = 0 then .empty else .posted) ∧ s.changesOnly t [.slots]) ∧
       (¬accepted → ∃ t, exec (.hostMemoryWrite addr en data) s = .next t ∧ s.refuses t addr)))) ∧
  (∀ (c : Instr) (s : State), s.run.state = .standby →
    ((∃ addr en data, c = .hostMemoryWrite addr en data) ∨ (∃ i k, c = .postRequest i k) ∨
      (∃ i, c = .withdrawRequest i) ∨ (∃ i, c = .releaseSlot i) ∨
      (∃ r en data, c = .portRegisterWrite r en data) ∨
      c = .clearNoticeOverflow ∨ c = .clearWriteRefused ∨ (∃ on, c = .intEnable on) ∨ c = .softReset ∨
      (∃ v p, c = .attention v p) ∨ (∃ v, c = .noticeRead v)) →
        exec c s = .next s)

/-- POST_REQUEST takes an EMPTY slot to POSTED with its kind, WITHDRAW_REQUEST a POSTED slot to EMPTY, RELEASE_SLOT a
DONE or FAILED slot to EMPTY, and no other byte moves; a request posted into a slot that is not EMPTY, and any slot
command on a TAKEN slot, is refused (R176, R180). The index and detail of the notice of a refused write are read by
inference (assumption 13). -/
def Obligations.SlotCommandsMoveTheirSlot : Prop :=
  (∀ (i : Fin 16) (kind : Option Byte) (s : State), s.run.state ≠ .standby → s.memorySound →
     (s.slotState i = .empty →
       ∃ t, exec (.postRequest i kind) s = .next t ∧ t.slotState i = .posted ∧
         (∀ k, kind = some k → Memory.read t.mem (slotBase i + 1) = k) ∧
         (∀ a, a ≠ slotBase i → (kind = none ∨ a ≠ slotBase i + 1) →
           Memory.read t.mem a = Memory.read s.mem a) ∧
         s.changesOnly t [.slots]) ∧
     (s.slotState i = .posted →
       ∃ t, exec (.withdrawRequest i) s = .next t ∧ t.slotState i = .empty ∧
         (∀ a, a ≠ slotBase i → Memory.read t.mem a = Memory.read s.mem a) ∧ s.changesOnly t [.slots]) ∧
     (s.slotState i = .done ∨ s.slotState i = .failed →
       ∃ t, exec (.releaseSlot i) s = .next t ∧ t.slotState i = .empty ∧
         (∀ a, a ≠ slotBase i → Memory.read t.mem a = Memory.read s.mem a) ∧ s.changesOnly t [.slots])) ∧
  (∀ (i : Fin 16) (kind : Option Byte) (s : State), s.run.state ≠ .standby →
     (s.slotState i ≠ .empty → ∃ t, exec (.postRequest i kind) s = .next t ∧ s.refuses t (slotAddress i)) ∧
     (s.slotState i = .taken →
       (∃ t, exec (.withdrawRequest i) s = .next t ∧ s.refuses t (slotAddress i)) ∧
       (∃ t, exec (.releaseSlot i) s = .next t ∧ s.refuses t (slotAddress i))))

/-- A write to IDENT, NOTICE_WRITE, REFUSED_ADDRESS or TIME_MS is refused under that register's address; the flag
writes of PORT_STATUS and PORT_CONTROL change their own flag and nothing else (R176, R177, R182). The index and
detail of the notice of a refused write are read by inference (assumption 13). -/
def Obligations.PortRegistersTakeTheirWrites : Prop :=
  (∀ (r : ReadOnlyRegister) (en : ByteEnable) (data : Word) (s : State), s.run.state ≠ .standby →
     ∃ t, exec (.portRegisterWrite r en data) s = .next t ∧
       s.refuses t (match r with
         | .ident => 0x3FF8#14
         | .noticeWrite => 0x3FFD#14
         | .refusedAddress => 0x3FFE#14
         | .timeMs => 0x3FFF#14)) ∧
  (∀ (on : Bool) (s : State), s.run.state ≠ .standby →
     exec .clearNoticeOverflow s = .next (s.setPort { s.port with noticeOverflow := false }) ∧
     exec .clearWriteRefused s = .next (s.setPort { s.port with writeRefused := false }) ∧
     (∃ t, exec (.intEnable on) s = .next t ∧ t = s.setPort { s.port with intEnable := on } ∧
       t.interruptLine = (on && s.noticesPending)))

/-- SOFT_RESET enters CONFIG, empties the ring, ends the session, fails every TAKEN slot with the result ABORTED and
leaves the other slots alone (R174, R184, R201); the blocks take their soft-reset values (R14, R96, R114, R150), and the
applied setup, the log, supply low, ignition, the ignition cycle number and the clock are left alone (R29, R31, R74),
and the fault memory too where it is not taken in RUN (R161). The order of its effects is the model's choice (assumption
38), and that the last result shows an abandoned APPLY_SETUP as ABORTED is read by inference (assumption 47). -/
def Obligations.SoftResetEntersConfig : Prop :=
  ∀ s : State, s.run.state ≠ .standby → s.memorySound →
    ∃ t, exec .softReset s = .next t ∧ t.now = s.now ∧
      t.run.state = .config ∧ t.run.applySlot = none ∧ t.run.runOnTimer = none ∧
      t.run.ignition = s.run.ignition ∧
      t.run.ignitionCycle = s.run.ignitionCycle ∧ t.run.memoryLost = s.run.memoryLost ∧
      t.port.noticeRead = 0#7 ∧
      (s.run.state ≠ .run → s.shop.session = .detached → (∀ i, i < 16 → s.slotState i ≠ .taken) →
        t.port.noticeWrite = 1#7 ∧ (t.port.ring.get 0).kind = .stateChange) ∧
      t.port.writeRefused = false ∧ t.port.intEnable = false ∧ t.port.displayLost = false ∧
      t.shop.session = .detached ∧ t.shop.forced = [] ∧ t.shop.receiver = .idle ∧ t.shop.rate = .slow ∧
      (∀ i, i < 16 → s.slotState i = .taken →
        t.slotState i = .failed ∧ Memory.read t.mem (slotBase i + 3) = byteOf ResultCode.aborted.code) ∧
      (∀ i, i < 16 → s.slotState i ≠ .taken → t.slotState i = s.slotState i) ∧
      t.doors.interlock = .demand ∧ t.stopBrakeDemand = true ∧
      (∀ n, n < 128 → (t.signals.get n).status = .notConfigured ∧ (t.signals.get n).value = 0#16) ∧
      (∀ w, w < 96 → (t.warnings.get w).state = .inactive) ∧
      (∀ d, d < 4 → (t.doors.doors.get d).cycles = (s.doors.doors.get d).cycles ∧
        (t.doors.doors.get d).obstructions = (s.doors.doors.get d).obstructions) ∧
      t.line.log = s.line.log ∧ t.line.logHead = s.line.logHead ∧ t.line.logWrap = s.line.logWrap ∧
      (s.run.state ≠ .run → t.faults = s.faults) ∧
      (s.run.applySlot.isSome = true → t.run.lastResult = .aborted ∧ t.run.lastDetail = 0) ∧
      (s.run.applySlot = none → t.run.lastResult = s.run.lastResult ∧ t.run.lastDetail = s.run.lastDetail) ∧
      (∀ i, i < 6 → (t.gauges.get i).needle = (s.gauges.get i).needle) ∧
      t.sense.supplyLow = s.sense.supplyLow ∧
      s.changesOnly t runParts

/-- ATTENTION restarts the liveness timer in RUN and starts a sweep, and so does the sweep timer's expiry, which runs
on by 50 ms; with no slot POSTED a sweep passes its places, and counts at its end; a sweep already under way has the
new one held, and the held one starts when the present one ends (R181, R183). The instant at which the clock then
stands is the model's choice (assumption 2). How many places a sweep passes in one command is its operand (assumption
7), and the one write of the status block is the model's choice (assumption 37). That a timer stopped at power-on first
expires at 50 ms is read by inference (assumption 9).
Whatever the slots hold, each of the three commands is the visits of slots 0, 1 and on in order: a visit passes a slot
that is not POSTED, takes one that is, and goes on to the next place, and the last visit ends the sweep; only an entry
into STANDBY stops it short (assumption 11). -/
def Obligations.SweepsStartAndAreHeld : Prop :=
  (∀ (k : Nat) (s : State), s.memorySound → k < 16 → s.port.sweepPlace = some k →
     (s.slotState k ≠ .posted →
       visitSlot s = s.setPort { s.port with
         sweepPlace := if k = 15 then none else some (k + 1)
         sweepCount := if k = 15 then s.port.sweepCount + 1#16 else s.port.sweepCount
         statusUpd := if k = 15 then s.port.statusUpd + 2#8 else s.port.statusUpd }) ∧
     ((visitSlot s).port.sweepPlace = (if k = 15 then none else some (k + 1)) ∨
       ((visitSlot s).port.sweepPlace = none ∧ (visitSlot s).run.state = .standby))) ∧
  (∀ (value : Word) (places : Nat) (s : State), s.run.state ≠ .standby → s.port.sweepPlace = none →
     exec (.attention value places) s = .next (visitSlots (min places 16)
       ((heartbeat s).setPort { (heartbeat s).port with sweepPlace := some 0 }))) ∧
  (∀ (places due : Nat) (s : State),
     (s.port.sweepTimer = some due ∨ (s.run.state ≠ .standby ∧ s.port.sweepTimer = none ∧ due = 50000)) →
     s.port.sweepPlace = none →
       exec (.sweepTimerExpiry places) s = .next (visitSlots (min places 16)
         ((s.setNow (max s.now due)).setPort
           { s.port with sweepTimer := some (due + 50000), sweepPlace := some 0 }))) ∧
  (∀ (places : Nat) (s : State), s.memorySound → s.port.sweepHeld = true →
     (let v := visitSlots 16 s
      (s.port.sweepPlace = none → v = s) ∧
      ((∀ k, s.port.sweepPlace = some k → k < 16) →
        v.port.sweepPlace = none ∧
        (v.port.sweepHeld = true →
          exec (.heldSweepStart places) s = .next (visitSlots (min places 16)
            (v.setPort { v.port with sweepHeld := false, sweepPlace := some 0 }))) ∧
        (v.port.sweepHeld = false → v.run.state = .standby ∧ exec (.heldSweepStart places) s = .next v)))) ∧
  (∀ (value : Word) (places : Nat) (s : State), s.run.state ≠ .standby → s.port.displayLost = false →
     (s.port.sweepPlace = none → (∀ i, i < 16 → s.slotState i ≠ .posted) →
       ∃ t, exec (.attention value places) s = .next t ∧
         t.port = { s.port with
           livenessTimer :=
             if s.run.state = .run then
               (if s.setup.general.livenessWindow = 0 then none
                else some (s.now + 1000 * s.setup.general.livenessWindow))
             else s.port.livenessTimer
           sweepPlace := if places < 16 then some places else none
           sweepCount := if places < 16 then s.port.sweepCount else s.port.sweepCount + 1#16
           statusUpd := if places < 16 then s.port.statusUpd else s.port.statusUpd + 2#8 } ∧
         s.changesOnly t [.registers, .statusBlock]) ∧
     (s.port.sweepPlace.isSome →
       ∃ t, exec (.attention value places) s = .next t ∧ t.port.sweepHeld = true ∧
         t.port.sweepPlace = s.port.sweepPlace ∧ t.port.sweepCount = s.port.sweepCount ∧
         s.changesOnly t [.registers])) ∧
  (∀ (places due : Nat) (s : State),
     (s.port.sweepTimer = some due ∨ (s.run.state ≠ .standby ∧ s.port.sweepTimer = none ∧ due = 50000)) →
     (s.port.sweepPlace = none → (∀ i, i < 16 → s.slotState i ≠ .posted) →
       ∃ t, exec (.sweepTimerExpiry places) s = .next t ∧ t.now = max s.now due ∧
         t.port = { s.port with
           sweepTimer := some (due + 50000)
           sweepPlace := if places < 16 then some places else none
           sweepCount := if places < 16 then s.port.sweepCount else s.port.sweepCount + 1#16
           statusUpd := if places < 16 then s.port.statusUpd else s.port.statusUpd + 2#8 } ∧
         s.changesOnly t [.clock, .registers, .statusBlock]) ∧
     (s.port.sweepPlace.isSome →
       ∃ t, exec (.sweepTimerExpiry places) s = .next t ∧ t.now = max s.now due ∧
         t.port = { s.port with sweepTimer := some (due + 50000), sweepHeld := true } ∧
         s.changesOnly t [.clock, .registers])) ∧
  (∀ (places k : Nat) (s : State), s.port.sweepHeld = true → s.port.sweepPlace = some k → k < 16 →
     places < 16 →
     (∀ i, i < 16 → s.slotState i ≠ .posted) →
       ∃ t, exec (.heldSweepStart places) s = .next t ∧
         t.port = { s.port with
           sweepHeld := false, sweepPlace := some places, sweepCount := s.port.sweepCount + 1#16
           statusUpd := s.port.statusUpd + 2#8 } ∧
         s.changesOnly t [.registers, .statusBlock])

/-- NOTICE_READ releases entries up to a value inside the unread range, refuses another value, and is a heartbeat
either way; the liveness timer's expiry sets DISPLAY_LOST in the port and in the composition record (R121, R182,
R183). The instant at which the clock then stands is the model's choice (assumption 2). A value taken modulo 128 and
judged before its heartbeat is the model's choice (assumption 34); the composition record outside RUN is assumption
21. -/
def Obligations.NoticeReadsAndTheLivenessTimer : Prop :=
  (∀ (value : Word) (s : State), s.run.state ≠ .standby →
     ∃ t, exec (.noticeRead value) s = .next t ∧ t.port.displayLost = false ∧
       ((value.setWidth 7 - s.port.noticeRead).toNat ≤ s.unread.toNat →
         t.port.noticeRead = value.setWidth 7 ∧ t.port.writeRefused = s.port.writeRefused) ∧
       (s.unread.toNat < (value.setWidth 7 - s.port.noticeRead).toNat →
         t.port.noticeRead = s.port.noticeRead ∧ t.port.writeRefused = true) ∧
       (s.run.state = .run → s.setup.general.livenessWindow ≠ 0 →
         t.port.livenessTimer = some (s.now + 1000 * s.setup.general.livenessWindow)) ∧
       (s.port.displayLost = false → s.changesOnly t [.notices, .registers])) ∧
  (∀ (s : State) (due : Nat), s.port.livenessTimer = some due → s.port.displayLost = false →
     ∃ t, exec .livenessTimerExpiry s = .next t ∧ t.now = max s.now due ∧ t.port.displayLost = true ∧
       t.port.livenessTimer = none ∧ t.comp.record.displayLost = true ∧ t.run = s.run ∧
       s.changesOnly t (.registers :: warningParts))

/-- A POSTED slot that the sweep visits with a kind that names no request fails with BAD_PARAMETER (R181, R187), and
outside RUN every request but APPLY_SETUP fails with WRONG_STATE, as the rule of each request says (R10, R32, R67, R106,
R128, R145, R159, R199); in CONFIG an APPLY_SETUP becomes TAKEN and the CONFIG idle timer stops (R197, R198), while one
out of CONFIG fails with WRONG_STATE, and one beside another that is TAKEN with BUSY (R198); each refusal ends the
request at its taking, and is shown as the last APPLY_SETUP result (R179, R181; read by inference, assumption 47). That
a sweep takes one slot at a time is assumption 7. -/
def Obligations.RequestsOutOfPlaceFail : Prop :=
  ∀ (k : Nat) (s : State), s.memorySound → k < 16 → s.port.sweepPlace = some k → s.slotState k = .posted →
    (let kind := (Memory.read s.mem (slotBase k + 1)).toNat
     (kind = 0 ∨ 10 < kind →
        (visitSlot s).slotState k = .failed ∧
        Memory.read (visitSlot s).mem (slotBase k + 3) = byteOf ResultCode.badParameter.code) ∧
      (2 ≤ kind → kind ≤ 10 → s.run.state ≠ .run →
        (visitSlot s).slotState k = .failed ∧
        Memory.read (visitSlot s).mem (slotBase k + 3) = byteOf ResultCode.wrongState.code ∧
        s.changesOnly (visitSlot s) [.notices, .statusBlock, .registers, .slots]) ∧
      (kind = 1 → s.run.state = .config → s.run.applySlot = none →
        (visitSlot s).slotState k = .taken ∧ (visitSlot s).run.applySlot = some k ∧
        (visitSlot s).run.configIdleTimer = none) ∧
      (kind = 1 → s.run.state ≠ .config ∨ s.run.applySlot ≠ none →
        (visitSlot s).slotState k = .failed ∧
        Memory.read (visitSlot s).mem (slotBase k + 3) =
          (if s.run.state ≠ .config then byteOf ResultCode.wrongState.code else byteOf ResultCode.busy.code) ∧
        (visitSlot s).run = { s.run with
          lastResult := if s.run.state ≠ .config then .wrongState else .busy
          lastDetail := 0 } ∧
        s.changesOnly (visitSlot s) [.runLogic, .notices, .statusBlock, .registers, .slots]))

/-- The requests that the part carries out as it takes them in RUN: ACKNOWLEDGE and CLEAR_FAULTS with the refusals and
the effects of their tables, ENTER_CONFIG and STANDBY_PERMIT with the change of run state (R106, R109, R159, R160, R199;
the interlock by R95, the gauges by R149). The slot that asks for the change of run state holds no other work. That
STANDBY is entered at once only with the line idle is read by inference (assumptions 10 and 24), and that a sweep takes
one slot at a time is assumption 7. -/
def Obligations.RequestsInRunAreServed : Prop :=
  ∀ (k : Nat) (s : State), s.memorySound → k < 16 → s.port.sweepPlace = some k → s.slotState k = .posted →
    s.run.state = .run →
    (let kind := (Memory.read s.mem (slotBase k + 1)).toNat
     let target := (Memory.read s.mem (slotBase k + 8)).toNat
     let t := visitSlot s
     let fails := fun (r : ResultCode) =>
       t.slotState k = .failed ∧ Memory.read t.mem (slotBase k + 3) = byteOf r.code ∧
         s.changesOnly t [.notices, .statusBlock, .registers, .slots]
     let done := t.slotState k = .done ∧ Memory.read t.mem (slotBase k + 3) = 0#8
     (kind = 6 →
       (95 < target → target ≠ 255 → fails .badParameter) ∧
       (target = 255 → s.comp.record.top.kind ≠ .warning → fails .notPending) ∧
       (∀ w, (target = w ∧ w ≤ 95) ∨
           (target = 255 ∧ s.comp.record.top.kind = .warning ∧ s.comp.record.top.index = w) →
         (let u := s.setup.warnings.get w
          let x := s.warnings.get w
          let y := t.warnings.get w
          (u.kind = .unused ∨ u.ackMode = .none → fails .notAcknowledgeable) ∧
          (u.kind ≠ .unused → u.ackMode ≠ .none →
            (x.state = .inactive ∨ x.state = .arming ∨ ((x.state = .active ∨ x.state = .clearing) ∧ x.acked = true) →
              fails .notPending) ∧
            (x.state = .latched ∨ ((x.state = .active ∨ x.state = .clearing) ∧ x.acked = false) →
              done ∧ Memory.read t.mem (slotBase k + 8) = byteOf w ∧
              (x.state = .latched → y.state = .inactive ∧ y.acked = false) ∧
              (x.state ≠ .latched → y.state = x.state ∧ y.acked = true ∧ y.delay = x.delay) ∧
              y.occurrences = x.occurrences ∧ y.condition = x.condition ∧
              (∀ v, v ≠ w → t.warnings.get v = s.warnings.get v) ∧
              s.changesOnly t (.slots :: .registers :: warningParts)))))) ∧
     (kind = 10 →
       (s.doors.motion ≠ .stopped → fails .refusedMoving) ∧
       (s.doors.motion = .stopped → s.shop.session = .service → fails .refusedWorkshop) ∧
       (s.doors.motion = .stopped → s.shop.session ≠ .service →
         (let r := fun i => s.faults.records.get i
          let q := fun i => t.faults.records.get i
          done ∧ t.faults.full = false ∧
          Memory.read t.mem (slotBase k + 8) = byteOf (s.faults.records.cells.countP fun r => r.status = .passive) ∧
          Memory.read t.mem (slotBase k + 9) = byteOf (s.faults.records.cells.countP fun r => r.status = .active) ∧
          (∀ i, i < 48 →
            ((r i).status = .passive → (q i).status = .empty) ∧
            ((r i).status = .active →
              (q i).status = .active ∧ (q i).code = (r i).code ∧ (q i).origin = (r i).origin ∧
              (q i).occurrences = 1 ∧ (q i).aging = 0 ∧ (q i).firstCycle = s.run.ignitionCycle ∧
              (q i).lastCycle = s.run.ignitionCycle ∧ (q i).firstTime = s.time ∧ (q i).lastTime = s.time ∧
              (q i).snapshot = s.snapshot) ∧
            ((r i).status = .empty → q i = r i)) ∧
          s.changesOnly t [.notices, .statusBlock, .registers, .slots, .faults]))) ∧
     (kind = 2 → s.slotFree k →
       done ∧ t.run.state = .config ∧ t.run.runOnTimer = none ∧ t.now = s.now ∧ t.port.livenessTimer = none ∧
       (s.run.ignition = false → s.run.applySlot = none → t.run.configIdleTimer = some (s.now + 60000000)) ∧
       t.doors.interlock = .demand ∧ t.stopBrakeDemand = true ∧
       t.shop.session = (if s.shop.session = .service then .read else s.shop.session) ∧
       (s.shop.session = .service → t.shop.forced = []) ∧
       (∀ g, g < 6 → (t.gauges.get g).needle = (s.gauges.get g).needle ∧
         ((s.gauges.get g).state = .tracking ∨ (s.gauges.get g).state = .holding →
           (t.gauges.get g).state = .parking)) ∧
       s.changesOnly t runParts) ∧
     (kind = 3 →
       (s.run.ignition = true → fails .wrongState) ∧
       (s.run.ignition = false → s.slotFree k →
         done ∧ t.run.runOnTimer = none ∧ t.now = s.now ∧
         ((∀ g, g < 6 → (s.gauges.get g).state = .parked) → s.line.phase = .idle → t.run.state = .standby) ∧
         ((∃ g, g < 6 ∧ (s.gauges.get g).state ≠ .parked) ∨ s.line.phase ≠ .idle → t.run.state = .shutdown) ∧
         t.doors.interlock = .demand ∧ t.stopBrakeDemand = true ∧ t.shop.session = .detached ∧
         s.changesOnly t runParts)))

/-- The requests that start work in RUN: STATION_TRANSFER joins the one-shot list, GAUGE_SWEEP starts every gauge of its
set, LAMP_CHECK and WIRING_CHECK start their check, and the slot is TAKEN; each is refused in the order of its table
(R32, R67, R128, R132, R145, R146, R185, R187). That a sweep takes one slot at a time is assumption 7. -/
def Obligations.RequestsInRunStartTheirWork : Prop :=
  ∀ (k : Nat) (s : State), s.memorySound → k < 16 → s.port.sweepPlace = some k → s.slotState k = .posted →
    s.run.state = .run →
    (let kind := (Memory.read s.mem (slotBase k + 1)).toNat
     let body := fun j => Memory.read s.mem (slotBase k + 8 + j)
     let t := visitSlot s
     let fails := fun (r : ResultCode) =>
       t.slotState k = .failed ∧ Memory.read t.mem (slotBase k + 3) = byteOf r.code ∧
         s.changesOnly t [.notices, .statusBlock, .registers, .slots]
     let taken := t.slotState k = .taken ∧ ∀ a, a ≠ slotBase k → Memory.read t.mem a = Memory.read s.mem a
     (kind = 5 →
       (let bad := (body 0).toNat = 0 ∨ 15 < (body 0).toNat ∨ 31 < (body 1).toNat ∨ 1 < (body 2).toNat ∨
          16 < (body 3).toNat
        let words := (List.range (body 3).toNat).map fun j => wordOfBytes (body (4 + 2 * j)) (body (5 + 2 * j))
        (bad → fails .badParameter) ∧
        (¬bad → 4 ≤ s.line.oneShots.length → fails .queueFull) ∧
        (¬bad → s.line.oneShots.length < 4 →
          taken ∧ t.line = { s.line with
            oneShots := s.line.oneShots ++ [.transfer k (body 0).toNat (body 1).toNat
              (if (body 2).toNat = 0 then .fetch else .deliver) (body 3).toNat
              (if (body 2).toNat = 0 then [] else words)] } ∧
          s.changesOnly t [.statusBlock, .registers, .slots, .line]))) ∧
     (kind = 7 →
       (let set := body 0
        let bad := set = 0#8 ∨ 64 ≤ set.toNat ∨ ∃ i, i < 6 ∧ set.getLsbD i = true ∧ (s.setup.gauges.get i).inUse = false
        let busy := ∃ i, i < 6 ∧ set.getLsbD i = true ∧
          ((s.gauges.get i).state = .sweeping ∨ (s.gauges.get i).state = .homing)
        (bad → fails .badParameter) ∧
        (¬bad → s.doors.motion ≠ .stopped → fails .refusedMoving) ∧
        (¬bad → s.doors.motion = .stopped → busy → fails .busy) ∧
        (¬bad → s.doors.motion = .stopped → ¬busy →
          taken ∧
          (∀ i, i < 6 → set.getLsbD i = true →
            (t.gauges.get i).state = .sweeping ∧ (t.gauges.get i).needle = (s.gauges.get i).needle ∧
            (t.gauges.get i).holdTimer = none ∧
            (t.gauges.get i).updateTimer =
              (if (s.gauges.get i).updateTimer = none then some (s.now + 20000)
               else (s.gauges.get i).updateTimer) ∧
            (t.gauges.get i).sweep = some
              { resume := (s.gauges.get i).state
                returnPoint :=
                  if (s.gauges.get i).state = .tracking ∨ (s.gauges.get i).state = .holding then
                    (s.gauges.get i).command
                  else (s.setup.gauges.get i).park
                back := false
                owner := .request k set }) ∧
          (∀ i, set.getLsbD i = false → t.gauges.get i = s.gauges.get i) ∧
          s.changesOnly t [.statusBlock, .registers, .slots, .gauges]))) ∧
     (kind = 8 →
       (s.doors.motion ≠ .stopped → fails .refusedMoving) ∧
       (s.doors.motion = .stopped → s.comp.check.isSome = true → fails .busy) ∧
       (s.doors.motion = .stopped → s.comp.check = none →
         taken ∧ t.comp.check = some (.request k) ∧ t.comp.checkTimer = some (s.now + 2000000) ∧
         t.comp.testTimer = some (s.now + 300000) ∧
         (∀ l, l < 32 → (t.comp.lamps.get l).proof = .untested ∧ (t.comp.lamps.get l).openCount = 0 ∧
           (t.comp.lamps.get l).healCount = 0 ∧ (t.comp.lamps.get l).trips = 0 ∧
           (t.comp.lamps.get l).command = .on ∧ (t.comp.lamps.get l).duty = (s.comp.lamps.get l).duty) ∧
         s.changesOnly t (.slots :: .registers :: warningParts))) ∧
     (kind = 9 →
       (let c := (body 0).toNat
        let x := s.sense.channels.get c
        let y := t.sense.channels.get c
        (47 < c ∨ (s.setup.sense.get c).kind = .frequency → fails .badParameter) ∧
        (c ≤ 47 → (s.setup.sense.get c).kind ≠ .frequency →
          (x.check.isSome = true → fails .busy) ∧
          (x.check = none → s.sense.supplyLow = true → fails .aborted) ∧
          (x.check = none → s.sense.supplyLow = false →
            taken ∧ y.check = some { slot := k, bands := [] } ∧
            y.sampleTimer =
              (if (s.setup.sense.get c).kind = .unused then
                some (s.now + 1000 * Config.scanPeriod (s.setup.sense.get c).periodCode)
               else x.sampleTimer) ∧
            y.logical = x.logical ∧ y.faultClass = x.faultClass ∧ y.debounce = x.debounce ∧ y.contact = x.contact ∧
            (∀ j, j ≠ c → t.sense.channels.get j = s.sense.channels.get j) ∧
            s.changesOnly t (.slots :: .registers :: .sense :: .doors :: warningParts))))))

/-- The end of a validation that finds a failed check: the slot FAILED with SETUP_INVALID and the region, and the part
still in CONFIG; the end of one that passes: the setup regions as they stand are applied, the slot is DONE, and the part
enters RUN with memory-lost clear, every signal and gauge at its RUN-entry value, and every lamp at the duty of its day
level, since no signal is usable yet (R12, R58, R96, R122, R143, R150, R198). The offsets of the setup fields are the
model's choice (assumption 3); a transfer of the same slot that is still in flight is shut out (assumption 24). -/
def Obligations.ValidationsEnd : Prop :=
  (∀ (s : State) (i : Nat) (f : SetupFailure), s.memorySound → s.run.applySlot = some i →
     (Setup.ofMemory s.mem).firstFailure = some f →
       ∃ t, exec .setupValidationEnd s = .next t ∧
         t.run.state = s.run.state ∧ t.run.applySlot = none ∧ t.run.lastResult = .setupInvalid ∧
         t.run.lastDetail = f.1 ∧ t.run.memoryLost = s.run.memoryLost ∧ t.slotState i = .failed ∧
         Memory.read t.mem (slotBase i + 3) = byteOf ResultCode.setupInvalid.code ∧
         Memory.read t.mem (slotBase i + 6) = byteOf f.1 ∧
         Memory.read t.mem (slotBase i + 8) = byteOf f.1 ∧
         Memory.read t.mem (slotBase i + 9) = byteOf f.2.1 ∧
         Memory.read t.mem (slotBase i + 10) = byteOf f.2.2 ∧
         (s.run.ignition = false → t.run.configIdleTimer = some (s.now + 60000000)) ∧
         s.changesOnly t [.runLogic, .notices, .statusBlock, .slots]) ∧
  (∀ (s : State) (i : Nat), s.memorySound → s.run.applySlot = some i →
     (Setup.ofMemory s.mem).firstFailure = none →
     (∀ k a b d l ws, OneShot.transfer k a b d l ws ∈ s.line.oneShots → k % 16 ≠ i % 16) →
       ∃ t, exec .setupValidationEnd s = .next t ∧
         t.run.state = .run ∧ t.run.applySlot = none ∧ t.run.lastResult = .ok ∧ t.run.memoryLost = false ∧
         t.setup = Setup.ofMemory s.mem ∧ t.slotState i = .done ∧ t.line.minor = 0 ∧
         t.doors.motion = .unknown ∧
         (∀ d, d < 4 → (t.doors.doors.get d).cycles = (s.doors.doors.get d).cycles ∧
           (t.doors.doors.get d).obstructions = (s.doors.doors.get d).obstructions) ∧
         (∀ n, n < 128 → (t.signals.get n).status =
           if ((Setup.ofMemory s.mem).signals.get n).kind = .none then .notConfigured else .noData) ∧
         (∀ g, g < 6 → (t.gauges.get g).state =
           if ((Setup.ofMemory s.mem).gauges.get g).inUse then .homing else .parked) ∧
         (∀ l, l < 32 → (t.comp.lamps.get l).duty = 4 * ((Setup.ofMemory s.mem).lamps.get l).day) ∧
         s.changesOnly t (.setup :: runParts))

/-! ### The signal image and the sense scanner -/

/-- The stale deadline of an unforced signal makes its source and its entry STALE with the source value shown; a
forced signal's entry stays as the force set it (R7). The instant at which the clock then stands is the model's
choice (assumption 2). -/
def Obligations.StaleExpiryMakesASignalStale : Prop :=
  ∀ (n : Fin 128) (s : State) (due : Nat), s.run.state = .run →
    (s.signals.get n).staleDeadline = some due →
      ∃ t, exec (.staleExpiry n) s = .next t ∧ t.now = max s.now (1000 * due) ∧
        (t.signals.get n).sourceStatus = .stale ∧ (t.signals.get n).staleDeadline = none ∧
        (t.signals.get n).sourceValue = (s.signals.get n).sourceValue ∧
        (t.signals.get n).underlying = (s.signals.get n).underlying ∧
        ((s.signals.get n).status ≠ .forced →
          (t.signals.get n).status = .stale ∧ (t.signals.get n).value = (s.signals.get n).sourceValue) ∧
        ((s.signals.get n).status = .forced →
          (t.signals.get n).status = .forced ∧ (t.signals.get n).value = (s.signals.get n).value ∧
          (∀ m, m ≠ n.val → t.signals.get m = s.signals.get m) ∧ s.changesOnly t [.clock, .signals]) ∧
        s.changesOnly t signalParts

/-- What a source delivers is judged by R5 and R6: a SUPPLY_SIGNAL request whose body passes is applied item by item and
answered with the status each item gives, and one with a bad item fails as a whole with its position (R10, R11); a
sample of a channel delivers its logical value, or while it is in fault a fault declaration, once the channel has
settled (R4, R26); and the words of an OK FETCH of an entry or a probe go to the entry's signals, while no other end of
a transaction delivers, nor any end out of RUN (R4, R13, R61, R62). The operand of a reply character gives the gap
before it (assumption 26), and the instant at which the clock stands is the model's choice (assumption 2). -/
def Obligations.DeliveriesAreJudged : Prop :=
  (∀ (k : Nat) (s : State), s.memorySound → k < 16 → s.port.sweepPlace = some k → s.slotState k = .posted →
    (Memory.read s.mem (slotBase k + 1)).toNat = 4 → s.run.state = .run →
    (let count := (Memory.read s.mem (slotBase k + 8)).toNat
     let item := fun j o => Memory.read s.mem (slotBase k + 9 + 4 * j + o)
     let signal := fun j => (item j 0).toNat
     let value := fun j => wordOfBytes (item j 2) (item j 3)
     let bad := fun j => 127 < signal j ∨ (s.setup.signals.get (signal j)).kind ≠ .supplied ∨ 1 < (item j 1).toNat
     let t := visitSlot s
     let fails := fun (detail : Nat) =>
       t.slotState k = .failed ∧ Memory.read t.mem (slotBase k + 3) = byteOf ResultCode.badParameter.code ∧
         Memory.read t.mem (slotBase k + 6) = byteOf detail ∧ Memory.read t.mem (slotBase k + 7) = 0#8 ∧
         s.changesOnly t [.notices, .statusBlock, .registers, .slots]
     (count = 0 ∨ 13 < count → fails 0) ∧
     (∀ j, count ≤ 13 → j < count → bad j → (∀ i, i < j → ¬bad i) → fails (j + 1)) ∧
     (0 < count → count ≤ 13 → (∀ j, j < count → ¬bad j) →
       t.slotState k = .done ∧ Memory.read t.mem (slotBase k + 3) = 0#8 ∧
       s.changesOnly t (.registers :: signalParts) ∧
       (∀ n, n ∉ s.shop.forced → (∀ j, j < count → signal j ≠ n) → t.signals.get n = s.signals.get n) ∧
       (∀ j, j < count →
         (let n := signal j
          let u := s.setup.signals.get n
          let x := s.signals.get n
          let y := t.signals.get n
          Memory.read t.mem (slotBase k + 8 + j) =
            (if (item j 1).toNat = 0 ∧ u.rangeMin ≤ (value j).toInt ∧ (value j).toInt ≤ u.rangeMax then 2#8
             else 4#8) ∧
          ((∀ i, i < count → i ≠ j → signal i ≠ n) →
            ((item j 1).toNat = 0 → x.tookValue y u (value j) s.ms) ∧
            ((item j 1).toNat = 1 → x.tookFault y u none s.ms) ∧
            (n ∉ s.shop.forced → x.shownAfter y))))))) ∧
  (∀ (c : Fin 48) (reading : BitVec 12) (s : State) (due : Nat), s.run.state = .run →
    (s.sense.channels.get c).check = none → (s.sense.channels.get c).sampleTimer = some due →
    ∃ t, exec (.senseSample c reading) s = .next t ∧
      (∀ m, m ∉ s.shop.forced → s.signalOfChannel c ≠ some m → t.signals.get m = s.signals.get m) ∧
      (∀ n, s.signalOfChannel c = some n →
        (let z := t.sense.channels.get c
         let u := s.setup.signals.get n
         let x := s.signals.get n
         let y := t.signals.get n
         (z.settled = false → t.signals = s.signals) ∧
         (z.settled = true → z.faultClass = .none →
           x.tookValue y u z.logical (max s.now due / 1000) ∧ x.shownAfter y) ∧
         (z.settled = true → z.faultClass ≠ .none →
           x.tookFault y u
             (match (s.setup.sense.get c).substitution with
              | .substitute0 => some 0#16
              | .substitute1 => some 1#16
              | _ => none) (max s.now due / 1000) ∧
           x.shownAfter y)))) ∧
  (∀ (s : State) (a : Attempt) (x : Transaction) (gap : Nat) (data : Byte), s.completes a x gap data →
    ∃ t, exec (a.lastCharacter gap data) s = .next t ∧
      (s.run.state ≠ .run ∨ x.purpose = .oneShot ∨ judgeReply x.station (a.received ++ [data]) ≠ .ok ∨
          (x.dir = .deliver ∧ ∃ e, x.purpose = .entry e) →
        t.signals = s.signals) ∧
      (∀ e i, s.run.state = .run → x.purpose = .entry e ∨ x.purpose = .probe e → x.dir = .fetch →
        judgeReply x.station (a.received ++ [data]) = .ok → (s.setup.schedule.get e).count ≤ x.length →
        i < (s.setup.schedule.get e).count → (s.setup.schedule.get e).first + i < 128 →
        (let n := (s.setup.schedule.get e).first + i
         let word := wordOfBytes ((a.received ++ [data]).getD (2 + 2 * i) 0#8) ((a.received ++ [data]).getD (3 + 2 * i) 0#8)
         (s.signals.get n).tookValue (t.signals.get n) (s.setup.signals.get n) word (t.now / 1000) ∧
         (n ∉ s.shop.forced → (s.signals.get n).shownAfter (t.signals.get n)))))

/-- A sample that is due is taken: the timer runs on by the scan period, the reading is shown, no other channel
moves, and while supply low holds the channel keeps its value and its class (R17, R30). The instant at which the
clock then stands is the model's choice (assumption 2). -/
def Obligations.SenseSampleIsTaken : Prop :=
  ∀ (c : Fin 48) (reading : BitVec 12) (s : State) (due : Nat), s.run.state = .run →
    (s.sense.channels.get c).check = none → (s.sense.channels.get c).sampleTimer = some due →
      ∃ t, exec (.senseSample c reading) s = .next t ∧ t.now = max s.now due ∧
        (t.sense.channels.get c).sampleTimer =
          some (due + 1000 * Config.scanPeriod (s.setup.sense.get c).periodCode) ∧
        ((s.setup.sense.get c).kind ≠ .frequency → (t.sense.channels.get c).reading = reading.setWidth 16) ∧
        (s.sense.supplyLow = true →
          (t.sense.channels.get c).logical = (s.sense.channels.get c).logical ∧
          (t.sense.channels.get c).faultClass = (s.sense.channels.get c).faultClass ∧
          (t.sense.channels.get c).settled = (s.sense.channels.get c).settled) ∧
        (∀ j, j ≠ c.val → t.sense.channels.get j = s.sense.channels.get j) ∧
        t.sense.supplyLow = s.sense.supplyLow ∧ s.changesOnly t (.sense :: signalParts)

/-- An in-limit sample of a healthy sender or voltage channel becomes its logical value and settles it, and a change of
the value adds 1 to the change count; a frequency channel takes its measurement, floor(10,000,000 / P) of the period P
between its two latest edges up to 32,767, or 0 with fewer than two edges or with the latest 2,000 ms back; and a rising
edge joins its edge history, newest first, two edges deep (R19, R20, R22, R23). A period below 1 µs saturates as 1 µs
does, which is the model's choice (assumption 14). The instant at which the clock then stands is the model's choice
(assumption 2). The instant of an edge is its operand. -/
def Obligations.InLimitSampleBecomesTheValue : Prop :=
  (∀ (c : Fin 48) (reading : BitVec 12) (s : State) (due : Nat) (m : Nat), s.run.state = .run →
    (s.sense.channels.get c).check = none → (s.sense.channels.get c).sampleTimer = some due →
    s.sense.supplyLow = false → (s.sense.channels.get c).faultClass = .none →
    (let u := s.setup.sense.get c
     let edges := (s.sense.channels.get c).edges
     let newest := edges.getD 0 0
     let period := newest - edges.getD 1 0
     (u.kind = .resistiveSender ∧ m = reading.toNat ∧ u.low ≤ m ∧ m ≤ u.high) ∨
     (u.kind = .voltage ∧ m = 8 * reading.toNat ∧ u.low ≤ m ∧ m ≤ u.high) ∨
     (u.kind = .frequency ∧ (edges.length < 2 ∨ newest + 2000000 ≤ max s.now due) ∧ m = 0) ∨
     (u.kind = .frequency ∧ 2 ≤ edges.length ∧ max s.now due < newest + 2000000 ∧
       m = min (10000000 / max period 1) 32767)) →
      ∃ t, exec (.senseSample c reading) s = .next t ∧
        (t.sense.channels.get c).logical = BitVec.ofNat 16 m ∧ (t.sense.channels.get c).settled = true ∧
        (t.sense.channels.get c).faultClass = .none ∧ (t.sense.channels.get c).faultRun = 0 ∧
        (t.sense.channels.get c).changeCount =
          (if BitVec.ofNat 16 m = (s.sense.channels.get c).logical then (s.sense.channels.get c).changeCount
           else (s.sense.channels.get c).changeCount + 1#8)) ∧
  (∀ (c : Fin 48) (after : Nat) (s : State), s.run.state = .run → (s.setup.sense.get c).kind = .frequency →
    ∃ t, exec (.frequencyEdge c after) s = .next t ∧
      t.now = max s.now ((s.sense.channels.get c).edges.headD 0 + after) ∧
      (t.sense.channels.get c).edges = (t.now :: (s.sense.channels.get c).edges).take 2 ∧
      (t.sense.channels.get c).logical = (s.sense.channels.get c).logical ∧
      (∀ j, j ≠ c.val → t.sense.channels.get j = s.sense.channels.get j) ∧
      t.sense.supplyLow = s.sense.supplyLow ∧ s.changesOnly t [.clock, .sense])

/-- The contact sample at which the debounce count of a switch reaches its limit changes its value, or settles it
(R18, R21, R23). Which of the rows of the table names the sample is assumption 1. -/
def Obligations.DebounceChangesASwitch : Prop :=
  ∀ (c : Fin 48) (reading : BitVec 12) (s : State) (due : Nat) (k : Contact), s.run.state = .run →
    (s.sense.channels.get c).check = none → (s.sense.channels.get c).sampleTimer = some due →
    s.sense.supplyLow = false → (s.sense.channels.get c).faultClass = .none →
    (s.setup.sense.get c).kind.isSwitch = true →
    switchSample (s.setup.sense.get c).kind (s.sense.channels.get c).contact reading.toNat = .contact k →
    max (s.setup.sense.get c).debounce 1 ≤ (s.sense.channels.get c).debounce + 1 →
    (let x := s.sense.channels.get c
     let v := contactValue (s.setup.sense.get c).invert k
     (x.settled = true ∧ v ≠ x.logical) ∨ (x.settled = false ∧ x.contact = some k)) →
      ∃ t, exec (.debounceChange c reading) s = .next t ∧
        (t.sense.channels.get c).logical = contactValue (s.setup.sense.get c).invert k ∧
        (t.sense.channels.get c).settled = true ∧ (t.sense.channels.get c).debounce = 0 ∧
        (t.sense.channels.get c).contact = some k ∧ (t.sense.channels.get c).faultRun = 0 ∧
        ((s.sense.channels.get c).settled = true →
          (t.sense.channels.get c).changeCount = (s.sense.channels.get c).changeCount + 1#8) ∧
        (∀ j, j ≠ c.val → t.sense.channels.get j = s.sense.channels.get j) ∧
        s.changesOnly t (.sense :: signalParts)

/-- The fourth fault sample in a row puts a channel in fault with its class and its substitute; the eighth healthy
sample in a row heals a channel in fault with that sample's value, but no sample heals a WIRING fault, which keeps its
class, its logical value and its counts (R24, R25, R33). The
instant at which the clock then stands is the model's choice (assumption 2). Which of the rows of the table names the
sample is assumption 1. -/
def Obligations.FaultRunsEnterAndHeal : Prop :=
  ∀ (c : Fin 48) (reading : BitVec 12) (s : State) (due : Nat), s.run.state = .run →
    (s.sense.channels.get c).check = none → (s.sense.channels.get c).sampleTimer = some due →
    s.sense.supplyLow = false →
    (∀ f, (s.sense.channels.get c).faultClass = .none → (s.sense.channels.get c).faultRun = 3 →
      classify (s.setup.sense.get c) (s.sense.channels.get c) reading.toNat (max s.now due) = .fault f →
        ∃ t, exec (.senseFaultEntry c reading) s = .next t ∧
          (t.sense.channels.get c).faultClass = f ∧ (t.sense.channels.get c).settled = true ∧
          (t.sense.channels.get c).faultRun = 0 ∧ (t.sense.channels.get c).healthyRun = 0 ∧
          (t.sense.channels.get c).logical =
            (match (s.setup.sense.get c).substitution with
             | .substitute0 => 0#16
             | .substitute1 => 1#16
             | _ => if (s.sense.channels.get c).settled then (s.sense.channels.get c).logical else 0#16) ∧
          (∀ j, j ≠ c.val → t.sense.channels.get j = s.sense.channels.get j) ∧
          s.changesOnly t (.sense :: signalParts)) ∧
    ((s.sense.channels.get c).faultClass ≠ .none → (s.sense.channels.get c).faultClass ≠ .wiring →
      (s.sense.channels.get c).healthyRun = 7 →
      (∀ f, classify (s.setup.sense.get c) (s.sense.channels.get c) reading.toNat (max s.now due) ≠ .fault f) →
      classify (s.setup.sense.get c) (s.sense.channels.get c) reading.toNat (max s.now due) ≠ .void →
        ∃ t, exec (.senseHeal c reading) s = .next t ∧
          (t.sense.channels.get c).faultClass = .none ∧ (t.sense.channels.get c).healthyRun = 0 ∧
          (t.sense.channels.get c).logical = sampleValue (s.setup.sense.get c)
            (classify (s.setup.sense.get c) (s.sense.channels.get c) reading.toNat (max s.now due)) ∧
          (∀ j, j ≠ c.val → t.sense.channels.get j = s.sense.channels.get j) ∧
          s.changesOnly t (.sense :: signalParts)) ∧
    ((s.sense.channels.get c).faultClass = .wiring →
      exec (.senseHeal c reading) s = .next s ∧
      ∃ t, exec (.senseSample c reading) s = .next t ∧ (t.sense.channels.get c).faultClass = .wiring ∧
        (t.sense.channels.get c).logical = (s.sense.channels.get c).logical ∧
        (t.sense.channels.get c).settled = (s.sense.channels.get c).settled ∧
        (t.sense.channels.get c).healthyRun = (s.sense.channels.get c).healthyRun ∧
        (t.sense.channels.get c).changeCount = (s.sense.channels.get c).changeCount ∧
        (∀ j, j ≠ c.val → t.sense.channels.get j = s.sense.channels.get j) ∧
        s.changesOnly t (.sense :: signalParts))

/-- The first two measurements of a wiring check are kept as bands; the third ends it, puts a mismatched channel of a
configured kind in a WIRING fault, lifts a WIRING fault that matches, and answers the slot (R32, R33). The instant at
which the clock then stands is the model's choice (assumption 2). The order of the effects of the third measurement
is the model's choice (assumption 23). -/
def Obligations.WiringCheckMeasuresAndJudges : Prop :=
  ∀ (c : Fin 48) (reading : BitVec 12) (s : State) (due : Nat) (w : WiringCheck),
    (s.sense.channels.get c).check = some w → (s.sense.channels.get c).sampleTimer = some due →
    ∃ t, exec (.wiringCheckMeasurement c reading) s = .next t ∧ t.now = max s.now due ∧
      (t.sense.channels.get c).reading = reading.setWidth 16 ∧
      (∀ j, j ≠ c.val → t.sense.channels.get j = s.sense.channels.get j) ∧
      s.changesOnly t (.sense :: signalParts) ∧
      (w.bands.length < 2 →
        (t.sense.channels.get c).check = some { w with bands := w.bands ++ [reading.toNat / 256] } ∧
        (t.sense.channels.get c).logical = (s.sense.channels.get c).logical ∧
        (t.sense.channels.get c).faultClass = (s.sense.channels.get c).faultClass) ∧
      (∀ u d, w.bands = [u, d] →
        (let kind := (s.setup.sense.get c).kind
         let f := reading.toNat / 256
         let detected : DetectedKind :=
           if 2 ≤ f ∧ (u = d ∨ u = d + 1 ∨ d = u + 1) then .driven
           else if 14 ≤ u ∧ d ≤ 1 then .nothing
           else if u ≤ 13 ∧ d ≤ 1 then .toGround
           else if 14 ≤ u ∧ 2 ≤ d then .toSupply
           else .resistive
         let fits :=
           kind = (match detected with
             | .driven => SenseKind.voltage
             | .nothing => .unused
             | .toGround => .switchToGround
             | .toSupply => .switchToSupply
             | .resistive => .resistiveSender)
         (t.sense.channels.get c).check = none ∧ (t.sense.channels.get c).debounce = 0 ∧
         (t.sense.channels.get c).faultRun = 0 ∧ (t.sense.channels.get c).healthyRun = 0 ∧
         (t.sense.channels.get c).faultClass =
           (if fits then
              (if (s.sense.channels.get c).faultClass = .wiring then .none else (s.sense.channels.get c).faultClass)
            else if kind = .unused then (s.sense.channels.get c).faultClass else .wiring) ∧
         (s.memorySound → s.signalOfChannel c = none →
           t.slotState w.slot = .done ∧
           (List.range 5).map (fun k => Memory.read t.mem (slotBase w.slot + 8 + k)) =
             [byteOf detected.code, byteOf u, byteOf d, byteOf f, if fits then 0#8 else 1#8])))

/-- A supply measurement is shown, moves the supply-low flag and the low timer by the thresholds 16,000 and 17,000
mV, and runs on by 5 ms; the low timer's expiry sets supply low and ends every wiring check (R29, R34). The instant
at which the clock then stands is the model's choice (assumption 2). -/
def Obligations.SupplyLowFollowsTheSupply : Prop :=
  (∀ (mv : Word) (s : State) (due : Nat), s.run.state ≠ .standby → s.sense.supplyTimer = some due →
     ∃ t, exec (.supplyMeasurement mv) s = .next t ∧ t.now = max s.now due ∧ t.sense.supplyMv = mv ∧
       t.sense.supplyTimer = some (due + 5000) ∧
       t.sense.supplyLow = (s.sense.supplyLow && decide (mv.toNat ≤ 17000)) ∧
       t.sense.lowTimer =
         (if 16000 ≤ mv.toNat then none
          else if s.sense.supplyLow = false ∧ s.sense.lowTimer = none then some (max s.now due + 100000)
          else s.sense.lowTimer) ∧
       t.sense.channels = s.sense.channels ∧ s.changesOnly t (.sense :: warningParts)) ∧
  (∀ (s : State) (due : Nat), s.sense.lowTimer = some due →
     ∃ t, exec .supplyLowTimerExpiry s = .next t ∧ t.now = max s.now due ∧ t.sense.supplyLow = true ∧
       t.sense.lowTimer = none ∧ t.sense.supplyMv = s.sense.supplyMv ∧
       (∀ c, c < 48 → (t.sense.channels.get c).check = none ∧
         (t.sense.channels.get c).logical = (s.sense.channels.get c).logical ∧
         (t.sense.channels.get c).faultClass = (s.sense.channels.get c).faultClass) ∧
       s.changesOnly t (.slots :: .sense :: .doors :: warningParts))

/-- A sample at the present level restarts the tally, and ten samples at the other level change the ignition state (R31).
Each run state acts on it: the wake, with the cycle number raised and the fault records aged as `ageRecords` does (R158,
R196), the CONFIG idle timer (R197), the run-on timer (R199), and the return to RUN (R200), in which the signals, the
doors, the warnings with their counts, the gauges and the body line take their values of RUN entry (R12, R58, R95, R96,
R114, R149). The operand counts equal samples in a row (assumption 35); that minor cycle 0 starts after the rest is the
model's choice (assumption 65). -/
def Obligations.IgnitionChangesAtTheTenthSample : Prop :=
  ∀ (on : Bool) (n : Nat) (s : State), 0 < n →
    (on = s.run.ignition →
      exec (.ignitionStateChange on n) s = .next (s.setRun { s.run with ignitionTally := 0 })) ∧
    (on ≠ s.run.ignition → s.run.ignitionTally + n < 10 →
      exec (.ignitionStateChange on n) s =
        .next (s.setRun { s.run with ignitionTally := s.run.ignitionTally + n })) ∧
    (on ≠ s.run.ignition → 10 ≤ s.run.ignitionTally + n →
      ∃ t, exec (.ignitionStateChange on n) s = .next t ∧ t.run.ignition = on ∧ t.run.ignitionTally = 0 ∧
        (s.run.state = .standby → on = true →
          t.run.state = .config ∧ t.now = 0 ∧ t.run.ignitionCycle = s.run.ignitionCycle + 1#16 ∧
          t.faults = (ageRecords s).faults ∧
          t.port.noticeRead = 0#7 ∧ t.shop.session = .detached ∧ t.doors.interlock = .demand) ∧
        (s.run.state = .config →
          t.run.state = .config ∧
          (on = true → t.run.configIdleTimer = none ∧ t.run.standbyPending = false) ∧
          (on = false → s.run.applySlot = none → t.run.configIdleTimer = some (s.now + 60000000)) ∧
          s.changesOnly t [.runLogic, .statusBlock]) ∧
        (s.run.state = .run → on = true →
          t.run.state = .run ∧ t.run.runOnTimer = none ∧ s.changesOnly t [.runLogic, .statusBlock]) ∧
        (s.run.state = .run → on = false → s.setup.general.runOnTime ≠ 0 →
          t.run.state = .run ∧ t.run.runOnTimer = some (s.now + 1000000 * s.setup.general.runOnTime) ∧
          s.changesOnly t [.runLogic, .statusBlock]) ∧
        (s.run.state = .run → on = false → s.setup.general.runOnTime = 0 →
          (t.run.state = .shutdown ∨ t.run.state = .standby) ∧ t.doors.interlock = .demand ∧
          t.shop.session = .detached) ∧
        (s.run.state = .shutdown → on = true → s.returnsToRun t))

/-! ### The body line -/

/-- A minor cycle starts: the cycle number, the next start, at cycle 0 the search channel and the probe allowance (R58),
and the walk of the entries in use whose mask names the cycle, in ascending index (R57, R59): the first that fits starts,
with its direction and its words, and those before it are counted as overruns; with none left the head of the one-shot
list starts where it fits, with the settings of the line, and else waits (R46, R60, R62, R66). The words of a DELIVER are
the signals, AS_SHOWN or USABLE_ONLY, and then zeros, or the summary block (R62, R193). The poll frame goes out with the
header mark set in its first character alone, and its characters sum to 0 (R38, R39). The instant at which the clock then
stands is the model's choice (assumption 2), and the codes of the door states are read by inference (assumption 51). -/
def Obligations.MinorCycleStartsItsWalk : Prop :=
  (∀ (s : State) (due : Nat), s.run.state = .run → s.line.phase = .idle → s.line.minorNext = some due →
    (let m := (s.line.minor + 1) % 8
     let next := due + 1000 * s.setup.settings.cycleLength
     ∃ t, exec .minorCycleStart s = .next t ∧ t.now = max s.now due ∧ t.line.minor = m ∧
      t.line.minorNext = some next ∧
      t.line.search = (if m = 0 then s.line.search.map otherChannel else s.line.search) ∧
      t.line.probeMade = (if m = 0 then false else s.line.probeMade) ∧ t.line.probeNext = s.line.probeNext ∧
      s.walks t (s.setup.dueIn m) next ∧ s.changesOnly t [.clock, .notices, .statusBlock, .line])) ∧
  (∀ (u : Setup) (m : Nat),
    (u.dueIn m).Pairwise (· < ·) ∧
      ∀ e, e ∈ u.dueIn m ↔
        e < 64 ∧ (u.schedule.get e).station ≠ 0 ∧ (u.schedule.get e).mask.getLsbD m = true)

/-- A character that no attempt listens to changes nothing: one on the other channel, one while no reply is awaited, and
one that begins before the poll frame or the character before it has ended, such as one during the part's own poll frame
(R37). A reply character in time: one with a bad stop bit or header mark holds the channel with CHARACTER_ERROR, one
that leaves the reply incomplete joins it, and one that completes it ends the attempt, whose outcome is judged (R38,
R41 to R44). A reply is complete at 3 + 2L characters where it answers a FETCH with neither BUSY nor BLOCK_REFUSED in its
flags, and at 3 otherwise (R40, R193). The operand gives the gap before the character (assumption 26). -/
def Obligations.ReplyCharactersAreJudged : Prop :=
  (∀ (s : State) (c : Channel) (gap : Int) (data : Byte) (headerMark stopBit : Bool),
    ((∀ a, s.line.phase ≠ .reply a) ∨ ∃ a, s.line.phase = .reply a ∧ (c ≠ a.channel ∨ gap < 0)) →
      exec (.replyCharacter c gap data headerMark stopBit) s = .next s) ∧
  (∀ (s : State) (a : Attempt) (x : Transaction) (gap : Nat) (data : Byte) (headerMark stopBit : Bool),
     s.line.phase = .reply a → s.line.transaction = some x → s.now ≤ a.lastEnd →
     (a.received = [] → a.lastEnd + gap ≤ s.replyBy a) → (a.received ≠ [] → gap ≤ 88) →
     a.lastEnd + gap + 44 ≤ s.windowClose a →
     ∃ t, exec (.replyCharacter a.channel gap data headerMark stopBit) s = .next t ∧
       t.now = a.lastEnd + gap + 44 ∧
       (stopBit = false ∨ headerMark ≠ a.received.isEmpty →
         t.line = { s.line with phase := .holding a .characterError } ∧ s.changesOnly t [.clock, .line]) ∧
       (stopBit = true → headerMark = a.received.isEmpty →
         replyComplete x.dir x.length (a.received ++ [data]) = false →
           t.line =
             { s.line with phase := .reply { a with received := a.received ++ [data], lastEnd := t.now } } ∧
           s.changesOnly t [.clock, .line]) ∧
       (stopBit = true → headerMark = a.received.isEmpty →
         replyComplete x.dir x.length (a.received ++ [data]) = true →
           t.line.phase = .turnaround (t.now + 60) ∧
           ((judgeReply x.station (a.received ++ [data])).good = false → s.run.state = .run →
             x.made.length < x.retries → (∀ e, x.purpose ≠ .probe e) →
               t.line = { s.line with
                 phase := .turnaround (t.now + 60)
                 transaction := some { x with
                   made := (a.channel, judgeReply x.station (a.received ++ [data])) :: x.made } } ∧
               s.changesOnly t [.clock, .line])) ∧
       s.changesOnly t (.line :: signalParts)) ∧
 (∀ (dir : Direction) (length : Nat) (received : List Byte),
   (let flags := received.getD 1 0#8
    let carriesData := dir = .fetch ∧ flags.getLsbD 0 = false ∧ flags.getLsbD 3 = false
    (carriesData → (replyComplete dir length received = true ↔ received.length = 3 + 2 * length)) ∧
    (¬carriesData → (replyComplete dir length received = true ↔ received.length = 3))))

/-- A reply is complete at 3 + 2L characters where it answers a FETCH with neither BUSY nor BLOCK_REFUSED in its flags,
and at 3 otherwise (R40). A complete reply is judged by its check, its address, BLOCK_REFUSED and BUSY, in that order, and
the flags of a good reply are handed on with its outcome, and the words of a fetched one; those of a failed reply are not
(R42). The flags are bits 0 to 3 of their character, and each word comes low character first (R193). -/
def Obligations.CompleteRepliesAreJudgedInOrder : Prop :=
  ∀ (x : Transaction) (received : List Byte),
    (let char := fun i => received.getD i 0#8
     let flags : StationFlags :=
       { busy := (char 1).getLsbD 0, service := (char 1).getLsbD 1, stationFault := (char 1).getLsbD 2
         blockRefused := (char 1).getLsbD 3 }
     let o := judgeReply x.station received
     (replyComplete x.dir x.length received = true ↔
       received.length =
         if x.dir = .fetch ∧ flags.busy = false ∧ flags.blockRefused = false then 3 + 2 * x.length else 3) ∧
     (received.foldl (· + ·) 0#8 ≠ 0#8 → o = .checkError) ∧
     (received.foldl (· + ·) 0#8 = 0#8 → char 0 ≠ byteOf x.station → o = .wrongAddress) ∧
     (received.foldl (· + ·) 0#8 = 0#8 → char 0 = byteOf x.station →
       (flags.blockRefused = true → o = .refused) ∧
       (flags.blockRefused = false → flags.busy = true → o = .busy) ∧
       (flags.blockRefused = false → flags.busy = false → o = .ok)) ∧
     (o = .ok ∨ o = .busy ∨ o = .refused → (replyHandover x o received).1 = flags) ∧
     (o = .checkError ∨ o = .wrongAddress → replyHandover x o received = ({}, [])) ∧
     (o = .ok → x.dir = .fetch →
       (replyHandover x o received).2 = replyWords x.length received ∧
       (replyComplete x.dir x.length received = true →
         (replyHandover x o received).2 =
           (List.range x.length).map fun i => (char (3 + 2 * i) ++ char (2 + 2 * i) : Word))) ∧
     (o = .ok → x.dir = .deliver → (replyHandover x o received).2 = []))

/-- No character by the response timeout ends the attempt with NO_RESPONSE, a gap of 88 µs inside a reply fixes
INCOMPLETE, and the close of the window ends an attempt that holds an outcome or lacks characters; the turnaround of 60
µs follows, and a retry that is left waits in it (R41, R43, R44). The turnaround ends: a retry that fits starts, on the
other channel where its retry channel is OTHER and that one is IN_SERVICE and else on the same (R45, R60); with no retry
and no probe that fits the walk goes on with its next entry that fits, and with none left the head of the one-shot list
starts where it fits, and else waits (R59, R60, R62, R66); and with nothing left to do the line is idle (R43). The instant
at which the clock then stands is the model's choice (assumption 2), and the codes of the door states in a SUMMARY DELIVER
are read by inference (assumption 51). -/
def Obligations.TimedOutAttemptsTurnAround : Prop :=
  (∀ (s : State) (a : Attempt) (x : Transaction), s.line.transaction = some x →
     (s.line.phase = .reply a → a.received = [] →
       ∃ t, exec .responseTimeout s = .next t ∧ t.now = max s.now (s.replyBy a) ∧
         t.line.phase = .turnaround (t.now + 60) ∧ s.changesOnly t (.line :: signalParts) ∧
         (s.run.state = .run → x.made.length < x.retries → (∀ e, x.purpose ≠ .probe e) →
           t.line = { s.line with
             phase := .turnaround (t.now + 60)
             transaction := some { x with made := (a.channel, .noResponse) :: x.made } } ∧
           s.changesOnly t [.clock, .line])) ∧
     (∀ o, (s.line.phase = .holding a o ∨ (s.line.phase = .reply a ∧ a.received ≠ [] ∧ o = .incomplete)) →
       ∃ t, exec .attemptWindowClose s = .next t ∧ t.now = max s.now (s.windowClose a) ∧
         t.line.phase = .turnaround (t.now + 60) ∧ s.changesOnly t (.line :: signalParts) ∧
         (s.run.state = .run → x.made.length < x.retries → (∀ e, x.purpose ≠ .probe e) → o.good = false →
           t.line = { s.line with
             phase := .turnaround (t.now + 60)
             transaction := some { x with made := (a.channel, o) :: x.made } } ∧
           s.changesOnly t [.clock, .line]))) ∧
  (∀ (s : State) (a : Attempt), s.line.phase = .reply a → a.received ≠ [] →
     a.lastEnd + 88 ≤ s.windowClose a →
     ∃ t, exec .replyGapTimeout s = .next t ∧ t.now = max s.now (a.lastEnd + 88) ∧
       t.line = { s.line with phase := .holding a .incomplete } ∧ s.changesOnly t [.clock, .line]) ∧
  (∀ (s : State) (ends : Nat), s.line.phase = .turnaround ends →
     (∀ x c o made next, s.line.transaction = some x → x.made = (c, o) :: made → s.line.minorNext = some next →
       max s.now ends + attemptBudget s.setup.settings.timeoutCode x.length ≤ next →
         ∃ t a, exec .turnaroundEnd s = .next t ∧ t.now = max s.now ends ∧
           t.line = { s.line with phase := .reply a } ∧
           a.start = t.now ∧ a.received = [] ∧ a.poll = pollFrame x.station x.block x.dir x.length x.words ∧
           a.channel =
             (if x.retryChannel = .other ∧ (s.line.health (otherChannel c)).failed = false then otherChannel c
              else c) ∧
           s.changesOnly t [.clock, .line]) ∧
     (s.line.transaction = none → s.line.probeNext = none →
       (s.run.state ≠ .run ∨ (s.line.walk = [] ∧ s.line.oneShots = [])) →
         ∃ t, exec .turnaroundEnd s = .next t ∧ t.now = max s.now ends ∧
           t.line = { s.line with phase := .idle } ∧ s.changesOnly t [.clock, .line]) ∧
     (∀ next, s.run.state = .run → s.line.transaction = none → s.line.minorNext = some next →
       (∀ p, s.line.probeNext = some p →
         next < max s.now ends + attemptBudget s.setup.settings.timeoutCode p.length) →
         ∃ t, exec .turnaroundEnd s = .next t ∧ t.now = max s.now ends ∧
           t.line.minor = s.line.minor ∧ t.line.minorNext = s.line.minorNext ∧
           t.line.search = s.line.search ∧ t.line.probeMade = s.line.probeMade ∧ t.line.probeNext = none ∧
           s.walks t s.line.walk next ∧ s.changesOnly t [.clock, .notices, .statusBlock, .line]))

/-- The end of a transaction moves the channels' health: a good final attempt takes 1 from its channel and adds 2 to the
other one where an earlier attempt of the transaction failed on it, and a failed one moves nothing; a probe moves its
own channel alone; a channel is FAILED from 16 until 0, and the network summary follows (R47, R48, R49, R51). The first
OK FETCH of minor cycle 0 on the IN_SERVICE channel sets down a probe of the FAILED one where it fits, and the end of
the turnaround starts it there (R49). The operand of a reply character gives the gap before it (assumption 26), and the
instant at which the clock stands after the end of the turnaround is the model's choice (assumption 2). -/
def Obligations.ChannelHealthFollowsTheOutcomes : Prop :=
  (∀ (s : State) (a : Attempt) (x : Transaction) (gap : Nat) (data : Byte), s.completes a x gap data →
    ∃ t, exec (a.lastCharacter gap data) s = .next t ∧ t.now = a.lastEnd + gap + 44 ∧
      (let outcome := judgeReply x.station (a.received ++ [data])
       let other := otherChannel a.channel
       let falls := fun (c : Channel) =>
         (t.line.health c).count = (s.line.health c).count - 1 ∧
           ((t.line.health c).failed = true ↔ (s.line.health c).failed = true ∧ (t.line.health c).count ≠ 0)
       let rises := fun (c : Channel) =>
         (t.line.health c).count = min ((s.line.health c).count + 2) 16 ∧
           ((t.line.health c).failed = true ↔ (s.line.health c).failed = true ∨ (t.line.health c).count = 16)
       ((∀ e, x.purpose ≠ .probe e) →
         (outcome.good = true →
           falls a.channel ∧
           ((∃ m ∈ x.made, m.1 = other ∧ m.2.good = false) → rises other) ∧
           ((∀ m ∈ x.made, m.1 = other → m.2.good = true) → t.line.health other = s.line.health other)) ∧
         (outcome.good = false → t.line.healthA = s.line.healthA ∧ t.line.healthB = s.line.healthB)) ∧
       (∀ e, x.purpose = .probe e →
         (outcome.good = true → falls a.channel) ∧ (outcome.good = false → rises a.channel) ∧
         t.line.health other = s.line.health other) ∧
       ((t.line.healthA.failed ≠ s.line.healthA.failed ∨ t.line.healthB.failed ≠ s.line.healthB.failed) →
         t.line.summary =
           (if (t.line.healthA.failed && t.line.healthB.failed) || t.line.search.isSome then .down
            else if t.line.healthA.failed || t.line.healthB.failed then .degraded
            else .normal)) ∧
       (∀ e next, x.purpose = .entry e → x.dir = .fetch → outcome = .ok → s.run.state = .run →
         s.line.minor = 0 → s.line.probeMade = false → s.line.minorNext = some next →
         (s.line.health a.channel).failed = false →
         (s.line.health other).failed = true →
         t.now + attemptBudget s.setup.settings.timeoutCode x.length ≤ next →
           t.line.probeNext = some { x with purpose := .probe e, made := [(a.channel, .ok)] } ∧
           t.line.probeMade = true) ∧
       ((∀ e, x.purpose ≠ .entry e) ∨ x.dir = .deliver ∨ outcome ≠ .ok ∨ s.run.state ≠ .run ∨ s.line.minor ≠ 0 ∨
           s.line.probeMade = true →
         t.line.probeNext = s.line.probeNext ∧ t.line.probeMade = s.line.probeMade))) ∧
  (∀ (s : State) (a : Attempt) (x : Transaction) (t : State), s.line.phase = .reply a → a.received = [] →
    s.line.transaction = some x → (∀ e, x.purpose ≠ .probe e) → exec .responseTimeout s = .next t →
      t.line.healthA = s.line.healthA ∧ t.line.healthB = s.line.healthB) ∧
  (∀ (s : State) (ends : Nat) (p : Transaction) (c : Channel) (o : LineOutcome) (made : List (Channel × LineOutcome)),
    s.line.phase = .turnaround ends → s.line.transaction = none → s.line.probeNext = some p → p.made = (c, o) :: made →
    ∃ t, exec .turnaroundEnd s = .next t ∧ t.now = max s.now ends ∧ t.line.probeNext = none ∧
      (∀ next, s.line.minorNext = some next →
        max s.now ends + attemptBudget s.setup.settings.timeoutCode p.length ≤ next →
          ∃ b, t.line = { s.line with
              phase := .reply b, probeNext := none, transaction := some { p with made := [] } } ∧
            b.channel = otherChannel c ∧ b.start = t.now ∧ b.received = [] ∧
            b.poll = pollFrame p.station p.block p.dir p.length p.words))

/-- The end of a transaction moves the record of its enabled station: a good one counts it, keeps its flags and makes
the station ONLINE, a failed one counts it and makes the station SILENT at its limit with a STATION_CHANGE notice; a
good probe moves the flags alone (R63, R64). A SERVICE flag sets service pending and appends a service fetch, or defers
it where the list is full (R69); a service fetch that ends OK fills the mailbox, and leaves the list (R66, R70). A
change of the station's state, by a reply or by a response timeout, has search mode begin, hold or end and the network
summary follow it, and search mode moves with nothing else of the transaction (R50, R51). The operand of a reply
character gives the gap before it (assumption 26). The index and detail of the STATION_CHANGE notice are read by
inference (assumption 13), and that it comes before the other notices of its event is the model's choice (assumptions 56
and 57). -/
def Obligations.StationRecordsFollowTheOutcomes : Prop :=
  (∀ (s : State) (a : Attempt) (x : Transaction) (gap : Nat) (data : Byte), s.completes a x gap data →
    ∃ t, exec (a.lastCharacter gap data) s = .next t ∧
      (let outcome := judgeReply x.station (a.received ++ [data])
       let flags := StationFlags.ofByte ((a.received ++ [data]).getD 1 0#8)
       let words := (List.range x.length).map fun i =>
         wordOfBytes ((a.received ++ [data]).getD (2 + 2 * i) 0#8) ((a.received ++ [data]).getD (3 + 2 * i) 0#8)
       let u := s.setup.stations.get x.station
       let y := s.line.stations.get x.station
       let z := t.line.stations.get x.station
       let ended := outcome.good = true ∨ x.retries ≤ x.made.length ∨ s.run.state ≠ .run
       (∀ b, b ≠ x.station → s.line.oneShots = [] → s.run.state = .run →
         t.line.stations.get b = s.line.stations.get b) ∧
       (u.enabled = true → (∀ e, x.purpose ≠ .probe e) →
         (outcome.good = true →
           z.failures = 0 ∧ z.good = min (y.good + 1) 65535 ∧ z.failed = y.failed ∧ z.lastGood = t.time ∧
           z.flags = flags ∧
           z.state = (if y.state = .unknown ∨ y.state = .silent then .online else y.state)) ∧
         (outcome.good = false → ended →
           z.failures = min (y.failures + 1) 255 ∧ z.failed = min (y.failed + 1) 65535 ∧ z.good = y.good ∧
           z.lastGood = y.lastGood ∧ z.flags = y.flags ∧
           z.state =
             (if u.silentLimit ≤ z.failures ∧ (y.state = .unknown ∨ y.state = .online) then .silent else y.state) ∧
           (z.state ≠ y.state → s.unread ≠ 127#7 →
             t.port.ring.get s.port.noticeWrite.toNat =
               { kind := .stationChange, index := byteOf x.station, detail := BitVec.ofNat 16 z.state.code
                 time := t.time }))) ∧
       (u.enabled = false → (∀ e, x.purpose ≠ .probe e) → x.purpose ≠ .oneShot → s.run.state = .run → z = y) ∧
       (∀ e, x.purpose = .probe e → s.run.state = .run →
         (outcome.good = true → u.enabled = true →
           z.flags = flags ∧ z.state = y.state ∧ z.failures = y.failures ∧ z.good = y.good ∧ z.failed = y.failed ∧
           z.lastGood = y.lastGood) ∧
         (outcome.good = false ∨ u.enabled = false → z = y)) ∧
       (x.purpose ≠ .oneShot → s.run.state = .run →
         (u.enabled = true → outcome.good = true → flags.service = true → y.servicePending = false →
           z.servicePending = true ∧
           (s.line.oneShots.length < 4 →
             t.line.oneShots = s.line.oneShots ++ [.service x.station] ∧ z.deferred = y.deferred) ∧
           (4 ≤ s.line.oneShots.length → t.line.oneShots = s.line.oneShots ∧ z.deferred = true)) ∧
         (u.enabled = false ∨ outcome.good = false ∨ flags.service = false ∨ y.servicePending = true →
           t.line.oneShots = s.line.oneShots ∧ z.servicePending = y.servicePending ∧ z.deferred = y.deferred)) ∧
       (∀ rest, x.purpose = .oneShot → s.line.oneShots = .service x.station :: rest → s.run.state = .run →
         u.enabled = true → (∀ b, b < 16 → (s.line.stations.get b).deferred = false) → rest.length < 4 → ended →
         (let again := outcome.good = true ∧ flags.service = true
          (again → z.servicePending = true ∧ t.line.oneShots = rest ++ [.service x.station]) ∧
          (¬again → z.servicePending = false ∧ t.line.oneShots = rest) ∧
          (outcome = .ok → x.dir = .fetch →
            z.mailboxLength = x.length ∧ (∀ i, i < 8 → z.mailbox.get i = words.getD i 0#16)) ∧
          (outcome ≠ .ok → z.mailboxLength = y.mailboxLength ∧ z.mailbox = y.mailbox))) ∧
       (z.state ≠ y.state → s.searchFollows t) ∧ (z.state = y.state → t.line.search = s.line.search))) ∧
  (∀ (s : State) (a : Attempt) (x : Transaction), s.line.phase = .reply a → a.received = [] →
    s.line.transaction = some x → (∀ e, x.purpose ≠ .probe e) →
    (x.retries ≤ x.made.length ∨ s.run.state ≠ .run) →
      ∃ t, exec .responseTimeout s = .next t ∧
        (let u := s.setup.stations.get x.station
         let y := s.line.stations.get x.station
         let z := t.line.stations.get x.station
         (u.enabled = true →
           z.failures = min (y.failures + 1) 255 ∧ z.failed = min (y.failed + 1) 65535 ∧ z.good = y.good ∧
           z.lastGood = y.lastGood ∧ z.flags = y.flags ∧
           z.state =
             (if u.silentLimit ≤ z.failures ∧ (y.state = .unknown ∨ y.state = .online) then .silent
              else y.state)) ∧
         (z.state ≠ y.state → s.searchFollows t) ∧ (z.state = y.state → t.line.search = s.line.search)))

/-- The message log takes one record of a transaction or a probe that its policy logs, with every field, at the head,
and then the head advances; LOG_HALF and LOG_WRAP follow it (R71, R72). A STATION_TRANSFER ends DONE with its outcome,
flags, channel, attempts and words, or FAILED with NO_REPLY (R68). An entry whose first attempt or whose retry does not
fit is SKIPPED: it is logged so, the overrun count rises, and it delivers nothing (R60). The operand of a reply
character gives the gap before it (assumption 26), and the instant at which the clock stands after the end of the
turnaround is the model's choice (assumption 2). That the LOG_HALF and LOG_WRAP notices have index and detail 0 is read by
inference (assumption 13). -/
def Obligations.EndsAreLoggedAndAnswered : Prop :=
  (∀ (s : State) (a : Attempt) (x : Transaction) (gap : Nat) (data : Byte), s.completes a x gap data →
    s.run.state = .run →
    ∃ t, exec (a.lastCharacter gap data) s = .next t ∧
      (let outcome := judgeReply x.station (a.received ++ [data])
       let flags := StationFlags.ofByte ((a.received ++ [data]).getD 1 0#8)
       let words := (List.range x.length).map fun i =>
         wordOfBytes ((a.received ++ [data]).getD (2 + 2 * i) 0#8) ((a.received ++ [data]).getD (3 + 2 * i) 0#8)
       let attempts := x.made.length + 1
       let ended := (∃ e, x.purpose = .probe e) ∨ outcome.good = true ∨ x.retries ≤ x.made.length
       let policy := fun e => (s.setup.schedule.get e).logPolicy
       let logged :=
         x.purpose = .oneShot ∨
         (∃ e, x.purpose = .entry e ∧
           (policy e = .always ∨ (policy e = .errors ∧ (outcome ≠ .ok ∨ 1 < attempts)))) ∨
         (∃ e, x.purpose = .probe e ∧ (policy e = .always ∨ (policy e = .errors ∧ outcome ≠ .ok)))
       let sent := if x.dir = .deliver then x.words else if outcome = .ok then words else []
       let head := s.line.logHead
       (ended → logged →
         t.line.log = s.line.log.set head.toNat
           { upd := (s.line.log.get head.toNat).upd + 2#8
             entry := (match x.purpose with
               | .entry e => e
               | .probe e => e
               | .oneShot => 255)
             time := t.time, station := x.station, block := x.block, dir := x.dir, length := x.length
             probe := (match x.purpose with
               | .probe _ => true
               | _ => false)
             channel := a.channel
             attempts := (match x.purpose with
               | .probe _ => 1
               | _ => attempts)
             outcome := outcome
             flags := if outcome.good = true then flags else {}
             word0 := sent.getD 0 0#16, word1 := sent.getD 1 0#16 } ∧
         t.line.logHead = head + 1#8 ∧
         t.line.logWrap = (if head = 255#8 then s.line.logWrap + 1#16 else s.line.logWrap) ∧
         (head = 127#8 → t.unread ≠ 127#7 →
           t.port.ring.get (t.port.noticeWrite - 1#7).toNat =
             { kind := .logHalf, index := 0#8, detail := 0#16, time := t.time }) ∧
         (head = 255#8 → t.unread ≠ 127#7 →
           t.port.ring.get (t.port.noticeWrite - 1#7).toNat =
             { kind := .logWrap, index := 0#8, detail := 0#16, time := t.time })) ∧
       (¬(ended ∧ logged) →
         t.line.log = s.line.log ∧ t.line.logHead = head ∧ t.line.logWrap = s.line.logWrap) ∧
       (∀ k b n d l ws rest, x.purpose = .oneShot → s.line.oneShots = .transfer k b n d l ws :: rest →
         s.memorySound → ended →
         (outcome.good = true →
           t.slotState k = .done ∧ Memory.read t.mem (slotBase k + 3) = 0#8 ∧
           (List.range 4).map (fun j => Memory.read t.mem (slotBase k + 8 + j)) =
             [byteOf outcome.code, flags.byte, byteOf (channelCode a.channel), byteOf attempts] ∧
           (outcome = .ok → x.dir = .fetch →
             ∀ i, i < x.length → i < 16 →
               wordOfBytes (Memory.read t.mem (slotBase k + 12 + 2 * i)) (Memory.read t.mem (slotBase k + 13 + 2 * i)) =
                 words.getD i 0#16)) ∧
         (outcome.good = false →
           t.slotState k = .failed ∧ Memory.read t.mem (slotBase k + 3) = byteOf ResultCode.noReply.code ∧
           Memory.read t.mem (slotBase k + 6) = byteOf outcome.code ∧
           Memory.read t.mem (slotBase k + 8) = byteOf (channelCode a.channel) ∧
           Memory.read t.mem (slotBase k + 9) = byteOf attempts)))) ∧
  (∀ (s : State) (due e : Nat), s.run.state = .run → s.line.phase = .idle → s.line.minorNext = some due →
    s.setup.dueIn ((s.line.minor + 1) % 8) = [e] → s.line.oneShots = [] →
    due + 1000 * s.setup.settings.cycleLength <
      max s.now due + attemptBudget s.setup.settings.timeoutCode (s.setup.schedule.get e).length →
    ∃ t, exec .minorCycleStart s = .next t ∧ t.line.phase = .idle ∧ t.line.transaction = s.line.transaction ∧
      t.line.overrun = min (s.line.overrun + 1) 65535 ∧ t.line.stations = s.line.stations ∧
      ((s.setup.schedule.get e).logPolicy = .always ∨ (s.setup.schedule.get e).logPolicy = .errors →
        (let r := t.line.log.get s.line.logHead.toNat
         r.outcome = .skipped ∧ r.attempts = 0 ∧ r.entry = e ∧ r.channel = t.line.search.getD s.normalChannel ∧
         t.line.logHead = s.line.logHead + 1#8)) ∧
      ((s.setup.schedule.get e).logPolicy = .never → t.line.log = s.line.log) ∧
      s.changesOnly t [.clock, .notices, .statusBlock, .line]) ∧
  (∀ (s : State) (ends next e : Nat) (x : Transaction) (c : Channel) (o : LineOutcome)
      (made : List (Channel × LineOutcome)),
    s.run.state = .run → s.line.phase = .turnaround ends → s.line.transaction = some x → x.purpose = .entry e →
    x.made = (c, o) :: made → o.good = false → s.line.minorNext = some next → s.line.walk = [] → s.line.oneShots = [] →
    next < max s.now ends + attemptBudget s.setup.settings.timeoutCode x.length →
    ∃ t, exec .turnaroundEnd s = .next t ∧ t.now = max s.now ends ∧ t.line.phase = .idle ∧
      t.line.transaction = none ∧ t.line.overrun = min (s.line.overrun + 1) 65535 ∧ t.signals = s.signals ∧
      ((s.setup.schedule.get e).logPolicy = .always ∨ (s.setup.schedule.get e).logPolicy = .errors →
        (let r := t.line.log.get s.line.logHead.toNat
         r.outcome = .skipped ∧ r.attempts = x.made.length ∧ r.entry = e ∧ r.channel = c ∧
         t.line.logHead = s.line.logHead + 1#8)) ∧
      ((s.setup.stations.get x.station).enabled = true →
        (t.line.stations.get x.station).failures = min ((s.line.stations.get x.station).failures + 1) 255 ∧
        (t.line.stations.get x.station).failed = min ((s.line.stations.get x.station).failed + 1) 65535))

/-! ### Doors, interlock and motion -/

/-- A door's readings are those of R78 and R79: an unsettled channel gives none, one in fault or under check the unsafe
sense, and the phase and obstruction views are those of usable signals; the ramp reads out where R91 has it so. A taking
of an enabled door in RUN derives its state by the nine lines of R80 from the readings and views that stand, the first
that applies deciding, and sets the proven-closed flag exactly where the state is CLOSED_LOCKED, the ramp does not read
out and the DISAGREE latch is clear (R81, R83); its record shows the readings and the views (R87). A change from CLOSING
to REVERSING counts an obstruction (R82), and a door that is not enabled is not derived. A sample of one of a door's
channels that changes what its entry gives the door leaves the door so derived from what then stands, and so does a
phase or obstruction signal that goes stale (R7, R17, R81); the sampled channel feeds no signal, or one that no door, no
speed and no parking brake reads, and the stale signal is no speed and no parking brake. -/
def Obligations.DoorStatesAreDerived : Prop :=
  (∀ (d : Fin 4) (s : State),
    (let old := s.doors.doors.get d
     let x := (takeDoor d s).doors.doors.get d
     let u := s.setup.doors.get d
     let entry := s.sense.channels.get
     let shows := fun (leaf : Option Bool) (c : Nat) =>
       (leaf = none ↔ (entry c).settled = false) ∧ (leaf = some true ↔ (entry c).showsOne)
     (s.doorView d).readsFrom u entry s.signals.get ∧
     (s.rampOut d = true ↔ u.ramp ≠ 255 ∧ ¬(entry u.ramp).showsOne) ∧
     (s.run.state ≠ .run ∨ (s.setup.doors.get d).enabled = false → takeDoor d s = s) ∧
     (s.run.state = .run → (s.setup.doors.get d).enabled = true →
       x.derivedFrom (s.doorView d) (s.rampOut d) ∧
       x.phase = (s.doorView d).phase ∧ x.obstructed = (s.doorView d).obstructed ∧
       (x.viewLost = true ↔ u.phaseSignal ≠ 255 ∧ x.phase = none) ∧ shows x.leaf1 u.leaf1 ∧
       (u.leaves = 2 → shows x.leaf2 u.leaf2) ∧ (u.leaves ≠ 2 → x.leaf2 = none) ∧
       (s.phaseView d = none → x.disagree = false ∧ x.agreeTimer = none) ∧
       (s.phaseView d ≠ none → x.disagree = old.disagree) ∧
       (x.state ≠ old.state → x.lastChange = s.time ∧
         x.obstructions =
           (if old.state = .closing ∧ x.state = .reversing then min (old.obstructions + 1) 65535
            else old.obstructions)) ∧
       (x.state = old.state → x.lastChange = old.lastChange ∧ x.obstructions = old.obstructions) ∧
       (∀ e, e ≠ d.val → (takeDoor d s).doors.doors.get e = s.doors.doors.get e) ∧
       s.changesOnly (takeDoor d s) (.doors :: warningParts)))) ∧
  (∀ (d : Fin 4) (c : Fin 48) (reading : BitVec 12) (s : State) (due : Nat), s.run.state = .run →
    (s.sense.channels.get c).check = none → (s.sense.channels.get c).sampleTimer = some due →
    (s.setup.doors.get d).enabled = true → c.val ∈ (s.setup.doors.get d).channels →
    (∀ n, s.signalOfChannel c = some n → s.setup.readsNoDoor n) →
      ∃ t, exec (.senseSample c reading) s = .next t ∧ t.setup = s.setup ∧
        ((s.sense.channels.get c).movesDoors (t.sense.channels.get c) →
          (t.doors.doors.get d).derivedFrom (t.doorView d) (t.rampOut d))) ∧
  (∀ (d : Fin 4) (n : Fin 128) (s : State) (ms : Nat), s.run.state = .run →
    (s.signals.get n).staleDeadline = some ms →
    (s.signals.get n).status ≠ .forced → (s.signals.get n).status ≠ .stale →
    (s.setup.doors.get d).enabled = true →
    (s.setup.doors.get d).phaseSignal = n.val ∨ (s.setup.doors.get d).obstructionSignal = n.val →
    n.val ≠ s.setup.general.primarySpeed → n.val ≠ s.setup.general.fallbackSpeed →
    n.val ≠ s.setup.general.parkingBrake →
      ∃ t, exec (.staleExpiry n) s = .next t ∧ t.setup = s.setup ∧
        (t.doors.doors.get d).derivedFrom (t.doorView d) (t.rampOut d) ∧
        ((s.setup.doors.get d).phaseSignal = n.val →
          t.phaseView d = none ∧ (t.doors.doors.get d).disagree = false ∧
            (t.doors.doors.get d).agreeTimer = none))

/-- The agree timer's expiry moves the DISAGREE latch to its other side; proof is taken up afresh, and with it the
cycle count and the opened mark (R83, R84, R86). The instant at which the clock then stands is the model's choice
(assumption 2). The order of the effects of a taking of a door is the model's choice (assumption 18). -/
def Obligations.AgreeTimerMovesTheLatch : Prop :=
  ∀ (d : Fin 4) (s : State) (due : Nat), (s.doors.doors.get d).agreeTimer = some due →
    ∃ t, exec (.agreeTimerExpiry d) s = .next t ∧ t.now = max s.now due ∧
      (t.doors.doors.get d).agreeTimer = none ∧
      (t.doors.doors.get d).disagree = !(s.doors.doors.get d).disagree ∧
      (t.doors.doors.get d).state = (s.doors.doors.get d).state ∧
      ((t.doors.doors.get d).proven = true ↔
        (s.doors.doors.get d).state = .closedLocked ∧ s.rampOut d = false ∧
          (s.doors.doors.get d).disagree = true) ∧
      ((t.doors.doors.get d).proven = true → (s.doors.doors.get d).proven = false →
        (s.doors.doors.get d).opened = true → (s.doors.doors.get d).cycles < 4294967295 →
          (t.doors.doors.get d).cycles = (s.doors.doors.get d).cycles + 1 ∧
          (t.doors.doors.get d).opened = false) ∧
      (t.doors.doors.get d).obstructions = (s.doors.doors.get d).obstructions ∧
      (∀ e, e ≠ d.val → t.doors.doors.get e = s.doors.doors.get e) ∧
      s.changesOnly t (.doors :: warningParts)

/-- A change of a door's state from CLOSING to REVERSING adds 1 to the obstruction count, stopping at 65,535; no
other change does; and the count is kept at wake, soft reset and RUN entry, and zero at power-on (R82). -/
def Obligations.ObstructionsAreCounted : Prop :=
  (∀ (x : Door) (new : DoorState) (time : Time),
    (x.state = .closing → new = .reversing → x.obstructions ≤ 65535 →
      (x.moved new time).obstructions = min (x.obstructions + 1) 65535) ∧
    (¬(x.state = .closing ∧ new = .reversing) → (x.moved new time).obstructions = x.obstructions)) ∧
  (∀ (u : DoorUnit) (time : Time) (delay d : Nat), d < 4 →
    ((u.blanked time delay).doors.get d).obstructions = (u.doors.get d).obstructions) ∧
  (∀ (s : State) (d : Nat), d < 4 →
    ((wakeBlocks s).doors.doors.get d).obstructions = (s.doors.doors.get d).obstructions ∧
    ((softBlocks s).doors.doors.get d).obstructions = (s.doors.doors.get d).obstructions ∧
    (∀ b, ((setBlocks b s).doors.doors.get d).obstructions = (s.doors.doors.get d).obstructions) ∧
    (∀ t, exec .powerOn s = .next t → (t.doors.doors.get d).obstructions = 0))

/-- A taking of the interlock (R92 to R94): conditions that hold give DEMAND, or OVERRIDDEN under an active override;
conditions that do not hold start the release, or release at once with no delay; RELEASING and RELEASED stand. The
conditions hold while an enabled door is not proven closed, the override is active on a settled channel of value 1 that
is neither in fault nor under check, and the reason mask is the one of R92. A sample of an enabled door's channel or of
the override that changes what its entry gives leaves the interlock so (R81, R94), where the channel feeds no signal, or
one that no door, no speed and no parking brake reads. The release timer's expiry releases a RELEASING interlock, and
with it the stop-brake demand (R93, R95). The instant at which the clock then stands is the model's choice (assumption
2). -/
def Obligations.InterlockFollowsTheConditions : Prop :=
  (∀ s : State,
     (let u := (takeInterlock s).doors
      (s.demandConditions = true → s.overrideActive = false → u.interlock = .demand ∧ u.releaseTimer = none) ∧
      (s.demandConditions = true → s.overrideActive = true → u.interlock = .overridden ∧ u.releaseTimer = none) ∧
      (s.demandConditions = false → (s.doors.interlock = .demand ∨ s.doors.interlock = .overridden) →
        (s.doors.releaseDelay = 0 → u.interlock = .released) ∧
        (s.doors.releaseDelay ≠ 0 →
          u.interlock = .releasing ∧ u.releaseTimer = some (s.now + 1000 * s.doors.releaseDelay))) ∧
      (s.demandConditions = false → (s.doors.interlock = .releasing ∨ s.doors.interlock = .released) →
        u.interlock = s.doors.interlock ∧ u.releaseTimer = s.doors.releaseTimer) ∧
      (let enabled := fun d => d < 4 ∧ (s.setup.doors.get d).enabled = true
       let door := s.doors.doors.get
       let ramp := fun d => (s.setup.doors.get d).ramp
       let input := s.setup.general.override
       (s.demandConditions = true ↔ ∃ d, enabled d ∧ (door d).proven = false) ∧
       (s.overrideActive = true ↔ input ≠ 255 ∧ (s.sense.channels.get input).showsOne) ∧
       u.override = s.overrideActive ∧
       (u.reasons.door = true ↔ ∃ d, enabled d ∧
         (((door d).state ≠ .closedLocked ∧ (door d).state ≠ .released) ∨ (door d).disagree = true)) ∧
       (u.reasons.ramp = true ↔
         ∃ d, enabled d ∧ ramp d ≠ 255 ∧ ¬(s.sense.channels.get (ramp d)).showsOne) ∧
       (u.reasons.release = true ↔ ∃ d, enabled d ∧ (door d).state = .released)) ∧
      u.doors = s.doors.doors ∧ u.motion = s.doors.motion)) ∧
  (∀ (c : Fin 48) (reading : BitVec 12) (s : State) (due : Nat), s.run.state = .run →
    (s.sense.channels.get c).check = none → (s.sense.channels.get c).sampleTimer = some due →
    (s.setup.general.override = c.val ∨
      ∃ d, d < 4 ∧ (s.setup.doors.get d).enabled = true ∧ c.val ∈ (s.setup.doors.get d).channels) →
    (∀ n, s.signalOfChannel c = some n → s.setup.readsNoDoor n) →
      ∃ t, exec (.senseSample c reading) s = .next t ∧
        ((s.sense.channels.get c).movesDoors (t.sense.channels.get c) →
          (t.demandConditions = true →
            t.doors.interlock = (if t.overrideActive = true then .overridden else .demand) ∧
            t.doors.releaseTimer = none) ∧
          (t.demandConditions = false →
            (t.doors.interlock = .released ∨ t.doors.interlock = .releasing) ∧
            (t.doors.releaseDelay = 0 → s.doors.interlock ≠ .releasing → t.doors.interlock = .released)) ∧
          t.doors.override = t.overrideActive ∧ t.doors.reasons = t.reasons ∧
          t.doors.motion = s.doors.motion)) ∧
  (∀ (s : State) (due : Nat), s.doors.releaseTimer = some due → s.doors.interlock = .releasing →
     ∃ t, exec .releaseTimerExpiry s = .next t ∧ t.now = max s.now due ∧ t.doors.interlock = .released ∧
       t.doors.releaseTimer = none ∧ t.stopBrakeDemand = false ∧ t.doors.interlockTime = t.time ∧
       t.doors.doors = s.doors.doors ∧ t.doors.motion = s.doors.motion ∧ t.doors.reasons = s.doors.reasons ∧
       s.changesOnly t (.doors :: warningParts))

/-- A taking of the speed finds it by R88, the magnitude of the primary signal, else of the fallback, else none, and
moves motion and the stop timer by the table of R89; no signal that gives a speed is forced, for a speed signal is
protected (R171). A sample that changes the entry of a speed signal its channel feeds leaves motion so taken (R17, R88,
R89). As motion leaves STOPPED in RUN, every gauge that sweeps returns to its resume state and takes up its signal's
status, each sweep of a request fails its slot with REFUSED_MOVING and a workshop sweep ends with cause MOVING (R147,
R173); a lamp check ends likewise (R129); a SERVICE session drops to READ, its forces released and its set empty (R167,
R168); and as motion becomes MOVING the MOVING_OPEN latch of every enabled door that is not proven closed is set (R90).
A taking that leaves motion STOPPED changes the door unit alone. The stop timer's expiry makes motion STOPPED (R89), and
clears the MOVING_OPEN latch of the enabled doors that are proven closed (R90). The instant at which the clock then
stands is the model's choice (assumption 2), and so is that a gauge whose status sends it to PARKING keeps its target and
its command until its next update (assumption 53; R139 gives the park position). -/
def Obligations.MotionFollowsTheSpeed : Prop :=
  (∀ s : State, (∀ n ∈ s.shop.forced, n ≠ s.setup.general.primarySpeed ∧ n ≠ s.setup.general.fallbackSpeed) →
    (takeSpeed demoteSession s).doors.followsSpeed s.setup.general s.signals s.doors.motion s.doors.stopTimer s.now) ∧
  (∀ (c : Fin 48) (reading : BitVec 12) (s : State) (due n : Nat),
    (∀ k ∈ s.shop.forced, k ≠ s.setup.general.primarySpeed ∧ k ≠ s.setup.general.fallbackSpeed) →
    s.run.state = .run → (s.sense.channels.get c).check = none → (s.sense.channels.get c).sampleTimer = some due →
    s.signalOfChannel c = some n → n = s.setup.general.primarySpeed ∨ n = s.setup.general.fallbackSpeed →
      ∃ t, exec (.senseSample c reading) s = .next t ∧
        ((t.signals.get n).value ≠ (s.signals.get n).value ∨ (t.signals.get n).status ≠ (s.signals.get n).status →
          t.doors.followsSpeed s.setup.general t.signals s.doors.motion s.doors.stopTimer t.now)) ∧
  (∀ s : State, (∀ n ∈ s.shop.forced, n ≠ s.setup.general.primarySpeed ∧ n ≠ s.setup.general.fallbackSpeed) →
    s.memorySound → s.run.state = .run → s.doors.motion = .stopped →
      (let t := takeSpeed demoteSession s
       let refused := fun k => t.slotState k = .failed ∧
         Memory.read t.mem (slotBase k + 3) = byteOf ResultCode.refusedMoving.code
       (t.doors.motion = .stopped → s.changesOnly t [.doors]) ∧
       (t.doors.motion ≠ .stopped →
         (∀ i w, i < 6 → (s.gauges.get i).state = .sweeping → (s.gauges.get i).sweep = some w →
           (let u := s.setup.gauges.get i
            (w.resume ≠ .sweeping → (t.gauges.get i).state ≠ .sweeping) ∧
            (∀ k set, w.owner = .request k set → k < 16 → refused k) ∧
            (∀ set, w.owner = .workshop set → s.shop.tests.sweepState = .running →
              t.shop.tests.sweepState = .endedEarly ∧ t.shop.tests.sweepCause = .moving) ∧
            (u.inUse = true → w.resume = .tracking ∨ w.resume = .holding ∨ w.resume = .parking →
              (s.shop.session = .service → u.signal ∉ s.shop.forced) →
                ({ s.gauges.get i with state := w.resume, sweep := none } : Gauge).takesStatus (t.gauges.get i) u
                  (s.signals.get u.signal).status s.now))) ∧
         (∀ i, i < 6 → (s.gauges.get i).state ≠ .sweeping → (s.shop.session = .service → s.shop.forced = []) →
           t.gauges.get i = s.gauges.get i) ∧
         (∀ k, s.comp.check = some (.request k) → t.comp.check = none ∧ refused k) ∧
         (s.comp.check = some .workshop →
           t.comp.check = none ∧ t.shop.tests.lampState = .endedEarly ∧ t.shop.tests.lampCause = .moving) ∧
         (s.shop.session = .service →
           t.shop.session = .read ∧ t.shop.forced = [] ∧
           (∀ n ∈ s.shop.forced, n < 128 → (t.signals.get n).value = (s.signals.get n).sourceValue ∧
             (t.signals.get n).status = (s.signals.get n).sourceStatus) ∧
           (∀ m, m ∉ s.shop.forced → t.signals.get m = s.signals.get m)) ∧
         (s.shop.session ≠ .service →
           t.shop.session = s.shop.session ∧ t.shop.forced = s.shop.forced ∧ t.signals = s.signals) ∧
         (t.doors.motion = .moving → ∀ d, d < 4 → (s.setup.doors.get d).enabled = true →
           (s.doors.doors.get d).proven = false → (t.doors.doors.get d).movingOpen = true) ∧
         s.changesOnly t signalParts))) ∧
  (∀ (s : State) (due : Nat), s.doors.stopTimer = some due → s.doors.motion ≠ .stopped →
     ∃ t, exec .stopTimerExpiry s = .next t ∧ t.now = max s.now due ∧ t.doors.motion = .stopped ∧
       t.doors.stopTimer = none ∧ t.doors.motionTime = t.time ∧ t.doors.interlock = s.doors.interlock ∧
       t.signals = s.signals ∧ t.gauges = s.gauges ∧ t.shop = s.shop ∧ t.mem = s.mem ∧
       (∀ d, d < 4 →
         (t.doors.doors.get d).movingOpen =
           ((s.doors.doors.get d).movingOpen &&
             !((s.setup.doors.get d).enabled && (s.doors.doors.get d).proven)) ∧
         (t.doors.doors.get d).state = (s.doors.doors.get d).state) ∧
       s.changesOnly t (.doors :: warningParts))

/-! ### Warnings and the composition -/

/-- The on-delay's expiry takes an ARMING warning to ACTIVE, unacknowledged, at the present time, and counts it; the
off-delay's expiry takes a CLEARING warning to LATCHED where it has the LATCH flag and is not acknowledged, and to
INACTIVE otherwise (R104, R105, R110). A change of the condition value moves a warning by the table of R104: an INACTIVE
one to ARMING, or with no on-delay to ACTIVE; an ARMING one to INACTIVE; an ACTIVE one to CLEARING, or with no off-delay
as that delay's expiry does; a CLEARING one back to ACTIVE as it was; a LATCHED one to ACTIVE as a new episode. Entry
into ACTIVE, but from CLEARING, sends the fault memory the occurrence of a warning with a fault code whose tested signal
is not FORCED (R110, R153), and an end of a stored episode sends the gone event (R111, R156). A change of an internal
source at an index has every warning that reads it, by that index, by 255 or, for a source without one, by any, take its
condition, and no other (R100, R103). The expiry of the liveness timer has every warning on DISPLAY_LOST, and no other,
take its condition (R100, R103, R183). The instant at which the clock then stands is the model's choice (assumption 2).
-/
def Obligations.DelaysMoveAWarning : Prop :=
  (∀ (w : Fin 96) (s : State) (due : Nat), (s.warnings.get w).state = .arming →
     (s.warnings.get w).delay = some due →
       ∃ t, exec (.onDelayExpiry w) s = .next t ∧ t.now = max s.now due ∧ (t.warnings.get w).state = .active ∧
         (t.warnings.get w).acked = false ∧ (t.warnings.get w).activation = t.time ∧
         (t.warnings.get w).delay = none ∧
         (t.warnings.get w).occurrences = min ((s.warnings.get w).occurrences + 1) 255 ∧
         (t.warnings.get w).condition = (s.warnings.get w).condition ∧
         (t.warnings.get w).priority = (s.warnings.get w).priority ∧
         (∀ v, v ≠ w.val → t.warnings.get v = s.warnings.get v) ∧
         (((s.setup.warnings.get w).faultCode = 0 ∨ s.testsForced w = true) → t.faults = s.faults) ∧
         ((s.setup.warnings.get w).faultCode ≠ 0 → s.testsForced w = false →
           (t.warnings.get w).stored = true ∧
           t.faults = (occurrence (s.setup.warnings.get w).faultCode w (s.setNow (max s.now due))).faults) ∧
         s.changesOnly t warningParts) ∧
  (∀ (w : Fin 96) (s : State) (due : Nat), (s.warnings.get w).state = .clearing →
     (s.warnings.get w).delay = some due →
       ∃ t, exec (.offDelayExpiry w) s = .next t ∧ t.now = max s.now due ∧
         (t.warnings.get w).state =
           (if (s.setup.warnings.get w).latch = true ∧ (s.warnings.get w).acked = false then .latched
            else .inactive) ∧
         (t.warnings.get w).acked = false ∧ (t.warnings.get w).delay = none ∧
         (t.warnings.get w).occurrences = (s.warnings.get w).occurrences ∧
         (t.warnings.get w).activation = (s.warnings.get w).activation ∧
         (∀ v, v ≠ w.val → t.warnings.get v = s.warnings.get v) ∧
         ((s.warnings.get w).stored = false → t.faults = s.faults) ∧
         ((s.warnings.get w).stored = true →
           t.faults = (goneEvent (s.setup.warnings.get w).faultCode w s).faults) ∧
         s.changesOnly t warningParts) ∧
  (∀ (w : Fin 96) (s : State),
     (let x := s.warnings.get w
      let u := s.setup.warnings.get w
      let c := s.conditionOf w
      let t := takeCondition w s
      let y := t.warnings.get w
      let events := fun (starts ends : Prop) =>
        (starts → u.faultCode ≠ 0 → s.testsForced w = false →
          y.stored = true ∧ t.faults = (occurrence u.faultCode w s).faults) ∧
        (ends → x.stored = true → t.faults = (goneEvent u.faultCode w s).faults) ∧
        ((starts → u.faultCode = 0 ∨ s.testsForced w = true) → (ends → x.stored = false) → t.faults = s.faults)
      let episode := y.state = .active ∧ y.acked = false ∧ y.activation = s.time ∧ y.delay = none ∧
        y.occurrences = min (x.occurrences + 1) 255
      let kept := y.acked = x.acked ∧ y.activation = x.activation ∧ y.occurrences = x.occurrences
      let ended := y.acked = false ∧ y.delay = none ∧ y.activation = x.activation ∧ y.occurrences = x.occurrences
      (s.run.state ≠ .run ∨ u.kind = .unused ∨ c = x.condition → t = s) ∧
      (s.run.state = .run → u.kind ≠ .unused → c ≠ x.condition →
        y.condition = c ∧ y.priority = x.priority ∧
        (x.state = .inactive → c = true →
          (u.onDelay = 0 → episode ∧ events True False) ∧
          (u.onDelay ≠ 0 → y.state = .arming ∧ y.delay = some (s.now + 1000 * u.onDelay) ∧ kept ∧
            events False False)) ∧
        (x.state = .arming → c = false → y.state = .inactive ∧ ended ∧ events False True) ∧
        (x.state = .active → c = false →
          (u.offDelay ≠ 0 → y.state = .clearing ∧ y.delay = some (s.now + 1000 * u.offDelay) ∧ kept ∧
            events False False) ∧
          (u.offDelay = 0 →
            y.state = (if u.latch = true ∧ x.acked = false then .latched else .inactive) ∧ ended ∧
            events False True)) ∧
        (x.state = .clearing → c = true → y.state = .active ∧ y.delay = none ∧ kept ∧ events False False) ∧
        (x.state = .latched → c = true → episode ∧ events True False) ∧
        ((x.state = .latched ∨ x.state = .clearing ∨ x.state = .inactive) → c = false →
          y.state = x.state ∧ y.delay = x.delay ∧ kept ∧ events False False) ∧
        (∀ v, v ≠ w.val → t.warnings.get v = s.warnings.get v) ∧ s.changesOnly t warningParts))) ∧
  (∀ (w : Fin 96) (s : State) (due : Nat), s.run.state = .run → s.port.livenessTimer = some due →
     s.port.displayLost = false →
       ∃ t, exec .livenessTimerExpiry s = .next t ∧ t.port.displayLost = true ∧
         (let v := (s.setNow (max s.now due)).setPort { s.port with livenessTimer := none, displayLost := true }
          let reads := (s.setup.warnings.get w).kind = .internal ∧ (s.setup.warnings.get w).source = .displayLost
          (reads → t.warnings.get w = (takeCondition w v).warnings.get w) ∧
          (¬reads → t.warnings.get w = s.warnings.get w))) ∧
  (∀ (w : Fin 96) (s : State) (src : Source) (i : Nat), src ≠ .undefined →
     (let u := s.setup.warnings.get w
      let reads := u.kind = .internal ∧ u.source = src ∧ (u.index = i ∨ u.index = 255 ∨
        src ∈ [.interlockOverridden, .speedUnknown, .networkDown, .supplyLow, .displayLost])
      (reads → (takeSource src i s).warnings.get w = (takeCondition w s).warnings.get w) ∧
      (¬reads → (takeSource src i s).warnings.get w = s.warnings.get w)))

/-- The condition value of a signal test: ABOVE and BELOW of a usable signal use the hysteresis (R101); EQUAL, NOT_EQUAL
and BITS_ANY of a usable one compare with the threshold; all five keep the last value of a STALE signal and are false of
one that is FAULT, NO_DATA or NOT_CONFIGURED; NOT_VALID is true exactly of a signal that is not usable (R102). The
condition value of an internal warning is the truth of its source at its index, or with 255 at any index of the source's
range, each source true while the state that R91 and R103 name holds. -/
def Obligations.ConditionsFollowSignalsAndSources : Prop :=
  ∀ (s : State) (w : Nat),
    (let u := s.setup.warnings.get w
     let g := s.signals.get u.index
     let v := g.value.toInt
     let present := (s.warnings.get w).condition
     let usable := g.status = .valid ∨ g.status = .forced
     let holds := s.conditionOf w = true
     (u.kind = .signalTest →
       (usable →
         (u.operator = .above →
           (present = false → (holds ↔ v > u.threshold)) ∧
           (present = true → (¬holds ↔ v ≤ u.threshold - u.hysteresis))) ∧
         (u.operator = .below →
           (present = false → (holds ↔ v < u.threshold)) ∧
           (present = true → (¬holds ↔ v ≥ u.threshold + u.hysteresis))) ∧
         (u.operator = .equal → (holds ↔ v = u.threshold)) ∧
         (u.operator = .notEqual → (holds ↔ v ≠ u.threshold)) ∧
         (u.operator = .bitsAny →
           (holds ↔ ∃ k, k < 16 ∧ g.value.getLsbD k = true ∧ (BitVec.ofInt 16 u.threshold).getLsbD k = true))) ∧
       (u.operator ∈ [.above, .below, .equal, .notEqual, .bitsAny] →
         (g.status = .stale → (holds ↔ present = true)) ∧
         (g.status = .fault ∨ g.status = .noData ∨ g.status = .notConfigured → ¬holds)) ∧
       (u.operator = .notValid → (holds ↔ ¬usable))) ∧
     (u.kind = .internal →
       (let inRange := fun (low high : Nat) (truth : Nat → Prop) =>
          (low ≤ u.index → u.index < high → (holds ↔ truth u.index)) ∧
          (u.index = 255 → (holds ↔ ∃ i, low ≤ i ∧ i < high ∧ truth i))
        let ofDoor := fun (truth : Nat → Prop) =>
          inRange 0 4 fun d => (s.setup.doors.get d).enabled = true ∧ truth d
        let door := s.doors.doors.get
        let ramp := fun d => (s.setup.doors.get d).ramp
        let station := s.line.stations.get
        (u.source = .doorNotClosed → ofDoor fun d => (door d).proven = false) ∧
        (u.source = .doorMovingOpen → ofDoor fun d => (door d).movingOpen = true) ∧
        (u.source = .doorDisagree → ofDoor fun d => (door d).disagree = true) ∧
        (u.source = .doorObstructed → ofDoor fun d => (door d).state = .reversing) ∧
        (u.source = .doorReleased → ofDoor fun d => (door d).state = .released) ∧
        (u.source = .doorViewLost → ofDoor fun d => (door d).viewLost = true) ∧
        (u.source = .rampOut →
          ofDoor fun d => ramp d ≠ 255 ∧ ¬(s.sense.channels.get (ramp d)).showsOne) ∧
        (u.source = .interlockOverridden → (holds ↔ s.doors.interlock = .overridden)) ∧
        (u.source = .speedUnknown → (holds ↔ s.doors.motion = .unknown)) ∧
        (u.source = .senseFault → inRange 0 48 fun c => (s.sense.channels.get c).faultClass ≠ .none) ∧
        (u.source = .stationSilent → inRange 1 16 fun a => (station a).state = .silent) ∧
        (u.source = .stationFault →
          inRange 1 16 fun a => (station a).state = .online ∧ (station a).flags.stationFault = true) ∧
        (u.source = .channelFailed →
          inRange 0 2 fun c => (s.line.health (if c = 0 then .a else .b)).failed = true) ∧
        (u.source = .networkDown → (holds ↔ s.line.summary = .down)) ∧
        (u.source = .lampFault →
          inRange 0 32 fun l => (s.comp.lamps.get l).proof = .openLoad ∨ (s.comp.lamps.get l).proof = .shorted) ∧
        (u.source = .supplyLow → (holds ↔ s.sense.supplyLow = true)) ∧
        (u.source = .displayLost → (holds ↔ s.port.displayLost = true)))))

/-- The display slots hold at most three warnings, none twice, each eligible, and every warning in a slot outranks every
eligible warning that holds none; TOP outranks SECOND and THIRD, and SECOND outranks THIRD; the banner holds SECOND
exactly where TOP's warning carries BANNER and an enabled door is not proven closed (R118, R119). The rank is by the
five keys of R118, priority, class, acknowledgement, activation time and index; the effective priority is worked out by
R117 from the base, the motion bit and the boost of a failed lamp. A change of a warning's state, of DISPLAY_LOST, of a
lamp check or of a door's proven-closed flag leaves the composition record and the lamp commands as the composition
gives them (R120). That the commands named take the instants of their timers is the model's choice (assumption 2). -/
def Obligations.SlotsHoldTheFirstRanked : Prop :=
  (∀ (s : State) (a b : Nat),
    (let x := s.warnings.get a
     let y := s.warnings.get b
     let rank : WarningClass → Nat := fun k =>
       match k with
       | .stop => 3
       | .warning => 2
       | .caution => 1
       | .info | .undefined => 0
     let cx := rank (s.setup.warnings.get a).cls
     let cy := rank (s.setup.warnings.get b).cls
     ((s.setup.warnings.get a).cls ≠ .undefined → (s.setup.warnings.get b).cls ≠ .undefined →
      (s.outranks a b = true ↔
       y.priority < x.priority ∨
       (x.priority = y.priority ∧ (cy < cx ∨ (cx = cy ∧ ((x.acked = false ∧ y.acked = true) ∨
         (x.acked = y.acked ∧ (x.activation.toNat < y.activation.toNat ∨
           (x.activation = y.activation ∧ a < b)))))))))) ∧
    (s.eligible a = true ↔
       ((s.warnings.get a).state = .active ∨ (s.warnings.get a).state = .clearing ∨
         (s.warnings.get a).state = .latched) ∧ 1 ≤ (s.warnings.get a).priority ∧
       ¬((s.warnings.get a).acked = true ∧ (s.setup.warnings.get a).ackMode = .hide))) ∧
  (∀ (w : Fin 96) (s : State),
    (let u := s.setup.warnings.get w
     let y := (takePriority w s).warnings.get w
     let bit := if s.doors.motion = .stopped then 0 else 1
     let base := if u.base = 0 then 0 else if u.motionMode = true then u.base - u.base % 2 + bit else u.base
     let failed := u.lamp ≠ 255 ∧
       ((s.comp.lamps.get u.lamp).proof = .openLoad ∨ (s.comp.lamps.get u.lamp).proof = .shorted)
     (u.kind = .unused → takePriority w s = s) ∧
     (u.kind ≠ .unused →
       (1 ≤ base → failed → y.priority = min (base + u.boost) 15 ∧ (y.boosted = true ↔ 1 ≤ u.boost)) ∧
       (¬(1 ≤ base ∧ failed) → y.priority = min base 15 ∧ y.boosted = false) ∧
       y.state = (s.warnings.get w).state ∧ y.acked = (s.warnings.get w).acked ∧
       y.condition = (s.warnings.get w).condition ∧
       (∀ v, v ≠ w.val → (takePriority w s).warnings.get v = s.warnings.get v) ∧
       s.changesOnly (takePriority w s) [.warnings]))) ∧
  (∀ s : State, s.run.state = .run →
    (let composed := fun t : State => t.comp.record = t.composition ∧ t.comp.lamps = t.commandedLamps
     (∀ announce, composed (compose announce s)) ∧
     (∀ (w : Fin 96) (due : Nat), (s.warnings.get w).delay = some due →
       ((s.warnings.get w).state = .arming → ∃ t, exec (.onDelayExpiry w) s = .next t ∧ composed t) ∧
       ((s.warnings.get w).state = .clearing → ∃ t, exec (.offDelayExpiry w) s = .next t ∧ composed t)) ∧
     (∀ due, s.port.livenessTimer = some due → s.port.displayLost = false →
       ∃ t, exec .livenessTimerExpiry s = .next t ∧ composed t) ∧
     (∀ due, s.comp.checkTimer = some due → s.comp.check ≠ none →
       ∃ t, exec .lampCheckTimerExpiry s = .next t ∧ t.comp.check = none ∧ composed t) ∧
     (∀ (d : Fin 4), (s.setup.doors.get d).enabled = true →
       ((takeDoor d s).doors.doors.get d).proven ≠ (s.doors.doors.get d).proven → composed (takeDoor d s)))) ∧
  ∀ s : State,
    (let c := s.composition
     let inSlot := fun w => (c.top.kind = .warning ∧ c.top.index = w) ∨ (c.second.kind = .warning ∧ c.second.index = w) ∨
       (c.third.kind = .warning ∧ c.third.index = w)
     (∀ w, inSlot w → w < 96 ∧ s.eligible w = true) ∧
     (c.top.kind = .warning → c.second.kind = .warning → c.top.index ≠ c.second.index) ∧
     (c.top.kind = .warning → c.third.kind = .warning → c.top.index ≠ c.third.index) ∧
     (c.second.kind = .warning → c.third.kind = .warning → c.second.index ≠ c.third.index) ∧
     (c.top.kind = .warning → c.second.kind = .warning → s.outranks c.top.index c.second.index = true) ∧
     (c.top.kind = .warning → c.third.kind = .warning → s.outranks c.top.index c.third.index = true) ∧
     (c.second.kind = .warning → c.third.kind = .warning → s.outranks c.second.index c.third.index = true) ∧
     (∀ w v, inSlot w → v < 96 → s.eligible v = true → ¬inSlot v → s.outranks w v = true) ∧
     (c.third.kind = .empty → ∀ v, v < 96 → s.eligible v = true → inSlot v) ∧
     (c.top.kind = .empty ↔ ∀ v, v < 96 → s.eligible v = false) ∧
     (c.second.kind = .banner ↔
       c.top.kind = .warning ∧ (s.setup.warnings.get c.top.index).banner = true ∧ s.bannerMask ≠ 0#4))

/-! ### Tell-tales and the sounder -/

/-- A lamp is commanded FLASH, ON or OFF by the warnings in force that name it (R123); during a lamp check every lamp is
ON (R128), and while DISPLAY_LOST holds the master lamps follow the classes they stand for (R131). The sounder pattern
is the highest among the unacknowledged warnings in force, and at least SLOW for one of class STOP while DISPLAY_LOST
holds; a taking of the composition that changes the pattern starts it at its on phase, and one that does not leaves it
running (R130). A flash timebase passes to its other half: 500 ms on and 500 ms off, or 167 ms on and 166 ms off; SLOW
is 300 ms on and 700 ms off, FAST 150 ms on and 100 ms off; the chime and the test tone end, each with its own timer
alone (R123, R130, R132). The duty of every lamp is worked out by R122 from its day and night levels and the dimming
step, and so it stands after a sample that changes the dimmer signal its channel feeds, and after that signal goes
stale. The instant at which the clock then stands is the model's choice (assumption 2). -/
def Obligations.LampsAndSounderAreCommanded : Prop :=
  (∀ (l : Fin 32) (s : State),
    (let inForce := fun (w : Nat) => w < 96 ∧ ((s.warnings.get w).state = .active ∨
       (s.warnings.get w).state = .clearing ∨ (s.warnings.get w).state = .latched)
     let names := fun (w : Nat) => inForce w ∧ (s.setup.warnings.get w).lamp = l.val
     let cls := fun (w : Nat) => (s.setup.warnings.get w).cls
     let x := s.commandedLamps.get l
     let red := s.port.displayLost = true ∧ s.setup.general.masterRed = l.val
     let amber := s.port.displayLost = true ∧ s.setup.general.masterAmber = l.val ∧
       s.setup.general.masterRed ≠ l.val
     let mapped := fun (flash on : Nat → Prop) =>
       ((∃ w, w < 96 ∧ flash w) → x.command = .flash) ∧
       ((¬∃ w, w < 96 ∧ flash w) → (∃ w, w < 96 ∧ on w) → x.command = .on) ∧
       ((¬∃ w, w < 96 ∧ flash w) → (¬∃ w, w < 96 ∧ on w) → x.command = .off)
     x = { s.comp.lamps.get l with command := x.command } ∧
     (s.comp.check ≠ none → x.command = .on) ∧
     (s.comp.check = none → ¬red → ¬amber →
       mapped (fun w => names w ∧ (s.warnings.get w).acked = false ∧ (s.setup.warnings.get w).flash = true) names) ∧
     (s.comp.check = none → red →
       mapped (fun w => inForce w ∧ (cls w = .stop ∨ cls w = .warning) ∧ (s.warnings.get w).acked = false)
         (fun w => inForce w ∧ (cls w = .stop ∨ cls w = .warning) ∧ (s.warnings.get w).acked = true ∧
           (s.warnings.get w).state ≠ .latched)) ∧
     (s.comp.check = none → amber →
       mapped (fun w => inForce w ∧ cls w = .caution ∧ (s.warnings.get w).acked = false)
         (fun w => inForce w ∧ cls w = .caution ∧ (s.warnings.get w).acked = true ∧
           (s.warnings.get w).state ≠ .latched)))) ∧
  (∀ s : State,
    (let calls := fun (w : Nat) => w < 96 ∧ (s.warnings.get w).acked = false ∧ ((s.warnings.get w).state = .active ∨
       (s.warnings.get w).state = .clearing ∨ (s.warnings.get w).state = .latched)
     let pattern := fun (w : Nat) => (s.setup.warnings.get w).pattern
     let stops := s.port.displayLost = true ∧ ∃ w, w < 96 ∧ calls w ∧ (s.setup.warnings.get w).cls = .stop
     let height : Pattern → Nat := fun p =>
       match p with
       | .none | .undefined => 0
       | .chime => 1
       | .slow => 2
       | .fast => 3
       | .continuous => 4
     let p := s.patternChoice
     s.composition.pattern = p ∧ (∀ w, calls w → height (pattern w) ≤ height p) ∧ (stops → 2 ≤ height p) ∧
     (p = .none ∨ (∃ w, w < 96 ∧ calls w ∧ pattern w = p) ∨ (p = .slow ∧ stops)))) ∧
  (∀ (announce : Bool) (s : State), s.run.state = .run →
    (let c := (compose announce s).comp
     let p := c.record.pattern
     p = s.patternChoice ∧
     (p = s.comp.record.pattern → c.phaseOn = s.comp.phaseOn ∧ c.phaseTimer = s.comp.phaseTimer) ∧
     (p ≠ s.comp.record.pattern →
       (p = .slow → c.phaseOn = true ∧ c.phaseTimer = some (s.now + 300000)) ∧
       (p = .fast → c.phaseOn = true ∧ c.phaseTimer = some (s.now + 150000)) ∧
       (p ≠ .slow → p ≠ .fast → c.phaseTimer = none)) ∧
     (p ≠ .chime → c.chimeTimer = none) ∧
     (p = .chime → c.chimeTimer = (if announce = true then some (s.now + 300000) else s.comp.chimeTimer)) ∧
     c.testTimer = s.comp.testTimer ∧ c.flash1 = s.comp.flash1 ∧ c.flash3 = s.comp.flash3)) ∧
  (∀ (s : State) (due : Nat),
     (s.comp.flash1.timer = some due →
       exec (.flashPhaseChange .hz1) s = .next ((s.setNow (max s.now due)).setComp
         { s.comp with flash1 := { on := !s.comp.flash1.on, timer := some (due + 500000) } })) ∧
     (s.comp.flash3.timer = some due →
       exec (.flashPhaseChange .hz3) s = .next ((s.setNow (max s.now due)).setComp
         { s.comp with flash3 :=
             { on := !s.comp.flash3.on, timer := some (due + if s.comp.flash3.on then 166000 else 167000) } }))) ∧
  (∀ (s : State) (due : Nat),
     (s.comp.phaseTimer = some due →
       (s.comp.record.pattern = .slow →
         exec .sounderPhaseChange s = .next ((s.setNow (max s.now due)).setComp { s.comp with
           phaseOn := !s.comp.phaseOn
           phaseTimer := some (due + if s.comp.phaseOn then 700000 else 300000) })) ∧
       (s.comp.record.pattern = .fast →
         exec .sounderPhaseChange s = .next ((s.setNow (max s.now due)).setComp { s.comp with
           phaseOn := !s.comp.phaseOn
           phaseTimer := some (due + if s.comp.phaseOn then 100000 else 150000) }))) ∧
     (s.comp.chimeTimer = some due →
       exec .chimeToneEnd s = .next ((s.setNow (max s.now due)).setComp { s.comp with chimeTimer := none })) ∧
     (s.comp.testTimer = some due →
       exec .testToneEnd s = .next ((s.setNow (max s.now due)).setComp { s.comp with testTimer := none }))) ∧
  (let step := fun (s : State) =>
     let n := s.setup.general.dimmer
     let v := (s.signals.get n).value.toInt
     if n = 255 ∨ ((s.signals.get n).status ≠ .valid ∧ (s.signals.get n).status ≠ .forced) ∨ v ≤ 0 then 0
     else if 32 ≤ v then 32 else v.toNat
   let duty := fun (s : State) (l : Nat) =>
     let u := s.setup.lamps.get l
     ((u.day * (32 - step s) + u.night * step s) * 4 + 16) / 32
   (∀ s : State, ∃ lamps, takeDuties s = s.setComp { s.comp with lamps } ∧
     ∀ l, l < 32 → lamps.get l = { s.comp.lamps.get l with duty := duty s l }) ∧
   (∀ (c : Fin 48) (reading : BitVec 12) (s : State) (due n : Nat), s.run.state = .run →
     (s.sense.channels.get c).check = none → (s.sense.channels.get c).sampleTimer = some due →
     s.signalOfChannel c = some n → n = s.setup.general.dimmer →
       ∃ t, exec (.senseSample c reading) s = .next t ∧ t.setup = s.setup ∧
         ((t.signals.get n).value ≠ (s.signals.get n).value ∨ (t.signals.get n).status ≠ (s.signals.get n).status →
           ∀ l, l < 32 → (t.comp.lamps.get l).duty = duty t l)) ∧
   (∀ (n : Fin 128) (s : State) (ms : Nat), s.run.state = .run → (s.signals.get n).staleDeadline = some ms →
     (s.signals.get n).status ≠ .forced → (s.signals.get n).status ≠ .stale → n.val = s.setup.general.dimmer →
       ∃ t, exec (.staleExpiry n) s = .next t ∧
         ∀ l, l < 32 → (t.comp.lamps.get l).duty = 4 * (s.setup.lamps.get l).day))

/-- A lamp's proof timer runs on by 100 ms; with the output off nothing is measured, and with it on a current below
the overcurrent limit returns the trip count to 0, and a check moves the proof state and its counts; the third
low-current check makes a lamp OPEN_LOAD, and the third good check in a row makes an OPEN_LOAD lamp OK (R124). An
overcurrent switches a lamp off: it counts a trip, except while supply low holds, and starts the retry timer of
1,000 ms; the third trip makes the lamp SHORTED, with no retry; the retry's expiry lets the output be on again (R126).
The instant at which the clock then stands is the model's choice (assumption 2). That a good check ends the run of an
UNTESTED lamp is read by inference (assumption 20). Two clauses are the model's choice: that a measurement of 2,000 mA or
more is a good check which keeps the trip count (assumption 62), and that a command which names an outcome acts only where
the measurement has that outcome (assumption 1). -/
def Obligations.LampsAreProvenAndProtected : Prop :=
  (∀ (l : Fin 32) (mA : Nat) (s : State) (due : Nat), s.run.state = .run →
     (s.comp.lamps.get l).proofTimer = some due →
     (let x := s.comp.lamps.get l
      let checks := (s.setup.lamps.get l).proofEnabled = true ∧ s.sense.supplyLow = false
      ∃ t, exec (.proofTimerExpiry l mA) s = .next t ∧ t.now = max s.now due ∧
        (t.comp.lamps.get l).proofTimer = some (due + 100000) ∧ (t.comp.lamps.get l).duty = x.duty ∧
        (∀ k, k < 32 → k ≠ l.val → (t.comp.lamps.get k).proof = (s.comp.lamps.get k).proof ∧
          (t.comp.lamps.get k).trips = (s.comp.lamps.get k).trips ∧
          (t.comp.lamps.get k).duty = (s.comp.lamps.get k).duty) ∧
        (s.lampOn l = false →
          t.comp.lamps.get l = { x with proofTimer := some (due + 100000) } ∧
          s.changesOnly t [.clock, .composition]) ∧
        (s.lampOn l = true → mA < 2000 → (t.comp.lamps.get l).trips = 0) ∧
        (s.lampOn l = true → ¬checks → (t.comp.lamps.get l).proof = x.proof) ∧
        (s.lampOn l = true → checks → 20 ≤ mA →
          (x.proof = .untested ∨ x.proof = .ok →
            (t.comp.lamps.get l).proof = .ok ∧ (t.comp.lamps.get l).openCount = 0) ∧
          (x.proof = .openLoad → x.healCount < 2 →
            (t.comp.lamps.get l).proof = .openLoad ∧ (t.comp.lamps.get l).healCount = x.healCount + 1)) ∧
        (s.lampOn l = true → checks → mA < 20 →
          (x.proof = .openLoad → (t.comp.lamps.get l).proof = .openLoad ∧ (t.comp.lamps.get l).healCount = 0) ∧
          (x.proof = .untested ∨ x.proof = .ok → x.openCount < 2 →
            (t.comp.lamps.get l).proof = x.proof ∧ (t.comp.lamps.get l).openCount = x.openCount + 1)) ∧
        s.changesOnly t warningParts)) ∧
  (∀ (l : Fin 32) (mA : Nat) (s : State) (due : Nat), s.run.state = .run →
     (s.comp.lamps.get l).proofTimer = some due → s.lampOn l = true →
     (s.setup.lamps.get l).proofEnabled = true → s.sense.supplyLow = false →
     (mA < 20 → ((s.comp.lamps.get l).proof = .untested ∨ (s.comp.lamps.get l).proof = .ok) →
       (s.comp.lamps.get l).openCount = 2 →
         ∃ t, exec (.lampOpenLoad l mA) s = .next t ∧ t.now = max s.now due ∧
           (t.comp.lamps.get l).proof = .openLoad ∧ (t.comp.lamps.get l).openCount = 0 ∧
           (t.comp.lamps.get l).proofTimer = some (due + 100000) ∧ s.changesOnly t warningParts) ∧
     (20 ≤ mA → (s.comp.lamps.get l).proof = .openLoad → (s.comp.lamps.get l).healCount = 2 →
       ∃ t, exec (.lampProofHealed l mA) s = .next t ∧ t.now = max s.now due ∧
         (t.comp.lamps.get l).proof = .ok ∧ (t.comp.lamps.get l).healCount = 0 ∧
         (t.comp.lamps.get l).proofTimer = some (due + 100000) ∧ s.changesOnly t warningParts)) ∧
  (∀ (l : Fin 32) (s : State), (∀ due, (s.comp.lamps.get l).retryTimer = some due →
       exec (.overcurrentRetryExpiry l) s = .next ((s.setNow (max s.now due)).setComp
         { s.comp with lamps := s.comp.lamps.set l { s.comp.lamps.get l with retryTimer := none } })) ∧
     (s.run.state = .run → s.lampOn l = true →
       (let x := s.comp.lamps.get l
        let trips := if s.sense.supplyLow then x.trips else x.trips + 1
        let off : Lamp := { x with trips := trips, retryTimer := some (s.now + 1000000) }
        (trips < 3 →
          exec (.lampOvercurrent l) s = .next (s.setComp { s.comp with lamps := s.comp.lamps.set l off })) ∧
        (3 ≤ trips →
          (∃ t, exec (.lampOvercurrent l) s = .next t ∧ (t.comp.lamps.get l).proof = .shorted ∧
            (t.comp.lamps.get l).trips = trips ∧ (t.comp.lamps.get l).retryTimer = none ∧ t.lampOn l = false ∧
            s.changesOnly t warningParts) ∧
          (∃ t, exec (.lampShorted l) s = .next t ∧ (t.comp.lamps.get l).proof = .shorted ∧
            (t.comp.lamps.get l).trips = trips ∧ (t.comp.lamps.get l).retryTimer = none ∧ t.lampOn l = false ∧
            s.changesOnly t warningParts)))))

/-- The lamp check timer's expiry ends the check: a request slot is DONE with the proof state of each lamp, and a
workshop test is COMPLETED with them (R128, R173). The instant at which the clock then stands is the model's choice
(assumption 2). -/
def Obligations.LampCheckEndsWithTheProofs : Prop :=
  ∀ (s : State) (due : Nat) (o : CheckOwner), s.comp.checkTimer = some due → s.comp.check = some o → s.memorySound →
    ∃ t, exec .lampCheckTimerExpiry s = .next t ∧ t.now = max s.now due ∧ t.comp.check = none ∧
      t.comp.checkTimer = none ∧
      (∀ l, l < 32 → (t.comp.lamps.get l).proof = (s.comp.lamps.get l).proof) ∧
      (∀ i, o = .request i →
        t.slotState i = .done ∧
        (∀ l, l < 32 →
          Memory.read t.mem (slotBase i + 8 + l) = byteOf (s.comp.lamps.get l).proof.code) ∧
        s.changesOnly t [.clock, .notices, .statusBlock, .slots, .composition]) ∧
      (o = .workshop →
        t.shop.tests.lampState = .completed ∧
        (∀ l, l < 32 → t.shop.tests.lampProofs.get l = (s.comp.lamps.get l).proof) ∧
        s.changesOnly t [.clock, .notices, .statusBlock, .composition, .session])

/-! ### Gauges -/

/-- An update of a gauge runs its timer on by 20 ms: TRACKING takes the target of a usable signal, damps and moves;
HOLDING damps and moves, by the five steps of R139 and the three cases of R140; PARKING moves toward the park position,
and parks where that is within the rate limit; the update that parks the last of all gauges brings STANDBY where
SHUTDOWN or CONFIG waits for it with the line idle (R197, R200), in the same command by inference (assumptions 10 and
24); the hold timer's expiry parks the gauge from where it stands (R137, R139, R140, R142, R144). In RUN a gauge in use
takes up a status of its signal by the table of R141, and a signal that goes stale has its gauges, and no others, do so
(R7); that signal is no speed and no parking brake, whose staleness may end sweeps too. The instant at which the clock
then stands is the model's choice (assumption 2), and so is that a gauge which enters PARKING keeps its target and its
command until its next update (assumption 53; R139 gives the park position). -/
def Obligations.GaugesDampMoveAndPark : Prop :=
  (∀ (i : Fin 6) (s : State) (due : Nat), (s.gauges.get i).updateTimer = some due →
     (let g := s.gauges.get i
      let u := s.setup.gauges.get i
      let sig := s.signals.get u.signal
      let usable := sig.status = .valid ∨ sig.status = .forced
      let rate := max u.rateLimit 1
      let away := if g.needle ≤ u.park then u.park - g.needle else g.needle - u.park
      let damped := fun (target f : Int) =>
        f + (if ((16 * target - f) * (u.damping + 1)).tdiv 256 = 0 then (16 * target - f).sign
             else ((16 * target - f) * (u.damping + 1)).tdiv 256)
      let moved := fun (n c : Nat) =>
        if c ≤ n + rate ∧ n ≤ c + rate then c else if n < c then n + rate else n - rate
      (g.state = .tracking ∨ g.state = .holding → u.damping ≤ 255 →
        ∃ t, exec (.gaugeUpdate i) s = .next t ∧ t.now = max s.now due ∧ (t.gauges.get i).state = g.state ∧
          (t.gauges.get i).updateTimer = some (due + 20000) ∧
          ((g.state = .tracking ∧ usable) → (t.gauges.get i).target = targetOf u.points sig.value.toInt) ∧
          (¬(g.state = .tracking ∧ usable) → (t.gauges.get i).target = g.target) ∧
          ((t.gauges.get i).filtered : Int) = damped (t.gauges.get i).target g.filtered ∧
          (t.gauges.get i).command = ((t.gauges.get i).filtered + 8) / 16 ∧
          (t.gauges.get i).needle = moved g.needle (t.gauges.get i).command ∧
          (∀ j, j ≠ i.val → t.gauges.get j = s.gauges.get j) ∧ s.changesOnly t [.clock, .gauges]) ∧
      (g.state = .parking → rate < away →
        ∃ t, exec (.gaugeUpdate i) s = .next t ∧ t.now = max s.now due ∧ (t.gauges.get i).state = .parking ∧
          (t.gauges.get i).updateTimer = some (due + 20000) ∧ (t.gauges.get i).target = u.park ∧
          (t.gauges.get i).filtered = 16 * u.park ∧ (t.gauges.get i).command = u.park ∧
          (t.gauges.get i).needle = (if g.needle ≤ u.park then g.needle + rate else g.needle - rate) ∧
          (∀ j, j ≠ i.val → t.gauges.get j = s.gauges.get j) ∧ s.changesOnly t [.clock, .gauges]) ∧
      (g.state = .parking → away ≤ rate →
        (let waits := (s.run.state = .shutdown ∨ (s.run.state = .config ∧ s.run.standbyPending = true)) ∧
           s.line.phase = .idle ∧ ∀ j, j < 6 → j ≠ i.val → (s.gauges.get j).state = .parked
         ∃ t, exec (.gaugeUpdate i) s = .next t ∧ t.now = max s.now due ∧ (t.gauges.get i).state = .parked ∧
           (t.gauges.get i).updateTimer = none ∧ (t.gauges.get i).needle = u.park ∧
           (t.gauges.get i).target = u.park ∧ (t.gauges.get i).command = u.park ∧
           (t.gauges.get i).filtered = 16 * u.park ∧
           (∀ j, j ≠ i.val → t.gauges.get j = s.gauges.get j) ∧
           (¬waits → s.changesOnly t [.clock, .gauges]) ∧
           (waits → t.run.state = .standby ∧ t.run.standbyPending = false ∧ t.shop.session = .detached ∧
             t.shop.rate = .slow ∧ t.port.sweepTimer = none ∧ t.port.sweepPlace = none ∧ t.wakeOutput = false ∧
             t.interruptLine = false ∧ t.setup = s.setup ∧ s.changesOnly t runParts))))) ∧
  (∀ (i : Fin 6) (s : State) (use : HoldUse) (due : Nat), (s.gauges.get i).holdTimer = some (use, due) →
     ∃ t, exec (.holdTimerExpiry i) s = .next t ∧ t.now = max s.now due ∧ (t.gauges.get i).state = .parking ∧
       (t.gauges.get i).holdTimer = none ∧ (t.gauges.get i).needle = (s.gauges.get i).needle ∧
       (t.gauges.get i).updateTimer = (s.gauges.get i).updateTimer ∧
       (∀ j, j ≠ i.val → t.gauges.get j = s.gauges.get j) ∧ s.changesOnly t [.clock, .gauges]) ∧
  (∀ (i : Fin 6) (s : State),
     (let u := s.setup.gauges.get i
      (s.run.state ≠ .run ∨ u.inUse = false → takeUpGauge i s = s) ∧
      (s.run.state = .run → u.inUse = true →
        (s.gauges.get i).takesStatus ((takeUpGauge i s).gauges.get i) u (s.signals.get u.signal).status s.now ∧
        (∀ j, j ≠ i.val → (takeUpGauge i s).gauges.get j = s.gauges.get j) ∧
        s.changesOnly (takeUpGauge i s) [.gauges]))) ∧
  (∀ (i : Fin 6) (n : Fin 128) (s : State) (ms : Nat), s.run.state = .run →
     (s.signals.get n).staleDeadline = some ms →
     (s.signals.get n).status ≠ .forced → (s.signals.get n).status ≠ .stale →
     n.val ≠ s.setup.general.primarySpeed → n.val ≠ s.setup.general.fallbackSpeed →
     n.val ≠ s.setup.general.parkingBrake →
       ∃ t, exec (.staleExpiry n) s = .next t ∧
         (let u := s.setup.gauges.get i
          (u.inUse = true → u.signal = n.val →
            (s.gauges.get i).takesStatus (t.gauges.get i) u .stale (max s.now (1000 * ms))) ∧
          (u.inUse = false ∨ u.signal ≠ n.val → t.gauges.get i = s.gauges.get i)))

/-- A homing drive goes on by the rate limit and ends at 0, in RUN in TRACKING from where the gauge takes up its
signal's status, with the first-data timer where the signal is NO_DATA, and out of RUN in PARKING; a sweep goes out to
the travel and back to its return point, where the gauge resumes and takes up its signal's status, and the last gauge of
a sweep completes its request or its workshop test (R141, R142, R143, R146, R149, R173). That a gauge which was PARKED
resumes in PARKING where the return point is not its park position is read by inference (assumption 22). As the part
leaves RUN by the run-on timer a TRACKING, HOLDING or SWEEPING gauge enters PARKING from where it stands, and a HOMING
one homes on (R147, R149). The instant at which the clock then stands is the model's choice (assumption 2), and so is that
a gauge which enters PARKING keeps its target and its command until its next update, command 0 where a homing ends so
(assumption 53; R139 gives the park position). -/
def Obligations.GaugeUpdateHomesAndSweeps : Prop :=
  (∀ (i : Fin 6) (s : State) (due : Nat), s.run.runOnTimer = some due → s.run.state = .run →
    ∃ t, exec .runOnTimerExpiry s = .next t ∧
      (let g := s.gauges.get i
       let y := t.gauges.get i
       (g.state = .tracking ∨ g.state = .holding ∨ (g.state = .sweeping ∧ g.sweep ≠ none) →
         y.state = .parking ∧ y.needle = g.needle) ∧
       (g.state = .homing → y.state = .homing ∧ y.homingLeft = g.homingLeft) ∧
       (g.state = .parking ∨ g.state = .parked → y.state = g.state ∧ y.needle = g.needle) ∧
       y.holdTimer = none ∧ y.updateTimer = g.updateTimer)) ∧
  ∀ (i : Fin 6) (s : State) (due : Nat), (s.gauges.get i).updateTimer = some due →
    (let g := s.gauges.get i
     let u := s.setup.gauges.get i
     let sig := s.signals.get u.signal
     let usable := sig.status = .valid ∨ sig.status = .forced
     let rate := max u.rateLimit 1
     let swept := fun (n aim : Nat) =>
       if aim ≤ n + max u.sweepRate 1 ∧ n ≤ aim + max u.sweepRate 1 then aim
       else if n < aim then n + max u.sweepRate 1 else n - max u.sweepRate 1
     (g.state = .homing → rate < g.homingLeft →
       ∃ t, exec (.gaugeUpdate i) s = .next t ∧ t.now = max s.now due ∧ (t.gauges.get i).state = .homing ∧
         (t.gauges.get i).homingLeft = g.homingLeft - rate ∧ (t.gauges.get i).needle = g.needle ∧
         (t.gauges.get i).updateTimer = some (due + 20000) ∧
         (∀ j, j ≠ i.val → t.gauges.get j = s.gauges.get j) ∧ s.changesOnly t [.clock, .gauges]) ∧
     (g.state = .homing → g.homingLeft ≤ rate → s.run.state = .run → u.inUse = true → usable →
       ∃ t, exec (.gaugeUpdate i) s = .next t ∧ (t.gauges.get i).state = .tracking ∧
         (t.gauges.get i).known = true ∧ (t.gauges.get i).needle = 0 ∧ (t.gauges.get i).filtered = 0 ∧
         (t.gauges.get i).command = 0 ∧ (t.gauges.get i).target = targetOf u.points sig.value.toInt ∧
         (t.gauges.get i).updateTimer = some (due + 20000) ∧
         (∀ j, j ≠ i.val → t.gauges.get j = s.gauges.get j) ∧ s.changesOnly t [.clock, .gauges]) ∧
     (g.state = .homing → g.homingLeft ≤ rate →
       ∃ t, exec (.gaugeUpdate i) s = .next t ∧
         (let y := t.gauges.get i
          y.known = true ∧ y.needle = 0 ∧ y.filtered = 0 ∧ y.command = 0 ∧
          y.target = (if usable then targetOf u.points sig.value.toInt else g.target) ∧
          y.updateTimer = some (due + 20000) ∧
          (s.run.state ≠ .run → y.state = .parking ∧ y.holdTimer = none) ∧
          (s.run.state = .run → u.inUse = true →
            (sig.status = .noData →
              (u.staleHold = 0 → y.state = .parking ∧ y.holdTimer = none) ∧
              (u.staleHold ≠ 0 →
                y.state = .tracking ∧ y.holdTimer = some (.firstData, max s.now due + 1000 * u.staleHold))) ∧
            (sig.status ≠ .noData →
              ({ y with state := .tracking, holdTimer := none } : Gauge).takesStatus y u sig.status (max s.now due)))) ∧
         (∀ j, j ≠ i.val → t.gauges.get j = s.gauges.get j) ∧ s.changesOnly t [.clock, .gauges]) ∧
     (∀ w, g.state = .sweeping → g.sweep = some w →
       (w.back = true → swept g.needle w.returnPoint = w.returnPoint → s.run.state = .run → u.inUse = true →
         ∃ t, exec (.gaugeUpdate i) s = .next t ∧
           (let y := t.gauges.get i
            let alone := ∀ j, j < 6 → j ≠ i.val → (s.gauges.get j).state = .sweeping →
              ∀ v, (s.gauges.get j).sweep = some v → v.owner ≠ w.owner
            let back : Gauge := { g with
              needle := w.returnPoint
              target := if usable then targetOf u.points sig.value.toInt else g.target
              updateTimer := some (due + 20000), sweep := none, upd := y.upd }
            y.needle = w.returnPoint ∧ y.sweep = none ∧
            (w.resume = .tracking ∨ w.resume = .holding ∨ w.resume = .parking →
              ({ back with state := w.resume } : Gauge).takesStatus y u sig.status (max s.now due)) ∧
            (w.resume = .parked → w.returnPoint = u.park →
              ({ back with state := .parked, updateTimer := none } : Gauge).takesStatus y u sig.status (max s.now due)) ∧
            (w.resume = .parked → w.returnPoint ≠ u.park →
              ({ back with state := .parking, holdTimer := none } : Gauge).takesStatus y u sig.status (max s.now due)) ∧
            (∀ k set, w.owner = .request k set → k < 16 → s.memorySound → alone →
              t.slotState k = .done ∧ Memory.read t.mem (slotBase k + 3) = 0#8 ∧
              Memory.read t.mem (slotBase k + 8) = set) ∧
            (∀ set, w.owner = .workshop set → s.shop.tests.sweepState = .running → s.shop.tests.sweepSet = set →
              alone → t.shop.tests.sweepState = .completed)) ∧
           (∀ j, j ≠ i.val → t.gauges.get j = s.gauges.get j) ∧
           s.changesOnly t [.clock, .gauges, .slots, .notices, .session]) ∧
       (w.back = false →
         ∃ t, exec (.gaugeUpdate i) s = .next t ∧ (t.gauges.get i).state = .sweeping ∧
           (t.gauges.get i).needle = swept g.needle u.travel ∧
           (t.gauges.get i).filtered = g.filtered ∧
           (t.gauges.get i).sweep =
             some { w with back := decide (swept g.needle u.travel = u.travel) } ∧
           (∀ j, j ≠ i.val → t.gauges.get j = s.gauges.get j) ∧ s.changesOnly t [.clock, .gauges]) ∧
       (w.back = true → swept g.needle w.returnPoint ≠ w.returnPoint →
         ∃ t, exec (.gaugeUpdate i) s = .next t ∧ (t.gauges.get i).state = .sweeping ∧
           (t.gauges.get i).needle = swept g.needle w.returnPoint ∧
           (t.gauges.get i).sweep = some w ∧
           (∀ j, j ≠ i.val → t.gauges.get j = s.gauges.get j) ∧ s.changesOnly t [.clock, .gauges]) ∧
       (w.back = true → swept g.needle w.returnPoint = w.returnPoint →
         w.resume = .tracking → s.run.state = .run → u.inUse = true → usable →
         ∃ t, exec (.gaugeUpdate i) s = .next t ∧ (t.gauges.get i).state = .tracking ∧
           (t.gauges.get i).needle = w.returnPoint ∧ (t.gauges.get i).sweep = none ∧
           (t.gauges.get i).filtered = g.filtered ∧
           (∀ j, j ≠ i.val → t.gauges.get j = s.gauges.get j) ∧
           s.changesOnly t [.clock, .gauges, .slots, .notices, .session])))

/-- The target of a signal value on a calibration curve of rising breakpoints: clamped below and above, and between
two breakpoints the interpolation to the nearest microstep, an exact half away from zero (R138). -/
def Obligations.TargetInterpolatesTheCurve : Prop :=
  ∀ (l r : List (Int × Nat)) (x0 x1 : Int) (p0 p1 : Nat) (v : Int),
    ((l ++ (x0, p0) :: (x1, p1) :: r).Pairwise fun a b => a.1 < b.1) →
    (x0 ≤ v → v < x1 →
      ∀ q : Int, (2 * ((v - x0) * ((p1 : Int) - p0) - q * (x1 - x0))).natAbs ≤ (x1 - x0).natAbs →
        (((v - x0) * ((p1 : Int) - p0) ≥ 0 →
            2 * ((v - x0) * ((p1 : Int) - p0) - q * (x1 - x0)) < x1 - x0) ∧
         ((v - x0) * ((p1 : Int) - p0) < 0 →
            -(x1 - x0) < 2 * ((v - x0) * ((p1 : Int) - p0) - q * (x1 - x0)))) →
          (targetOf (l ++ (x0, p0) :: (x1, p1) :: r) v : Int) = p0 + q) ∧
    (l = [] → v ≤ x0 → targetOf (l ++ (x0, p0) :: (x1, p1) :: r) v = p0) ∧
    (r = [] → x1 ≤ v → targetOf (l ++ (x0, p0) :: (x1, p1) :: r) v = p1)

/-! ### The fault memory -/

/-- The PASSIVE record that an occurrence replaces is the one of the highest aging count, then of the oldest
last-seen, then of the lowest index; an ACTIVE record is never replaced (R154). -/
def Obligations.ReplacementTakesTheOldestPassive : Prop :=
  ∀ s : State,
    (let r := fun i => s.faults.records.get i
     (∀ i, s.passiveChoice = some i →
       i < 48 ∧ (r i).status = .passive ∧
       (∀ j, j < 48 → j ≠ i → (r j).status = .passive →
         (r j).aging < (r i).aging ∨
         ((r j).aging = (r i).aging ∧
           ((r i).lastCycle < (r j).lastCycle ∨
            ((r i).lastCycle = (r j).lastCycle ∧
              ((r i).lastTime < (r j).lastTime ∨ ((r i).lastTime = (r j).lastTime ∧ i < j))))))) ∧
     (s.passiveChoice = none ↔ ∀ i, i < 48 → (r i).status ≠ .passive) ∧
     (∀ code origin i, s.findRecord code origin = none → s.emptyRecord = none → s.passiveChoice = some i →
       ((occurrence code origin s).faults.records.get i).status = .active ∧
       ((occurrence code origin s).faults.records.get i).code = code ∧
       (∀ j, j ≠ i → (occurrence code origin s).faults.records.get j = r j)))

/-- An occurrence takes its matching record, else the lowest EMPTY one, else the PASSIVE one that R154 chooses, whose
history it overwrites, and is dropped with FAULT MEMORY FULL set where every record is ACTIVE (R153); a gone event makes
its ACTIVE record PASSIVE (R156). Aging raises the aging count of every PASSIVE record, stopping at 255, and empties the
record where the aging limit is not 0 and is reached; ACTIVE and EMPTY records are not aged (R158). -/
def Obligations.OccurrencesAreStored : Prop :=
  ∀ (code origin : Nat) (s : State),
    (∀ i, s.findRecord code origin = some i →
      (let r := (occurrence code origin s).faults.records.get i
       r.status = .active ∧ r.aging = 0 ∧ r.lastCycle = s.run.ignitionCycle ∧ r.lastTime = s.time ∧
       r.occurrences = min ((s.faults.records.get i).occurrences + 1) 255 ∧
       r.snapshot = (s.faults.records.get i).snapshot ∧ r.firstTime = (s.faults.records.get i).firstTime ∧
       ∀ j, j ≠ i → (occurrence code origin s).faults.records.get j = s.faults.records.get j)) ∧
    (∀ i, s.findRecord code origin = none →
      s.emptyRecord = some i ∨ (s.emptyRecord = none ∧ s.passiveChoice = some i) →
      (let r := (occurrence code origin s).faults.records.get i
       r.status = .active ∧ r.code = code ∧ r.origin = origin ∧ r.occurrences = 1 ∧ r.aging = 0 ∧
       r.firstCycle = s.run.ignitionCycle ∧ r.lastCycle = s.run.ignitionCycle ∧
       r.firstTime = s.time ∧ r.lastTime = s.time ∧ r.snapshot = s.snapshot ∧
       ∀ j, j ≠ i → (occurrence code origin s).faults.records.get j = s.faults.records.get j)) ∧
    (s.findRecord code origin = none → s.emptyRecord = none → s.passiveChoice = none →
      (occurrence code origin s).faults = { s.faults with full := true }) ∧
    (∀ i, s.findRecord code origin = some i → (s.faults.records.get i).status = .active →
      ((goneEvent code origin s).faults.records.get i).status = .passive ∧
      ((goneEvent code origin s).faults.records.get i).aging = 0 ∧
      ((goneEvent code origin s).faults.records.get i).occurrences = (s.faults.records.get i).occurrences ∧
      ∀ j, j ≠ i → (goneEvent code origin s).faults.records.get j = s.faults.records.get j) ∧
    (∀ i, i < 48 →
      (let r := s.faults.records.get i
       let x := (ageRecords s).faults.records.get i
       let limit := s.setup.general.agingLimit
       (r.status ≠ .passive → x = r) ∧
       (r.status = .passive → limit ≠ 0 → limit ≤ min (r.aging + 1) 255 → x.status = .empty) ∧
       (r.status = .passive → (limit = 0 ∨ min (r.aging + 1) 255 < limit) →
         x = { r with aging := min (r.aging + 1) 255, upd := r.upd + 2#8 })))

/-! ### The workshop line -/

/-- A reading service whose tests pass is answered ACCEPTED with its data as the state stands, and changes nothing
but the receiver and the idle timer (R163, R165, R169, R170, R173). The layout of the data and the number of the
result are read by inference (assumptions 28 and 29), the revision is a free value (assumption 5), and the frame
arrives whole (assumption 30). The length of the ACTUATOR_TEST STATUS answer, with its cause and its proofs in every
state, is the model's choice (assumption 66). -/
def Obligations.ReadingServicesAnswer : Prop :=
  ∀ (tag x : Byte) (data : List Byte) (s : State), s.run.state ≠ .standby → s.shop.receiver = .idle →
    (let answers := fun (c : Instr) (code : Byte) (out : List Byte) =>
       ∃ t, exec c s = .next t ∧ t.shop.receiver = .answering (answerFrame code tag 0#8 out) ∧
         (s.shop.session ≠ .detached → t.shop.idleTimer = some (s.now + 5000000)) ∧
         t.shop.rate = s.shop.rate ∧ t.shop.nextRate = s.shop.nextRate ∧ s.changesOnly t [.receiver]
     answers (.identify tag []) 1#8
       ([0x10#8, 0x26#8, Config.revision, byteOf s.run.state.code] ++ wordBytes s.run.ignitionCycle ++
         [byteOf s.shop.session.code, byteOf s.shop.rate.code]) ∧
     (s.shop.session ≠ .detached →
       (data ≠ [] → data.length ≤ 16 → (∀ b ∈ data, b.toNat < 128) →
         answers (.readSignals tag data) 4#8
           (data.flatMap fun b => wordBytes (s.signals.get b.toNat).value ++
             [byteOf (s.signals.get b.toNat).status.code])) ∧
       (x.toNat ≤ 11 →
         answers (.readFaults tag [x]) 5#8
           (([0, 1, 2, 3].flatMap fun k => s.faultLine (4 * x.toNat + k)) ++
             [byteOf s.faultCount, byteOf s.faults.full.toNat])) ∧
       (x.toNat ≤ 47 →
         answers (.readFaultSnapshot tag [x]) 6#8
           ([byteOf (s.faults.records.get x.toNat).status.code] ++ wordOf (s.faults.records.get x.toNat).code ++
             [byteOf (s.faults.records.get x.toNat).origin, byteOf (s.faults.records.get x.toNat).occurrences,
              byteOf (s.faults.records.get x.toNat).aging] ++
             wordBytes (s.faults.records.get x.toNat).firstCycle ++
             wordBytes (s.faults.records.get x.toNat).lastCycle ++
             timeBytes (s.faults.records.get x.toNat).firstTime ++
             timeBytes (s.faults.records.get x.toNat).lastTime ++
             (s.faults.records.get x.toNat).snapshot.cells.flatMap SnapshotEntry.bytes)) ∧
       answers (.actuatorTestStatus tag [x]) 10#8 s.shop.tests.bytes ∧
       answers (.readDoorCounters tag []) 11#8
         ([0, 1, 2, 3].flatMap fun d =>
           [byteOf (s.setup.doors.get d).enabled.toNat] ++ longOf (s.doors.doors.get d).cycles ++
             wordOf (s.doors.doors.get d).obstructions) ∧
       (x.toNat ≤ 85 →
         answers (.readLog tag [x]) 13#8
           (([1, 2, 3].flatMap fun k => (s.line.behindHead (3 * x.toNat + k)).bytes) ++
             [s.line.logHead] ++ wordBytes s.line.logWrap))))

/-- OPEN_SESSION grants READ in every awake state and SERVICE under its conditions, RUN, motion STOPPED and a parking
brake signal that is configured, usable and non-zero, and the session's level, idle timer and next rate follow (R166); a
level the session has already is granted with no notice. SERVICE without its conditions is answered CONDITIONS_NOT_MET,
and a level or rate outside the values of R166 OUT_OF_RANGE, and both leave the session. READ asked of a SERVICE session
demotes it: its forces are released, where none is on a protected signal (R171), the set is empty, and the workshop
tests that run end with cause SESSION (R9, R168, R173). CLOSE_SESSION and the idle timer's expiry end an open session:
the forces are released together and the set is empty; the rate goes back after the answer, and at the expiry at once
(R167, R168), where a frame in reception is kept by the model's choice (assumption 67). A write of the parking brake's
entry that leaves it not usable or 0 demotes a SERVICE session, and so does that signal's going stale, with its forces
released and its workshop lamp check ended (R7, R129, R167, R168). The number of the result and the fields of the notice
are read by inference (assumptions 13 and 29), the instant at which the clock then stands is the model's choice
(assumption 2), and the frame arrives whole (assumption 30). -/
def Obligations.SessionsOpenAndEnd : Prop :=
  (∀ (tag rate : Byte) (s : State), s.run.state ≠ .standby → s.shop.receiver = .idle → rate.toNat ≤ 1 →
     (let next := if rate = 0#8 then LineRate.slow else LineRate.fast
      (s.shop.session = .detached →
        ∃ t, exec (.openSession tag [1#8, rate]) s = .next t ∧ t.shop.session = .read ∧
          t.shop.forced = s.shop.forced ∧ t.shop.tests.sweepState = .none ∧ t.shop.tests.lampState = .none ∧
          t.shop.idleTimer = some (s.now + 5000000) ∧ t.shop.rate = s.shop.rate ∧ t.shop.nextRate = some next ∧
          t.shop.receiver = .answering (answerFrame 2#8 tag 0#8 [1#8]) ∧
          s.postsOne t { kind := .workshopChange, index := 0#8, detail := 1#16, time := s.time } ∧
          s.changesOnly t [.notices, .statusBlock, .session, .receiver]) ∧
      (s.serviceConditions = true → s.shop.session ≠ .service →
        ∃ t, exec (.openSession tag [2#8, rate]) s = .next t ∧ t.shop.session = .service ∧
          t.shop.forced = s.shop.forced ∧ t.shop.idleTimer = some (s.now + 5000000) ∧
          t.shop.rate = s.shop.rate ∧ t.shop.nextRate = some next ∧
          t.shop.receiver = .answering (answerFrame 2#8 tag 0#8 [2#8]) ∧
          s.postsOne t { kind := .workshopChange, index := 0#8, detail := 2#16, time := s.time } ∧
          s.changesOnly t [.notices, .statusBlock, .session, .receiver]) ∧
      (s.shop.session = .read ∨ (s.shop.session = .service ∧ s.serviceConditions = true) →
        (let level := if s.shop.session = .read then 1#8 else 2#8
         ∃ t, exec (.openSession tag [level, rate]) s = .next t ∧ t.shop.session = s.shop.session ∧
           t.shop.idleTimer = some (s.now + 5000000) ∧ t.shop.rate = s.shop.rate ∧ t.shop.nextRate = some next ∧
           t.shop.receiver = .answering (answerFrame 2#8 tag 0#8 [level]) ∧ s.changesOnly t [.receiver])) ∧
      (s.shop.session = .service → (∀ n ∈ s.shop.forced, s.setup.signalProtectedSignal n = false) →
        ∃ t, exec (.openSession tag [1#8, rate]) s = .next t ∧ t.shop.session = .read ∧ t.shop.forced = [] ∧
          (∀ n ∈ s.shop.forced, n < 128 → (t.signals.get n).value = (s.signals.get n).sourceValue ∧
            (t.signals.get n).status = (s.signals.get n).sourceStatus) ∧
          (∀ m, m ∉ s.shop.forced → t.signals.get m = s.signals.get m) ∧
          ((∃ i, i < 6 ∧ (s.gauges.get i).state = .sweeping ∧
              ∃ w, (s.gauges.get i).sweep = some w ∧ w.owner.isWorkshop = true) →
            s.shop.tests.sweepState = .running →
            t.shop.tests.sweepState = .endedEarly ∧ t.shop.tests.sweepCause = .session) ∧
          (∀ i, i < 6 → (s.gauges.get i).state = .sweeping → ∀ w, (s.gauges.get i).sweep = some w →
            w.owner.isWorkshop = true →
              (t.gauges.get i).state ≠ .sweeping ∨ w.resume = .sweeping) ∧
          (s.comp.check = some .workshop → t.comp.check = none ∧ t.shop.tests.lampState = .endedEarly ∧
            t.shop.tests.lampCause = .session) ∧
          t.shop.idleTimer = some (s.now + 5000000) ∧ t.shop.rate = s.shop.rate ∧ t.shop.nextRate = some next ∧
          t.shop.receiver = .answering (answerFrame 2#8 tag 0#8 [1#8]) ∧
          (s.shop.forced = [] → (∀ i, i < 6 → (s.gauges.get i).sweep = none) → s.comp.check ≠ some .workshop →
            s.postsOne t { kind := .workshopChange, index := 0#8, detail := 1#16, time := s.time } ∧
            s.changesOnly t [.notices, .statusBlock, .session, .receiver]) ∧
          s.changesOnly t (.receiver :: signalParts)) ∧
      (s.serviceConditions = false →
        ∃ t, exec (.openSession tag [2#8, rate]) s = .next t ∧
          t.shop.receiver = .answering (answerFrame 2#8 tag 9#8 []) ∧ t.shop.rate = s.shop.rate ∧
          t.shop.nextRate = s.shop.nextRate ∧ s.changesOnly t [.receiver]))) ∧
  (∀ (tag level rate : Byte) (s : State), s.run.state ≠ .standby → s.shop.receiver = .idle →
     (level ≠ 1#8 ∧ level ≠ 2#8) ∨ 1 < rate.toNat →
       ∃ t, exec (.openSession tag [level, rate]) s = .next t ∧
         t.shop.receiver = .answering (answerFrame 2#8 tag 5#8 []) ∧ t.shop.rate = s.shop.rate ∧
         t.shop.nextRate = s.shop.nextRate ∧ s.changesOnly t [.receiver]) ∧
  (∀ (tag : Byte) (s : State), s.shop.session ≠ .detached →
     (s.run.state ≠ .standby → s.shop.receiver = .idle →
       ∃ t, exec (.closeSession tag []) s = .next t ∧ t.shop.session = .detached ∧ t.shop.forced = [] ∧
         (∀ n ∈ s.shop.forced, n < 128 → (t.signals.get n).value = (s.signals.get n).sourceValue ∧
           (t.signals.get n).status = (s.signals.get n).sourceStatus) ∧
         t.shop.idleTimer = none ∧ t.shop.rate = s.shop.rate ∧ t.shop.nextRate = some .slow ∧
         t.shop.receiver = .answering (answerFrame 3#8 tag 0#8 []) ∧ s.changesOnly t (.receiver :: signalParts)) ∧
     (∀ due, s.shop.idleTimer = some due →
       ∃ t, exec .sessionIdleTimerExpiry s = .next t ∧ t.now = max s.now due ∧ t.shop.session = .detached ∧
         t.shop.forced = [] ∧
         (∀ n ∈ s.shop.forced, n < 128 → (t.signals.get n).value = (s.signals.get n).sourceValue ∧
           (t.signals.get n).status = (s.signals.get n).sourceStatus) ∧
         t.shop.idleTimer = none ∧ t.shop.rate = .slow ∧ t.shop.nextRate = none ∧
         t.shop.receiver = s.shop.receiver ∧ s.changesOnly t (.receiver :: signalParts))) ∧
  (∀ s : State,
     (let brake := s.setup.general.parkingBrake
      s.serviceConditions = true ↔
        s.run.state = .run ∧ s.doors.motion = .stopped ∧ brake ≠ 255 ∧
          ((s.signals.get brake).status = .valid ∨ (s.signals.get brake).status = .forced) ∧
          (s.signals.get brake).value ≠ 0#16)) ∧
  (∀ (n : Fin 128) (x : Signal) (s : State), s.run.state = .run → s.shop.session = .service →
     n.val = s.setup.general.parkingBrake →
     (x.value ≠ (s.signals.get n).value ∨ x.status ≠ (s.signals.get n).status) →
     ((x.status ≠ .valid ∧ x.status ≠ .forced) ∨ x.value = 0#16) →
       (writeSignal demoteSession n x s).shop.session = .read ∧ (writeSignal demoteSession n x s).shop.forced = []) ∧
  (∀ (n : Fin 128) (s : State) (ms : Nat), s.run.state = .run → s.shop.session = .service →
     n.val = s.setup.general.parkingBrake → (s.signals.get n).staleDeadline = some ms →
     (s.signals.get n).status ≠ .forced → (s.signals.get n).status ≠ .stale →
       ∃ t, exec (.staleExpiry n) s = .next t ∧ t.shop.session = .read ∧ t.shop.forced = [] ∧
         (∀ k ∈ s.shop.forced, k < 128 → k ≠ n.val → (t.signals.get k).value = (s.signals.get k).sourceValue ∧
           (t.signals.get k).status = (s.signals.get k).sourceStatus) ∧
         (∀ m, m ∉ s.shop.forced → m ≠ n.val → t.signals.get m = s.signals.get m) ∧
         ((∀ k, k = n.val ∨ k ∈ s.shop.forced →
             k ≠ s.setup.general.primarySpeed ∧ k ≠ s.setup.general.fallbackSpeed) →
           s.comp.check = some .workshop →
             t.comp.check = none ∧ t.shop.tests.lampState = .endedEarly ∧ t.shop.tests.lampCause = .session) ∧
         s.changesOnly t signalParts)

/-- In a SERVICE session FORCE_SIGNAL shows its value in the entry of a signal that is not protected and adds it to the
forced set, and RELEASE_SIGNAL shows the source again and takes it out; the answer carries the count (R8, R9, R171).
FORCE_SIGNAL of an index above 127 or of a signal without a source is answered OUT_OF_RANGE, of a protected signal
PROTECTED, and of one more signal beside 8 forced ones LIMIT_REACHED, judged in that order, and changes nothing;
RELEASE_SIGNAL of an index that is not in the set changes nothing, of 255 releases every force, where none is on a
protected signal, and of another value above 127 is answered OUT_OF_RANGE (R171). The layout of the data and the numbers
of the results are read by inference (assumptions 28 and 29), and the frame arrives whole (assumption 30). -/
def Obligations.ForcesAreSetAndReleased : Prop :=
  (∀ (tag n low high : Byte) (s : State), s.run.state ≠ .standby → s.shop.receiver = .idle →
     s.shop.session = .service → n.toNat < 128 → s.setup.signalProtectedSignal n.toNat = false →
     ((s.setup.signals.get n.toNat).kind ≠ .none →
       (n.toNat ∈ s.shop.forced ∨ s.shop.forced.length < 8) →
         ∃ t, exec (.forceSignal tag [n, low, high]) s = .next t ∧
           (t.signals.get n.toNat).value = high ++ low ∧ (t.signals.get n.toNat).status = .forced ∧
           (t.signals.get n.toNat).sourceValue = (s.signals.get n.toNat).sourceValue ∧
           (t.signals.get n.toNat).sourceStatus = (s.signals.get n.toNat).sourceStatus ∧
           (t.signals.get n.toNat).underlying = (s.signals.get n.toNat).underlying ∧
           (∀ k, k ∈ t.shop.forced ↔ k = n.toNat ∨ k ∈ s.shop.forced) ∧
           (∀ m, m ≠ n.toNat → t.signals.get m = s.signals.get m) ∧ t.shop.session = .service ∧
           t.shop.receiver = .answering (answerFrame 8#8 tag 0#8 [byteOf t.shop.forced.length]) ∧
           s.changesOnly t (.receiver :: signalParts)) ∧
     (n.toNat ∈ s.shop.forced →
       ∃ t, exec (.releaseSignal tag [n]) s = .next t ∧
         (t.signals.get n.toNat).value = (s.signals.get n.toNat).sourceValue ∧
         (t.signals.get n.toNat).status = (s.signals.get n.toNat).sourceStatus ∧
         (∀ k, k ∈ t.shop.forced ↔ k ≠ n.toNat ∧ k ∈ s.shop.forced) ∧
         (∀ m, m ≠ n.toNat → t.signals.get m = s.signals.get m) ∧ t.shop.session = .service ∧
         t.shop.receiver = .answering (answerFrame 9#8 tag 0#8 [byteOf t.shop.forced.length]) ∧
         s.changesOnly t (.receiver :: signalParts))) ∧
  (∀ (tag n low high : Byte) (s : State), s.run.state ≠ .standby → s.shop.receiver = .idle →
    s.shop.session = .service →
    (let known := n.toNat ≤ 127 ∧ (s.setup.signals.get n.toNat).kind ≠ .none
     let guarded := n.toNat = s.setup.general.primarySpeed ∨ n.toNat = s.setup.general.fallbackSpeed ∨
       n.toNat = s.setup.general.parkingBrake ∨
       ∃ d, d < 4 ∧ (s.setup.doors.get d).enabled = true ∧
         ((s.setup.doors.get d).phaseSignal = n.toNat ∨ (s.setup.doors.get d).obstructionSignal = n.toNat)
     let full := n.toNat ∉ s.shop.forced ∧ 8 ≤ s.shop.forced.length
     let refused := fun (result : Byte) =>
       ∃ t, exec (.forceSignal tag [n, low, high]) s = .next t ∧
         t.shop.receiver = .answering (answerFrame 8#8 tag result []) ∧ s.changesOnly t [.receiver]
     (s.setup.signalProtectedSignal n.toNat = true ↔ guarded) ∧
     (¬known → refused 5#8) ∧ (known → guarded → refused 6#8) ∧ (known → ¬guarded → full → refused 7#8) ∧
     (127 < n.toNat → n ≠ 255#8 →
       ∃ t, exec (.releaseSignal tag [n]) s = .next t ∧
         t.shop.receiver = .answering (answerFrame 9#8 tag 5#8 []) ∧ s.changesOnly t [.receiver]) ∧
     (n.toNat < 128 → n.toNat ∉ s.shop.forced →
       ∃ t, exec (.releaseSignal tag [n]) s = .next t ∧
         t.shop.receiver = .answering (answerFrame 9#8 tag 0#8 [byteOf s.shop.forced.length]) ∧
         s.changesOnly t [.receiver]))) ∧
  (∀ (tag : Byte) (s : State), s.run.state ≠ .standby → s.shop.receiver = .idle → s.shop.session = .service →
    (∀ n ∈ s.shop.forced, s.setup.signalProtectedSignal n = false) →
      ∃ t, exec (.releaseSignal tag [255#8]) s = .next t ∧ t.shop.forced = [] ∧ t.shop.session = .service ∧
        (∀ n ∈ s.shop.forced, n < 128 → (t.signals.get n).value = (s.signals.get n).sourceValue ∧
          (t.signals.get n).status = (s.signals.get n).sourceStatus) ∧
        (∀ m, m ∉ s.shop.forced → t.signals.get m = s.signals.get m) ∧
        t.shop.receiver = .answering (answerFrame 9#8 tag 0#8 [0#8]) ∧
        (s.shop.forced = [] → s.changesOnly t [.receiver]) ∧ s.changesOnly t (.receiver :: signalParts))

/-- In a SERVICE session with motion STOPPED the actuator tests start their sweep, lamp check and tone; with motion not
STOPPED a sweep of a good set and a lamp check are answered CONDITIONS_NOT_MET (R128, R132, R146, R173). A set that is
empty, goes beyond gauge 5 or names a gauge not in use is answered OUT_OF_RANGE, and so is a test outside the four; a
gauge of the set that is SWEEPING or HOMING, or a lamp check that runs, is answered BUSY; none of these changes anything
(R145, R173). The numbers of the results are read by inference (assumption 29), and the frame arrives whole (assumption
30). -/
def Obligations.ActuatorTestsStart : Prop :=
  ∀ (tag set : Byte) (s : State), s.run.state ≠ .standby → s.shop.receiver = .idle → s.shop.session = .service →
    (∃ t, exec (.actuatorTestChime tag [set]) s = .next t ∧
      t.comp = { s.comp with testTimer := some (s.now + 300000) } ∧
      t.shop.receiver = .answering (answerFrame 10#8 tag 0#8 []) ∧ s.changesOnly t [.composition, .receiver]) ∧
    (s.doors.motion = .stopped → s.setup.badSet set = false → s.setBusy set = false →
      ∃ t, exec (.actuatorTestGaugeSweep tag [set]) s = .next t ∧
        (∀ i, i < 6 → set.getLsbD i = true →
          (t.gauges.get i).state = .sweeping ∧ (t.gauges.get i).needle = (s.gauges.get i).needle ∧
          (t.gauges.get i).holdTimer = none ∧ (t.gauges.get i).updateTimer.isSome = true ∧
          ∃ w, (t.gauges.get i).sweep = some w ∧ w.resume = (s.gauges.get i).state ∧ w.back = false ∧
            w.owner = .workshop set) ∧
        (∀ i, set.getLsbD i = false → t.gauges.get i = s.gauges.get i) ∧
        t.shop.tests.sweepState = .running ∧ t.shop.tests.sweepSet = set ∧
        t.shop.tests.lampState = s.shop.tests.lampState ∧
        t.shop.receiver = .answering (answerFrame 10#8 tag 0#8 []) ∧
        s.changesOnly t [.gauges, .session, .receiver]) ∧
    (s.doors.motion = .stopped → s.comp.check = none →
      ∃ t, exec (.actuatorTestLampCheck tag [set]) s = .next t ∧ t.comp.check = some .workshop ∧
        t.comp.checkTimer = some (s.now + 2000000) ∧ t.comp.testTimer = some (s.now + 300000) ∧
        (∀ l, l < 32 → (t.comp.lamps.get l).proof = .untested ∧ (t.comp.lamps.get l).trips = 0) ∧
        t.shop.tests.lampState = .running ∧ t.shop.tests.sweepState = s.shop.tests.sweepState ∧
        t.shop.receiver = .answering (answerFrame 10#8 tag 0#8 []) ∧
        s.changesOnly t (.session :: .receiver :: warningParts)) ∧
    (s.doors.motion ≠ .stopped →
      (s.setup.badSet set = false →
        ∃ t, exec (.actuatorTestGaugeSweep tag [set]) s = .next t ∧
          t.shop.receiver = .answering (answerFrame 10#8 tag 9#8 []) ∧ s.changesOnly t [.receiver]) ∧
      (∃ t, exec (.actuatorTestLampCheck tag [set]) s = .next t ∧
        t.shop.receiver = .answering (answerFrame 10#8 tag 9#8 []) ∧ s.changesOnly t [.receiver])) ∧
    (let bad := set = 0#8 ∨ 64 ≤ set.toNat ∨
       ∃ i, i < 6 ∧ set.getLsbD i = true ∧ (s.setup.gauges.get i).inUse = false
     let busy := ∃ i, i < 6 ∧ set.getLsbD i = true ∧
       ((s.gauges.get i).state = .sweeping ∨ (s.gauges.get i).state = .homing)
     let refused := fun (c : Instr) (result : Byte) =>
       ∃ t, exec c s = .next t ∧ t.shop.receiver = .answering (answerFrame 10#8 tag result []) ∧
         s.changesOnly t [.receiver]
     (s.setup.badSet set = true ↔ bad) ∧ (s.setBusy set = true ↔ busy) ∧
     (bad → refused (.actuatorTestGaugeSweep tag [set]) 5#8) ∧
     (¬bad → s.doors.motion = .stopped → busy → refused (.actuatorTestGaugeSweep tag [set]) 8#8) ∧
     (s.doors.motion = .stopped → s.comp.check ≠ none → refused (.actuatorTestLampCheck tag [set]) 8#8) ∧
     (∀ test : Byte, 4 ≤ test.toNat →
       (receiveFrame (requestFrame 10#8 tag [test, set]) s).shop.receiver =
         .answering (answerFrame 10#8 tag 5#8 []) ∧
       s.changesOnly (receiveFrame (requestFrame 10#8 tag [test, set]) s) [.receiver]))

/-- In a SERVICE session CLEAR_FAULTS empties the PASSIVE records it takes, restarts the ACTIVE ones and clears FAULT
MEMORY FULL; RESET_DOOR_COUNTER zeroes the two counts of its door (R86, R160). The answer of CLEAR_FAULTS carries how
many records it emptied and how many it restarted, and that of RESET_DOOR_COUNTER the door (R172). The layout of the data
and the number of the result are read by inference (assumptions 28 and 29), and the frame arrives whole (assumption
30). -/
def Obligations.RetainedRecordsAreCleared : Prop :=
  ∀ (tag d low high : Byte) (s : State), s.run.state ≠ .standby → s.shop.receiver = .idle →
    s.shop.session = .service →
    (let r := fun i => s.faults.records.get i
     let clears := fun (scope : Byte) (takes : FaultRecord → Bool) =>
       let count := fun (x : FaultStatus) =>
         byteOf ((List.range 48).countP fun i => takes (r i) && (r i).status = x)
       ∃ t, exec (.workshopClearFaults tag [scope, low, high]) s = .next t ∧ t.faults.full = false ∧
         t.shop.receiver = .answering (answerFrame 7#8 tag 0#8 [count .passive, count .active]) ∧
         (∀ i, i < 48 → takes (r i) = true → (r i).status = .passive →
           (t.faults.records.get i).status = .empty) ∧
         (∀ i, i < 48 → takes (r i) = true → (r i).status = .active →
           (t.faults.records.get i).status = .active ∧ (t.faults.records.get i).code = (r i).code ∧
           (t.faults.records.get i).origin = (r i).origin ∧ (t.faults.records.get i).occurrences = 1 ∧
           (t.faults.records.get i).aging = 0 ∧ (t.faults.records.get i).firstTime = s.time) ∧
         (∀ i, (takes (r i) = false ∨ (r i).status = .empty) → t.faults.records.get i = r i) ∧
         s.changesOnly t [.notices, .statusBlock, .faults, .receiver]
     clears 0#8 (fun _ => true) ∧
     ((high ++ low : Word) ≠ 0#16 → clears 1#8 fun x => x.code = (high ++ low : Word).toNat) ∧
     (d.toNat ≤ 3 →
       ∃ t, exec (.resetDoorCounter tag [d]) s = .next t ∧
         t.doors = { s.doors with
           doors := s.doors.doors.set d.toNat { s.doors.doors.get d.toNat with
             cycles := 0, obstructions := 0, written := true, upd := (s.doors.doors.get d.toNat).upd + 2#8 } } ∧
         t.shop.receiver = .answering (answerFrame 12#8 tag 0#8 [d]) ∧ s.changesOnly t [.doors, .receiver]))

/-- A request that fails one of the tests 1 to 4 is answered with that test's result and no data, and changes nothing
but the receiver and the idle timer (R165): an unknown code; for every one of the thirteen services, and for each test
of ACTUATOR_TEST, no session where one is needed, too low a level for the level needed, and an unsuitable data length.
The same holds of the services that test 5 answers OUT_OF_RANGE for an index, a page, a scope or a code outside their
values (R169, R170, R172). The numbers of the results are read by inference (assumption 29), and the frame arrives whole
(assumption 30). -/
def Obligations.RefusedRequestsChangeNothing : Prop :=
  ∀ (tag code : Byte) (data : List Byte) (s : State), s.run.state ≠ .standby → s.shop.receiver = .idle →
    data.length ≤ 60 →
    (let refused := fun (c : Instr) (n result : Byte) =>
       ∃ t, exec c s = .next t ∧ t.shop.receiver = .answering (answerFrame n tag result []) ∧
         (s.shop.session ≠ .detached → t.shop.idleTimer = some (s.now + 5000000)) ∧
         t.shop.session = s.shop.session ∧ t.shop.rate = s.shop.rate ∧ t.shop.nextRate = s.shop.nextRate ∧
         s.changesOnly t [.receiver]
     let judged := fun (c : Instr) (n : Byte) (level : Session) (suits : Prop) =>
       (level ≠ .detached → s.shop.session = .detached → refused c n 2#8) ∧
       (level = .service → s.shop.session = .read → refused c n 3#8) ∧
       (level = .detached ∨ s.shop.session = .service ∨ (level = .read ∧ s.shop.session = .read) →
         ¬suits → refused c n 4#8)
     (code = 0#8 ∨ 13 < code.toNat → refused (.unknownService code tag data) code 1#8) ∧
     judged (.identify tag data) 1#8 .detached (data.length = 0) ∧
     judged (.openSession tag data) 2#8 .detached (data.length = 2) ∧
     judged (.closeSession tag data) 3#8 .read (data.length = 0) ∧
     judged (.readSignals tag data) 4#8 .read (1 ≤ data.length ∧ data.length ≤ 16) ∧
     judged (.readFaults tag data) 5#8 .read (data.length = 1) ∧
     judged (.readFaultSnapshot tag data) 6#8 .read (data.length = 1) ∧
     judged (.workshopClearFaults tag data) 7#8 .service (data.length = 3) ∧
     judged (.forceSignal tag data) 8#8 .service (data.length = 3) ∧
     judged (.releaseSignal tag data) 9#8 .service (data.length = 1) ∧
     judged (.readDoorCounters tag data) 11#8 .read (data.length = 0) ∧
     judged (.resetDoorCounter tag data) 12#8 .service (data.length = 1) ∧
     judged (.readLog tag data) 13#8 .read (data.length = 1) ∧
     (data.length ≤ 59 →
       judged (.actuatorTestGaugeSweep tag data) 10#8 .service (data.length = 1) ∧
       judged (.actuatorTestLampCheck tag data) 10#8 .service (data.length = 1) ∧
       judged (.actuatorTestChime tag data) 10#8 .service (data.length = 1) ∧
       judged (.actuatorTestStatus tag data) 10#8 .read (data.length = 1)) ∧
     (s.shop.session ≠ .detached →
       (1 ≤ data.length → data.length ≤ 16 → (∃ b ∈ data, 128 ≤ b.toNat) →
         refused (.readSignals tag data) 4#8 5#8) ∧
       (∀ b : Byte, 12 ≤ b.toNat → refused (.readFaults tag [b]) 5#8 5#8) ∧
       (∀ b : Byte, 48 ≤ b.toNat → refused (.readFaultSnapshot tag [b]) 6#8 5#8) ∧
       (∀ b : Byte, 86 ≤ b.toNat → refused (.readLog tag [b]) 13#8 5#8)) ∧
     (s.shop.session = .service →
       (∀ scope low high : Byte, 2 ≤ scope.toNat ∨ (scope = 1#8 ∧ low = 0#8 ∧ high = 0#8) →
         refused (.workshopClearFaults tag [scope, low, high]) 7#8 5#8) ∧
       (∀ b : Byte, 4 ≤ b.toNat → refused (.resetDoorCounter tag [b]) 12#8 5#8)))

/-- The receiver: a good length character starts a frame, a character that discards one and the gap inside one put it
in the wait for a gap, that gap makes it idle, what arrives while it answers is lost, and the answer's end makes it
idle at the next rate (R163, R164). The instant at which the clock then stands is the model's choice (assumption 2).
That the gap of a discard is not also the gap waited for is read by inference (assumption 27). -/
def Obligations.ReceiverFollowsTheLine : Prop :=
  ∀ (b : Byte) (e : CharError) (due : Nat) (cs : List Byte) (s : State), s.run.state ≠ .standby →
    (let waits := s.now + if s.shop.rate = .slow then 1719 else 573
     let becomes := fun (x : Receiver) => s.setShop { s.shop with receiver := x, gapTimer := some waits }
     (s.shop.receiver = .idle →
       (e = .none → 4 ≤ b.toNat → b.toNat ≤ 64 →
         exec (.workshopCharacterReceived b e) s = .next (becomes (.receiving [b]))) ∧
       (e ≠ .none ∨ b.toNat < 4 ∨ 64 < b.toNat →
         exec (.workshopFrameDiscard b e) s = .next (becomes .resync))) ∧
     (s.shop.receiver = .receiving cs →
       (e = .none → cs ≠ [] → cs.length + 1 < (cs.getD 0 0#8).toNat →
         exec (.workshopCharacterReceived b e) s = .next (becomes (.receiving (cs ++ [b])))) ∧
       (e ≠ .none → exec (.workshopFrameDiscard b e) s = .next (becomes .resync)) ∧
       (e = .none → cs.length + 1 = (cs.getD 0 0#8).toNat → cs ≠ [] → (cs ++ [b]).foldl (· + ·) 0#8 ≠ 0#8 →
         exec (.workshopFrameDiscard b e) s = .next (becomes .resync)) ∧
       (s.shop.gapTimer = some due →
         ∃ t, exec .workshopGapTimeout s = .next t ∧ t.now = max s.now due ∧ t.shop.receiver = .resync ∧
           t.shop.session = s.shop.session ∧ s.changesOnly t [.clock, .receiver])) ∧
     (s.shop.receiver = .resync → s.shop.gapTimer = some due →
       ∃ t, exec .workshopResyncGap s = .next t ∧ t.now = max s.now due ∧ t.shop.receiver = .idle ∧
         t.shop.gapTimer = none ∧ s.changesOnly t [.clock, .receiver]) ∧
     (s.shop.receiver = .answering cs →
       exec (.workshopCharacterReceived b e) s = .next s ∧
       exec .answerEnd s = .next (s.setShop { s.shop with
         receiver := .idle, rate := s.shop.nextRate.getD s.shop.rate, nextRate := none })))

/-! ### Wake, STANDBY and SHUTDOWN -/

/-- The tenth sample in a row of an enabled door's release channel that reads pulled wakes the part from STANDBY, and
so does the workshop line: CONFIG, the clock at 0, the ring with the STATE_CHANGE notice alone, and no new ignition
cycle (R196). The operand counts equal samples in a row (assumption 35). -/
def Obligations.WakesEnterConfig : Prop :=
  ∀ (d : Fin 4) (reading : BitVec 12) (n : Nat) (s : State), s.run.state = .standby →
    (let u := s.setup.sense.get (s.setup.doors.get d).release
     let woken := fun (t : State) =>
       t.run.state = .config ∧ t.now = 0 ∧
       t.port.noticeRead = 0#7 ∧ t.port.writeRefused = false ∧
       t.port.intEnable = false ∧ t.shop.session = .detached ∧ t.doors.interlock = .demand ∧
       (∀ g, g < 6 → (t.gauges.get g).state = .parked ∧ (t.gauges.get g).known = false) ∧
       (s.run.ignition = false →
         t.run.ignitionCycle = s.run.ignitionCycle ∧ t.faults = s.faults ∧ t.port.noticeWrite = 1#7 ∧
         t.port.noticeOverflow = false ∧
         (t.port.ring.get 0).kind = .stateChange ∧ t.run.configIdleTimer = some 60000000) ∧
       t.setup = s.setup ∧ t.line.log = s.line.log ∧ s.changesOnly t runParts
     (∃ t, exec .workshopLineWake s = .next t ∧ woken t) ∧
     ((s.setup.doors.get d).enabled = true → 0 < n →
       (releaseCounts u reading.toNat = true → 10 ≤ s.run.releaseTallies.get d + n →
         ∃ t, exec (.releaseChannelWake d reading n) s = .next t ∧ woken t) ∧
       (releaseCounts u reading.toNat = true → s.run.releaseTallies.get d + n < 10 →
         exec (.releaseChannelWake d reading n) s = .next (s.setRun { s.run with
           releaseTallies := s.run.releaseTallies.set d (s.run.releaseTallies.get d + n) })) ∧
       (releaseCounts u reading.toNat = false →
         exec (.releaseChannelWake d reading n) s = .next (s.setRun { s.run with
           releaseTallies := s.run.releaseTallies.set d 0 }))))

/-- The run-on timer's expiry starts SHUTDOWN, in STANDBY at once where every gauge is PARKED and no attempt or
turnaround runs on the line, with the interlock demanding and the session ended (R199, R200); the CONFIG idle timer's
expiry waits for the gauges, and STANDBY is entered where it is due, every gauge is PARKED and the line is free (R197).
An attempt in progress runs on to its end (R52), so that STANDBY waits for it by inference (assumption 24). The instant
at which the clock then stands is the model's choice (assumption 2). That STANDBY then follows in the same command is
read by inference (assumption 10). -/
def Obligations.ShutdownAndStandbyAreEntered : Prop :=
  ∀ (s : State) (due : Nat),
    (s.run.runOnTimer = some due → s.run.state = .run →
      ∃ t, exec .runOnTimerExpiry s = .next t ∧
        ((∀ g, g < 6 → (s.gauges.get g).state = .parked) → s.line.phase = .idle → t.run.state = .standby) ∧
        ((∃ g, g < 6 ∧ (s.gauges.get g).state ≠ .parked) ∨ s.line.phase ≠ .idle →
          t.run.state = .shutdown) ∧
        (∀ a, s.line.phase = .reply a → t.line.phase = .reply a) ∧
        t.run.runOnTimer = none ∧ t.port.livenessTimer = none ∧ t.doors.interlock = .demand ∧
        t.stopBrakeDemand = true ∧ t.shop.session = .detached ∧ t.setup = s.setup ∧
        s.changesOnly t runParts) ∧
    (s.run.configIdleTimer = some due →
      exec .configIdleTimerExpiry s = .next ((s.setNow (max s.now due)).setRun
        { s.run with configIdleTimer := none, standbyPending := true })) ∧
    ((s.run.state = .shutdown ∨ (s.run.state = .config ∧ s.run.standbyPending = true)) →
      ((∀ g, g < 6 → (s.gauges.get g).state = .parked) → s.line.phase = .idle →
        ∃ t, exec .standbyEntry s = .next t ∧ t.run.state = .standby ∧ t.run.standbyPending = false ∧
          t.now = s.now ∧ t.shop.session = .detached ∧ t.shop.rate = .slow ∧ t.port.sweepTimer = none ∧
          t.port.sweepPlace = none ∧ t.wakeOutput = false ∧ t.interruptLine = false ∧ t.gauges = s.gauges ∧
          t.setup = s.setup ∧ s.changesOnly t runParts) ∧
      ((∃ g, g < 6 ∧ (s.gauges.get g).state ≠ .parked) ∨ s.line.phase ≠ .idle →
        exec .standbyEntry s = .next s))

end
end

