-- ==== Sys2Proof/Laws/Memory.lean ====
section
/-! SUPPORT. The laws of the exchange memory: a read after a write, and the canonical form. -/

namespace Sys2Proof.Machine

/-- A write leaves every other offset as it was. -/
theorem Memory.read_write_other (m : Memory) (a x : Nat) (b : Byte) (h : x ≠ a) :
    Memory.read (Memory.write m a b) x = Memory.read m x := by
  induction m with
  | nil =>
    unfold Memory.write
    split
    · rfl
    · simp [Memory.read, Ne.symm h]
  | cons e rest ih =>
    obtain ⟨k, v⟩ := e
    unfold Memory.write
    split
    · split
      · rfl
      · simp [Memory.read, Ne.symm h]
    · split
      · rename_i hak
        subst hak
        split <;> simp [Memory.read, Ne.symm h]
      · simp only [Memory.read, ih]

/-- Every listed offset of a sorted list lies above its bound, so an offset at or below it reads as the background. -/
theorem Memory.read_below (m : Memory) (low x : Nat) (hw : Memory.sortedAbove (some low) m = true) (hx : x ≤ low) :
    Memory.read m x = Memory.background := by
  induction m generalizing low with
  | nil => rfl
  | cons e rest ih =>
    obtain ⟨k, v⟩ := e
    simp only [Memory.sortedAbove, Bool.and_eq_true, decide_eq_true_eq] at hw
    rw [Memory.read, if_neg (by omega)]
    exact ih k hw.2 (by omega)

/-- What `sortedAbove` says of a bound: the rest of the form does not depend on it. -/
theorem Memory.sortedAbove_weaken (m : Memory) (low : Option Nat) (l : Nat)
    (hw : Memory.sortedAbove (some l) m = true) (hl : ∀ x, low = some x → x ≤ l) :
    Memory.sortedAbove low m = true := by
  cases m with
  | nil => rfl
  | cons e rest =>
    obtain ⟨k, v⟩ := e
    cases low with
    | none => simp_all [Memory.sortedAbove]
    | some x =>
      have := hl x rfl
      simp only [Memory.sortedAbove, Bool.and_eq_true, decide_eq_true_eq] at hw ⊢
      exact ⟨⟨by omega, hw.1.2⟩, hw.2⟩

/-- A write in the canonical form is read back. -/
theorem Memory.read_write_same (m : Memory) (a : Nat) (b : Byte) (low : Option Nat)
    (hw : Memory.sortedAbove low m = true) : Memory.read (Memory.write m a b) a = b := by
  induction m generalizing low with
  | nil =>
    unfold Memory.write
    split
    · rename_i hb
      rw [hb]
      rfl
    · simp [Memory.read]
  | cons e rest ih =>
    obtain ⟨k, v⟩ := e
    have hrest : Memory.sortedAbove (some k) rest = true := by
      simp only [Memory.sortedAbove, Bool.and_eq_true] at hw
      exact hw.2
    unfold Memory.write
    split
    · split
      · rename_i hak hb
        rw [hb, Memory.read, if_neg (by omega)]
        exact Memory.read_below rest k a hrest (by omega)
      · simp [Memory.read]
    · split
      · rename_i hak
        subst hak
        split
        · rename_i hb
          rw [hb]
          exact Memory.read_below rest a a hrest (Nat.le_refl _)
        · simp [Memory.read]
      · rename_i hk hak
        rw [Memory.read, if_neg (fun h => hak h.symm)]
        exact ih (some k) hrest

/-- A write keeps the canonical form above a bound. -/
theorem Memory.sortedAbove_write (m : Memory) (a : Nat) (b : Byte) (low : Option Nat)
    (hw : Memory.sortedAbove low m = true) (ha : ∀ l, low = some l → l < a) :
    Memory.sortedAbove low (Memory.write m a b) = true := by
  induction m generalizing low with
  | nil =>
    unfold Memory.write
    split
    · rfl
    · rename_i hb
      cases low with
      | none => simp [Memory.sortedAbove, hb]
      | some l => simp [Memory.sortedAbove, hb, ha l rfl]
  | cons e rest ih =>
    obtain ⟨k, v⟩ := e
    have hw' := hw
    simp only [Memory.sortedAbove, Bool.and_eq_true, decide_eq_true_eq] at hw
    unfold Memory.write
    split
    · split
      · exact hw'
      · rename_i hak hb
        cases low with
        | none => simp [Memory.sortedAbove, hb, hak, hw.1.2, hw.2]
        | some l => simp [Memory.sortedAbove, hb, hak, hw.1.2, hw.2, ha l rfl]
    · split
      · rename_i hak
        subst hak
        split
        · exact Memory.sortedAbove_weaken rest low a hw.2 (fun x hx => Nat.le_of_lt (ha x hx))
        · rename_i hb
          cases low with
          | none => simp [Memory.sortedAbove, hb, hw.2]
          | some l => simp [Memory.sortedAbove, hb, hw.2, ha l rfl]
      · rename_i hk hak
        have h := ih (some k) hw.2 (fun l hl => by cases hl; omega)
        cases low with
        | none => simp [Memory.sortedAbove, hw.1.2, h]
        | some l => simp [Memory.sortedAbove, hw.1, hw.1.2, h]

/-- A write keeps the canonical form. -/
theorem Memory.wf_write (m : Memory) (a : Nat) (b : Byte) (h : Memory.wf m = true) :
    Memory.wf (Memory.write m a b) = true :=
  Memory.sortedAbove_write m a b none h (fun _ hl => by cases hl)

/-- Writes at successive offsets keep the canonical form. -/
theorem Memory.wf_writeBytes (l : List Byte) (m : Memory) (a : Nat) (h : Memory.wf m = true) :
    Memory.wf (Memory.writeBytes m a l) = true := by
  induction l generalizing m a with
  | nil => exact h
  | cons b rest ih => exact ih _ _ (Memory.wf_write m a b h)

/-- Writes at successive offsets leave what lies below or above them as it was. -/
theorem Memory.read_writeBytes_other (l : List Byte) (m : Memory) (a x : Nat) (h : x < a ∨ a + l.length ≤ x) :
    Memory.read (Memory.writeBytes m a l) x = Memory.read m x := by
  induction l generalizing m a with
  | nil => rfl
  | cons b rest ih =>
    simp only [List.length_cons] at h
    rw [Memory.writeBytes, ih _ _ (by omega), Memory.read_write_other _ _ _ _ (by omega)]

/-- A write in the canonical form is read back. -/
theorem Memory.read_write (m : Memory) (a x : Nat) (b : Byte) (h : Memory.wf m = true) :
    Memory.read (Memory.write m a b) x = if x = a then b else Memory.read m x := by
  split
  · rename_i hx
    subst hx
    exact Memory.read_write_same m x b none h
  · rename_i hx
    exact Memory.read_write_other m a x b hx

@[simp] theorem padTo_length (n : Nat) (l : List Byte) : (padTo n l).length = n := by
  simp [padTo]

@[simp] theorem wordOf_length (n : Nat) : (wordOf n).length = 2 := rfl

end Sys2Proof.Machine
end

