-- ==== Sys2Proof/Laws/State.lean ====
section
/-! SUPPORT. What each update of one group of State leaves in each field. Each holds by rfl; the proof is
parenthesised so that simp cites it as a proof, which its discharger needs. -/

namespace Sys2Proof.Machine

/-! ### setPending -/

@[simp] theorem State.setPending_pending (s : State) (x : List Instr) : (s.setPending x).pending = x := (rfl)
@[simp] theorem State.setPending_now (s : State) (x : List Instr) : (s.setPending x).now = s.now := (rfl)
@[simp] theorem State.setPending_run (s : State) (x : List Instr) : (s.setPending x).run = s.run := (rfl)
@[simp] theorem State.setPending_port (s : State) (x : List Instr) : (s.setPending x).port = s.port := (rfl)
@[simp] theorem State.setPending_mem (s : State) (x : List Instr) : (s.setPending x).mem = s.mem := (rfl)
@[simp] theorem State.setPending_setup (s : State) (x : List Instr) : (s.setPending x).setup = s.setup := (rfl)
@[simp] theorem State.setPending_signals (s : State) (x : List Instr) : (s.setPending x).signals = s.signals := (rfl)
@[simp] theorem State.setPending_sense (s : State) (x : List Instr) : (s.setPending x).sense = s.sense := (rfl)
@[simp] theorem State.setPending_line (s : State) (x : List Instr) : (s.setPending x).line = s.line := (rfl)
@[simp] theorem State.setPending_doors (s : State) (x : List Instr) : (s.setPending x).doors = s.doors := (rfl)
@[simp] theorem State.setPending_warnings (s : State) (x : List Instr) : (s.setPending x).warnings = s.warnings := (rfl)
@[simp] theorem State.setPending_comp (s : State) (x : List Instr) : (s.setPending x).comp = s.comp := (rfl)
@[simp] theorem State.setPending_gauges (s : State) (x : List Instr) : (s.setPending x).gauges = s.gauges := (rfl)
@[simp] theorem State.setPending_faults (s : State) (x : List Instr) : (s.setPending x).faults = s.faults := (rfl)
@[simp] theorem State.setPending_shop (s : State) (x : List Instr) : (s.setPending x).shop = s.shop := (rfl)
@[simp] theorem State.setPending_outside (s : State) (x : List Instr) : (s.setPending x).outside = s.outside := (rfl)

/-! ### setNow -/

@[simp] theorem State.setNow_pending (s : State) (x : Nat) : (s.setNow x).pending = s.pending := (rfl)
@[simp] theorem State.setNow_now (s : State) (x : Nat) : (s.setNow x).now = x := (rfl)
@[simp] theorem State.setNow_run (s : State) (x : Nat) : (s.setNow x).run = s.run := (rfl)
@[simp] theorem State.setNow_port (s : State) (x : Nat) : (s.setNow x).port = s.port := (rfl)
@[simp] theorem State.setNow_mem (s : State) (x : Nat) : (s.setNow x).mem = s.mem := (rfl)
@[simp] theorem State.setNow_setup (s : State) (x : Nat) : (s.setNow x).setup = s.setup := (rfl)
@[simp] theorem State.setNow_signals (s : State) (x : Nat) : (s.setNow x).signals = s.signals := (rfl)
@[simp] theorem State.setNow_sense (s : State) (x : Nat) : (s.setNow x).sense = s.sense := (rfl)
@[simp] theorem State.setNow_line (s : State) (x : Nat) : (s.setNow x).line = s.line := (rfl)
@[simp] theorem State.setNow_doors (s : State) (x : Nat) : (s.setNow x).doors = s.doors := (rfl)
@[simp] theorem State.setNow_warnings (s : State) (x : Nat) : (s.setNow x).warnings = s.warnings := (rfl)
@[simp] theorem State.setNow_comp (s : State) (x : Nat) : (s.setNow x).comp = s.comp := (rfl)
@[simp] theorem State.setNow_gauges (s : State) (x : Nat) : (s.setNow x).gauges = s.gauges := (rfl)
@[simp] theorem State.setNow_faults (s : State) (x : Nat) : (s.setNow x).faults = s.faults := (rfl)
@[simp] theorem State.setNow_shop (s : State) (x : Nat) : (s.setNow x).shop = s.shop := (rfl)
@[simp] theorem State.setNow_outside (s : State) (x : Nat) : (s.setNow x).outside = s.outside := (rfl)

/-! ### setRun -/

@[simp] theorem State.setRun_pending (s : State) (x : RunLogic) : (s.setRun x).pending = s.pending := (rfl)
@[simp] theorem State.setRun_now (s : State) (x : RunLogic) : (s.setRun x).now = s.now := (rfl)
@[simp] theorem State.setRun_run (s : State) (x : RunLogic) : (s.setRun x).run = x := (rfl)
@[simp] theorem State.setRun_port (s : State) (x : RunLogic) : (s.setRun x).port = s.port := (rfl)
@[simp] theorem State.setRun_mem (s : State) (x : RunLogic) : (s.setRun x).mem = s.mem := (rfl)
@[simp] theorem State.setRun_setup (s : State) (x : RunLogic) : (s.setRun x).setup = s.setup := (rfl)
@[simp] theorem State.setRun_signals (s : State) (x : RunLogic) : (s.setRun x).signals = s.signals := (rfl)
@[simp] theorem State.setRun_sense (s : State) (x : RunLogic) : (s.setRun x).sense = s.sense := (rfl)
@[simp] theorem State.setRun_line (s : State) (x : RunLogic) : (s.setRun x).line = s.line := (rfl)
@[simp] theorem State.setRun_doors (s : State) (x : RunLogic) : (s.setRun x).doors = s.doors := (rfl)
@[simp] theorem State.setRun_warnings (s : State) (x : RunLogic) : (s.setRun x).warnings = s.warnings := (rfl)
@[simp] theorem State.setRun_comp (s : State) (x : RunLogic) : (s.setRun x).comp = s.comp := (rfl)
@[simp] theorem State.setRun_gauges (s : State) (x : RunLogic) : (s.setRun x).gauges = s.gauges := (rfl)
@[simp] theorem State.setRun_faults (s : State) (x : RunLogic) : (s.setRun x).faults = s.faults := (rfl)
@[simp] theorem State.setRun_shop (s : State) (x : RunLogic) : (s.setRun x).shop = s.shop := (rfl)
@[simp] theorem State.setRun_outside (s : State) (x : RunLogic) : (s.setRun x).outside = s.outside := (rfl)

/-! ### setPort -/

@[simp] theorem State.setPort_pending (s : State) (x : Port) : (s.setPort x).pending = s.pending := (rfl)
@[simp] theorem State.setPort_now (s : State) (x : Port) : (s.setPort x).now = s.now := (rfl)
@[simp] theorem State.setPort_run (s : State) (x : Port) : (s.setPort x).run = s.run := (rfl)
@[simp] theorem State.setPort_port (s : State) (x : Port) : (s.setPort x).port = x := (rfl)
@[simp] theorem State.setPort_mem (s : State) (x : Port) : (s.setPort x).mem = s.mem := (rfl)
@[simp] theorem State.setPort_setup (s : State) (x : Port) : (s.setPort x).setup = s.setup := (rfl)
@[simp] theorem State.setPort_signals (s : State) (x : Port) : (s.setPort x).signals = s.signals := (rfl)
@[simp] theorem State.setPort_sense (s : State) (x : Port) : (s.setPort x).sense = s.sense := (rfl)
@[simp] theorem State.setPort_line (s : State) (x : Port) : (s.setPort x).line = s.line := (rfl)
@[simp] theorem State.setPort_doors (s : State) (x : Port) : (s.setPort x).doors = s.doors := (rfl)
@[simp] theorem State.setPort_warnings (s : State) (x : Port) : (s.setPort x).warnings = s.warnings := (rfl)
@[simp] theorem State.setPort_comp (s : State) (x : Port) : (s.setPort x).comp = s.comp := (rfl)
@[simp] theorem State.setPort_gauges (s : State) (x : Port) : (s.setPort x).gauges = s.gauges := (rfl)
@[simp] theorem State.setPort_faults (s : State) (x : Port) : (s.setPort x).faults = s.faults := (rfl)
@[simp] theorem State.setPort_shop (s : State) (x : Port) : (s.setPort x).shop = s.shop := (rfl)
@[simp] theorem State.setPort_outside (s : State) (x : Port) : (s.setPort x).outside = s.outside := (rfl)

/-! ### setMem -/

@[simp] theorem State.setMem_pending (s : State) (x : Memory) : (s.setMem x).pending = s.pending := (rfl)
@[simp] theorem State.setMem_now (s : State) (x : Memory) : (s.setMem x).now = s.now := (rfl)
@[simp] theorem State.setMem_run (s : State) (x : Memory) : (s.setMem x).run = s.run := (rfl)
@[simp] theorem State.setMem_port (s : State) (x : Memory) : (s.setMem x).port = s.port := (rfl)
@[simp] theorem State.setMem_mem (s : State) (x : Memory) : (s.setMem x).mem = x := (rfl)
@[simp] theorem State.setMem_setup (s : State) (x : Memory) : (s.setMem x).setup = s.setup := (rfl)
@[simp] theorem State.setMem_signals (s : State) (x : Memory) : (s.setMem x).signals = s.signals := (rfl)
@[simp] theorem State.setMem_sense (s : State) (x : Memory) : (s.setMem x).sense = s.sense := (rfl)
@[simp] theorem State.setMem_line (s : State) (x : Memory) : (s.setMem x).line = s.line := (rfl)
@[simp] theorem State.setMem_doors (s : State) (x : Memory) : (s.setMem x).doors = s.doors := (rfl)
@[simp] theorem State.setMem_warnings (s : State) (x : Memory) : (s.setMem x).warnings = s.warnings := (rfl)
@[simp] theorem State.setMem_comp (s : State) (x : Memory) : (s.setMem x).comp = s.comp := (rfl)
@[simp] theorem State.setMem_gauges (s : State) (x : Memory) : (s.setMem x).gauges = s.gauges := (rfl)
@[simp] theorem State.setMem_faults (s : State) (x : Memory) : (s.setMem x).faults = s.faults := (rfl)
@[simp] theorem State.setMem_shop (s : State) (x : Memory) : (s.setMem x).shop = s.shop := (rfl)

/-! ### setSetup -/

@[simp] theorem State.setSetup_pending (s : State) (x : Setup) : (s.setSetup x).pending = s.pending := (rfl)
@[simp] theorem State.setSetup_now (s : State) (x : Setup) : (s.setSetup x).now = s.now := (rfl)
@[simp] theorem State.setSetup_run (s : State) (x : Setup) : (s.setSetup x).run = s.run := (rfl)
@[simp] theorem State.setSetup_port (s : State) (x : Setup) : (s.setSetup x).port = s.port := (rfl)
@[simp] theorem State.setSetup_mem (s : State) (x : Setup) : (s.setSetup x).mem = s.mem := (rfl)
@[simp] theorem State.setSetup_setup (s : State) (x : Setup) : (s.setSetup x).setup = x := (rfl)
@[simp] theorem State.setSetup_signals (s : State) (x : Setup) : (s.setSetup x).signals = s.signals := (rfl)
@[simp] theorem State.setSetup_sense (s : State) (x : Setup) : (s.setSetup x).sense = s.sense := (rfl)
@[simp] theorem State.setSetup_line (s : State) (x : Setup) : (s.setSetup x).line = s.line := (rfl)
@[simp] theorem State.setSetup_doors (s : State) (x : Setup) : (s.setSetup x).doors = s.doors := (rfl)
@[simp] theorem State.setSetup_warnings (s : State) (x : Setup) : (s.setSetup x).warnings = s.warnings := (rfl)
@[simp] theorem State.setSetup_comp (s : State) (x : Setup) : (s.setSetup x).comp = s.comp := (rfl)
@[simp] theorem State.setSetup_gauges (s : State) (x : Setup) : (s.setSetup x).gauges = s.gauges := (rfl)
@[simp] theorem State.setSetup_faults (s : State) (x : Setup) : (s.setSetup x).faults = s.faults := (rfl)
@[simp] theorem State.setSetup_shop (s : State) (x : Setup) : (s.setSetup x).shop = s.shop := (rfl)
@[simp] theorem State.setSetup_outside (s : State) (x : Setup) : (s.setSetup x).outside = s.outside := (rfl)

/-! ### setSignals -/

@[simp] theorem State.setSignals_pending (s : State) (x : Table 128 Signal) : (s.setSignals x).pending = s.pending := (rfl)
@[simp] theorem State.setSignals_now (s : State) (x : Table 128 Signal) : (s.setSignals x).now = s.now := (rfl)
@[simp] theorem State.setSignals_run (s : State) (x : Table 128 Signal) : (s.setSignals x).run = s.run := (rfl)
@[simp] theorem State.setSignals_port (s : State) (x : Table 128 Signal) : (s.setSignals x).port = s.port := (rfl)
@[simp] theorem State.setSignals_mem (s : State) (x : Table 128 Signal) : (s.setSignals x).mem = s.mem := (rfl)
@[simp] theorem State.setSignals_setup (s : State) (x : Table 128 Signal) : (s.setSignals x).setup = s.setup := (rfl)
@[simp] theorem State.setSignals_signals (s : State) (x : Table 128 Signal) : (s.setSignals x).signals = x := (rfl)
@[simp] theorem State.setSignals_sense (s : State) (x : Table 128 Signal) : (s.setSignals x).sense = s.sense := (rfl)
@[simp] theorem State.setSignals_line (s : State) (x : Table 128 Signal) : (s.setSignals x).line = s.line := (rfl)
@[simp] theorem State.setSignals_doors (s : State) (x : Table 128 Signal) : (s.setSignals x).doors = s.doors := (rfl)
@[simp] theorem State.setSignals_warnings (s : State) (x : Table 128 Signal) : (s.setSignals x).warnings = s.warnings := (rfl)
@[simp] theorem State.setSignals_comp (s : State) (x : Table 128 Signal) : (s.setSignals x).comp = s.comp := (rfl)
@[simp] theorem State.setSignals_gauges (s : State) (x : Table 128 Signal) : (s.setSignals x).gauges = s.gauges := (rfl)
@[simp] theorem State.setSignals_faults (s : State) (x : Table 128 Signal) : (s.setSignals x).faults = s.faults := (rfl)
@[simp] theorem State.setSignals_shop (s : State) (x : Table 128 Signal) : (s.setSignals x).shop = s.shop := (rfl)
@[simp] theorem State.setSignals_outside (s : State) (x : Table 128 Signal) : (s.setSignals x).outside = s.outside := (rfl)

/-! ### setSense -/

@[simp] theorem State.setSense_pending (s : State) (x : SenseUnit) : (s.setSense x).pending = s.pending := (rfl)
@[simp] theorem State.setSense_now (s : State) (x : SenseUnit) : (s.setSense x).now = s.now := (rfl)
@[simp] theorem State.setSense_run (s : State) (x : SenseUnit) : (s.setSense x).run = s.run := (rfl)
@[simp] theorem State.setSense_port (s : State) (x : SenseUnit) : (s.setSense x).port = s.port := (rfl)
@[simp] theorem State.setSense_mem (s : State) (x : SenseUnit) : (s.setSense x).mem = s.mem := (rfl)
@[simp] theorem State.setSense_setup (s : State) (x : SenseUnit) : (s.setSense x).setup = s.setup := (rfl)
@[simp] theorem State.setSense_signals (s : State) (x : SenseUnit) : (s.setSense x).signals = s.signals := (rfl)
@[simp] theorem State.setSense_sense (s : State) (x : SenseUnit) : (s.setSense x).sense = x := (rfl)
@[simp] theorem State.setSense_line (s : State) (x : SenseUnit) : (s.setSense x).line = s.line := (rfl)
@[simp] theorem State.setSense_doors (s : State) (x : SenseUnit) : (s.setSense x).doors = s.doors := (rfl)
@[simp] theorem State.setSense_warnings (s : State) (x : SenseUnit) : (s.setSense x).warnings = s.warnings := (rfl)
@[simp] theorem State.setSense_comp (s : State) (x : SenseUnit) : (s.setSense x).comp = s.comp := (rfl)
@[simp] theorem State.setSense_gauges (s : State) (x : SenseUnit) : (s.setSense x).gauges = s.gauges := (rfl)
@[simp] theorem State.setSense_faults (s : State) (x : SenseUnit) : (s.setSense x).faults = s.faults := (rfl)
@[simp] theorem State.setSense_shop (s : State) (x : SenseUnit) : (s.setSense x).shop = s.shop := (rfl)
@[simp] theorem State.setSense_outside (s : State) (x : SenseUnit) : (s.setSense x).outside = s.outside := (rfl)

/-! ### setLine -/

@[simp] theorem State.setLine_pending (s : State) (x : BodyLine) : (s.setLine x).pending = s.pending := (rfl)
@[simp] theorem State.setLine_now (s : State) (x : BodyLine) : (s.setLine x).now = s.now := (rfl)
@[simp] theorem State.setLine_run (s : State) (x : BodyLine) : (s.setLine x).run = s.run := (rfl)
@[simp] theorem State.setLine_port (s : State) (x : BodyLine) : (s.setLine x).port = s.port := (rfl)
@[simp] theorem State.setLine_mem (s : State) (x : BodyLine) : (s.setLine x).mem = s.mem := (rfl)
@[simp] theorem State.setLine_setup (s : State) (x : BodyLine) : (s.setLine x).setup = s.setup := (rfl)
@[simp] theorem State.setLine_signals (s : State) (x : BodyLine) : (s.setLine x).signals = s.signals := (rfl)
@[simp] theorem State.setLine_sense (s : State) (x : BodyLine) : (s.setLine x).sense = s.sense := (rfl)
@[simp] theorem State.setLine_line (s : State) (x : BodyLine) : (s.setLine x).line = x := (rfl)
@[simp] theorem State.setLine_doors (s : State) (x : BodyLine) : (s.setLine x).doors = s.doors := (rfl)
@[simp] theorem State.setLine_warnings (s : State) (x : BodyLine) : (s.setLine x).warnings = s.warnings := (rfl)
@[simp] theorem State.setLine_comp (s : State) (x : BodyLine) : (s.setLine x).comp = s.comp := (rfl)
@[simp] theorem State.setLine_gauges (s : State) (x : BodyLine) : (s.setLine x).gauges = s.gauges := (rfl)
@[simp] theorem State.setLine_faults (s : State) (x : BodyLine) : (s.setLine x).faults = s.faults := (rfl)
@[simp] theorem State.setLine_shop (s : State) (x : BodyLine) : (s.setLine x).shop = s.shop := (rfl)
@[simp] theorem State.setLine_outside (s : State) (x : BodyLine) : (s.setLine x).outside = s.outside := (rfl)

/-! ### setDoors -/

@[simp] theorem State.setDoors_pending (s : State) (x : DoorUnit) : (s.setDoors x).pending = s.pending := (rfl)
@[simp] theorem State.setDoors_now (s : State) (x : DoorUnit) : (s.setDoors x).now = s.now := (rfl)
@[simp] theorem State.setDoors_run (s : State) (x : DoorUnit) : (s.setDoors x).run = s.run := (rfl)
@[simp] theorem State.setDoors_port (s : State) (x : DoorUnit) : (s.setDoors x).port = s.port := (rfl)
@[simp] theorem State.setDoors_mem (s : State) (x : DoorUnit) : (s.setDoors x).mem = s.mem := (rfl)
@[simp] theorem State.setDoors_setup (s : State) (x : DoorUnit) : (s.setDoors x).setup = s.setup := (rfl)
@[simp] theorem State.setDoors_signals (s : State) (x : DoorUnit) : (s.setDoors x).signals = s.signals := (rfl)
@[simp] theorem State.setDoors_sense (s : State) (x : DoorUnit) : (s.setDoors x).sense = s.sense := (rfl)
@[simp] theorem State.setDoors_line (s : State) (x : DoorUnit) : (s.setDoors x).line = s.line := (rfl)
@[simp] theorem State.setDoors_doors (s : State) (x : DoorUnit) : (s.setDoors x).doors = x := (rfl)
@[simp] theorem State.setDoors_warnings (s : State) (x : DoorUnit) : (s.setDoors x).warnings = s.warnings := (rfl)
@[simp] theorem State.setDoors_comp (s : State) (x : DoorUnit) : (s.setDoors x).comp = s.comp := (rfl)
@[simp] theorem State.setDoors_gauges (s : State) (x : DoorUnit) : (s.setDoors x).gauges = s.gauges := (rfl)
@[simp] theorem State.setDoors_faults (s : State) (x : DoorUnit) : (s.setDoors x).faults = s.faults := (rfl)
@[simp] theorem State.setDoors_shop (s : State) (x : DoorUnit) : (s.setDoors x).shop = s.shop := (rfl)
@[simp] theorem State.setDoors_outside (s : State) (x : DoorUnit) : (s.setDoors x).outside = s.outside := (rfl)

/-! ### setWarnings -/

@[simp] theorem State.setWarnings_pending (s : State) (x : Table 96 Warning) : (s.setWarnings x).pending = s.pending := (rfl)
@[simp] theorem State.setWarnings_now (s : State) (x : Table 96 Warning) : (s.setWarnings x).now = s.now := (rfl)
@[simp] theorem State.setWarnings_run (s : State) (x : Table 96 Warning) : (s.setWarnings x).run = s.run := (rfl)
@[simp] theorem State.setWarnings_port (s : State) (x : Table 96 Warning) : (s.setWarnings x).port = s.port := (rfl)
@[simp] theorem State.setWarnings_mem (s : State) (x : Table 96 Warning) : (s.setWarnings x).mem = s.mem := (rfl)
@[simp] theorem State.setWarnings_setup (s : State) (x : Table 96 Warning) : (s.setWarnings x).setup = s.setup := (rfl)
@[simp] theorem State.setWarnings_signals (s : State) (x : Table 96 Warning) : (s.setWarnings x).signals = s.signals := (rfl)
@[simp] theorem State.setWarnings_sense (s : State) (x : Table 96 Warning) : (s.setWarnings x).sense = s.sense := (rfl)
@[simp] theorem State.setWarnings_line (s : State) (x : Table 96 Warning) : (s.setWarnings x).line = s.line := (rfl)
@[simp] theorem State.setWarnings_doors (s : State) (x : Table 96 Warning) : (s.setWarnings x).doors = s.doors := (rfl)
@[simp] theorem State.setWarnings_warnings (s : State) (x : Table 96 Warning) : (s.setWarnings x).warnings = x := (rfl)
@[simp] theorem State.setWarnings_comp (s : State) (x : Table 96 Warning) : (s.setWarnings x).comp = s.comp := (rfl)
@[simp] theorem State.setWarnings_gauges (s : State) (x : Table 96 Warning) : (s.setWarnings x).gauges = s.gauges := (rfl)
@[simp] theorem State.setWarnings_faults (s : State) (x : Table 96 Warning) : (s.setWarnings x).faults = s.faults := (rfl)
@[simp] theorem State.setWarnings_shop (s : State) (x : Table 96 Warning) : (s.setWarnings x).shop = s.shop := (rfl)
@[simp] theorem State.setWarnings_outside (s : State) (x : Table 96 Warning) : (s.setWarnings x).outside = s.outside := (rfl)

/-! ### setComp -/

@[simp] theorem State.setComp_pending (s : State) (x : CompositionUnit) : (s.setComp x).pending = s.pending := (rfl)
@[simp] theorem State.setComp_now (s : State) (x : CompositionUnit) : (s.setComp x).now = s.now := (rfl)
@[simp] theorem State.setComp_run (s : State) (x : CompositionUnit) : (s.setComp x).run = s.run := (rfl)
@[simp] theorem State.setComp_port (s : State) (x : CompositionUnit) : (s.setComp x).port = s.port := (rfl)
@[simp] theorem State.setComp_mem (s : State) (x : CompositionUnit) : (s.setComp x).mem = s.mem := (rfl)
@[simp] theorem State.setComp_setup (s : State) (x : CompositionUnit) : (s.setComp x).setup = s.setup := (rfl)
@[simp] theorem State.setComp_signals (s : State) (x : CompositionUnit) : (s.setComp x).signals = s.signals := (rfl)
@[simp] theorem State.setComp_sense (s : State) (x : CompositionUnit) : (s.setComp x).sense = s.sense := (rfl)
@[simp] theorem State.setComp_line (s : State) (x : CompositionUnit) : (s.setComp x).line = s.line := (rfl)
@[simp] theorem State.setComp_doors (s : State) (x : CompositionUnit) : (s.setComp x).doors = s.doors := (rfl)
@[simp] theorem State.setComp_warnings (s : State) (x : CompositionUnit) : (s.setComp x).warnings = s.warnings := (rfl)
@[simp] theorem State.setComp_comp (s : State) (x : CompositionUnit) : (s.setComp x).comp = x := (rfl)
@[simp] theorem State.setComp_gauges (s : State) (x : CompositionUnit) : (s.setComp x).gauges = s.gauges := (rfl)
@[simp] theorem State.setComp_faults (s : State) (x : CompositionUnit) : (s.setComp x).faults = s.faults := (rfl)
@[simp] theorem State.setComp_shop (s : State) (x : CompositionUnit) : (s.setComp x).shop = s.shop := (rfl)
@[simp] theorem State.setComp_outside (s : State) (x : CompositionUnit) : (s.setComp x).outside = s.outside := (rfl)

/-! ### setGauges -/

@[simp] theorem State.setGauges_pending (s : State) (x : Table 6 Gauge) : (s.setGauges x).pending = s.pending := (rfl)
@[simp] theorem State.setGauges_now (s : State) (x : Table 6 Gauge) : (s.setGauges x).now = s.now := (rfl)
@[simp] theorem State.setGauges_run (s : State) (x : Table 6 Gauge) : (s.setGauges x).run = s.run := (rfl)
@[simp] theorem State.setGauges_port (s : State) (x : Table 6 Gauge) : (s.setGauges x).port = s.port := (rfl)
@[simp] theorem State.setGauges_mem (s : State) (x : Table 6 Gauge) : (s.setGauges x).mem = s.mem := (rfl)
@[simp] theorem State.setGauges_setup (s : State) (x : Table 6 Gauge) : (s.setGauges x).setup = s.setup := (rfl)
@[simp] theorem State.setGauges_signals (s : State) (x : Table 6 Gauge) : (s.setGauges x).signals = s.signals := (rfl)
@[simp] theorem State.setGauges_sense (s : State) (x : Table 6 Gauge) : (s.setGauges x).sense = s.sense := (rfl)
@[simp] theorem State.setGauges_line (s : State) (x : Table 6 Gauge) : (s.setGauges x).line = s.line := (rfl)
@[simp] theorem State.setGauges_doors (s : State) (x : Table 6 Gauge) : (s.setGauges x).doors = s.doors := (rfl)
@[simp] theorem State.setGauges_warnings (s : State) (x : Table 6 Gauge) : (s.setGauges x).warnings = s.warnings := (rfl)
@[simp] theorem State.setGauges_comp (s : State) (x : Table 6 Gauge) : (s.setGauges x).comp = s.comp := (rfl)
@[simp] theorem State.setGauges_gauges (s : State) (x : Table 6 Gauge) : (s.setGauges x).gauges = x := (rfl)
@[simp] theorem State.setGauges_faults (s : State) (x : Table 6 Gauge) : (s.setGauges x).faults = s.faults := (rfl)
@[simp] theorem State.setGauges_shop (s : State) (x : Table 6 Gauge) : (s.setGauges x).shop = s.shop := (rfl)
@[simp] theorem State.setGauges_outside (s : State) (x : Table 6 Gauge) : (s.setGauges x).outside = s.outside := (rfl)

/-! ### setFaults -/

@[simp] theorem State.setFaults_pending (s : State) (x : FaultMemory) : (s.setFaults x).pending = s.pending := (rfl)
@[simp] theorem State.setFaults_now (s : State) (x : FaultMemory) : (s.setFaults x).now = s.now := (rfl)
@[simp] theorem State.setFaults_run (s : State) (x : FaultMemory) : (s.setFaults x).run = s.run := (rfl)
@[simp] theorem State.setFaults_port (s : State) (x : FaultMemory) : (s.setFaults x).port = s.port := (rfl)
@[simp] theorem State.setFaults_mem (s : State) (x : FaultMemory) : (s.setFaults x).mem = s.mem := (rfl)
@[simp] theorem State.setFaults_setup (s : State) (x : FaultMemory) : (s.setFaults x).setup = s.setup := (rfl)
@[simp] theorem State.setFaults_signals (s : State) (x : FaultMemory) : (s.setFaults x).signals = s.signals := (rfl)
@[simp] theorem State.setFaults_sense (s : State) (x : FaultMemory) : (s.setFaults x).sense = s.sense := (rfl)
@[simp] theorem State.setFaults_line (s : State) (x : FaultMemory) : (s.setFaults x).line = s.line := (rfl)
@[simp] theorem State.setFaults_doors (s : State) (x : FaultMemory) : (s.setFaults x).doors = s.doors := (rfl)
@[simp] theorem State.setFaults_warnings (s : State) (x : FaultMemory) : (s.setFaults x).warnings = s.warnings := (rfl)
@[simp] theorem State.setFaults_comp (s : State) (x : FaultMemory) : (s.setFaults x).comp = s.comp := (rfl)
@[simp] theorem State.setFaults_gauges (s : State) (x : FaultMemory) : (s.setFaults x).gauges = s.gauges := (rfl)
@[simp] theorem State.setFaults_faults (s : State) (x : FaultMemory) : (s.setFaults x).faults = x := (rfl)
@[simp] theorem State.setFaults_shop (s : State) (x : FaultMemory) : (s.setFaults x).shop = s.shop := (rfl)
@[simp] theorem State.setFaults_outside (s : State) (x : FaultMemory) : (s.setFaults x).outside = s.outside := (rfl)

/-! ### setShop -/

@[simp] theorem State.setShop_pending (s : State) (x : Workshop) : (s.setShop x).pending = s.pending := (rfl)
@[simp] theorem State.setShop_now (s : State) (x : Workshop) : (s.setShop x).now = s.now := (rfl)
@[simp] theorem State.setShop_run (s : State) (x : Workshop) : (s.setShop x).run = s.run := (rfl)
@[simp] theorem State.setShop_port (s : State) (x : Workshop) : (s.setShop x).port = s.port := (rfl)
@[simp] theorem State.setShop_mem (s : State) (x : Workshop) : (s.setShop x).mem = s.mem := (rfl)
@[simp] theorem State.setShop_setup (s : State) (x : Workshop) : (s.setShop x).setup = s.setup := (rfl)
@[simp] theorem State.setShop_signals (s : State) (x : Workshop) : (s.setShop x).signals = s.signals := (rfl)
@[simp] theorem State.setShop_sense (s : State) (x : Workshop) : (s.setShop x).sense = s.sense := (rfl)
@[simp] theorem State.setShop_line (s : State) (x : Workshop) : (s.setShop x).line = s.line := (rfl)
@[simp] theorem State.setShop_doors (s : State) (x : Workshop) : (s.setShop x).doors = s.doors := (rfl)
@[simp] theorem State.setShop_warnings (s : State) (x : Workshop) : (s.setShop x).warnings = s.warnings := (rfl)
@[simp] theorem State.setShop_comp (s : State) (x : Workshop) : (s.setShop x).comp = s.comp := (rfl)
@[simp] theorem State.setShop_gauges (s : State) (x : Workshop) : (s.setShop x).gauges = s.gauges := (rfl)
@[simp] theorem State.setShop_faults (s : State) (x : Workshop) : (s.setShop x).faults = s.faults := (rfl)
@[simp] theorem State.setShop_shop (s : State) (x : Workshop) : (s.setShop x).shop = x := (rfl)
@[simp] theorem State.setShop_outside (s : State) (x : Workshop) : (s.setShop x).outside = s.outside := (rfl)

end Sys2Proof.Machine
end

