-- ==== Sys2Proof/Laws/Combinators.lean ====
section
/-! SUPPORT. What the shared combinators leave as it was: a loop, a condition or a timer changes an item of the state
only where what it does changes it. -/

namespace Sys2Proof.Machine

/-- A loop keeps what each of its rounds keeps. -/
theorem forEach_keeps {α : Type} (p : State → α) (l : List Nat) (f : Nat → State → State) (s : State)
    (h : ∀ i t, p (f i t) = p t) : p (forEach l f s) = p s := by
  unfold forEach
  induction l generalizing s with
  | nil => rfl
  | cons i l ih => simp only [List.foldl_cons]; rw [ih, h]

/-- A condition keeps what its branch keeps. -/
theorem when_keeps {α : Type} (p : State → α) (c : Bool) (f : State → State) (s : State)
    (h : ∀ t, p (f t) = p t) : p (when c f s) = p s := by
  unfold when
  split
  · exact h s
  · rfl

/-- A timer's event keeps what its effect keeps, but for the clock. -/
theorem onTimer_keeps {α : Type} (p : State → α) (timer : Option Nat) (f : Nat → State → State) (s : State)
    (hr : ∀ t due, p (State.reach t due) = p t) (h : ∀ d t, p (f d t) = p t) : p (onTimer timer f s) = p s := by
  unfold onTimer
  split
  · rw [h, hr]
  · rfl

/-- A fold over any list keeps what each of its steps keeps. -/
theorem foldl_keeps {α β : Type} (p : State → α) (l : List β) (f : State → β → State) (s : State)
    (h : ∀ t b, p (f t b) = p t) : p (l.foldl f s) = p s := by
  induction l generalizing s with
  | nil => rfl
  | cons b l ih => simp only [List.foldl_cons]; rw [ih, h]

@[simp] theorem when_false (f : State → State) (s : State) : when false f s = s := (rfl)
@[simp] theorem when_true (f : State → State) (s : State) : when true f s = f s := (rfl)
@[simp] theorem forEach_nil (f : Nat → State → State) (s : State) : forEach [] f s = s := (rfl)
@[simp] theorem forEach_cons (i : Nat) (l : List Nat) (f : Nat → State → State) (s : State) :
    forEach (i :: l) f s = forEach l f (f i s) := (rfl)
@[simp] theorem onTimer_none (f : Nat → State → State) (s : State) : onTimer none f s = s := (rfl)
@[simp] theorem onTimer_some (due : Nat) (f : Nat → State → State) (s : State) :
    onTimer (some due) f s = f due (s.reach due) := (rfl)

@[simp] theorem forEach_pending (l : List Nat) (f : Nat → State → State) (s : State)
    (h : ∀ i t, (f i t).pending = t.pending) : (forEach l f s).pending = s.pending := forEach_keeps (·.pending) l f s h
@[simp] theorem when_pending (c : Bool) (f : State → State) (s : State) (h : ∀ t, (f t).pending = t.pending) :
    (when c f s).pending = s.pending := when_keeps (·.pending) c f s h
@[simp] theorem foldl_pending {α : Type} (l : List α) (f : State → α → State) (s : State)
    (h : ∀ t b, (f t b).pending = t.pending) : (l.foldl f s).pending = s.pending := foldl_keeps (·.pending) l f s h
@[simp] theorem State.reach_pending (s : State) (due : Nat) : (s.reach due).pending = s.pending := (rfl)
@[simp] theorem onTimer_pending (timer : Option Nat) (f : Nat → State → State) (s : State)
    (h : ∀ d t, (f d t).pending = t.pending) : (onTimer timer f s).pending = s.pending :=
  onTimer_keeps (·.pending) timer f s (fun _ _ => rfl) h

@[simp] theorem forEach_now (l : List Nat) (f : Nat → State → State) (s : State)
    (h : ∀ i t, (f i t).now = t.now) : (forEach l f s).now = s.now := forEach_keeps (·.now) l f s h
@[simp] theorem when_now (c : Bool) (f : State → State) (s : State) (h : ∀ t, (f t).now = t.now) :
    (when c f s).now = s.now := when_keeps (·.now) c f s h
@[simp] theorem foldl_now {α : Type} (l : List α) (f : State → α → State) (s : State)
    (h : ∀ t b, (f t b).now = t.now) : (l.foldl f s).now = s.now := foldl_keeps (·.now) l f s h

@[simp] theorem forEach_run (l : List Nat) (f : Nat → State → State) (s : State)
    (h : ∀ i t, (f i t).run = t.run) : (forEach l f s).run = s.run := forEach_keeps (·.run) l f s h
@[simp] theorem when_run (c : Bool) (f : State → State) (s : State) (h : ∀ t, (f t).run = t.run) :
    (when c f s).run = s.run := when_keeps (·.run) c f s h
@[simp] theorem foldl_run {α : Type} (l : List α) (f : State → α → State) (s : State)
    (h : ∀ t b, (f t b).run = t.run) : (l.foldl f s).run = s.run := foldl_keeps (·.run) l f s h
@[simp] theorem State.reach_run (s : State) (due : Nat) : (s.reach due).run = s.run := (rfl)
@[simp] theorem onTimer_run (timer : Option Nat) (f : Nat → State → State) (s : State)
    (h : ∀ d t, (f d t).run = t.run) : (onTimer timer f s).run = s.run :=
  onTimer_keeps (·.run) timer f s (fun _ _ => rfl) h

@[simp] theorem forEach_port (l : List Nat) (f : Nat → State → State) (s : State)
    (h : ∀ i t, (f i t).port = t.port) : (forEach l f s).port = s.port := forEach_keeps (·.port) l f s h
@[simp] theorem when_port (c : Bool) (f : State → State) (s : State) (h : ∀ t, (f t).port = t.port) :
    (when c f s).port = s.port := when_keeps (·.port) c f s h
@[simp] theorem foldl_port {α : Type} (l : List α) (f : State → α → State) (s : State)
    (h : ∀ t b, (f t b).port = t.port) : (l.foldl f s).port = s.port := foldl_keeps (·.port) l f s h
@[simp] theorem State.reach_port (s : State) (due : Nat) : (s.reach due).port = s.port := (rfl)
@[simp] theorem onTimer_port (timer : Option Nat) (f : Nat → State → State) (s : State)
    (h : ∀ d t, (f d t).port = t.port) : (onTimer timer f s).port = s.port :=
  onTimer_keeps (·.port) timer f s (fun _ _ => rfl) h

@[simp] theorem forEach_mem (l : List Nat) (f : Nat → State → State) (s : State)
    (h : ∀ i t, (f i t).mem = t.mem) : (forEach l f s).mem = s.mem := forEach_keeps (·.mem) l f s h
@[simp] theorem when_mem (c : Bool) (f : State → State) (s : State) (h : ∀ t, (f t).mem = t.mem) :
    (when c f s).mem = s.mem := when_keeps (·.mem) c f s h
@[simp] theorem foldl_mem {α : Type} (l : List α) (f : State → α → State) (s : State)
    (h : ∀ t b, (f t b).mem = t.mem) : (l.foldl f s).mem = s.mem := foldl_keeps (·.mem) l f s h
@[simp] theorem State.reach_mem (s : State) (due : Nat) : (s.reach due).mem = s.mem := (rfl)
@[simp] theorem onTimer_mem (timer : Option Nat) (f : Nat → State → State) (s : State)
    (h : ∀ d t, (f d t).mem = t.mem) : (onTimer timer f s).mem = s.mem :=
  onTimer_keeps (·.mem) timer f s (fun _ _ => rfl) h

@[simp] theorem forEach_setup (l : List Nat) (f : Nat → State → State) (s : State)
    (h : ∀ i t, (f i t).setup = t.setup) : (forEach l f s).setup = s.setup := forEach_keeps (·.setup) l f s h
@[simp] theorem when_setup (c : Bool) (f : State → State) (s : State) (h : ∀ t, (f t).setup = t.setup) :
    (when c f s).setup = s.setup := when_keeps (·.setup) c f s h
@[simp] theorem foldl_setup {α : Type} (l : List α) (f : State → α → State) (s : State)
    (h : ∀ t b, (f t b).setup = t.setup) : (l.foldl f s).setup = s.setup := foldl_keeps (·.setup) l f s h
@[simp] theorem State.reach_setup (s : State) (due : Nat) : (s.reach due).setup = s.setup := (rfl)
@[simp] theorem onTimer_setup (timer : Option Nat) (f : Nat → State → State) (s : State)
    (h : ∀ d t, (f d t).setup = t.setup) : (onTimer timer f s).setup = s.setup :=
  onTimer_keeps (·.setup) timer f s (fun _ _ => rfl) h

@[simp] theorem forEach_signals (l : List Nat) (f : Nat → State → State) (s : State)
    (h : ∀ i t, (f i t).signals = t.signals) : (forEach l f s).signals = s.signals := forEach_keeps (·.signals) l f s h
@[simp] theorem when_signals (c : Bool) (f : State → State) (s : State) (h : ∀ t, (f t).signals = t.signals) :
    (when c f s).signals = s.signals := when_keeps (·.signals) c f s h
@[simp] theorem foldl_signals {α : Type} (l : List α) (f : State → α → State) (s : State)
    (h : ∀ t b, (f t b).signals = t.signals) : (l.foldl f s).signals = s.signals := foldl_keeps (·.signals) l f s h
@[simp] theorem State.reach_signals (s : State) (due : Nat) : (s.reach due).signals = s.signals := (rfl)
@[simp] theorem onTimer_signals (timer : Option Nat) (f : Nat → State → State) (s : State)
    (h : ∀ d t, (f d t).signals = t.signals) : (onTimer timer f s).signals = s.signals :=
  onTimer_keeps (·.signals) timer f s (fun _ _ => rfl) h

@[simp] theorem forEach_sense (l : List Nat) (f : Nat → State → State) (s : State)
    (h : ∀ i t, (f i t).sense = t.sense) : (forEach l f s).sense = s.sense := forEach_keeps (·.sense) l f s h
@[simp] theorem when_sense (c : Bool) (f : State → State) (s : State) (h : ∀ t, (f t).sense = t.sense) :
    (when c f s).sense = s.sense := when_keeps (·.sense) c f s h
@[simp] theorem foldl_sense {α : Type} (l : List α) (f : State → α → State) (s : State)
    (h : ∀ t b, (f t b).sense = t.sense) : (l.foldl f s).sense = s.sense := foldl_keeps (·.sense) l f s h
@[simp] theorem State.reach_sense (s : State) (due : Nat) : (s.reach due).sense = s.sense := (rfl)
@[simp] theorem onTimer_sense (timer : Option Nat) (f : Nat → State → State) (s : State)
    (h : ∀ d t, (f d t).sense = t.sense) : (onTimer timer f s).sense = s.sense :=
  onTimer_keeps (·.sense) timer f s (fun _ _ => rfl) h

@[simp] theorem forEach_line (l : List Nat) (f : Nat → State → State) (s : State)
    (h : ∀ i t, (f i t).line = t.line) : (forEach l f s).line = s.line := forEach_keeps (·.line) l f s h
@[simp] theorem when_line (c : Bool) (f : State → State) (s : State) (h : ∀ t, (f t).line = t.line) :
    (when c f s).line = s.line := when_keeps (·.line) c f s h
@[simp] theorem foldl_line {α : Type} (l : List α) (f : State → α → State) (s : State)
    (h : ∀ t b, (f t b).line = t.line) : (l.foldl f s).line = s.line := foldl_keeps (·.line) l f s h
@[simp] theorem State.reach_line (s : State) (due : Nat) : (s.reach due).line = s.line := (rfl)
@[simp] theorem onTimer_line (timer : Option Nat) (f : Nat → State → State) (s : State)
    (h : ∀ d t, (f d t).line = t.line) : (onTimer timer f s).line = s.line :=
  onTimer_keeps (·.line) timer f s (fun _ _ => rfl) h

@[simp] theorem forEach_doors (l : List Nat) (f : Nat → State → State) (s : State)
    (h : ∀ i t, (f i t).doors = t.doors) : (forEach l f s).doors = s.doors := forEach_keeps (·.doors) l f s h
@[simp] theorem when_doors (c : Bool) (f : State → State) (s : State) (h : ∀ t, (f t).doors = t.doors) :
    (when c f s).doors = s.doors := when_keeps (·.doors) c f s h
@[simp] theorem foldl_doors {α : Type} (l : List α) (f : State → α → State) (s : State)
    (h : ∀ t b, (f t b).doors = t.doors) : (l.foldl f s).doors = s.doors := foldl_keeps (·.doors) l f s h
@[simp] theorem State.reach_doors (s : State) (due : Nat) : (s.reach due).doors = s.doors := (rfl)
@[simp] theorem onTimer_doors (timer : Option Nat) (f : Nat → State → State) (s : State)
    (h : ∀ d t, (f d t).doors = t.doors) : (onTimer timer f s).doors = s.doors :=
  onTimer_keeps (·.doors) timer f s (fun _ _ => rfl) h

@[simp] theorem forEach_warnings (l : List Nat) (f : Nat → State → State) (s : State)
    (h : ∀ i t, (f i t).warnings = t.warnings) : (forEach l f s).warnings = s.warnings := forEach_keeps (·.warnings) l f s h
@[simp] theorem when_warnings (c : Bool) (f : State → State) (s : State) (h : ∀ t, (f t).warnings = t.warnings) :
    (when c f s).warnings = s.warnings := when_keeps (·.warnings) c f s h
@[simp] theorem foldl_warnings {α : Type} (l : List α) (f : State → α → State) (s : State)
    (h : ∀ t b, (f t b).warnings = t.warnings) : (l.foldl f s).warnings = s.warnings := foldl_keeps (·.warnings) l f s h
@[simp] theorem State.reach_warnings (s : State) (due : Nat) : (s.reach due).warnings = s.warnings := (rfl)
@[simp] theorem onTimer_warnings (timer : Option Nat) (f : Nat → State → State) (s : State)
    (h : ∀ d t, (f d t).warnings = t.warnings) : (onTimer timer f s).warnings = s.warnings :=
  onTimer_keeps (·.warnings) timer f s (fun _ _ => rfl) h

@[simp] theorem forEach_comp (l : List Nat) (f : Nat → State → State) (s : State)
    (h : ∀ i t, (f i t).comp = t.comp) : (forEach l f s).comp = s.comp := forEach_keeps (·.comp) l f s h
@[simp] theorem when_comp (c : Bool) (f : State → State) (s : State) (h : ∀ t, (f t).comp = t.comp) :
    (when c f s).comp = s.comp := when_keeps (·.comp) c f s h
@[simp] theorem foldl_comp {α : Type} (l : List α) (f : State → α → State) (s : State)
    (h : ∀ t b, (f t b).comp = t.comp) : (l.foldl f s).comp = s.comp := foldl_keeps (·.comp) l f s h
@[simp] theorem State.reach_comp (s : State) (due : Nat) : (s.reach due).comp = s.comp := (rfl)
@[simp] theorem onTimer_comp (timer : Option Nat) (f : Nat → State → State) (s : State)
    (h : ∀ d t, (f d t).comp = t.comp) : (onTimer timer f s).comp = s.comp :=
  onTimer_keeps (·.comp) timer f s (fun _ _ => rfl) h

@[simp] theorem forEach_gauges (l : List Nat) (f : Nat → State → State) (s : State)
    (h : ∀ i t, (f i t).gauges = t.gauges) : (forEach l f s).gauges = s.gauges := forEach_keeps (·.gauges) l f s h
@[simp] theorem when_gauges (c : Bool) (f : State → State) (s : State) (h : ∀ t, (f t).gauges = t.gauges) :
    (when c f s).gauges = s.gauges := when_keeps (·.gauges) c f s h
@[simp] theorem foldl_gauges {α : Type} (l : List α) (f : State → α → State) (s : State)
    (h : ∀ t b, (f t b).gauges = t.gauges) : (l.foldl f s).gauges = s.gauges := foldl_keeps (·.gauges) l f s h
@[simp] theorem State.reach_gauges (s : State) (due : Nat) : (s.reach due).gauges = s.gauges := (rfl)
@[simp] theorem onTimer_gauges (timer : Option Nat) (f : Nat → State → State) (s : State)
    (h : ∀ d t, (f d t).gauges = t.gauges) : (onTimer timer f s).gauges = s.gauges :=
  onTimer_keeps (·.gauges) timer f s (fun _ _ => rfl) h

@[simp] theorem forEach_faults (l : List Nat) (f : Nat → State → State) (s : State)
    (h : ∀ i t, (f i t).faults = t.faults) : (forEach l f s).faults = s.faults := forEach_keeps (·.faults) l f s h
@[simp] theorem when_faults (c : Bool) (f : State → State) (s : State) (h : ∀ t, (f t).faults = t.faults) :
    (when c f s).faults = s.faults := when_keeps (·.faults) c f s h
@[simp] theorem foldl_faults {α : Type} (l : List α) (f : State → α → State) (s : State)
    (h : ∀ t b, (f t b).faults = t.faults) : (l.foldl f s).faults = s.faults := foldl_keeps (·.faults) l f s h
@[simp] theorem State.reach_faults (s : State) (due : Nat) : (s.reach due).faults = s.faults := (rfl)
@[simp] theorem onTimer_faults (timer : Option Nat) (f : Nat → State → State) (s : State)
    (h : ∀ d t, (f d t).faults = t.faults) : (onTimer timer f s).faults = s.faults :=
  onTimer_keeps (·.faults) timer f s (fun _ _ => rfl) h

@[simp] theorem forEach_shop (l : List Nat) (f : Nat → State → State) (s : State)
    (h : ∀ i t, (f i t).shop = t.shop) : (forEach l f s).shop = s.shop := forEach_keeps (·.shop) l f s h
@[simp] theorem when_shop (c : Bool) (f : State → State) (s : State) (h : ∀ t, (f t).shop = t.shop) :
    (when c f s).shop = s.shop := when_keeps (·.shop) c f s h
@[simp] theorem foldl_shop {α : Type} (l : List α) (f : State → α → State) (s : State)
    (h : ∀ t b, (f t b).shop = t.shop) : (l.foldl f s).shop = s.shop := foldl_keeps (·.shop) l f s h
@[simp] theorem State.reach_shop (s : State) (due : Nat) : (s.reach due).shop = s.shop := (rfl)
@[simp] theorem onTimer_shop (timer : Option Nat) (f : Nat → State → State) (s : State)
    (h : ∀ d t, (f d t).shop = t.shop) : (onTimer timer f s).shop = s.shop :=
  onTimer_keeps (·.shop) timer f s (fun _ _ => rfl) h

@[simp] theorem forEach_outside (l : List Nat) (f : Nat → State → State) (s : State)
    (h : ∀ i t, (f i t).outside = t.outside) : (forEach l f s).outside = s.outside := forEach_keeps (·.outside) l f s h
@[simp] theorem when_outside (c : Bool) (f : State → State) (s : State) (h : ∀ t, (f t).outside = t.outside) :
    (when c f s).outside = s.outside := when_keeps (·.outside) c f s h
@[simp] theorem foldl_outside {α : Type} (l : List α) (f : State → α → State) (s : State)
    (h : ∀ t b, (f t b).outside = t.outside) : (l.foldl f s).outside = s.outside := foldl_keeps (·.outside) l f s h
@[simp] theorem State.reach_outside (s : State) (due : Nat) : (s.reach due).outside = s.outside := (rfl)
@[simp] theorem onTimer_outside (timer : Option Nat) (f : Nat → State → State) (s : State)
    (h : ∀ d t, (f d t).outside = t.outside) : (onTimer timer f s).outside = s.outside :=
  onTimer_keeps (·.outside) timer f s (fun _ _ => rfl) h

@[simp] theorem forEach_run_state (l : List Nat) (f : Nat → State → State) (s : State)
    (h : ∀ i t, (f i t).run.state = t.run.state) : (forEach l f s).run.state = s.run.state := forEach_keeps (·.run.state) l f s h
@[simp] theorem when_run_state (c : Bool) (f : State → State) (s : State) (h : ∀ t, (f t).run.state = t.run.state) :
    (when c f s).run.state = s.run.state := when_keeps (·.run.state) c f s h
@[simp] theorem foldl_run_state {α : Type} (l : List α) (f : State → α → State) (s : State)
    (h : ∀ t b, (f t b).run.state = t.run.state) : (l.foldl f s).run.state = s.run.state := foldl_keeps (·.run.state) l f s h
@[simp] theorem State.reach_run_state (s : State) (due : Nat) : (s.reach due).run.state = s.run.state := (rfl)
@[simp] theorem onTimer_run_state (timer : Option Nat) (f : Nat → State → State) (s : State)
    (h : ∀ d t, (f d t).run.state = t.run.state) : (onTimer timer f s).run.state = s.run.state :=
  onTimer_keeps (·.run.state) timer f s (fun _ _ => rfl) h

@[simp] theorem forEach_port_noticeRead (l : List Nat) (f : Nat → State → State) (s : State)
    (h : ∀ i t, (f i t).port.noticeRead = t.port.noticeRead) : (forEach l f s).port.noticeRead = s.port.noticeRead := forEach_keeps (·.port.noticeRead) l f s h
@[simp] theorem when_port_noticeRead (c : Bool) (f : State → State) (s : State) (h : ∀ t, (f t).port.noticeRead = t.port.noticeRead) :
    (when c f s).port.noticeRead = s.port.noticeRead := when_keeps (·.port.noticeRead) c f s h
@[simp] theorem foldl_port_noticeRead {α : Type} (l : List α) (f : State → α → State) (s : State)
    (h : ∀ t b, (f t b).port.noticeRead = t.port.noticeRead) : (l.foldl f s).port.noticeRead = s.port.noticeRead := foldl_keeps (·.port.noticeRead) l f s h
@[simp] theorem State.reach_port_noticeRead (s : State) (due : Nat) : (s.reach due).port.noticeRead = s.port.noticeRead := (rfl)
@[simp] theorem onTimer_port_noticeRead (timer : Option Nat) (f : Nat → State → State) (s : State)
    (h : ∀ d t, (f d t).port.noticeRead = t.port.noticeRead) : (onTimer timer f s).port.noticeRead = s.port.noticeRead :=
  onTimer_keeps (·.port.noticeRead) timer f s (fun _ _ => rfl) h

@[simp] theorem forEach_port_intEnable (l : List Nat) (f : Nat → State → State) (s : State)
    (h : ∀ i t, (f i t).port.intEnable = t.port.intEnable) : (forEach l f s).port.intEnable = s.port.intEnable := forEach_keeps (·.port.intEnable) l f s h
@[simp] theorem when_port_intEnable (c : Bool) (f : State → State) (s : State) (h : ∀ t, (f t).port.intEnable = t.port.intEnable) :
    (when c f s).port.intEnable = s.port.intEnable := when_keeps (·.port.intEnable) c f s h
@[simp] theorem foldl_port_intEnable {α : Type} (l : List α) (f : State → α → State) (s : State)
    (h : ∀ t b, (f t b).port.intEnable = t.port.intEnable) : (l.foldl f s).port.intEnable = s.port.intEnable := foldl_keeps (·.port.intEnable) l f s h
@[simp] theorem State.reach_port_intEnable (s : State) (due : Nat) : (s.reach due).port.intEnable = s.port.intEnable := (rfl)
@[simp] theorem onTimer_port_intEnable (timer : Option Nat) (f : Nat → State → State) (s : State)
    (h : ∀ d t, (f d t).port.intEnable = t.port.intEnable) : (onTimer timer f s).port.intEnable = s.port.intEnable :=
  onTimer_keeps (·.port.intEnable) timer f s (fun _ _ => rfl) h

@[simp] theorem forEach_port_displayLost (l : List Nat) (f : Nat → State → State) (s : State)
    (h : ∀ i t, (f i t).port.displayLost = t.port.displayLost) : (forEach l f s).port.displayLost = s.port.displayLost := forEach_keeps (·.port.displayLost) l f s h
@[simp] theorem when_port_displayLost (c : Bool) (f : State → State) (s : State) (h : ∀ t, (f t).port.displayLost = t.port.displayLost) :
    (when c f s).port.displayLost = s.port.displayLost := when_keeps (·.port.displayLost) c f s h
@[simp] theorem foldl_port_displayLost {α : Type} (l : List α) (f : State → α → State) (s : State)
    (h : ∀ t b, (f t b).port.displayLost = t.port.displayLost) : (l.foldl f s).port.displayLost = s.port.displayLost := foldl_keeps (·.port.displayLost) l f s h
@[simp] theorem State.reach_port_displayLost (s : State) (due : Nat) : (s.reach due).port.displayLost = s.port.displayLost := (rfl)
@[simp] theorem onTimer_port_displayLost (timer : Option Nat) (f : Nat → State → State) (s : State)
    (h : ∀ d t, (f d t).port.displayLost = t.port.displayLost) : (onTimer timer f s).port.displayLost = s.port.displayLost :=
  onTimer_keeps (·.port.displayLost) timer f s (fun _ _ => rfl) h

@[simp] theorem forEach_port_livenessTimer (l : List Nat) (f : Nat → State → State) (s : State)
    (h : ∀ i t, (f i t).port.livenessTimer = t.port.livenessTimer) : (forEach l f s).port.livenessTimer = s.port.livenessTimer := forEach_keeps (·.port.livenessTimer) l f s h
@[simp] theorem when_port_livenessTimer (c : Bool) (f : State → State) (s : State) (h : ∀ t, (f t).port.livenessTimer = t.port.livenessTimer) :
    (when c f s).port.livenessTimer = s.port.livenessTimer := when_keeps (·.port.livenessTimer) c f s h
@[simp] theorem foldl_port_livenessTimer {α : Type} (l : List α) (f : State → α → State) (s : State)
    (h : ∀ t b, (f t b).port.livenessTimer = t.port.livenessTimer) : (l.foldl f s).port.livenessTimer = s.port.livenessTimer := foldl_keeps (·.port.livenessTimer) l f s h
@[simp] theorem State.reach_port_livenessTimer (s : State) (due : Nat) : (s.reach due).port.livenessTimer = s.port.livenessTimer := (rfl)
@[simp] theorem onTimer_port_livenessTimer (timer : Option Nat) (f : Nat → State → State) (s : State)
    (h : ∀ d t, (f d t).port.livenessTimer = t.port.livenessTimer) : (onTimer timer f s).port.livenessTimer = s.port.livenessTimer :=
  onTimer_keeps (·.port.livenessTimer) timer f s (fun _ _ => rfl) h

@[simp] theorem forEach_port_sweepTimer (l : List Nat) (f : Nat → State → State) (s : State)
    (h : ∀ i t, (f i t).port.sweepTimer = t.port.sweepTimer) : (forEach l f s).port.sweepTimer = s.port.sweepTimer := forEach_keeps (·.port.sweepTimer) l f s h
@[simp] theorem when_port_sweepTimer (c : Bool) (f : State → State) (s : State) (h : ∀ t, (f t).port.sweepTimer = t.port.sweepTimer) :
    (when c f s).port.sweepTimer = s.port.sweepTimer := when_keeps (·.port.sweepTimer) c f s h
@[simp] theorem foldl_port_sweepTimer {α : Type} (l : List α) (f : State → α → State) (s : State)
    (h : ∀ t b, (f t b).port.sweepTimer = t.port.sweepTimer) : (l.foldl f s).port.sweepTimer = s.port.sweepTimer := foldl_keeps (·.port.sweepTimer) l f s h
@[simp] theorem State.reach_port_sweepTimer (s : State) (due : Nat) : (s.reach due).port.sweepTimer = s.port.sweepTimer := (rfl)
@[simp] theorem onTimer_port_sweepTimer (timer : Option Nat) (f : Nat → State → State) (s : State)
    (h : ∀ d t, (f d t).port.sweepTimer = t.port.sweepTimer) : (onTimer timer f s).port.sweepTimer = s.port.sweepTimer :=
  onTimer_keeps (·.port.sweepTimer) timer f s (fun _ _ => rfl) h

@[simp] theorem forEach_port_sweepPlace (l : List Nat) (f : Nat → State → State) (s : State)
    (h : ∀ i t, (f i t).port.sweepPlace = t.port.sweepPlace) : (forEach l f s).port.sweepPlace = s.port.sweepPlace := forEach_keeps (·.port.sweepPlace) l f s h
@[simp] theorem when_port_sweepPlace (c : Bool) (f : State → State) (s : State) (h : ∀ t, (f t).port.sweepPlace = t.port.sweepPlace) :
    (when c f s).port.sweepPlace = s.port.sweepPlace := when_keeps (·.port.sweepPlace) c f s h
@[simp] theorem foldl_port_sweepPlace {α : Type} (l : List α) (f : State → α → State) (s : State)
    (h : ∀ t b, (f t b).port.sweepPlace = t.port.sweepPlace) : (l.foldl f s).port.sweepPlace = s.port.sweepPlace := foldl_keeps (·.port.sweepPlace) l f s h
@[simp] theorem State.reach_port_sweepPlace (s : State) (due : Nat) : (s.reach due).port.sweepPlace = s.port.sweepPlace := (rfl)
@[simp] theorem onTimer_port_sweepPlace (timer : Option Nat) (f : Nat → State → State) (s : State)
    (h : ∀ d t, (f d t).port.sweepPlace = t.port.sweepPlace) : (onTimer timer f s).port.sweepPlace = s.port.sweepPlace :=
  onTimer_keeps (·.port.sweepPlace) timer f s (fun _ _ => rfl) h

@[simp] theorem forEach_port_sweepHeld (l : List Nat) (f : Nat → State → State) (s : State)
    (h : ∀ i t, (f i t).port.sweepHeld = t.port.sweepHeld) : (forEach l f s).port.sweepHeld = s.port.sweepHeld := forEach_keeps (·.port.sweepHeld) l f s h
@[simp] theorem when_port_sweepHeld (c : Bool) (f : State → State) (s : State) (h : ∀ t, (f t).port.sweepHeld = t.port.sweepHeld) :
    (when c f s).port.sweepHeld = s.port.sweepHeld := when_keeps (·.port.sweepHeld) c f s h
@[simp] theorem foldl_port_sweepHeld {α : Type} (l : List α) (f : State → α → State) (s : State)
    (h : ∀ t b, (f t b).port.sweepHeld = t.port.sweepHeld) : (l.foldl f s).port.sweepHeld = s.port.sweepHeld := foldl_keeps (·.port.sweepHeld) l f s h
@[simp] theorem State.reach_port_sweepHeld (s : State) (due : Nat) : (s.reach due).port.sweepHeld = s.port.sweepHeld := (rfl)
@[simp] theorem onTimer_port_sweepHeld (timer : Option Nat) (f : Nat → State → State) (s : State)
    (h : ∀ d t, (f d t).port.sweepHeld = t.port.sweepHeld) : (onTimer timer f s).port.sweepHeld = s.port.sweepHeld :=
  onTimer_keeps (·.port.sweepHeld) timer f s (fun _ _ => rfl) h

@[simp] theorem forEach_port_sweepCount (l : List Nat) (f : Nat → State → State) (s : State)
    (h : ∀ i t, (f i t).port.sweepCount = t.port.sweepCount) : (forEach l f s).port.sweepCount = s.port.sweepCount := forEach_keeps (·.port.sweepCount) l f s h
@[simp] theorem when_port_sweepCount (c : Bool) (f : State → State) (s : State) (h : ∀ t, (f t).port.sweepCount = t.port.sweepCount) :
    (when c f s).port.sweepCount = s.port.sweepCount := when_keeps (·.port.sweepCount) c f s h
@[simp] theorem foldl_port_sweepCount {α : Type} (l : List α) (f : State → α → State) (s : State)
    (h : ∀ t b, (f t b).port.sweepCount = t.port.sweepCount) : (l.foldl f s).port.sweepCount = s.port.sweepCount := foldl_keeps (·.port.sweepCount) l f s h
@[simp] theorem State.reach_port_sweepCount (s : State) (due : Nat) : (s.reach due).port.sweepCount = s.port.sweepCount := (rfl)
@[simp] theorem onTimer_port_sweepCount (timer : Option Nat) (f : Nat → State → State) (s : State)
    (h : ∀ d t, (f d t).port.sweepCount = t.port.sweepCount) : (onTimer timer f s).port.sweepCount = s.port.sweepCount :=
  onTimer_keeps (·.port.sweepCount) timer f s (fun _ _ => rfl) h

@[simp] theorem forEach_port_writeRefused (l : List Nat) (f : Nat → State → State) (s : State)
    (h : ∀ i t, (f i t).port.writeRefused = t.port.writeRefused) : (forEach l f s).port.writeRefused = s.port.writeRefused := forEach_keeps (·.port.writeRefused) l f s h
@[simp] theorem when_port_writeRefused (c : Bool) (f : State → State) (s : State) (h : ∀ t, (f t).port.writeRefused = t.port.writeRefused) :
    (when c f s).port.writeRefused = s.port.writeRefused := when_keeps (·.port.writeRefused) c f s h
@[simp] theorem foldl_port_writeRefused {α : Type} (l : List α) (f : State → α → State) (s : State)
    (h : ∀ t b, (f t b).port.writeRefused = t.port.writeRefused) : (l.foldl f s).port.writeRefused = s.port.writeRefused := foldl_keeps (·.port.writeRefused) l f s h
@[simp] theorem State.reach_port_writeRefused (s : State) (due : Nat) : (s.reach due).port.writeRefused = s.port.writeRefused := (rfl)
@[simp] theorem onTimer_port_writeRefused (timer : Option Nat) (f : Nat → State → State) (s : State)
    (h : ∀ d t, (f d t).port.writeRefused = t.port.writeRefused) : (onTimer timer f s).port.writeRefused = s.port.writeRefused :=
  onTimer_keeps (·.port.writeRefused) timer f s (fun _ _ => rfl) h

@[simp] theorem forEach_port_refusedAddress (l : List Nat) (f : Nat → State → State) (s : State)
    (h : ∀ i t, (f i t).port.refusedAddress = t.port.refusedAddress) : (forEach l f s).port.refusedAddress = s.port.refusedAddress := forEach_keeps (·.port.refusedAddress) l f s h
@[simp] theorem when_port_refusedAddress (c : Bool) (f : State → State) (s : State) (h : ∀ t, (f t).port.refusedAddress = t.port.refusedAddress) :
    (when c f s).port.refusedAddress = s.port.refusedAddress := when_keeps (·.port.refusedAddress) c f s h
@[simp] theorem foldl_port_refusedAddress {α : Type} (l : List α) (f : State → α → State) (s : State)
    (h : ∀ t b, (f t b).port.refusedAddress = t.port.refusedAddress) : (l.foldl f s).port.refusedAddress = s.port.refusedAddress := foldl_keeps (·.port.refusedAddress) l f s h
@[simp] theorem State.reach_port_refusedAddress (s : State) (due : Nat) : (s.reach due).port.refusedAddress = s.port.refusedAddress := (rfl)
@[simp] theorem onTimer_port_refusedAddress (timer : Option Nat) (f : Nat → State → State) (s : State)
    (h : ∀ d t, (f d t).port.refusedAddress = t.port.refusedAddress) : (onTimer timer f s).port.refusedAddress = s.port.refusedAddress :=
  onTimer_keeps (·.port.refusedAddress) timer f s (fun _ _ => rfl) h

@[simp] theorem forEach_doors_motion (l : List Nat) (f : Nat → State → State) (s : State)
    (h : ∀ i t, (f i t).doors.motion = t.doors.motion) : (forEach l f s).doors.motion = s.doors.motion := forEach_keeps (·.doors.motion) l f s h
@[simp] theorem when_doors_motion (c : Bool) (f : State → State) (s : State) (h : ∀ t, (f t).doors.motion = t.doors.motion) :
    (when c f s).doors.motion = s.doors.motion := when_keeps (·.doors.motion) c f s h
@[simp] theorem foldl_doors_motion {α : Type} (l : List α) (f : State → α → State) (s : State)
    (h : ∀ t b, (f t b).doors.motion = t.doors.motion) : (l.foldl f s).doors.motion = s.doors.motion := foldl_keeps (·.doors.motion) l f s h
@[simp] theorem State.reach_doors_motion (s : State) (due : Nat) : (s.reach due).doors.motion = s.doors.motion := (rfl)
@[simp] theorem onTimer_doors_motion (timer : Option Nat) (f : Nat → State → State) (s : State)
    (h : ∀ d t, (f d t).doors.motion = t.doors.motion) : (onTimer timer f s).doors.motion = s.doors.motion :=
  onTimer_keeps (·.doors.motion) timer f s (fun _ _ => rfl) h

@[simp] theorem forEach_doors_interlock (l : List Nat) (f : Nat → State → State) (s : State)
    (h : ∀ i t, (f i t).doors.interlock = t.doors.interlock) : (forEach l f s).doors.interlock = s.doors.interlock := forEach_keeps (·.doors.interlock) l f s h
@[simp] theorem when_doors_interlock (c : Bool) (f : State → State) (s : State) (h : ∀ t, (f t).doors.interlock = t.doors.interlock) :
    (when c f s).doors.interlock = s.doors.interlock := when_keeps (·.doors.interlock) c f s h
@[simp] theorem foldl_doors_interlock {α : Type} (l : List α) (f : State → α → State) (s : State)
    (h : ∀ t b, (f t b).doors.interlock = t.doors.interlock) : (l.foldl f s).doors.interlock = s.doors.interlock := foldl_keeps (·.doors.interlock) l f s h
@[simp] theorem State.reach_doors_interlock (s : State) (due : Nat) : (s.reach due).doors.interlock = s.doors.interlock := (rfl)
@[simp] theorem onTimer_doors_interlock (timer : Option Nat) (f : Nat → State → State) (s : State)
    (h : ∀ d t, (f d t).doors.interlock = t.doors.interlock) : (onTimer timer f s).doors.interlock = s.doors.interlock :=
  onTimer_keeps (·.doors.interlock) timer f s (fun _ _ => rfl) h

@[simp] theorem forEach_doors_releaseDelay (l : List Nat) (f : Nat → State → State) (s : State)
    (h : ∀ i t, (f i t).doors.releaseDelay = t.doors.releaseDelay) : (forEach l f s).doors.releaseDelay = s.doors.releaseDelay := forEach_keeps (·.doors.releaseDelay) l f s h
@[simp] theorem when_doors_releaseDelay (c : Bool) (f : State → State) (s : State) (h : ∀ t, (f t).doors.releaseDelay = t.doors.releaseDelay) :
    (when c f s).doors.releaseDelay = s.doors.releaseDelay := when_keeps (·.doors.releaseDelay) c f s h
@[simp] theorem foldl_doors_releaseDelay {α : Type} (l : List α) (f : State → α → State) (s : State)
    (h : ∀ t b, (f t b).doors.releaseDelay = t.doors.releaseDelay) : (l.foldl f s).doors.releaseDelay = s.doors.releaseDelay := foldl_keeps (·.doors.releaseDelay) l f s h
@[simp] theorem State.reach_doors_releaseDelay (s : State) (due : Nat) : (s.reach due).doors.releaseDelay = s.doors.releaseDelay := (rfl)
@[simp] theorem onTimer_doors_releaseDelay (timer : Option Nat) (f : Nat → State → State) (s : State)
    (h : ∀ d t, (f d t).doors.releaseDelay = t.doors.releaseDelay) : (onTimer timer f s).doors.releaseDelay = s.doors.releaseDelay :=
  onTimer_keeps (·.doors.releaseDelay) timer f s (fun _ _ => rfl) h

@[simp] theorem forEach_comp_check (l : List Nat) (f : Nat → State → State) (s : State)
    (h : ∀ i t, (f i t).comp.check = t.comp.check) : (forEach l f s).comp.check = s.comp.check := forEach_keeps (·.comp.check) l f s h
@[simp] theorem when_comp_check (c : Bool) (f : State → State) (s : State) (h : ∀ t, (f t).comp.check = t.comp.check) :
    (when c f s).comp.check = s.comp.check := when_keeps (·.comp.check) c f s h
@[simp] theorem foldl_comp_check {α : Type} (l : List α) (f : State → α → State) (s : State)
    (h : ∀ t b, (f t b).comp.check = t.comp.check) : (l.foldl f s).comp.check = s.comp.check := foldl_keeps (·.comp.check) l f s h
@[simp] theorem State.reach_comp_check (s : State) (due : Nat) : (s.reach due).comp.check = s.comp.check := (rfl)
@[simp] theorem onTimer_comp_check (timer : Option Nat) (f : Nat → State → State) (s : State)
    (h : ∀ d t, (f d t).comp.check = t.comp.check) : (onTimer timer f s).comp.check = s.comp.check :=
  onTimer_keeps (·.comp.check) timer f s (fun _ _ => rfl) h

@[simp] theorem forEach_comp_checkTimer (l : List Nat) (f : Nat → State → State) (s : State)
    (h : ∀ i t, (f i t).comp.checkTimer = t.comp.checkTimer) : (forEach l f s).comp.checkTimer = s.comp.checkTimer := forEach_keeps (·.comp.checkTimer) l f s h
@[simp] theorem when_comp_checkTimer (c : Bool) (f : State → State) (s : State) (h : ∀ t, (f t).comp.checkTimer = t.comp.checkTimer) :
    (when c f s).comp.checkTimer = s.comp.checkTimer := when_keeps (·.comp.checkTimer) c f s h
@[simp] theorem foldl_comp_checkTimer {α : Type} (l : List α) (f : State → α → State) (s : State)
    (h : ∀ t b, (f t b).comp.checkTimer = t.comp.checkTimer) : (l.foldl f s).comp.checkTimer = s.comp.checkTimer := foldl_keeps (·.comp.checkTimer) l f s h
@[simp] theorem State.reach_comp_checkTimer (s : State) (due : Nat) : (s.reach due).comp.checkTimer = s.comp.checkTimer := (rfl)
@[simp] theorem onTimer_comp_checkTimer (timer : Option Nat) (f : Nat → State → State) (s : State)
    (h : ∀ d t, (f d t).comp.checkTimer = t.comp.checkTimer) : (onTimer timer f s).comp.checkTimer = s.comp.checkTimer :=
  onTimer_keeps (·.comp.checkTimer) timer f s (fun _ _ => rfl) h

@[simp] theorem forEach_comp_testTimer (l : List Nat) (f : Nat → State → State) (s : State)
    (h : ∀ i t, (f i t).comp.testTimer = t.comp.testTimer) : (forEach l f s).comp.testTimer = s.comp.testTimer := forEach_keeps (·.comp.testTimer) l f s h
@[simp] theorem when_comp_testTimer (c : Bool) (f : State → State) (s : State) (h : ∀ t, (f t).comp.testTimer = t.comp.testTimer) :
    (when c f s).comp.testTimer = s.comp.testTimer := when_keeps (·.comp.testTimer) c f s h
@[simp] theorem foldl_comp_testTimer {α : Type} (l : List α) (f : State → α → State) (s : State)
    (h : ∀ t b, (f t b).comp.testTimer = t.comp.testTimer) : (l.foldl f s).comp.testTimer = s.comp.testTimer := foldl_keeps (·.comp.testTimer) l f s h
@[simp] theorem State.reach_comp_testTimer (s : State) (due : Nat) : (s.reach due).comp.testTimer = s.comp.testTimer := (rfl)
@[simp] theorem onTimer_comp_testTimer (timer : Option Nat) (f : Nat → State → State) (s : State)
    (h : ∀ d t, (f d t).comp.testTimer = t.comp.testTimer) : (onTimer timer f s).comp.testTimer = s.comp.testTimer :=
  onTimer_keeps (·.comp.testTimer) timer f s (fun _ _ => rfl) h

@[simp] theorem forEach_comp_flash1 (l : List Nat) (f : Nat → State → State) (s : State)
    (h : ∀ i t, (f i t).comp.flash1 = t.comp.flash1) : (forEach l f s).comp.flash1 = s.comp.flash1 := forEach_keeps (·.comp.flash1) l f s h
@[simp] theorem when_comp_flash1 (c : Bool) (f : State → State) (s : State) (h : ∀ t, (f t).comp.flash1 = t.comp.flash1) :
    (when c f s).comp.flash1 = s.comp.flash1 := when_keeps (·.comp.flash1) c f s h
@[simp] theorem foldl_comp_flash1 {α : Type} (l : List α) (f : State → α → State) (s : State)
    (h : ∀ t b, (f t b).comp.flash1 = t.comp.flash1) : (l.foldl f s).comp.flash1 = s.comp.flash1 := foldl_keeps (·.comp.flash1) l f s h
@[simp] theorem State.reach_comp_flash1 (s : State) (due : Nat) : (s.reach due).comp.flash1 = s.comp.flash1 := (rfl)
@[simp] theorem onTimer_comp_flash1 (timer : Option Nat) (f : Nat → State → State) (s : State)
    (h : ∀ d t, (f d t).comp.flash1 = t.comp.flash1) : (onTimer timer f s).comp.flash1 = s.comp.flash1 :=
  onTimer_keeps (·.comp.flash1) timer f s (fun _ _ => rfl) h

@[simp] theorem forEach_comp_flash3 (l : List Nat) (f : Nat → State → State) (s : State)
    (h : ∀ i t, (f i t).comp.flash3 = t.comp.flash3) : (forEach l f s).comp.flash3 = s.comp.flash3 := forEach_keeps (·.comp.flash3) l f s h
@[simp] theorem when_comp_flash3 (c : Bool) (f : State → State) (s : State) (h : ∀ t, (f t).comp.flash3 = t.comp.flash3) :
    (when c f s).comp.flash3 = s.comp.flash3 := when_keeps (·.comp.flash3) c f s h
@[simp] theorem foldl_comp_flash3 {α : Type} (l : List α) (f : State → α → State) (s : State)
    (h : ∀ t b, (f t b).comp.flash3 = t.comp.flash3) : (l.foldl f s).comp.flash3 = s.comp.flash3 := foldl_keeps (·.comp.flash3) l f s h
@[simp] theorem State.reach_comp_flash3 (s : State) (due : Nat) : (s.reach due).comp.flash3 = s.comp.flash3 := (rfl)
@[simp] theorem onTimer_comp_flash3 (timer : Option Nat) (f : Nat → State → State) (s : State)
    (h : ∀ d t, (f d t).comp.flash3 = t.comp.flash3) : (onTimer timer f s).comp.flash3 = s.comp.flash3 :=
  onTimer_keeps (·.comp.flash3) timer f s (fun _ _ => rfl) h

@[simp] theorem forEach_shop_session (l : List Nat) (f : Nat → State → State) (s : State)
    (h : ∀ i t, (f i t).shop.session = t.shop.session) : (forEach l f s).shop.session = s.shop.session := forEach_keeps (·.shop.session) l f s h
@[simp] theorem when_shop_session (c : Bool) (f : State → State) (s : State) (h : ∀ t, (f t).shop.session = t.shop.session) :
    (when c f s).shop.session = s.shop.session := when_keeps (·.shop.session) c f s h
@[simp] theorem foldl_shop_session {α : Type} (l : List α) (f : State → α → State) (s : State)
    (h : ∀ t b, (f t b).shop.session = t.shop.session) : (l.foldl f s).shop.session = s.shop.session := foldl_keeps (·.shop.session) l f s h
@[simp] theorem State.reach_shop_session (s : State) (due : Nat) : (s.reach due).shop.session = s.shop.session := (rfl)
@[simp] theorem onTimer_shop_session (timer : Option Nat) (f : Nat → State → State) (s : State)
    (h : ∀ d t, (f d t).shop.session = t.shop.session) : (onTimer timer f s).shop.session = s.shop.session :=
  onTimer_keeps (·.shop.session) timer f s (fun _ _ => rfl) h

@[simp] theorem forEach_shop_forced (l : List Nat) (f : Nat → State → State) (s : State)
    (h : ∀ i t, (f i t).shop.forced = t.shop.forced) : (forEach l f s).shop.forced = s.shop.forced := forEach_keeps (·.shop.forced) l f s h
@[simp] theorem when_shop_forced (c : Bool) (f : State → State) (s : State) (h : ∀ t, (f t).shop.forced = t.shop.forced) :
    (when c f s).shop.forced = s.shop.forced := when_keeps (·.shop.forced) c f s h
@[simp] theorem foldl_shop_forced {α : Type} (l : List α) (f : State → α → State) (s : State)
    (h : ∀ t b, (f t b).shop.forced = t.shop.forced) : (l.foldl f s).shop.forced = s.shop.forced := foldl_keeps (·.shop.forced) l f s h
@[simp] theorem State.reach_shop_forced (s : State) (due : Nat) : (s.reach due).shop.forced = s.shop.forced := (rfl)
@[simp] theorem onTimer_shop_forced (timer : Option Nat) (f : Nat → State → State) (s : State)
    (h : ∀ d t, (f d t).shop.forced = t.shop.forced) : (onTimer timer f s).shop.forced = s.shop.forced :=
  onTimer_keeps (·.shop.forced) timer f s (fun _ _ => rfl) h

@[simp] theorem forEach_shop_receiver (l : List Nat) (f : Nat → State → State) (s : State)
    (h : ∀ i t, (f i t).shop.receiver = t.shop.receiver) : (forEach l f s).shop.receiver = s.shop.receiver := forEach_keeps (·.shop.receiver) l f s h
@[simp] theorem when_shop_receiver (c : Bool) (f : State → State) (s : State) (h : ∀ t, (f t).shop.receiver = t.shop.receiver) :
    (when c f s).shop.receiver = s.shop.receiver := when_keeps (·.shop.receiver) c f s h
@[simp] theorem foldl_shop_receiver {α : Type} (l : List α) (f : State → α → State) (s : State)
    (h : ∀ t b, (f t b).shop.receiver = t.shop.receiver) : (l.foldl f s).shop.receiver = s.shop.receiver := foldl_keeps (·.shop.receiver) l f s h
@[simp] theorem State.reach_shop_receiver (s : State) (due : Nat) : (s.reach due).shop.receiver = s.shop.receiver := (rfl)
@[simp] theorem onTimer_shop_receiver (timer : Option Nat) (f : Nat → State → State) (s : State)
    (h : ∀ d t, (f d t).shop.receiver = t.shop.receiver) : (onTimer timer f s).shop.receiver = s.shop.receiver :=
  onTimer_keeps (·.shop.receiver) timer f s (fun _ _ => rfl) h

@[simp] theorem forEach_shop_rate (l : List Nat) (f : Nat → State → State) (s : State)
    (h : ∀ i t, (f i t).shop.rate = t.shop.rate) : (forEach l f s).shop.rate = s.shop.rate := forEach_keeps (·.shop.rate) l f s h
@[simp] theorem when_shop_rate (c : Bool) (f : State → State) (s : State) (h : ∀ t, (f t).shop.rate = t.shop.rate) :
    (when c f s).shop.rate = s.shop.rate := when_keeps (·.shop.rate) c f s h
@[simp] theorem foldl_shop_rate {α : Type} (l : List α) (f : State → α → State) (s : State)
    (h : ∀ t b, (f t b).shop.rate = t.shop.rate) : (l.foldl f s).shop.rate = s.shop.rate := foldl_keeps (·.shop.rate) l f s h
@[simp] theorem State.reach_shop_rate (s : State) (due : Nat) : (s.reach due).shop.rate = s.shop.rate := (rfl)
@[simp] theorem onTimer_shop_rate (timer : Option Nat) (f : Nat → State → State) (s : State)
    (h : ∀ d t, (f d t).shop.rate = t.shop.rate) : (onTimer timer f s).shop.rate = s.shop.rate :=
  onTimer_keeps (·.shop.rate) timer f s (fun _ _ => rfl) h

@[simp] theorem forEach_shop_nextRate (l : List Nat) (f : Nat → State → State) (s : State)
    (h : ∀ i t, (f i t).shop.nextRate = t.shop.nextRate) : (forEach l f s).shop.nextRate = s.shop.nextRate := forEach_keeps (·.shop.nextRate) l f s h
@[simp] theorem when_shop_nextRate (c : Bool) (f : State → State) (s : State) (h : ∀ t, (f t).shop.nextRate = t.shop.nextRate) :
    (when c f s).shop.nextRate = s.shop.nextRate := when_keeps (·.shop.nextRate) c f s h
@[simp] theorem foldl_shop_nextRate {α : Type} (l : List α) (f : State → α → State) (s : State)
    (h : ∀ t b, (f t b).shop.nextRate = t.shop.nextRate) : (l.foldl f s).shop.nextRate = s.shop.nextRate := foldl_keeps (·.shop.nextRate) l f s h
@[simp] theorem State.reach_shop_nextRate (s : State) (due : Nat) : (s.reach due).shop.nextRate = s.shop.nextRate := (rfl)
@[simp] theorem onTimer_shop_nextRate (timer : Option Nat) (f : Nat → State → State) (s : State)
    (h : ∀ d t, (f d t).shop.nextRate = t.shop.nextRate) : (onTimer timer f s).shop.nextRate = s.shop.nextRate :=
  onTimer_keeps (·.shop.nextRate) timer f s (fun _ _ => rfl) h

@[simp] theorem forEach_shop_gapTimer (l : List Nat) (f : Nat → State → State) (s : State)
    (h : ∀ i t, (f i t).shop.gapTimer = t.shop.gapTimer) : (forEach l f s).shop.gapTimer = s.shop.gapTimer := forEach_keeps (·.shop.gapTimer) l f s h
@[simp] theorem when_shop_gapTimer (c : Bool) (f : State → State) (s : State) (h : ∀ t, (f t).shop.gapTimer = t.shop.gapTimer) :
    (when c f s).shop.gapTimer = s.shop.gapTimer := when_keeps (·.shop.gapTimer) c f s h
@[simp] theorem foldl_shop_gapTimer {α : Type} (l : List α) (f : State → α → State) (s : State)
    (h : ∀ t b, (f t b).shop.gapTimer = t.shop.gapTimer) : (l.foldl f s).shop.gapTimer = s.shop.gapTimer := foldl_keeps (·.shop.gapTimer) l f s h
@[simp] theorem State.reach_shop_gapTimer (s : State) (due : Nat) : (s.reach due).shop.gapTimer = s.shop.gapTimer := (rfl)
@[simp] theorem onTimer_shop_gapTimer (timer : Option Nat) (f : Nat → State → State) (s : State)
    (h : ∀ d t, (f d t).shop.gapTimer = t.shop.gapTimer) : (onTimer timer f s).shop.gapTimer = s.shop.gapTimer :=
  onTimer_keeps (·.shop.gapTimer) timer f s (fun _ _ => rfl) h

@[simp] theorem forEach_shop_idleTimer (l : List Nat) (f : Nat → State → State) (s : State)
    (h : ∀ i t, (f i t).shop.idleTimer = t.shop.idleTimer) : (forEach l f s).shop.idleTimer = s.shop.idleTimer := forEach_keeps (·.shop.idleTimer) l f s h
@[simp] theorem when_shop_idleTimer (c : Bool) (f : State → State) (s : State) (h : ∀ t, (f t).shop.idleTimer = t.shop.idleTimer) :
    (when c f s).shop.idleTimer = s.shop.idleTimer := when_keeps (·.shop.idleTimer) c f s h
@[simp] theorem foldl_shop_idleTimer {α : Type} (l : List α) (f : State → α → State) (s : State)
    (h : ∀ t b, (f t b).shop.idleTimer = t.shop.idleTimer) : (l.foldl f s).shop.idleTimer = s.shop.idleTimer := foldl_keeps (·.shop.idleTimer) l f s h
@[simp] theorem State.reach_shop_idleTimer (s : State) (due : Nat) : (s.reach due).shop.idleTimer = s.shop.idleTimer := (rfl)
@[simp] theorem onTimer_shop_idleTimer (timer : Option Nat) (f : Nat → State → State) (s : State)
    (h : ∀ d t, (f d t).shop.idleTimer = t.shop.idleTimer) : (onTimer timer f s).shop.idleTimer = s.shop.idleTimer :=
  onTimer_keeps (·.shop.idleTimer) timer f s (fun _ _ => rfl) h

@[simp] theorem State.reach_now (s : State) (due : Nat) : (s.reach due).now = max s.now due := (rfl)

@[simp] theorem Port.posted_noticeRead (p : Port) (n : Notice) : (p.posted n).noticeRead = p.noticeRead := by
  unfold Port.posted; split <;> rfl
@[simp] theorem Port.posted_intEnable (p : Port) (n : Notice) : (p.posted n).intEnable = p.intEnable := by
  unfold Port.posted; split <;> rfl
@[simp] theorem Port.posted_displayLost (p : Port) (n : Notice) : (p.posted n).displayLost = p.displayLost := by
  unfold Port.posted; split <;> rfl
@[simp] theorem Port.posted_livenessTimer (p : Port) (n : Notice) : (p.posted n).livenessTimer = p.livenessTimer := by
  unfold Port.posted; split <;> rfl
@[simp] theorem Port.posted_sweepTimer (p : Port) (n : Notice) : (p.posted n).sweepTimer = p.sweepTimer := by
  unfold Port.posted; split <;> rfl
@[simp] theorem Port.posted_sweepPlace (p : Port) (n : Notice) : (p.posted n).sweepPlace = p.sweepPlace := by
  unfold Port.posted; split <;> rfl
@[simp] theorem Port.posted_sweepHeld (p : Port) (n : Notice) : (p.posted n).sweepHeld = p.sweepHeld := by
  unfold Port.posted; split <;> rfl
@[simp] theorem Port.posted_sweepCount (p : Port) (n : Notice) : (p.posted n).sweepCount = p.sweepCount := by
  unfold Port.posted; split <;> rfl
@[simp] theorem Port.posted_writeRefused (p : Port) (n : Notice) : (p.posted n).writeRefused = p.writeRefused := by
  unfold Port.posted; split <;> rfl
@[simp] theorem Port.posted_refusedAddress (p : Port) (n : Notice) : (p.posted n).refusedAddress = p.refusedAddress := by
  unfold Port.posted; split <;> rfl

end Sys2Proof.Machine
end

