-- ==== Sys2Proof/Laws/FrameRecords.lean ====
section
/-! SUPPORT. Frames: what each operation of the port, the fault memory, the composition and the warnings leaves as it was. -/

namespace Sys2Proof.Machine

/-- The bytes outside the slots are what their offsets outside the slots read. -/
theorem State.outside_of_reads (s t : State)
    (h : ∀ a, ¬(0x0100 ≤ a ∧ a < 0x0500) → Memory.read t.mem a = Memory.read s.mem a) : t.outside = s.outside := by
  funext a
  unfold State.outside
  split
  · rfl
  · exact h a ‹_›

theorem slotBase_bounds (i : Nat) : 0x0100 ≤ slotBase i ∧ slotBase i + 64 ≤ 0x0500 := by
  unfold slotBase
  omega

@[simp] theorem setSlotState_outside (i : Nat) (x : SlotState) (s : State) :
    (setSlotState i x s).outside = s.outside := by
  refine State.outside_of_reads _ _ fun a ha => ?_
  have := slotBase_bounds i
  exact Memory.read_write_other _ _ _ _ (by omega)

@[simp] theorem finishSlot_outside (i : Nat) (x : SlotState) (code : ResultCode) (detail : Nat) (body : List Byte)
    (s : State) : (finishSlot i x code detail body s).outside = s.outside := by
  refine State.outside_of_reads _ _ fun a ha => ?_
  have := slotBase_bounds i
  unfold finishSlot setSlotState
  simp only [State.setMem_mem]
  rw [Memory.read_write_other _ _ _ _ (by omega), Memory.read_writeBytes_other _ _ _ _ (by simp; omega),
    Memory.read_writeBytes_other _ _ _ _ (by simp; omega), Memory.read_write_other _ _ _ _ (by omega)]

@[simp] theorem writeStatus_frame (s : State) :
    (writeStatus s).pending = s.pending ∧ (writeStatus s).now = s.now ∧ (writeStatus s).run = s.run ∧
    (writeStatus s).port.noticeRead = s.port.noticeRead ∧ (writeStatus s).port.intEnable = s.port.intEnable ∧
    (writeStatus s).port.displayLost = s.port.displayLost ∧
    (writeStatus s).port.livenessTimer = s.port.livenessTimer ∧
    (writeStatus s).port.sweepTimer = s.port.sweepTimer ∧ (writeStatus s).port.sweepPlace = s.port.sweepPlace ∧
    (writeStatus s).port.sweepHeld = s.port.sweepHeld ∧ (writeStatus s).port.sweepCount = s.port.sweepCount ∧
    (writeStatus s).port.writeRefused = s.port.writeRefused ∧
    (writeStatus s).port.refusedAddress = s.port.refusedAddress ∧ (writeStatus s).mem = s.mem ∧
    (writeStatus s).outside = s.outside ∧ (writeStatus s).setup = s.setup ∧ (writeStatus s).signals = s.signals ∧
    (writeStatus s).sense = s.sense ∧ (writeStatus s).line = s.line ∧ (writeStatus s).doors = s.doors ∧
    (writeStatus s).warnings = s.warnings ∧ (writeStatus s).comp = s.comp ∧ (writeStatus s).gauges = s.gauges ∧
    (writeStatus s).faults = s.faults ∧ (writeStatus s).shop = s.shop := by
  simp [writeStatus]

@[simp] theorem post_frame (kind : NoticeKind) (index detail : Nat) (s : State) :
    (post kind index detail s).pending = s.pending ∧ (post kind index detail s).now = s.now ∧
    (post kind index detail s).run = s.run ∧ (post kind index detail s).port.noticeRead = s.port.noticeRead ∧
    (post kind index detail s).port.intEnable = s.port.intEnable ∧
    (post kind index detail s).port.displayLost = s.port.displayLost ∧
    (post kind index detail s).port.livenessTimer = s.port.livenessTimer ∧
    (post kind index detail s).port.sweepTimer = s.port.sweepTimer ∧
    (post kind index detail s).port.sweepPlace = s.port.sweepPlace ∧
    (post kind index detail s).port.sweepHeld = s.port.sweepHeld ∧
    (post kind index detail s).port.sweepCount = s.port.sweepCount ∧
    (post kind index detail s).port.writeRefused = s.port.writeRefused ∧
    (post kind index detail s).port.refusedAddress = s.port.refusedAddress ∧
    (post kind index detail s).mem = s.mem ∧ (post kind index detail s).outside = s.outside ∧
    (post kind index detail s).setup = s.setup ∧ (post kind index detail s).signals = s.signals ∧
    (post kind index detail s).sense = s.sense ∧ (post kind index detail s).line = s.line ∧
    (post kind index detail s).doors = s.doors ∧ (post kind index detail s).warnings = s.warnings ∧
    (post kind index detail s).comp = s.comp ∧ (post kind index detail s).gauges = s.gauges ∧
    (post kind index detail s).faults = s.faults ∧ (post kind index detail s).shop = s.shop := by
  simp [post]

@[simp] theorem setSlotState_frame (i : Nat) (x : SlotState) (s : State) :
    (setSlotState i x s).pending = s.pending ∧ (setSlotState i x s).now = s.now ∧
    (setSlotState i x s).run = s.run ∧ (setSlotState i x s).port = s.port ∧ (setSlotState i x s).setup = s.setup ∧
    (setSlotState i x s).signals = s.signals ∧ (setSlotState i x s).sense = s.sense ∧
    (setSlotState i x s).line = s.line ∧ (setSlotState i x s).doors = s.doors ∧
    (setSlotState i x s).warnings = s.warnings ∧ (setSlotState i x s).comp = s.comp ∧
    (setSlotState i x s).gauges = s.gauges ∧ (setSlotState i x s).faults = s.faults ∧
    (setSlotState i x s).shop = s.shop := by
  simp [setSlotState]

@[simp] theorem finishSlot_frame (i : Nat) (x : SlotState) (code : ResultCode) (detail : Nat) (body : List Byte) (s : State) :
    (finishSlot i x code detail body s).pending = s.pending ∧ (finishSlot i x code detail body s).now = s.now ∧
    (finishSlot i x code detail body s).run = s.run ∧ (finishSlot i x code detail body s).port = s.port ∧
    (finishSlot i x code detail body s).setup = s.setup ∧ (finishSlot i x code detail body s).signals = s.signals ∧
    (finishSlot i x code detail body s).sense = s.sense ∧ (finishSlot i x code detail body s).line = s.line ∧
    (finishSlot i x code detail body s).doors = s.doors ∧
    (finishSlot i x code detail body s).warnings = s.warnings ∧ (finishSlot i x code detail body s).comp = s.comp ∧
    (finishSlot i x code detail body s).gauges = s.gauges ∧ (finishSlot i x code detail body s).faults = s.faults ∧
    (finishSlot i x code detail body s).shop = s.shop := by
  simp [finishSlot]

@[simp] theorem notifyDone_frame (i : Nat) (code : ResultCode) (s : State) :
    (notifyDone i code s).pending = s.pending ∧ (notifyDone i code s).now = s.now ∧
    (notifyDone i code s).run = s.run ∧ (notifyDone i code s).port.noticeRead = s.port.noticeRead ∧
    (notifyDone i code s).port.intEnable = s.port.intEnable ∧
    (notifyDone i code s).port.displayLost = s.port.displayLost ∧
    (notifyDone i code s).port.livenessTimer = s.port.livenessTimer ∧
    (notifyDone i code s).port.sweepTimer = s.port.sweepTimer ∧
    (notifyDone i code s).port.sweepPlace = s.port.sweepPlace ∧
    (notifyDone i code s).port.sweepHeld = s.port.sweepHeld ∧
    (notifyDone i code s).port.sweepCount = s.port.sweepCount ∧
    (notifyDone i code s).port.writeRefused = s.port.writeRefused ∧
    (notifyDone i code s).port.refusedAddress = s.port.refusedAddress ∧ (notifyDone i code s).mem = s.mem ∧
    (notifyDone i code s).outside = s.outside ∧ (notifyDone i code s).setup = s.setup ∧
    (notifyDone i code s).signals = s.signals ∧ (notifyDone i code s).sense = s.sense ∧
    (notifyDone i code s).line = s.line ∧ (notifyDone i code s).doors = s.doors ∧
    (notifyDone i code s).warnings = s.warnings ∧ (notifyDone i code s).comp = s.comp ∧
    (notifyDone i code s).gauges = s.gauges ∧ (notifyDone i code s).faults = s.faults ∧
    (notifyDone i code s).shop = s.shop := by
  simp [notifyDone]

@[simp] theorem slotDone_frame (i : Nat) (body : List Byte) (s : State) :
    (slotDone i body s).pending = s.pending ∧ (slotDone i body s).now = s.now ∧ (slotDone i body s).run = s.run ∧
    (slotDone i body s).port.noticeRead = s.port.noticeRead ∧
    (slotDone i body s).port.intEnable = s.port.intEnable ∧
    (slotDone i body s).port.displayLost = s.port.displayLost ∧
    (slotDone i body s).port.livenessTimer = s.port.livenessTimer ∧
    (slotDone i body s).port.sweepTimer = s.port.sweepTimer ∧
    (slotDone i body s).port.sweepPlace = s.port.sweepPlace ∧
    (slotDone i body s).port.sweepHeld = s.port.sweepHeld ∧
    (slotDone i body s).port.sweepCount = s.port.sweepCount ∧
    (slotDone i body s).port.writeRefused = s.port.writeRefused ∧
    (slotDone i body s).port.refusedAddress = s.port.refusedAddress ∧ (slotDone i body s).outside = s.outside ∧
    (slotDone i body s).setup = s.setup ∧ (slotDone i body s).signals = s.signals ∧
    (slotDone i body s).sense = s.sense ∧ (slotDone i body s).line = s.line ∧ (slotDone i body s).doors = s.doors ∧
    (slotDone i body s).warnings = s.warnings ∧ (slotDone i body s).comp = s.comp ∧
    (slotDone i body s).gauges = s.gauges ∧ (slotDone i body s).faults = s.faults ∧
    (slotDone i body s).shop = s.shop := by
  simp [slotDone]

@[simp] theorem slotFailed_frame (i : Nat) (code : ResultCode) (detail : Nat) (body : List Byte) (s : State) :
    (slotFailed i code detail body s).pending = s.pending ∧ (slotFailed i code detail body s).now = s.now ∧
    (slotFailed i code detail body s).run = s.run ∧
    (slotFailed i code detail body s).port.noticeRead = s.port.noticeRead ∧
    (slotFailed i code detail body s).port.intEnable = s.port.intEnable ∧
    (slotFailed i code detail body s).port.displayLost = s.port.displayLost ∧
    (slotFailed i code detail body s).port.livenessTimer = s.port.livenessTimer ∧
    (slotFailed i code detail body s).port.sweepTimer = s.port.sweepTimer ∧
    (slotFailed i code detail body s).port.sweepPlace = s.port.sweepPlace ∧
    (slotFailed i code detail body s).port.sweepHeld = s.port.sweepHeld ∧
    (slotFailed i code detail body s).port.sweepCount = s.port.sweepCount ∧
    (slotFailed i code detail body s).port.writeRefused = s.port.writeRefused ∧
    (slotFailed i code detail body s).port.refusedAddress = s.port.refusedAddress ∧
    (slotFailed i code detail body s).outside = s.outside ∧ (slotFailed i code detail body s).setup = s.setup ∧
    (slotFailed i code detail body s).signals = s.signals ∧ (slotFailed i code detail body s).sense = s.sense ∧
    (slotFailed i code detail body s).line = s.line ∧ (slotFailed i code detail body s).doors = s.doors ∧
    (slotFailed i code detail body s).warnings = s.warnings ∧ (slotFailed i code detail body s).comp = s.comp ∧
    (slotFailed i code detail body s).gauges = s.gauges ∧ (slotFailed i code detail body s).faults = s.faults ∧
    (slotFailed i code detail body s).shop = s.shop := by
  simp [slotFailed]

@[simp] theorem putRecord_frame (i : Nat) (r : FaultRecord) (s : State) :
    (putRecord i r s).pending = s.pending ∧ (putRecord i r s).now = s.now ∧ (putRecord i r s).run = s.run ∧
    (putRecord i r s).port = s.port ∧ (putRecord i r s).mem = s.mem ∧ (putRecord i r s).outside = s.outside ∧
    (putRecord i r s).setup = s.setup ∧ (putRecord i r s).signals = s.signals ∧ (putRecord i r s).sense = s.sense ∧
    (putRecord i r s).line = s.line ∧ (putRecord i r s).doors = s.doors ∧ (putRecord i r s).warnings = s.warnings ∧
    (putRecord i r s).comp = s.comp ∧ (putRecord i r s).gauges = s.gauges ∧ (putRecord i r s).shop = s.shop := by
  simp [putRecord]

@[simp] theorem handOn_pending (index : Nat) (detail : FaultDetail) (change : State → State) (s : State)
    (h : ∀ t, (change t).pending = t.pending) : (handOn index detail change s).pending = s.pending := by
  simp [handOn, h]

@[simp] theorem handOn_now (index : Nat) (detail : FaultDetail) (change : State → State) (s : State)
    (h : ∀ t, (change t).now = t.now) : (handOn index detail change s).now = s.now := by
  simp [handOn, h]

@[simp] theorem handOn_run (index : Nat) (detail : FaultDetail) (change : State → State) (s : State)
    (h : ∀ t, (change t).run = t.run) : (handOn index detail change s).run = s.run := by
  simp [handOn, h]

@[simp] theorem handOn_run_state (index : Nat) (detail : FaultDetail) (change : State → State) (s : State)
    (h : ∀ t, (change t).run.state = t.run.state) : (handOn index detail change s).run.state = s.run.state := by
  simp [handOn, h]

@[simp] theorem handOn_port_noticeRead (index : Nat) (detail : FaultDetail) (change : State → State) (s : State)
    (h : ∀ t, (change t).port.noticeRead = t.port.noticeRead) : (handOn index detail change s).port.noticeRead = s.port.noticeRead := by
  simp [handOn, h]

@[simp] theorem handOn_port_intEnable (index : Nat) (detail : FaultDetail) (change : State → State) (s : State)
    (h : ∀ t, (change t).port.intEnable = t.port.intEnable) : (handOn index detail change s).port.intEnable = s.port.intEnable := by
  simp [handOn, h]

@[simp] theorem handOn_port_displayLost (index : Nat) (detail : FaultDetail) (change : State → State) (s : State)
    (h : ∀ t, (change t).port.displayLost = t.port.displayLost) : (handOn index detail change s).port.displayLost = s.port.displayLost := by
  simp [handOn, h]

@[simp] theorem handOn_port_livenessTimer (index : Nat) (detail : FaultDetail) (change : State → State) (s : State)
    (h : ∀ t, (change t).port.livenessTimer = t.port.livenessTimer) : (handOn index detail change s).port.livenessTimer = s.port.livenessTimer := by
  simp [handOn, h]

@[simp] theorem handOn_port_sweepTimer (index : Nat) (detail : FaultDetail) (change : State → State) (s : State)
    (h : ∀ t, (change t).port.sweepTimer = t.port.sweepTimer) : (handOn index detail change s).port.sweepTimer = s.port.sweepTimer := by
  simp [handOn, h]

@[simp] theorem handOn_port_sweepPlace (index : Nat) (detail : FaultDetail) (change : State → State) (s : State)
    (h : ∀ t, (change t).port.sweepPlace = t.port.sweepPlace) : (handOn index detail change s).port.sweepPlace = s.port.sweepPlace := by
  simp [handOn, h]

@[simp] theorem handOn_port_sweepHeld (index : Nat) (detail : FaultDetail) (change : State → State) (s : State)
    (h : ∀ t, (change t).port.sweepHeld = t.port.sweepHeld) : (handOn index detail change s).port.sweepHeld = s.port.sweepHeld := by
  simp [handOn, h]

@[simp] theorem handOn_port_sweepCount (index : Nat) (detail : FaultDetail) (change : State → State) (s : State)
    (h : ∀ t, (change t).port.sweepCount = t.port.sweepCount) : (handOn index detail change s).port.sweepCount = s.port.sweepCount := by
  simp [handOn, h]

@[simp] theorem handOn_port_writeRefused (index : Nat) (detail : FaultDetail) (change : State → State) (s : State)
    (h : ∀ t, (change t).port.writeRefused = t.port.writeRefused) : (handOn index detail change s).port.writeRefused = s.port.writeRefused := by
  simp [handOn, h]

@[simp] theorem handOn_port_refusedAddress (index : Nat) (detail : FaultDetail) (change : State → State) (s : State)
    (h : ∀ t, (change t).port.refusedAddress = t.port.refusedAddress) : (handOn index detail change s).port.refusedAddress = s.port.refusedAddress := by
  simp [handOn, h]

@[simp] theorem handOn_mem (index : Nat) (detail : FaultDetail) (change : State → State) (s : State)
    (h : ∀ t, (change t).mem = t.mem) : (handOn index detail change s).mem = s.mem := by
  simp [handOn, h]

@[simp] theorem handOn_outside (index : Nat) (detail : FaultDetail) (change : State → State) (s : State)
    (h : ∀ t, (change t).outside = t.outside) : (handOn index detail change s).outside = s.outside := by
  simp [handOn, h]

@[simp] theorem handOn_setup (index : Nat) (detail : FaultDetail) (change : State → State) (s : State)
    (h : ∀ t, (change t).setup = t.setup) : (handOn index detail change s).setup = s.setup := by
  simp [handOn, h]

@[simp] theorem handOn_signals (index : Nat) (detail : FaultDetail) (change : State → State) (s : State)
    (h : ∀ t, (change t).signals = t.signals) : (handOn index detail change s).signals = s.signals := by
  simp [handOn, h]

@[simp] theorem handOn_sense (index : Nat) (detail : FaultDetail) (change : State → State) (s : State)
    (h : ∀ t, (change t).sense = t.sense) : (handOn index detail change s).sense = s.sense := by
  simp [handOn, h]

@[simp] theorem handOn_line (index : Nat) (detail : FaultDetail) (change : State → State) (s : State)
    (h : ∀ t, (change t).line = t.line) : (handOn index detail change s).line = s.line := by
  simp [handOn, h]

@[simp] theorem handOn_doors (index : Nat) (detail : FaultDetail) (change : State → State) (s : State)
    (h : ∀ t, (change t).doors = t.doors) : (handOn index detail change s).doors = s.doors := by
  simp [handOn, h]

@[simp] theorem handOn_doors_motion (index : Nat) (detail : FaultDetail) (change : State → State) (s : State)
    (h : ∀ t, (change t).doors.motion = t.doors.motion) : (handOn index detail change s).doors.motion = s.doors.motion := by
  simp [handOn, h]

@[simp] theorem handOn_doors_interlock (index : Nat) (detail : FaultDetail) (change : State → State) (s : State)
    (h : ∀ t, (change t).doors.interlock = t.doors.interlock) : (handOn index detail change s).doors.interlock = s.doors.interlock := by
  simp [handOn, h]

@[simp] theorem handOn_doors_releaseDelay (index : Nat) (detail : FaultDetail) (change : State → State) (s : State)
    (h : ∀ t, (change t).doors.releaseDelay = t.doors.releaseDelay) : (handOn index detail change s).doors.releaseDelay = s.doors.releaseDelay := by
  simp [handOn, h]

@[simp] theorem handOn_warnings (index : Nat) (detail : FaultDetail) (change : State → State) (s : State)
    (h : ∀ t, (change t).warnings = t.warnings) : (handOn index detail change s).warnings = s.warnings := by
  simp [handOn, h]

@[simp] theorem handOn_comp (index : Nat) (detail : FaultDetail) (change : State → State) (s : State)
    (h : ∀ t, (change t).comp = t.comp) : (handOn index detail change s).comp = s.comp := by
  simp [handOn, h]

@[simp] theorem handOn_comp_check (index : Nat) (detail : FaultDetail) (change : State → State) (s : State)
    (h : ∀ t, (change t).comp.check = t.comp.check) : (handOn index detail change s).comp.check = s.comp.check := by
  simp [handOn, h]

@[simp] theorem handOn_comp_checkTimer (index : Nat) (detail : FaultDetail) (change : State → State) (s : State)
    (h : ∀ t, (change t).comp.checkTimer = t.comp.checkTimer) : (handOn index detail change s).comp.checkTimer = s.comp.checkTimer := by
  simp [handOn, h]

@[simp] theorem handOn_comp_testTimer (index : Nat) (detail : FaultDetail) (change : State → State) (s : State)
    (h : ∀ t, (change t).comp.testTimer = t.comp.testTimer) : (handOn index detail change s).comp.testTimer = s.comp.testTimer := by
  simp [handOn, h]

@[simp] theorem handOn_comp_flash1 (index : Nat) (detail : FaultDetail) (change : State → State) (s : State)
    (h : ∀ t, (change t).comp.flash1 = t.comp.flash1) : (handOn index detail change s).comp.flash1 = s.comp.flash1 := by
  simp [handOn, h]

@[simp] theorem handOn_comp_flash3 (index : Nat) (detail : FaultDetail) (change : State → State) (s : State)
    (h : ∀ t, (change t).comp.flash3 = t.comp.flash3) : (handOn index detail change s).comp.flash3 = s.comp.flash3 := by
  simp [handOn, h]

@[simp] theorem handOn_gauges (index : Nat) (detail : FaultDetail) (change : State → State) (s : State)
    (h : ∀ t, (change t).gauges = t.gauges) : (handOn index detail change s).gauges = s.gauges := by
  simp [handOn, h]

@[simp] theorem handOn_faults (index : Nat) (detail : FaultDetail) (change : State → State) (s : State)
    (h : ∀ t, (change t).faults = t.faults) : (handOn index detail change s).faults = s.faults := by
  simp [handOn, h]

@[simp] theorem handOn_shop (index : Nat) (detail : FaultDetail) (change : State → State) (s : State)
    (h : ∀ t, (change t).shop = t.shop) : (handOn index detail change s).shop = s.shop := by
  simp [handOn, h]

@[simp] theorem handOn_shop_session (index : Nat) (detail : FaultDetail) (change : State → State) (s : State)
    (h : ∀ t, (change t).shop.session = t.shop.session) : (handOn index detail change s).shop.session = s.shop.session := by
  simp [handOn, h]

@[simp] theorem handOn_shop_forced (index : Nat) (detail : FaultDetail) (change : State → State) (s : State)
    (h : ∀ t, (change t).shop.forced = t.shop.forced) : (handOn index detail change s).shop.forced = s.shop.forced := by
  simp [handOn, h]

@[simp] theorem handOn_shop_receiver (index : Nat) (detail : FaultDetail) (change : State → State) (s : State)
    (h : ∀ t, (change t).shop.receiver = t.shop.receiver) : (handOn index detail change s).shop.receiver = s.shop.receiver := by
  simp [handOn, h]

@[simp] theorem handOn_shop_rate (index : Nat) (detail : FaultDetail) (change : State → State) (s : State)
    (h : ∀ t, (change t).shop.rate = t.shop.rate) : (handOn index detail change s).shop.rate = s.shop.rate := by
  simp [handOn, h]

@[simp] theorem handOn_shop_nextRate (index : Nat) (detail : FaultDetail) (change : State → State) (s : State)
    (h : ∀ t, (change t).shop.nextRate = t.shop.nextRate) : (handOn index detail change s).shop.nextRate = s.shop.nextRate := by
  simp [handOn, h]

@[simp] theorem handOn_shop_gapTimer (index : Nat) (detail : FaultDetail) (change : State → State) (s : State)
    (h : ∀ t, (change t).shop.gapTimer = t.shop.gapTimer) : (handOn index detail change s).shop.gapTimer = s.shop.gapTimer := by
  simp [handOn, h]

@[simp] theorem handOn_shop_idleTimer (index : Nat) (detail : FaultDetail) (change : State → State) (s : State)
    (h : ∀ t, (change t).shop.idleTimer = t.shop.idleTimer) : (handOn index detail change s).shop.idleTimer = s.shop.idleTimer := by
  simp [handOn, h]

@[simp] theorem markFull_frame (s : State) :
    (markFull s).pending = s.pending ∧ (markFull s).now = s.now ∧ (markFull s).run = s.run ∧
    (markFull s).port = s.port ∧ (markFull s).mem = s.mem ∧ (markFull s).outside = s.outside ∧
    (markFull s).setup = s.setup ∧ (markFull s).signals = s.signals ∧ (markFull s).sense = s.sense ∧
    (markFull s).line = s.line ∧ (markFull s).doors = s.doors ∧ (markFull s).warnings = s.warnings ∧
    (markFull s).comp = s.comp ∧ (markFull s).gauges = s.gauges ∧ (markFull s).shop = s.shop := by
  simp [markFull]

@[simp] theorem occurrence_frame (code origin : Nat) (s : State) :
    (occurrence code origin s).pending = s.pending ∧ (occurrence code origin s).now = s.now ∧
    (occurrence code origin s).run = s.run ∧ (occurrence code origin s).port.noticeRead = s.port.noticeRead ∧
    (occurrence code origin s).port.intEnable = s.port.intEnable ∧
    (occurrence code origin s).port.displayLost = s.port.displayLost ∧
    (occurrence code origin s).port.livenessTimer = s.port.livenessTimer ∧
    (occurrence code origin s).port.sweepTimer = s.port.sweepTimer ∧
    (occurrence code origin s).port.sweepPlace = s.port.sweepPlace ∧
    (occurrence code origin s).port.sweepHeld = s.port.sweepHeld ∧
    (occurrence code origin s).port.sweepCount = s.port.sweepCount ∧
    (occurrence code origin s).port.writeRefused = s.port.writeRefused ∧
    (occurrence code origin s).port.refusedAddress = s.port.refusedAddress ∧
    (occurrence code origin s).mem = s.mem ∧ (occurrence code origin s).outside = s.outside ∧
    (occurrence code origin s).setup = s.setup ∧ (occurrence code origin s).signals = s.signals ∧
    (occurrence code origin s).sense = s.sense ∧ (occurrence code origin s).line = s.line ∧
    (occurrence code origin s).doors = s.doors ∧ (occurrence code origin s).warnings = s.warnings ∧
    (occurrence code origin s).comp = s.comp ∧ (occurrence code origin s).gauges = s.gauges ∧
    (occurrence code origin s).shop = s.shop := by
  unfold occurrence; (try dsimp only); repeat' (first | (simp; done) | split)

@[simp] theorem goneEvent_frame (code origin : Nat) (s : State) :
    (goneEvent code origin s).pending = s.pending ∧ (goneEvent code origin s).now = s.now ∧
    (goneEvent code origin s).run = s.run ∧ (goneEvent code origin s).port.noticeRead = s.port.noticeRead ∧
    (goneEvent code origin s).port.intEnable = s.port.intEnable ∧
    (goneEvent code origin s).port.displayLost = s.port.displayLost ∧
    (goneEvent code origin s).port.livenessTimer = s.port.livenessTimer ∧
    (goneEvent code origin s).port.sweepTimer = s.port.sweepTimer ∧
    (goneEvent code origin s).port.sweepPlace = s.port.sweepPlace ∧
    (goneEvent code origin s).port.sweepHeld = s.port.sweepHeld ∧
    (goneEvent code origin s).port.sweepCount = s.port.sweepCount ∧
    (goneEvent code origin s).port.writeRefused = s.port.writeRefused ∧
    (goneEvent code origin s).port.refusedAddress = s.port.refusedAddress ∧ (goneEvent code origin s).mem = s.mem ∧
    (goneEvent code origin s).outside = s.outside ∧ (goneEvent code origin s).setup = s.setup ∧
    (goneEvent code origin s).signals = s.signals ∧ (goneEvent code origin s).sense = s.sense ∧
    (goneEvent code origin s).line = s.line ∧ (goneEvent code origin s).doors = s.doors ∧
    (goneEvent code origin s).warnings = s.warnings ∧ (goneEvent code origin s).comp = s.comp ∧
    (goneEvent code origin s).gauges = s.gauges ∧ (goneEvent code origin s).shop = s.shop := by
  unfold goneEvent; split <;> simp

@[simp] theorem ageRecord_frame (i : Nat) (s : State) :
    (ageRecord i s).pending = s.pending ∧ (ageRecord i s).now = s.now ∧ (ageRecord i s).run = s.run ∧
    (ageRecord i s).port.noticeRead = s.port.noticeRead ∧ (ageRecord i s).port.intEnable = s.port.intEnable ∧
    (ageRecord i s).port.displayLost = s.port.displayLost ∧
    (ageRecord i s).port.livenessTimer = s.port.livenessTimer ∧
    (ageRecord i s).port.sweepTimer = s.port.sweepTimer ∧ (ageRecord i s).port.sweepPlace = s.port.sweepPlace ∧
    (ageRecord i s).port.sweepHeld = s.port.sweepHeld ∧ (ageRecord i s).port.sweepCount = s.port.sweepCount ∧
    (ageRecord i s).port.writeRefused = s.port.writeRefused ∧
    (ageRecord i s).port.refusedAddress = s.port.refusedAddress ∧ (ageRecord i s).mem = s.mem ∧
    (ageRecord i s).outside = s.outside ∧ (ageRecord i s).setup = s.setup ∧ (ageRecord i s).signals = s.signals ∧
    (ageRecord i s).sense = s.sense ∧ (ageRecord i s).line = s.line ∧ (ageRecord i s).doors = s.doors ∧
    (ageRecord i s).warnings = s.warnings ∧ (ageRecord i s).comp = s.comp ∧ (ageRecord i s).gauges = s.gauges ∧
    (ageRecord i s).shop = s.shop := by
  unfold ageRecord; (try dsimp only); repeat' (first | (simp; done) | split)

@[simp] theorem ageRecords_frame (s : State) :
    (ageRecords s).pending = s.pending ∧ (ageRecords s).now = s.now ∧ (ageRecords s).run = s.run ∧
    (ageRecords s).port.noticeRead = s.port.noticeRead ∧ (ageRecords s).port.intEnable = s.port.intEnable ∧
    (ageRecords s).port.displayLost = s.port.displayLost ∧
    (ageRecords s).port.livenessTimer = s.port.livenessTimer ∧ (ageRecords s).port.sweepTimer = s.port.sweepTimer ∧
    (ageRecords s).port.sweepPlace = s.port.sweepPlace ∧ (ageRecords s).port.sweepHeld = s.port.sweepHeld ∧
    (ageRecords s).port.sweepCount = s.port.sweepCount ∧ (ageRecords s).port.writeRefused = s.port.writeRefused ∧
    (ageRecords s).port.refusedAddress = s.port.refusedAddress ∧ (ageRecords s).mem = s.mem ∧
    (ageRecords s).outside = s.outside ∧ (ageRecords s).setup = s.setup ∧ (ageRecords s).signals = s.signals ∧
    (ageRecords s).sense = s.sense ∧ (ageRecords s).line = s.line ∧ (ageRecords s).doors = s.doors ∧
    (ageRecords s).warnings = s.warnings ∧ (ageRecords s).comp = s.comp ∧ (ageRecords s).gauges = s.gauges ∧
    (ageRecords s).shop = s.shop := by
  simp [ageRecords]

@[simp] theorem clearRecord_frame (scope : Option Nat) (i : Nat) (s : State) :
    (clearRecord scope i s).pending = s.pending ∧ (clearRecord scope i s).now = s.now ∧
    (clearRecord scope i s).run = s.run ∧ (clearRecord scope i s).port.noticeRead = s.port.noticeRead ∧
    (clearRecord scope i s).port.intEnable = s.port.intEnable ∧
    (clearRecord scope i s).port.displayLost = s.port.displayLost ∧
    (clearRecord scope i s).port.livenessTimer = s.port.livenessTimer ∧
    (clearRecord scope i s).port.sweepTimer = s.port.sweepTimer ∧
    (clearRecord scope i s).port.sweepPlace = s.port.sweepPlace ∧
    (clearRecord scope i s).port.sweepHeld = s.port.sweepHeld ∧
    (clearRecord scope i s).port.sweepCount = s.port.sweepCount ∧
    (clearRecord scope i s).port.writeRefused = s.port.writeRefused ∧
    (clearRecord scope i s).port.refusedAddress = s.port.refusedAddress ∧ (clearRecord scope i s).mem = s.mem ∧
    (clearRecord scope i s).outside = s.outside ∧ (clearRecord scope i s).setup = s.setup ∧
    (clearRecord scope i s).signals = s.signals ∧ (clearRecord scope i s).sense = s.sense ∧
    (clearRecord scope i s).line = s.line ∧ (clearRecord scope i s).doors = s.doors ∧
    (clearRecord scope i s).warnings = s.warnings ∧ (clearRecord scope i s).comp = s.comp ∧
    (clearRecord scope i s).gauges = s.gauges ∧ (clearRecord scope i s).shop = s.shop := by
  unfold clearRecord; (try dsimp only); repeat' (first | (simp; done) | split)

@[simp] theorem clearFaults_frame (scope : Option Nat) (s : State) :
    (clearFaults scope s).pending = s.pending ∧ (clearFaults scope s).now = s.now ∧
    (clearFaults scope s).run = s.run ∧ (clearFaults scope s).port.noticeRead = s.port.noticeRead ∧
    (clearFaults scope s).port.intEnable = s.port.intEnable ∧
    (clearFaults scope s).port.displayLost = s.port.displayLost ∧
    (clearFaults scope s).port.livenessTimer = s.port.livenessTimer ∧
    (clearFaults scope s).port.sweepTimer = s.port.sweepTimer ∧
    (clearFaults scope s).port.sweepPlace = s.port.sweepPlace ∧
    (clearFaults scope s).port.sweepHeld = s.port.sweepHeld ∧
    (clearFaults scope s).port.sweepCount = s.port.sweepCount ∧
    (clearFaults scope s).port.writeRefused = s.port.writeRefused ∧
    (clearFaults scope s).port.refusedAddress = s.port.refusedAddress ∧ (clearFaults scope s).mem = s.mem ∧
    (clearFaults scope s).outside = s.outside ∧ (clearFaults scope s).setup = s.setup ∧
    (clearFaults scope s).signals = s.signals ∧ (clearFaults scope s).sense = s.sense ∧
    (clearFaults scope s).line = s.line ∧ (clearFaults scope s).doors = s.doors ∧
    (clearFaults scope s).warnings = s.warnings ∧ (clearFaults scope s).comp = s.comp ∧
    (clearFaults scope s).gauges = s.gauges ∧ (clearFaults scope s).shop = s.shop := by
  simp [clearFaults]

@[simp] theorem putWarning_frame (w : Nat) (x : Warning) (s : State) :
    (putWarning w x s).pending = s.pending ∧ (putWarning w x s).now = s.now ∧ (putWarning w x s).run = s.run ∧
    (putWarning w x s).port = s.port ∧ (putWarning w x s).mem = s.mem ∧ (putWarning w x s).outside = s.outside ∧
    (putWarning w x s).setup = s.setup ∧ (putWarning w x s).signals = s.signals ∧
    (putWarning w x s).sense = s.sense ∧ (putWarning w x s).line = s.line ∧ (putWarning w x s).doors = s.doors ∧
    (putWarning w x s).comp = s.comp ∧ (putWarning w x s).gauges = s.gauges ∧
    (putWarning w x s).faults = s.faults ∧ (putWarning w x s).shop = s.shop := by
  simp [putWarning]

@[simp] theorem takePriority_frame (w : Nat) (s : State) :
    (takePriority w s).pending = s.pending ∧ (takePriority w s).now = s.now ∧ (takePriority w s).run = s.run ∧
    (takePriority w s).port = s.port ∧ (takePriority w s).mem = s.mem ∧ (takePriority w s).outside = s.outside ∧
    (takePriority w s).setup = s.setup ∧ (takePriority w s).signals = s.signals ∧
    (takePriority w s).sense = s.sense ∧ (takePriority w s).line = s.line ∧ (takePriority w s).doors = s.doors ∧
    (takePriority w s).comp = s.comp ∧ (takePriority w s).gauges = s.gauges ∧
    (takePriority w s).faults = s.faults ∧ (takePriority w s).shop = s.shop := by
  simp [takePriority]

@[simp] theorem compose_frame (announce : Bool) (s : State) :
    (compose announce s).pending = s.pending ∧ (compose announce s).now = s.now ∧
    (compose announce s).run = s.run ∧ (compose announce s).port.noticeRead = s.port.noticeRead ∧
    (compose announce s).port.intEnable = s.port.intEnable ∧
    (compose announce s).port.displayLost = s.port.displayLost ∧
    (compose announce s).port.livenessTimer = s.port.livenessTimer ∧
    (compose announce s).port.sweepTimer = s.port.sweepTimer ∧
    (compose announce s).port.sweepPlace = s.port.sweepPlace ∧
    (compose announce s).port.sweepHeld = s.port.sweepHeld ∧
    (compose announce s).port.sweepCount = s.port.sweepCount ∧
    (compose announce s).port.writeRefused = s.port.writeRefused ∧
    (compose announce s).port.refusedAddress = s.port.refusedAddress ∧ (compose announce s).mem = s.mem ∧
    (compose announce s).outside = s.outside ∧ (compose announce s).setup = s.setup ∧
    (compose announce s).signals = s.signals ∧ (compose announce s).sense = s.sense ∧
    (compose announce s).line = s.line ∧ (compose announce s).doors = s.doors ∧
    (compose announce s).warnings = s.warnings ∧ (compose announce s).gauges = s.gauges ∧
    (compose announce s).faults = s.faults ∧ (compose announce s).shop = s.shop := by
  unfold compose; (try dsimp only); repeat' (first | (simp; done) | split)

@[simp] theorem takePriorities_frame (l : List Nat) (s : State) :
    (takePriorities l s).pending = s.pending ∧ (takePriorities l s).now = s.now ∧
    (takePriorities l s).run = s.run ∧ (takePriorities l s).port.noticeRead = s.port.noticeRead ∧
    (takePriorities l s).port.intEnable = s.port.intEnable ∧
    (takePriorities l s).port.displayLost = s.port.displayLost ∧
    (takePriorities l s).port.livenessTimer = s.port.livenessTimer ∧
    (takePriorities l s).port.sweepTimer = s.port.sweepTimer ∧
    (takePriorities l s).port.sweepPlace = s.port.sweepPlace ∧
    (takePriorities l s).port.sweepHeld = s.port.sweepHeld ∧
    (takePriorities l s).port.sweepCount = s.port.sweepCount ∧
    (takePriorities l s).port.writeRefused = s.port.writeRefused ∧
    (takePriorities l s).port.refusedAddress = s.port.refusedAddress ∧ (takePriorities l s).mem = s.mem ∧
    (takePriorities l s).outside = s.outside ∧ (takePriorities l s).setup = s.setup ∧
    (takePriorities l s).signals = s.signals ∧ (takePriorities l s).sense = s.sense ∧
    (takePriorities l s).line = s.line ∧ (takePriorities l s).doors = s.doors ∧
    (takePriorities l s).gauges = s.gauges ∧ (takePriorities l s).faults = s.faults ∧
    (takePriorities l s).shop = s.shop := by
  simp [takePriorities]

@[simp] theorem takeDuties_frame (s : State) :
    (takeDuties s).pending = s.pending ∧ (takeDuties s).now = s.now ∧ (takeDuties s).run = s.run ∧
    (takeDuties s).port = s.port ∧ (takeDuties s).mem = s.mem ∧ (takeDuties s).outside = s.outside ∧
    (takeDuties s).setup = s.setup ∧ (takeDuties s).signals = s.signals ∧ (takeDuties s).sense = s.sense ∧
    (takeDuties s).line = s.line ∧ (takeDuties s).doors = s.doors ∧ (takeDuties s).warnings = s.warnings ∧
    (takeDuties s).comp.check = s.comp.check ∧ (takeDuties s).comp.checkTimer = s.comp.checkTimer ∧
    (takeDuties s).comp.testTimer = s.comp.testTimer ∧ (takeDuties s).comp.flash1 = s.comp.flash1 ∧
    (takeDuties s).comp.flash3 = s.comp.flash3 ∧ (takeDuties s).gauges = s.gauges ∧
    (takeDuties s).faults = s.faults ∧ (takeDuties s).shop = s.shop := by
  simp [takeDuties]

@[simp] theorem commitWarning_frame (w : Nat) (m : WarningMove) (s : State) :
    (commitWarning w m s).pending = s.pending ∧ (commitWarning w m s).now = s.now ∧
    (commitWarning w m s).run = s.run ∧ (commitWarning w m s).port.noticeRead = s.port.noticeRead ∧
    (commitWarning w m s).port.intEnable = s.port.intEnable ∧
    (commitWarning w m s).port.displayLost = s.port.displayLost ∧
    (commitWarning w m s).port.livenessTimer = s.port.livenessTimer ∧
    (commitWarning w m s).port.sweepTimer = s.port.sweepTimer ∧
    (commitWarning w m s).port.sweepPlace = s.port.sweepPlace ∧
    (commitWarning w m s).port.sweepHeld = s.port.sweepHeld ∧
    (commitWarning w m s).port.sweepCount = s.port.sweepCount ∧
    (commitWarning w m s).port.writeRefused = s.port.writeRefused ∧
    (commitWarning w m s).port.refusedAddress = s.port.refusedAddress ∧ (commitWarning w m s).mem = s.mem ∧
    (commitWarning w m s).outside = s.outside ∧ (commitWarning w m s).setup = s.setup ∧
    (commitWarning w m s).signals = s.signals ∧ (commitWarning w m s).sense = s.sense ∧
    (commitWarning w m s).line = s.line ∧ (commitWarning w m s).doors = s.doors ∧
    (commitWarning w m s).gauges = s.gauges ∧ (commitWarning w m s).shop = s.shop := by
  simp [commitWarning]

@[simp] theorem takeCondition_frame (w : Nat) (s : State) :
    (takeCondition w s).pending = s.pending ∧ (takeCondition w s).now = s.now ∧ (takeCondition w s).run = s.run ∧
    (takeCondition w s).port.noticeRead = s.port.noticeRead ∧
    (takeCondition w s).port.intEnable = s.port.intEnable ∧
    (takeCondition w s).port.displayLost = s.port.displayLost ∧
    (takeCondition w s).port.livenessTimer = s.port.livenessTimer ∧
    (takeCondition w s).port.sweepTimer = s.port.sweepTimer ∧
    (takeCondition w s).port.sweepPlace = s.port.sweepPlace ∧
    (takeCondition w s).port.sweepHeld = s.port.sweepHeld ∧
    (takeCondition w s).port.sweepCount = s.port.sweepCount ∧
    (takeCondition w s).port.writeRefused = s.port.writeRefused ∧
    (takeCondition w s).port.refusedAddress = s.port.refusedAddress ∧ (takeCondition w s).mem = s.mem ∧
    (takeCondition w s).outside = s.outside ∧ (takeCondition w s).setup = s.setup ∧
    (takeCondition w s).signals = s.signals ∧ (takeCondition w s).sense = s.sense ∧
    (takeCondition w s).line = s.line ∧ (takeCondition w s).doors = s.doors ∧
    (takeCondition w s).gauges = s.gauges ∧ (takeCondition w s).shop = s.shop := by
  unfold takeCondition; split <;> simp

@[simp] theorem takeTests_frame (n : Nat) (s : State) :
    (takeTests n s).pending = s.pending ∧ (takeTests n s).now = s.now ∧ (takeTests n s).run = s.run ∧
    (takeTests n s).port.noticeRead = s.port.noticeRead ∧ (takeTests n s).port.intEnable = s.port.intEnable ∧
    (takeTests n s).port.displayLost = s.port.displayLost ∧
    (takeTests n s).port.livenessTimer = s.port.livenessTimer ∧
    (takeTests n s).port.sweepTimer = s.port.sweepTimer ∧ (takeTests n s).port.sweepPlace = s.port.sweepPlace ∧
    (takeTests n s).port.sweepHeld = s.port.sweepHeld ∧ (takeTests n s).port.sweepCount = s.port.sweepCount ∧
    (takeTests n s).port.writeRefused = s.port.writeRefused ∧
    (takeTests n s).port.refusedAddress = s.port.refusedAddress ∧ (takeTests n s).mem = s.mem ∧
    (takeTests n s).outside = s.outside ∧ (takeTests n s).setup = s.setup ∧ (takeTests n s).signals = s.signals ∧
    (takeTests n s).sense = s.sense ∧ (takeTests n s).line = s.line ∧ (takeTests n s).doors = s.doors ∧
    (takeTests n s).gauges = s.gauges ∧ (takeTests n s).shop = s.shop := by
  simp [takeTests]

@[simp] theorem takeSource_frame (src : Source) (i : Nat) (s : State) :
    (takeSource src i s).pending = s.pending ∧ (takeSource src i s).now = s.now ∧
    (takeSource src i s).run = s.run ∧ (takeSource src i s).port.noticeRead = s.port.noticeRead ∧
    (takeSource src i s).port.intEnable = s.port.intEnable ∧
    (takeSource src i s).port.displayLost = s.port.displayLost ∧
    (takeSource src i s).port.livenessTimer = s.port.livenessTimer ∧
    (takeSource src i s).port.sweepTimer = s.port.sweepTimer ∧
    (takeSource src i s).port.sweepPlace = s.port.sweepPlace ∧
    (takeSource src i s).port.sweepHeld = s.port.sweepHeld ∧
    (takeSource src i s).port.sweepCount = s.port.sweepCount ∧
    (takeSource src i s).port.writeRefused = s.port.writeRefused ∧
    (takeSource src i s).port.refusedAddress = s.port.refusedAddress ∧ (takeSource src i s).mem = s.mem ∧
    (takeSource src i s).outside = s.outside ∧ (takeSource src i s).setup = s.setup ∧
    (takeSource src i s).signals = s.signals ∧ (takeSource src i s).sense = s.sense ∧
    (takeSource src i s).line = s.line ∧ (takeSource src i s).doors = s.doors ∧
    (takeSource src i s).gauges = s.gauges ∧ (takeSource src i s).shop = s.shop := by
  simp [takeSource]

@[simp] theorem warningDelayExpires_frame (w : Nat) (s : State) :
    (warningDelayExpires w s).pending = s.pending ∧ (warningDelayExpires w s).now = s.now ∧
    (warningDelayExpires w s).run = s.run ∧ (warningDelayExpires w s).port.noticeRead = s.port.noticeRead ∧
    (warningDelayExpires w s).port.intEnable = s.port.intEnable ∧
    (warningDelayExpires w s).port.displayLost = s.port.displayLost ∧
    (warningDelayExpires w s).port.livenessTimer = s.port.livenessTimer ∧
    (warningDelayExpires w s).port.sweepTimer = s.port.sweepTimer ∧
    (warningDelayExpires w s).port.sweepPlace = s.port.sweepPlace ∧
    (warningDelayExpires w s).port.sweepHeld = s.port.sweepHeld ∧
    (warningDelayExpires w s).port.sweepCount = s.port.sweepCount ∧
    (warningDelayExpires w s).port.writeRefused = s.port.writeRefused ∧
    (warningDelayExpires w s).port.refusedAddress = s.port.refusedAddress ∧ (warningDelayExpires w s).mem = s.mem ∧
    (warningDelayExpires w s).outside = s.outside ∧ (warningDelayExpires w s).setup = s.setup ∧
    (warningDelayExpires w s).signals = s.signals ∧ (warningDelayExpires w s).sense = s.sense ∧
    (warningDelayExpires w s).line = s.line ∧ (warningDelayExpires w s).doors = s.doors ∧
    (warningDelayExpires w s).gauges = s.gauges ∧ (warningDelayExpires w s).shop = s.shop := by
  unfold warningDelayExpires; (try dsimp only); repeat' (first | (simp; done) | split)

@[simp] theorem acknowledge_frame (w : Nat) (s : State) :
    (acknowledge w s).pending = s.pending ∧ (acknowledge w s).now = s.now ∧ (acknowledge w s).run = s.run ∧
    (acknowledge w s).port.noticeRead = s.port.noticeRead ∧ (acknowledge w s).port.intEnable = s.port.intEnable ∧
    (acknowledge w s).port.displayLost = s.port.displayLost ∧
    (acknowledge w s).port.livenessTimer = s.port.livenessTimer ∧
    (acknowledge w s).port.sweepTimer = s.port.sweepTimer ∧ (acknowledge w s).port.sweepPlace = s.port.sweepPlace ∧
    (acknowledge w s).port.sweepHeld = s.port.sweepHeld ∧ (acknowledge w s).port.sweepCount = s.port.sweepCount ∧
    (acknowledge w s).port.writeRefused = s.port.writeRefused ∧
    (acknowledge w s).port.refusedAddress = s.port.refusedAddress ∧ (acknowledge w s).mem = s.mem ∧
    (acknowledge w s).outside = s.outside ∧ (acknowledge w s).setup = s.setup ∧
    (acknowledge w s).signals = s.signals ∧ (acknowledge w s).sense = s.sense ∧ (acknowledge w s).line = s.line ∧
    (acknowledge w s).doors = s.doors ∧ (acknowledge w s).gauges = s.gauges ∧ (acknowledge w s).shop = s.shop := by
  simp [acknowledge]

@[simp] theorem acknowledgeEdge_frame (s : State) :
    (acknowledgeEdge s).pending = s.pending ∧ (acknowledgeEdge s).now = s.now ∧ (acknowledgeEdge s).run = s.run ∧
    (acknowledgeEdge s).port.noticeRead = s.port.noticeRead ∧
    (acknowledgeEdge s).port.intEnable = s.port.intEnable ∧
    (acknowledgeEdge s).port.displayLost = s.port.displayLost ∧
    (acknowledgeEdge s).port.livenessTimer = s.port.livenessTimer ∧
    (acknowledgeEdge s).port.sweepTimer = s.port.sweepTimer ∧
    (acknowledgeEdge s).port.sweepPlace = s.port.sweepPlace ∧
    (acknowledgeEdge s).port.sweepHeld = s.port.sweepHeld ∧
    (acknowledgeEdge s).port.sweepCount = s.port.sweepCount ∧
    (acknowledgeEdge s).port.writeRefused = s.port.writeRefused ∧
    (acknowledgeEdge s).port.refusedAddress = s.port.refusedAddress ∧ (acknowledgeEdge s).mem = s.mem ∧
    (acknowledgeEdge s).outside = s.outside ∧ (acknowledgeEdge s).setup = s.setup ∧
    (acknowledgeEdge s).signals = s.signals ∧ (acknowledgeEdge s).sense = s.sense ∧
    (acknowledgeEdge s).line = s.line ∧ (acknowledgeEdge s).doors = s.doors ∧
    (acknowledgeEdge s).gauges = s.gauges ∧ (acknowledgeEdge s).shop = s.shop := by
  unfold acknowledgeEdge; split <;> simp

@[simp] theorem stopWarning_frame (w : Nat) (s : State) :
    (stopWarning w s).pending = s.pending ∧ (stopWarning w s).now = s.now ∧ (stopWarning w s).run = s.run ∧
    (stopWarning w s).port.noticeRead = s.port.noticeRead ∧ (stopWarning w s).port.intEnable = s.port.intEnable ∧
    (stopWarning w s).port.displayLost = s.port.displayLost ∧
    (stopWarning w s).port.livenessTimer = s.port.livenessTimer ∧
    (stopWarning w s).port.sweepTimer = s.port.sweepTimer ∧ (stopWarning w s).port.sweepPlace = s.port.sweepPlace ∧
    (stopWarning w s).port.sweepHeld = s.port.sweepHeld ∧ (stopWarning w s).port.sweepCount = s.port.sweepCount ∧
    (stopWarning w s).port.writeRefused = s.port.writeRefused ∧
    (stopWarning w s).port.refusedAddress = s.port.refusedAddress ∧ (stopWarning w s).mem = s.mem ∧
    (stopWarning w s).outside = s.outside ∧ (stopWarning w s).setup = s.setup ∧
    (stopWarning w s).signals = s.signals ∧ (stopWarning w s).sense = s.sense ∧ (stopWarning w s).line = s.line ∧
    (stopWarning w s).doors = s.doors ∧ (stopWarning w s).comp = s.comp ∧ (stopWarning w s).gauges = s.gauges ∧
    (stopWarning w s).shop = s.shop := by
  simp [stopWarning]

@[simp] theorem stopWarnings_frame (s : State) :
    (stopWarnings s).pending = s.pending ∧ (stopWarnings s).now = s.now ∧ (stopWarnings s).run = s.run ∧
    (stopWarnings s).port.noticeRead = s.port.noticeRead ∧ (stopWarnings s).port.intEnable = s.port.intEnable ∧
    (stopWarnings s).port.displayLost = s.port.displayLost ∧
    (stopWarnings s).port.livenessTimer = s.port.livenessTimer ∧
    (stopWarnings s).port.sweepTimer = s.port.sweepTimer ∧ (stopWarnings s).port.sweepPlace = s.port.sweepPlace ∧
    (stopWarnings s).port.sweepHeld = s.port.sweepHeld ∧ (stopWarnings s).port.sweepCount = s.port.sweepCount ∧
    (stopWarnings s).port.writeRefused = s.port.writeRefused ∧
    (stopWarnings s).port.refusedAddress = s.port.refusedAddress ∧ (stopWarnings s).mem = s.mem ∧
    (stopWarnings s).outside = s.outside ∧ (stopWarnings s).setup = s.setup ∧
    (stopWarnings s).signals = s.signals ∧ (stopWarnings s).sense = s.sense ∧ (stopWarnings s).line = s.line ∧
    (stopWarnings s).doors = s.doors ∧ (stopWarnings s).comp = s.comp ∧ (stopWarnings s).gauges = s.gauges ∧
    (stopWarnings s).shop = s.shop := by
  simp [stopWarnings]


end Sys2Proof.Machine
end

