-- ==== Sys2Proof/Laws/FrameDrives.lean ====
section
/-! SUPPORT. Frames: what each operation of the tell-tales, the sounder and the gauge drive leaves as it was. -/

namespace Sys2Proof.Machine

@[simp] theorem setLamp_frame (l : Nat) (x : Lamp) (s : State) :
    (setLamp l x s).pending = s.pending ∧ (setLamp l x s).now = s.now ∧ (setLamp l x s).run = s.run ∧
    (setLamp l x s).port = s.port ∧ (setLamp l x s).mem = s.mem ∧ (setLamp l x s).outside = s.outside ∧
    (setLamp l x s).setup = s.setup ∧ (setLamp l x s).signals = s.signals ∧ (setLamp l x s).sense = s.sense ∧
    (setLamp l x s).line = s.line ∧ (setLamp l x s).doors = s.doors ∧ (setLamp l x s).warnings = s.warnings ∧
    (setLamp l x s).comp.check = s.comp.check ∧ (setLamp l x s).comp.checkTimer = s.comp.checkTimer ∧
    (setLamp l x s).comp.testTimer = s.comp.testTimer ∧ (setLamp l x s).comp.flash1 = s.comp.flash1 ∧
    (setLamp l x s).comp.flash3 = s.comp.flash3 ∧ (setLamp l x s).gauges = s.gauges ∧
    (setLamp l x s).faults = s.faults ∧ (setLamp l x s).shop = s.shop := by
  simp [setLamp]

@[simp] theorem handProof_frame (l : Nat) (s : State) :
    (handProof l s).pending = s.pending ∧ (handProof l s).now = s.now ∧ (handProof l s).run = s.run ∧
    (handProof l s).port.noticeRead = s.port.noticeRead ∧ (handProof l s).port.intEnable = s.port.intEnable ∧
    (handProof l s).port.displayLost = s.port.displayLost ∧
    (handProof l s).port.livenessTimer = s.port.livenessTimer ∧
    (handProof l s).port.sweepTimer = s.port.sweepTimer ∧ (handProof l s).port.sweepPlace = s.port.sweepPlace ∧
    (handProof l s).port.sweepHeld = s.port.sweepHeld ∧ (handProof l s).port.sweepCount = s.port.sweepCount ∧
    (handProof l s).port.writeRefused = s.port.writeRefused ∧
    (handProof l s).port.refusedAddress = s.port.refusedAddress ∧ (handProof l s).mem = s.mem ∧
    (handProof l s).outside = s.outside ∧ (handProof l s).setup = s.setup ∧ (handProof l s).signals = s.signals ∧
    (handProof l s).sense = s.sense ∧ (handProof l s).line = s.line ∧ (handProof l s).doors = s.doors ∧
    (handProof l s).gauges = s.gauges ∧ (handProof l s).shop = s.shop := by
  simp [handProof]

@[simp] theorem changeLamp_frame (l : Nat) (x : Lamp) (s : State) :
    (changeLamp l x s).pending = s.pending ∧ (changeLamp l x s).now = s.now ∧ (changeLamp l x s).run = s.run ∧
    (changeLamp l x s).port.noticeRead = s.port.noticeRead ∧ (changeLamp l x s).port.intEnable = s.port.intEnable ∧
    (changeLamp l x s).port.displayLost = s.port.displayLost ∧
    (changeLamp l x s).port.livenessTimer = s.port.livenessTimer ∧
    (changeLamp l x s).port.sweepTimer = s.port.sweepTimer ∧
    (changeLamp l x s).port.sweepPlace = s.port.sweepPlace ∧ (changeLamp l x s).port.sweepHeld = s.port.sweepHeld ∧
    (changeLamp l x s).port.sweepCount = s.port.sweepCount ∧
    (changeLamp l x s).port.writeRefused = s.port.writeRefused ∧
    (changeLamp l x s).port.refusedAddress = s.port.refusedAddress ∧ (changeLamp l x s).mem = s.mem ∧
    (changeLamp l x s).outside = s.outside ∧ (changeLamp l x s).setup = s.setup ∧
    (changeLamp l x s).signals = s.signals ∧ (changeLamp l x s).sense = s.sense ∧
    (changeLamp l x s).line = s.line ∧ (changeLamp l x s).doors = s.doors ∧ (changeLamp l x s).gauges = s.gauges ∧
    (changeLamp l x s).shop = s.shop := by
  simp [changeLamp]

@[simp] theorem measureLamp_frame (l : Nat) (milliamps : Nat) (s : State) :
    (measureLamp l milliamps s).pending = s.pending ∧ (measureLamp l milliamps s).now = s.now ∧
    (measureLamp l milliamps s).run = s.run ∧ (measureLamp l milliamps s).port.noticeRead = s.port.noticeRead ∧
    (measureLamp l milliamps s).port.intEnable = s.port.intEnable ∧
    (measureLamp l milliamps s).port.displayLost = s.port.displayLost ∧
    (measureLamp l milliamps s).port.livenessTimer = s.port.livenessTimer ∧
    (measureLamp l milliamps s).port.sweepTimer = s.port.sweepTimer ∧
    (measureLamp l milliamps s).port.sweepPlace = s.port.sweepPlace ∧
    (measureLamp l milliamps s).port.sweepHeld = s.port.sweepHeld ∧
    (measureLamp l milliamps s).port.sweepCount = s.port.sweepCount ∧
    (measureLamp l milliamps s).port.writeRefused = s.port.writeRefused ∧
    (measureLamp l milliamps s).port.refusedAddress = s.port.refusedAddress ∧
    (measureLamp l milliamps s).mem = s.mem ∧ (measureLamp l milliamps s).outside = s.outside ∧
    (measureLamp l milliamps s).setup = s.setup ∧ (measureLamp l milliamps s).signals = s.signals ∧
    (measureLamp l milliamps s).sense = s.sense ∧ (measureLamp l milliamps s).line = s.line ∧
    (measureLamp l milliamps s).doors = s.doors ∧ (measureLamp l milliamps s).gauges = s.gauges ∧
    (measureLamp l milliamps s).shop = s.shop := by
  simp [measureLamp]

@[simp] theorem proofExpires_frame (l : Nat) (milliamps : Nat) (s : State) :
    (proofExpires l milliamps s).pending = s.pending ∧ (proofExpires l milliamps s).run = s.run ∧
    (proofExpires l milliamps s).port.noticeRead = s.port.noticeRead ∧
    (proofExpires l milliamps s).port.intEnable = s.port.intEnable ∧
    (proofExpires l milliamps s).port.displayLost = s.port.displayLost ∧
    (proofExpires l milliamps s).port.livenessTimer = s.port.livenessTimer ∧
    (proofExpires l milliamps s).port.sweepTimer = s.port.sweepTimer ∧
    (proofExpires l milliamps s).port.sweepPlace = s.port.sweepPlace ∧
    (proofExpires l milliamps s).port.sweepHeld = s.port.sweepHeld ∧
    (proofExpires l milliamps s).port.sweepCount = s.port.sweepCount ∧
    (proofExpires l milliamps s).port.writeRefused = s.port.writeRefused ∧
    (proofExpires l milliamps s).port.refusedAddress = s.port.refusedAddress ∧
    (proofExpires l milliamps s).mem = s.mem ∧ (proofExpires l milliamps s).outside = s.outside ∧
    (proofExpires l milliamps s).setup = s.setup ∧ (proofExpires l milliamps s).signals = s.signals ∧
    (proofExpires l milliamps s).sense = s.sense ∧ (proofExpires l milliamps s).line = s.line ∧
    (proofExpires l milliamps s).doors = s.doors ∧ (proofExpires l milliamps s).gauges = s.gauges ∧
    (proofExpires l milliamps s).shop = s.shop := by
  simp [proofExpires]

@[simp] theorem overcurrent_frame (l : Nat) (s : State) :
    (overcurrent l s).pending = s.pending ∧ (overcurrent l s).now = s.now ∧ (overcurrent l s).run = s.run ∧
    (overcurrent l s).port.noticeRead = s.port.noticeRead ∧ (overcurrent l s).port.intEnable = s.port.intEnable ∧
    (overcurrent l s).port.displayLost = s.port.displayLost ∧
    (overcurrent l s).port.livenessTimer = s.port.livenessTimer ∧
    (overcurrent l s).port.sweepTimer = s.port.sweepTimer ∧ (overcurrent l s).port.sweepPlace = s.port.sweepPlace ∧
    (overcurrent l s).port.sweepHeld = s.port.sweepHeld ∧ (overcurrent l s).port.sweepCount = s.port.sweepCount ∧
    (overcurrent l s).port.writeRefused = s.port.writeRefused ∧
    (overcurrent l s).port.refusedAddress = s.port.refusedAddress ∧ (overcurrent l s).mem = s.mem ∧
    (overcurrent l s).outside = s.outside ∧ (overcurrent l s).setup = s.setup ∧
    (overcurrent l s).signals = s.signals ∧ (overcurrent l s).sense = s.sense ∧ (overcurrent l s).line = s.line ∧
    (overcurrent l s).doors = s.doors ∧ (overcurrent l s).gauges = s.gauges ∧ (overcurrent l s).shop = s.shop := by
  simp [overcurrent]

@[simp] theorem retryExpires_frame (l : Nat) (s : State) :
    (retryExpires l s).pending = s.pending ∧ (retryExpires l s).run = s.run ∧ (retryExpires l s).port = s.port ∧
    (retryExpires l s).mem = s.mem ∧ (retryExpires l s).outside = s.outside ∧ (retryExpires l s).setup = s.setup ∧
    (retryExpires l s).signals = s.signals ∧ (retryExpires l s).sense = s.sense ∧
    (retryExpires l s).line = s.line ∧ (retryExpires l s).doors = s.doors ∧
    (retryExpires l s).warnings = s.warnings ∧ (retryExpires l s).comp.check = s.comp.check ∧
    (retryExpires l s).comp.checkTimer = s.comp.checkTimer ∧ (retryExpires l s).comp.testTimer = s.comp.testTimer ∧
    (retryExpires l s).comp.flash1 = s.comp.flash1 ∧ (retryExpires l s).comp.flash3 = s.comp.flash3 ∧
    (retryExpires l s).gauges = s.gauges ∧ (retryExpires l s).faults = s.faults ∧ (retryExpires l s).shop = s.shop := by
  simp [retryExpires]

@[simp] theorem startTestTone_frame (s : State) :
    (startTestTone s).pending = s.pending ∧ (startTestTone s).now = s.now ∧ (startTestTone s).run = s.run ∧
    (startTestTone s).port = s.port ∧ (startTestTone s).mem = s.mem ∧ (startTestTone s).outside = s.outside ∧
    (startTestTone s).setup = s.setup ∧ (startTestTone s).signals = s.signals ∧ (startTestTone s).sense = s.sense ∧
    (startTestTone s).line = s.line ∧ (startTestTone s).doors = s.doors ∧ (startTestTone s).warnings = s.warnings ∧
    (startTestTone s).comp.check = s.comp.check ∧ (startTestTone s).comp.checkTimer = s.comp.checkTimer ∧
    (startTestTone s).comp.flash1 = s.comp.flash1 ∧ (startTestTone s).comp.flash3 = s.comp.flash3 ∧
    (startTestTone s).gauges = s.gauges ∧ (startTestTone s).faults = s.faults ∧ (startTestTone s).shop = s.shop := by
  simp [startTestTone]

@[simp] theorem startLampCheck_frame (owner : CheckOwner) (s : State) :
    (startLampCheck owner s).pending = s.pending ∧ (startLampCheck owner s).now = s.now ∧
    (startLampCheck owner s).run = s.run ∧ (startLampCheck owner s).port.noticeRead = s.port.noticeRead ∧
    (startLampCheck owner s).port.intEnable = s.port.intEnable ∧
    (startLampCheck owner s).port.displayLost = s.port.displayLost ∧
    (startLampCheck owner s).port.livenessTimer = s.port.livenessTimer ∧
    (startLampCheck owner s).port.sweepTimer = s.port.sweepTimer ∧
    (startLampCheck owner s).port.sweepPlace = s.port.sweepPlace ∧
    (startLampCheck owner s).port.sweepHeld = s.port.sweepHeld ∧
    (startLampCheck owner s).port.sweepCount = s.port.sweepCount ∧
    (startLampCheck owner s).port.writeRefused = s.port.writeRefused ∧
    (startLampCheck owner s).port.refusedAddress = s.port.refusedAddress ∧ (startLampCheck owner s).mem = s.mem ∧
    (startLampCheck owner s).outside = s.outside ∧ (startLampCheck owner s).setup = s.setup ∧
    (startLampCheck owner s).signals = s.signals ∧ (startLampCheck owner s).sense = s.sense ∧
    (startLampCheck owner s).line = s.line ∧ (startLampCheck owner s).doors = s.doors ∧
    (startLampCheck owner s).gauges = s.gauges ∧ (startLampCheck owner s).shop = s.shop := by
  simp [startLampCheck]

@[simp] theorem setLampTest_frame (x : TestState) (cause : EndCause) (s : State) :
    (setLampTest x cause s).pending = s.pending ∧ (setLampTest x cause s).now = s.now ∧
    (setLampTest x cause s).run = s.run ∧ (setLampTest x cause s).port = s.port ∧
    (setLampTest x cause s).mem = s.mem ∧ (setLampTest x cause s).outside = s.outside ∧
    (setLampTest x cause s).setup = s.setup ∧ (setLampTest x cause s).signals = s.signals ∧
    (setLampTest x cause s).sense = s.sense ∧ (setLampTest x cause s).line = s.line ∧
    (setLampTest x cause s).doors = s.doors ∧ (setLampTest x cause s).warnings = s.warnings ∧
    (setLampTest x cause s).comp = s.comp ∧ (setLampTest x cause s).gauges = s.gauges ∧
    (setLampTest x cause s).faults = s.faults ∧ (setLampTest x cause s).shop.session = s.shop.session ∧
    (setLampTest x cause s).shop.forced = s.shop.forced ∧ (setLampTest x cause s).shop.receiver = s.shop.receiver ∧
    (setLampTest x cause s).shop.rate = s.shop.rate ∧ (setLampTest x cause s).shop.nextRate = s.shop.nextRate ∧
    (setLampTest x cause s).shop.gapTimer = s.shop.gapTimer ∧
    (setLampTest x cause s).shop.idleTimer = s.shop.idleTimer := by
  simp [setLampTest]

@[simp] theorem stopLampCheck_frame (s : State) :
    (stopLampCheck s).pending = s.pending ∧ (stopLampCheck s).now = s.now ∧ (stopLampCheck s).run = s.run ∧
    (stopLampCheck s).port.noticeRead = s.port.noticeRead ∧ (stopLampCheck s).port.intEnable = s.port.intEnable ∧
    (stopLampCheck s).port.displayLost = s.port.displayLost ∧
    (stopLampCheck s).port.livenessTimer = s.port.livenessTimer ∧
    (stopLampCheck s).port.sweepTimer = s.port.sweepTimer ∧ (stopLampCheck s).port.sweepPlace = s.port.sweepPlace ∧
    (stopLampCheck s).port.sweepHeld = s.port.sweepHeld ∧ (stopLampCheck s).port.sweepCount = s.port.sweepCount ∧
    (stopLampCheck s).port.writeRefused = s.port.writeRefused ∧
    (stopLampCheck s).port.refusedAddress = s.port.refusedAddress ∧ (stopLampCheck s).mem = s.mem ∧
    (stopLampCheck s).outside = s.outside ∧ (stopLampCheck s).setup = s.setup ∧
    (stopLampCheck s).signals = s.signals ∧ (stopLampCheck s).sense = s.sense ∧ (stopLampCheck s).line = s.line ∧
    (stopLampCheck s).doors = s.doors ∧ (stopLampCheck s).warnings = s.warnings ∧
    (stopLampCheck s).gauges = s.gauges ∧ (stopLampCheck s).faults = s.faults ∧ (stopLampCheck s).shop = s.shop := by
  simp [stopLampCheck]

@[simp] theorem lampCheckExpires_frame (s : State) :
    (lampCheckExpires s).pending = s.pending ∧ (lampCheckExpires s).run = s.run ∧
    (lampCheckExpires s).port.noticeRead = s.port.noticeRead ∧
    (lampCheckExpires s).port.intEnable = s.port.intEnable ∧
    (lampCheckExpires s).port.displayLost = s.port.displayLost ∧
    (lampCheckExpires s).port.livenessTimer = s.port.livenessTimer ∧
    (lampCheckExpires s).port.sweepTimer = s.port.sweepTimer ∧
    (lampCheckExpires s).port.sweepPlace = s.port.sweepPlace ∧
    (lampCheckExpires s).port.sweepHeld = s.port.sweepHeld ∧
    (lampCheckExpires s).port.sweepCount = s.port.sweepCount ∧
    (lampCheckExpires s).port.writeRefused = s.port.writeRefused ∧
    (lampCheckExpires s).port.refusedAddress = s.port.refusedAddress ∧ (lampCheckExpires s).outside = s.outside ∧
    (lampCheckExpires s).setup = s.setup ∧ (lampCheckExpires s).signals = s.signals ∧
    (lampCheckExpires s).sense = s.sense ∧ (lampCheckExpires s).line = s.line ∧
    (lampCheckExpires s).doors = s.doors ∧ (lampCheckExpires s).warnings = s.warnings ∧
    (lampCheckExpires s).gauges = s.gauges ∧ (lampCheckExpires s).faults = s.faults ∧
    (lampCheckExpires s).shop.session = s.shop.session ∧ (lampCheckExpires s).shop.forced = s.shop.forced ∧
    (lampCheckExpires s).shop.receiver = s.shop.receiver ∧ (lampCheckExpires s).shop.rate = s.shop.rate ∧
    (lampCheckExpires s).shop.nextRate = s.shop.nextRate ∧ (lampCheckExpires s).shop.gapTimer = s.shop.gapTimer ∧
    (lampCheckExpires s).shop.idleTimer = s.shop.idleTimer := by
  unfold lampCheckExpires; split <;> simp

@[simp] theorem endLampCheck_frame (code : ResultCode) (cause : EndCause) (s : State) :
    (endLampCheck code cause s).pending = s.pending ∧ (endLampCheck code cause s).now = s.now ∧
    (endLampCheck code cause s).run = s.run ∧ (endLampCheck code cause s).port.noticeRead = s.port.noticeRead ∧
    (endLampCheck code cause s).port.intEnable = s.port.intEnable ∧
    (endLampCheck code cause s).port.displayLost = s.port.displayLost ∧
    (endLampCheck code cause s).port.livenessTimer = s.port.livenessTimer ∧
    (endLampCheck code cause s).port.sweepTimer = s.port.sweepTimer ∧
    (endLampCheck code cause s).port.sweepPlace = s.port.sweepPlace ∧
    (endLampCheck code cause s).port.sweepHeld = s.port.sweepHeld ∧
    (endLampCheck code cause s).port.sweepCount = s.port.sweepCount ∧
    (endLampCheck code cause s).port.writeRefused = s.port.writeRefused ∧
    (endLampCheck code cause s).port.refusedAddress = s.port.refusedAddress ∧
    (endLampCheck code cause s).outside = s.outside ∧ (endLampCheck code cause s).setup = s.setup ∧
    (endLampCheck code cause s).signals = s.signals ∧ (endLampCheck code cause s).sense = s.sense ∧
    (endLampCheck code cause s).line = s.line ∧ (endLampCheck code cause s).doors = s.doors ∧
    (endLampCheck code cause s).warnings = s.warnings ∧ (endLampCheck code cause s).gauges = s.gauges ∧
    (endLampCheck code cause s).faults = s.faults ∧ (endLampCheck code cause s).shop.session = s.shop.session ∧
    (endLampCheck code cause s).shop.forced = s.shop.forced ∧
    (endLampCheck code cause s).shop.receiver = s.shop.receiver ∧
    (endLampCheck code cause s).shop.rate = s.shop.rate ∧
    (endLampCheck code cause s).shop.nextRate = s.shop.nextRate ∧
    (endLampCheck code cause s).shop.gapTimer = s.shop.gapTimer ∧
    (endLampCheck code cause s).shop.idleTimer = s.shop.idleTimer := by
  unfold endLampCheck; split <;> simp

@[simp] theorem endWorkshopLampCheck_frame (cause : EndCause) (s : State) :
    (endWorkshopLampCheck cause s).pending = s.pending ∧ (endWorkshopLampCheck cause s).now = s.now ∧
    (endWorkshopLampCheck cause s).run = s.run ∧
    (endWorkshopLampCheck cause s).port.noticeRead = s.port.noticeRead ∧
    (endWorkshopLampCheck cause s).port.intEnable = s.port.intEnable ∧
    (endWorkshopLampCheck cause s).port.displayLost = s.port.displayLost ∧
    (endWorkshopLampCheck cause s).port.livenessTimer = s.port.livenessTimer ∧
    (endWorkshopLampCheck cause s).port.sweepTimer = s.port.sweepTimer ∧
    (endWorkshopLampCheck cause s).port.sweepPlace = s.port.sweepPlace ∧
    (endWorkshopLampCheck cause s).port.sweepHeld = s.port.sweepHeld ∧
    (endWorkshopLampCheck cause s).port.sweepCount = s.port.sweepCount ∧
    (endWorkshopLampCheck cause s).port.writeRefused = s.port.writeRefused ∧
    (endWorkshopLampCheck cause s).port.refusedAddress = s.port.refusedAddress ∧
    (endWorkshopLampCheck cause s).mem = s.mem ∧ (endWorkshopLampCheck cause s).outside = s.outside ∧
    (endWorkshopLampCheck cause s).setup = s.setup ∧ (endWorkshopLampCheck cause s).signals = s.signals ∧
    (endWorkshopLampCheck cause s).sense = s.sense ∧ (endWorkshopLampCheck cause s).line = s.line ∧
    (endWorkshopLampCheck cause s).doors = s.doors ∧ (endWorkshopLampCheck cause s).warnings = s.warnings ∧
    (endWorkshopLampCheck cause s).gauges = s.gauges ∧ (endWorkshopLampCheck cause s).faults = s.faults ∧
    (endWorkshopLampCheck cause s).shop.session = s.shop.session ∧
    (endWorkshopLampCheck cause s).shop.forced = s.shop.forced ∧
    (endWorkshopLampCheck cause s).shop.receiver = s.shop.receiver ∧
    (endWorkshopLampCheck cause s).shop.rate = s.shop.rate ∧
    (endWorkshopLampCheck cause s).shop.nextRate = s.shop.nextRate ∧
    (endWorkshopLampCheck cause s).shop.gapTimer = s.shop.gapTimer ∧
    (endWorkshopLampCheck cause s).shop.idleTimer = s.shop.idleTimer := by
  unfold endWorkshopLampCheck; split <;> simp

@[simp] theorem flashExpires_frame (rate : FlashRate) (s : State) :
    (flashExpires rate s).pending = s.pending ∧ (flashExpires rate s).run = s.run ∧
    (flashExpires rate s).port = s.port ∧ (flashExpires rate s).mem = s.mem ∧
    (flashExpires rate s).outside = s.outside ∧ (flashExpires rate s).setup = s.setup ∧
    (flashExpires rate s).signals = s.signals ∧ (flashExpires rate s).sense = s.sense ∧
    (flashExpires rate s).line = s.line ∧ (flashExpires rate s).doors = s.doors ∧
    (flashExpires rate s).warnings = s.warnings ∧ (flashExpires rate s).comp.check = s.comp.check ∧
    (flashExpires rate s).comp.checkTimer = s.comp.checkTimer ∧
    (flashExpires rate s).comp.testTimer = s.comp.testTimer ∧ (flashExpires rate s).gauges = s.gauges ∧
    (flashExpires rate s).faults = s.faults ∧ (flashExpires rate s).shop = s.shop := by
  unfold flashExpires; split <;> simp

@[simp] theorem flipSounder_frame (due : Nat) (s : State) :
    (flipSounder due s).pending = s.pending ∧ (flipSounder due s).now = s.now ∧ (flipSounder due s).run = s.run ∧
    (flipSounder due s).port = s.port ∧ (flipSounder due s).mem = s.mem ∧ (flipSounder due s).outside = s.outside ∧
    (flipSounder due s).setup = s.setup ∧ (flipSounder due s).signals = s.signals ∧
    (flipSounder due s).sense = s.sense ∧ (flipSounder due s).line = s.line ∧ (flipSounder due s).doors = s.doors ∧
    (flipSounder due s).warnings = s.warnings ∧ (flipSounder due s).comp.check = s.comp.check ∧
    (flipSounder due s).comp.checkTimer = s.comp.checkTimer ∧
    (flipSounder due s).comp.testTimer = s.comp.testTimer ∧ (flipSounder due s).comp.flash1 = s.comp.flash1 ∧
    (flipSounder due s).comp.flash3 = s.comp.flash3 ∧ (flipSounder due s).gauges = s.gauges ∧
    (flipSounder due s).faults = s.faults ∧ (flipSounder due s).shop = s.shop := by
  unfold flipSounder; split <;> simp

@[simp] theorem sounderExpires_frame (s : State) :
    (sounderExpires s).pending = s.pending ∧ (sounderExpires s).run = s.run ∧ (sounderExpires s).port = s.port ∧
    (sounderExpires s).mem = s.mem ∧ (sounderExpires s).outside = s.outside ∧ (sounderExpires s).setup = s.setup ∧
    (sounderExpires s).signals = s.signals ∧ (sounderExpires s).sense = s.sense ∧
    (sounderExpires s).line = s.line ∧ (sounderExpires s).doors = s.doors ∧
    (sounderExpires s).warnings = s.warnings ∧ (sounderExpires s).comp.check = s.comp.check ∧
    (sounderExpires s).comp.checkTimer = s.comp.checkTimer ∧ (sounderExpires s).comp.testTimer = s.comp.testTimer ∧
    (sounderExpires s).comp.flash1 = s.comp.flash1 ∧ (sounderExpires s).comp.flash3 = s.comp.flash3 ∧
    (sounderExpires s).gauges = s.gauges ∧ (sounderExpires s).faults = s.faults ∧ (sounderExpires s).shop = s.shop := by
  simp [sounderExpires]

@[simp] theorem chimeExpires_frame (s : State) :
    (chimeExpires s).pending = s.pending ∧ (chimeExpires s).run = s.run ∧ (chimeExpires s).port = s.port ∧
    (chimeExpires s).mem = s.mem ∧ (chimeExpires s).outside = s.outside ∧ (chimeExpires s).setup = s.setup ∧
    (chimeExpires s).signals = s.signals ∧ (chimeExpires s).sense = s.sense ∧ (chimeExpires s).line = s.line ∧
    (chimeExpires s).doors = s.doors ∧ (chimeExpires s).warnings = s.warnings ∧
    (chimeExpires s).comp.check = s.comp.check ∧ (chimeExpires s).comp.checkTimer = s.comp.checkTimer ∧
    (chimeExpires s).comp.testTimer = s.comp.testTimer ∧ (chimeExpires s).comp.flash1 = s.comp.flash1 ∧
    (chimeExpires s).comp.flash3 = s.comp.flash3 ∧ (chimeExpires s).gauges = s.gauges ∧
    (chimeExpires s).faults = s.faults ∧ (chimeExpires s).shop = s.shop := by
  simp [chimeExpires]

@[simp] theorem testToneExpires_frame (s : State) :
    (testToneExpires s).pending = s.pending ∧ (testToneExpires s).run = s.run ∧ (testToneExpires s).port = s.port ∧
    (testToneExpires s).mem = s.mem ∧ (testToneExpires s).outside = s.outside ∧
    (testToneExpires s).setup = s.setup ∧ (testToneExpires s).signals = s.signals ∧
    (testToneExpires s).sense = s.sense ∧ (testToneExpires s).line = s.line ∧ (testToneExpires s).doors = s.doors ∧
    (testToneExpires s).warnings = s.warnings ∧ (testToneExpires s).comp.check = s.comp.check ∧
    (testToneExpires s).comp.checkTimer = s.comp.checkTimer ∧ (testToneExpires s).comp.flash1 = s.comp.flash1 ∧
    (testToneExpires s).comp.flash3 = s.comp.flash3 ∧ (testToneExpires s).gauges = s.gauges ∧
    (testToneExpires s).faults = s.faults ∧ (testToneExpires s).shop = s.shop := by
  simp [testToneExpires]

@[simp] theorem stopComposition_frame (s : State) :
    (stopComposition s).pending = s.pending ∧ (stopComposition s).now = s.now ∧ (stopComposition s).run = s.run ∧
    (stopComposition s).port.noticeRead = s.port.noticeRead ∧
    (stopComposition s).port.intEnable = s.port.intEnable ∧
    (stopComposition s).port.displayLost = s.port.displayLost ∧
    (stopComposition s).port.livenessTimer = s.port.livenessTimer ∧
    (stopComposition s).port.sweepTimer = s.port.sweepTimer ∧
    (stopComposition s).port.sweepPlace = s.port.sweepPlace ∧
    (stopComposition s).port.sweepHeld = s.port.sweepHeld ∧
    (stopComposition s).port.sweepCount = s.port.sweepCount ∧
    (stopComposition s).port.writeRefused = s.port.writeRefused ∧
    (stopComposition s).port.refusedAddress = s.port.refusedAddress ∧ (stopComposition s).outside = s.outside ∧
    (stopComposition s).setup = s.setup ∧ (stopComposition s).signals = s.signals ∧
    (stopComposition s).sense = s.sense ∧ (stopComposition s).line = s.line ∧ (stopComposition s).doors = s.doors ∧
    (stopComposition s).warnings = s.warnings ∧ (stopComposition s).gauges = s.gauges ∧
    (stopComposition s).faults = s.faults ∧ (stopComposition s).shop.session = s.shop.session ∧
    (stopComposition s).shop.forced = s.shop.forced ∧ (stopComposition s).shop.receiver = s.shop.receiver ∧
    (stopComposition s).shop.rate = s.shop.rate ∧ (stopComposition s).shop.nextRate = s.shop.nextRate ∧
    (stopComposition s).shop.gapTimer = s.shop.gapTimer ∧ (stopComposition s).shop.idleTimer = s.shop.idleTimer := by
  simp [stopComposition]

@[simp] theorem putGauge_frame (i : Nat) (g : Gauge) (s : State) :
    (putGauge i g s).pending = s.pending ∧ (putGauge i g s).now = s.now ∧ (putGauge i g s).run = s.run ∧
    (putGauge i g s).port = s.port ∧ (putGauge i g s).mem = s.mem ∧ (putGauge i g s).outside = s.outside ∧
    (putGauge i g s).setup = s.setup ∧ (putGauge i g s).signals = s.signals ∧ (putGauge i g s).sense = s.sense ∧
    (putGauge i g s).line = s.line ∧ (putGauge i g s).doors = s.doors ∧ (putGauge i g s).warnings = s.warnings ∧
    (putGauge i g s).comp = s.comp ∧ (putGauge i g s).faults = s.faults ∧ (putGauge i g s).shop = s.shop := by
  simp [putGauge]

@[simp] theorem takeUpGauge_frame (i : Nat) (s : State) :
    (takeUpGauge i s).pending = s.pending ∧ (takeUpGauge i s).now = s.now ∧ (takeUpGauge i s).run = s.run ∧
    (takeUpGauge i s).port = s.port ∧ (takeUpGauge i s).mem = s.mem ∧ (takeUpGauge i s).outside = s.outside ∧
    (takeUpGauge i s).setup = s.setup ∧ (takeUpGauge i s).signals = s.signals ∧ (takeUpGauge i s).sense = s.sense ∧
    (takeUpGauge i s).line = s.line ∧ (takeUpGauge i s).doors = s.doors ∧ (takeUpGauge i s).warnings = s.warnings ∧
    (takeUpGauge i s).comp = s.comp ∧ (takeUpGauge i s).faults = s.faults ∧ (takeUpGauge i s).shop = s.shop := by
  simp [takeUpGauge]

@[simp] theorem takeUpStatus_frame (n : Nat) (s : State) :
    (takeUpStatus n s).pending = s.pending ∧ (takeUpStatus n s).now = s.now ∧ (takeUpStatus n s).run = s.run ∧
    (takeUpStatus n s).port = s.port ∧ (takeUpStatus n s).mem = s.mem ∧ (takeUpStatus n s).outside = s.outside ∧
    (takeUpStatus n s).setup = s.setup ∧ (takeUpStatus n s).signals = s.signals ∧
    (takeUpStatus n s).sense = s.sense ∧ (takeUpStatus n s).line = s.line ∧ (takeUpStatus n s).doors = s.doors ∧
    (takeUpStatus n s).warnings = s.warnings ∧ (takeUpStatus n s).comp = s.comp ∧
    (takeUpStatus n s).faults = s.faults ∧ (takeUpStatus n s).shop = s.shop := by
  simp [takeUpStatus]

@[simp] theorem startSweeps_frame (set : BitVec 8) (owner : SweepOwner) (s : State) :
    (startSweeps set owner s).pending = s.pending ∧ (startSweeps set owner s).now = s.now ∧
    (startSweeps set owner s).run = s.run ∧ (startSweeps set owner s).port = s.port ∧
    (startSweeps set owner s).mem = s.mem ∧ (startSweeps set owner s).outside = s.outside ∧
    (startSweeps set owner s).setup = s.setup ∧ (startSweeps set owner s).signals = s.signals ∧
    (startSweeps set owner s).sense = s.sense ∧ (startSweeps set owner s).line = s.line ∧
    (startSweeps set owner s).doors = s.doors ∧ (startSweeps set owner s).warnings = s.warnings ∧
    (startSweeps set owner s).comp = s.comp ∧ (startSweeps set owner s).faults = s.faults ∧
    (startSweeps set owner s).shop = s.shop := by
  simp [startSweeps]

@[simp] theorem setSweepTest_frame (x : TestState) (cause : EndCause) (s : State) :
    (setSweepTest x cause s).pending = s.pending ∧ (setSweepTest x cause s).now = s.now ∧
    (setSweepTest x cause s).run = s.run ∧ (setSweepTest x cause s).port = s.port ∧
    (setSweepTest x cause s).mem = s.mem ∧ (setSweepTest x cause s).outside = s.outside ∧
    (setSweepTest x cause s).setup = s.setup ∧ (setSweepTest x cause s).signals = s.signals ∧
    (setSweepTest x cause s).sense = s.sense ∧ (setSweepTest x cause s).line = s.line ∧
    (setSweepTest x cause s).doors = s.doors ∧ (setSweepTest x cause s).warnings = s.warnings ∧
    (setSweepTest x cause s).comp = s.comp ∧ (setSweepTest x cause s).gauges = s.gauges ∧
    (setSweepTest x cause s).faults = s.faults ∧ (setSweepTest x cause s).shop.session = s.shop.session ∧
    (setSweepTest x cause s).shop.forced = s.shop.forced ∧
    (setSweepTest x cause s).shop.receiver = s.shop.receiver ∧ (setSweepTest x cause s).shop.rate = s.shop.rate ∧
    (setSweepTest x cause s).shop.nextRate = s.shop.nextRate ∧
    (setSweepTest x cause s).shop.gapTimer = s.shop.gapTimer ∧
    (setSweepTest x cause s).shop.idleTimer = s.shop.idleTimer := by
  simp [setSweepTest]

@[simp] theorem sweepFinished_frame (owner : SweepOwner) (s : State) :
    (sweepFinished owner s).pending = s.pending ∧ (sweepFinished owner s).now = s.now ∧
    (sweepFinished owner s).run = s.run ∧ (sweepFinished owner s).port.noticeRead = s.port.noticeRead ∧
    (sweepFinished owner s).port.intEnable = s.port.intEnable ∧
    (sweepFinished owner s).port.displayLost = s.port.displayLost ∧
    (sweepFinished owner s).port.livenessTimer = s.port.livenessTimer ∧
    (sweepFinished owner s).port.sweepTimer = s.port.sweepTimer ∧
    (sweepFinished owner s).port.sweepPlace = s.port.sweepPlace ∧
    (sweepFinished owner s).port.sweepHeld = s.port.sweepHeld ∧
    (sweepFinished owner s).port.sweepCount = s.port.sweepCount ∧
    (sweepFinished owner s).port.writeRefused = s.port.writeRefused ∧
    (sweepFinished owner s).port.refusedAddress = s.port.refusedAddress ∧
    (sweepFinished owner s).outside = s.outside ∧ (sweepFinished owner s).setup = s.setup ∧
    (sweepFinished owner s).signals = s.signals ∧ (sweepFinished owner s).sense = s.sense ∧
    (sweepFinished owner s).line = s.line ∧ (sweepFinished owner s).doors = s.doors ∧
    (sweepFinished owner s).warnings = s.warnings ∧ (sweepFinished owner s).comp = s.comp ∧
    (sweepFinished owner s).gauges = s.gauges ∧ (sweepFinished owner s).faults = s.faults ∧
    (sweepFinished owner s).shop.session = s.shop.session ∧ (sweepFinished owner s).shop.forced = s.shop.forced ∧
    (sweepFinished owner s).shop.receiver = s.shop.receiver ∧ (sweepFinished owner s).shop.rate = s.shop.rate ∧
    (sweepFinished owner s).shop.nextRate = s.shop.nextRate ∧
    (sweepFinished owner s).shop.gapTimer = s.shop.gapTimer ∧
    (sweepFinished owner s).shop.idleTimer = s.shop.idleTimer := by
  unfold sweepFinished; (try dsimp only); repeat' (first | (simp; done) | split)

@[simp] theorem endSweeps_pending (mine : SweepOwner → Bool) (leave : Nat → State → State) (code : ResultCode) (cause : EndCause) (s : State)
    (h : ∀ i t, (leave i t).pending = t.pending) : (endSweeps mine leave code cause s).pending = s.pending := by
  simp [endSweeps, h]

@[simp] theorem endSweeps_now (mine : SweepOwner → Bool) (leave : Nat → State → State) (code : ResultCode) (cause : EndCause) (s : State)
    (h : ∀ i t, (leave i t).now = t.now) : (endSweeps mine leave code cause s).now = s.now := by
  simp [endSweeps, h]

@[simp] theorem endSweeps_run (mine : SweepOwner → Bool) (leave : Nat → State → State) (code : ResultCode) (cause : EndCause) (s : State)
    (h : ∀ i t, (leave i t).run = t.run) : (endSweeps mine leave code cause s).run = s.run := by
  simp [endSweeps, h]

@[simp] theorem endSweeps_run_state (mine : SweepOwner → Bool) (leave : Nat → State → State) (code : ResultCode) (cause : EndCause) (s : State)
    (h : ∀ i t, (leave i t).run.state = t.run.state) : (endSweeps mine leave code cause s).run.state = s.run.state := by
  simp [endSweeps, h]

@[simp] theorem endSweeps_port_noticeRead (mine : SweepOwner → Bool) (leave : Nat → State → State) (code : ResultCode) (cause : EndCause) (s : State)
    (h : ∀ i t, (leave i t).port.noticeRead = t.port.noticeRead) : (endSweeps mine leave code cause s).port.noticeRead = s.port.noticeRead := by
  simp [endSweeps, h]

@[simp] theorem endSweeps_port_intEnable (mine : SweepOwner → Bool) (leave : Nat → State → State) (code : ResultCode) (cause : EndCause) (s : State)
    (h : ∀ i t, (leave i t).port.intEnable = t.port.intEnable) : (endSweeps mine leave code cause s).port.intEnable = s.port.intEnable := by
  simp [endSweeps, h]

@[simp] theorem endSweeps_port_displayLost (mine : SweepOwner → Bool) (leave : Nat → State → State) (code : ResultCode) (cause : EndCause) (s : State)
    (h : ∀ i t, (leave i t).port.displayLost = t.port.displayLost) : (endSweeps mine leave code cause s).port.displayLost = s.port.displayLost := by
  simp [endSweeps, h]

@[simp] theorem endSweeps_port_livenessTimer (mine : SweepOwner → Bool) (leave : Nat → State → State) (code : ResultCode) (cause : EndCause) (s : State)
    (h : ∀ i t, (leave i t).port.livenessTimer = t.port.livenessTimer) : (endSweeps mine leave code cause s).port.livenessTimer = s.port.livenessTimer := by
  simp [endSweeps, h]

@[simp] theorem endSweeps_port_sweepTimer (mine : SweepOwner → Bool) (leave : Nat → State → State) (code : ResultCode) (cause : EndCause) (s : State)
    (h : ∀ i t, (leave i t).port.sweepTimer = t.port.sweepTimer) : (endSweeps mine leave code cause s).port.sweepTimer = s.port.sweepTimer := by
  simp [endSweeps, h]

@[simp] theorem endSweeps_port_sweepPlace (mine : SweepOwner → Bool) (leave : Nat → State → State) (code : ResultCode) (cause : EndCause) (s : State)
    (h : ∀ i t, (leave i t).port.sweepPlace = t.port.sweepPlace) : (endSweeps mine leave code cause s).port.sweepPlace = s.port.sweepPlace := by
  simp [endSweeps, h]

@[simp] theorem endSweeps_port_sweepHeld (mine : SweepOwner → Bool) (leave : Nat → State → State) (code : ResultCode) (cause : EndCause) (s : State)
    (h : ∀ i t, (leave i t).port.sweepHeld = t.port.sweepHeld) : (endSweeps mine leave code cause s).port.sweepHeld = s.port.sweepHeld := by
  simp [endSweeps, h]

@[simp] theorem endSweeps_port_sweepCount (mine : SweepOwner → Bool) (leave : Nat → State → State) (code : ResultCode) (cause : EndCause) (s : State)
    (h : ∀ i t, (leave i t).port.sweepCount = t.port.sweepCount) : (endSweeps mine leave code cause s).port.sweepCount = s.port.sweepCount := by
  simp [endSweeps, h]

@[simp] theorem endSweeps_port_writeRefused (mine : SweepOwner → Bool) (leave : Nat → State → State) (code : ResultCode) (cause : EndCause) (s : State)
    (h : ∀ i t, (leave i t).port.writeRefused = t.port.writeRefused) : (endSweeps mine leave code cause s).port.writeRefused = s.port.writeRefused := by
  simp [endSweeps, h]

@[simp] theorem endSweeps_port_refusedAddress (mine : SweepOwner → Bool) (leave : Nat → State → State) (code : ResultCode) (cause : EndCause) (s : State)
    (h : ∀ i t, (leave i t).port.refusedAddress = t.port.refusedAddress) : (endSweeps mine leave code cause s).port.refusedAddress = s.port.refusedAddress := by
  simp [endSweeps, h]

@[simp] theorem endSweeps_outside (mine : SweepOwner → Bool) (leave : Nat → State → State) (code : ResultCode) (cause : EndCause) (s : State)
    (h : ∀ i t, (leave i t).outside = t.outside) : (endSweeps mine leave code cause s).outside = s.outside := by
  simp [endSweeps, h]

@[simp] theorem endSweeps_setup (mine : SweepOwner → Bool) (leave : Nat → State → State) (code : ResultCode) (cause : EndCause) (s : State)
    (h : ∀ i t, (leave i t).setup = t.setup) : (endSweeps mine leave code cause s).setup = s.setup := by
  simp [endSweeps, h]

@[simp] theorem endSweeps_signals (mine : SweepOwner → Bool) (leave : Nat → State → State) (code : ResultCode) (cause : EndCause) (s : State)
    (h : ∀ i t, (leave i t).signals = t.signals) : (endSweeps mine leave code cause s).signals = s.signals := by
  simp [endSweeps, h]

@[simp] theorem endSweeps_sense (mine : SweepOwner → Bool) (leave : Nat → State → State) (code : ResultCode) (cause : EndCause) (s : State)
    (h : ∀ i t, (leave i t).sense = t.sense) : (endSweeps mine leave code cause s).sense = s.sense := by
  simp [endSweeps, h]

@[simp] theorem endSweeps_line (mine : SweepOwner → Bool) (leave : Nat → State → State) (code : ResultCode) (cause : EndCause) (s : State)
    (h : ∀ i t, (leave i t).line = t.line) : (endSweeps mine leave code cause s).line = s.line := by
  simp [endSweeps, h]

@[simp] theorem endSweeps_doors (mine : SweepOwner → Bool) (leave : Nat → State → State) (code : ResultCode) (cause : EndCause) (s : State)
    (h : ∀ i t, (leave i t).doors = t.doors) : (endSweeps mine leave code cause s).doors = s.doors := by
  simp [endSweeps, h]

@[simp] theorem endSweeps_doors_motion (mine : SweepOwner → Bool) (leave : Nat → State → State) (code : ResultCode) (cause : EndCause) (s : State)
    (h : ∀ i t, (leave i t).doors.motion = t.doors.motion) : (endSweeps mine leave code cause s).doors.motion = s.doors.motion := by
  simp [endSweeps, h]

@[simp] theorem endSweeps_doors_interlock (mine : SweepOwner → Bool) (leave : Nat → State → State) (code : ResultCode) (cause : EndCause) (s : State)
    (h : ∀ i t, (leave i t).doors.interlock = t.doors.interlock) : (endSweeps mine leave code cause s).doors.interlock = s.doors.interlock := by
  simp [endSweeps, h]

@[simp] theorem endSweeps_doors_releaseDelay (mine : SweepOwner → Bool) (leave : Nat → State → State) (code : ResultCode) (cause : EndCause) (s : State)
    (h : ∀ i t, (leave i t).doors.releaseDelay = t.doors.releaseDelay) : (endSweeps mine leave code cause s).doors.releaseDelay = s.doors.releaseDelay := by
  simp [endSweeps, h]

@[simp] theorem endSweeps_warnings (mine : SweepOwner → Bool) (leave : Nat → State → State) (code : ResultCode) (cause : EndCause) (s : State)
    (h : ∀ i t, (leave i t).warnings = t.warnings) : (endSweeps mine leave code cause s).warnings = s.warnings := by
  simp [endSweeps, h]

@[simp] theorem endSweeps_comp (mine : SweepOwner → Bool) (leave : Nat → State → State) (code : ResultCode) (cause : EndCause) (s : State)
    (h : ∀ i t, (leave i t).comp = t.comp) : (endSweeps mine leave code cause s).comp = s.comp := by
  simp [endSweeps, h]

@[simp] theorem endSweeps_comp_check (mine : SweepOwner → Bool) (leave : Nat → State → State) (code : ResultCode) (cause : EndCause) (s : State)
    (h : ∀ i t, (leave i t).comp.check = t.comp.check) : (endSweeps mine leave code cause s).comp.check = s.comp.check := by
  simp [endSweeps, h]

@[simp] theorem endSweeps_comp_checkTimer (mine : SweepOwner → Bool) (leave : Nat → State → State) (code : ResultCode) (cause : EndCause) (s : State)
    (h : ∀ i t, (leave i t).comp.checkTimer = t.comp.checkTimer) : (endSweeps mine leave code cause s).comp.checkTimer = s.comp.checkTimer := by
  simp [endSweeps, h]

@[simp] theorem endSweeps_comp_testTimer (mine : SweepOwner → Bool) (leave : Nat → State → State) (code : ResultCode) (cause : EndCause) (s : State)
    (h : ∀ i t, (leave i t).comp.testTimer = t.comp.testTimer) : (endSweeps mine leave code cause s).comp.testTimer = s.comp.testTimer := by
  simp [endSweeps, h]

@[simp] theorem endSweeps_comp_flash1 (mine : SweepOwner → Bool) (leave : Nat → State → State) (code : ResultCode) (cause : EndCause) (s : State)
    (h : ∀ i t, (leave i t).comp.flash1 = t.comp.flash1) : (endSweeps mine leave code cause s).comp.flash1 = s.comp.flash1 := by
  simp [endSweeps, h]

@[simp] theorem endSweeps_comp_flash3 (mine : SweepOwner → Bool) (leave : Nat → State → State) (code : ResultCode) (cause : EndCause) (s : State)
    (h : ∀ i t, (leave i t).comp.flash3 = t.comp.flash3) : (endSweeps mine leave code cause s).comp.flash3 = s.comp.flash3 := by
  simp [endSweeps, h]

@[simp] theorem endSweeps_gauges (mine : SweepOwner → Bool) (leave : Nat → State → State) (code : ResultCode) (cause : EndCause) (s : State)
    (h : ∀ i t, (leave i t).gauges = t.gauges) : (endSweeps mine leave code cause s).gauges = s.gauges := by
  simp [endSweeps, h]

@[simp] theorem endSweeps_faults (mine : SweepOwner → Bool) (leave : Nat → State → State) (code : ResultCode) (cause : EndCause) (s : State)
    (h : ∀ i t, (leave i t).faults = t.faults) : (endSweeps mine leave code cause s).faults = s.faults := by
  simp [endSweeps, h]

@[simp] theorem endSweeps_shop_session (mine : SweepOwner → Bool) (leave : Nat → State → State) (code : ResultCode) (cause : EndCause) (s : State)
    (h : ∀ i t, (leave i t).shop.session = t.shop.session) : (endSweeps mine leave code cause s).shop.session = s.shop.session := by
  simp [endSweeps, h]

@[simp] theorem endSweeps_shop_forced (mine : SweepOwner → Bool) (leave : Nat → State → State) (code : ResultCode) (cause : EndCause) (s : State)
    (h : ∀ i t, (leave i t).shop.forced = t.shop.forced) : (endSweeps mine leave code cause s).shop.forced = s.shop.forced := by
  simp [endSweeps, h]

@[simp] theorem endSweeps_shop_receiver (mine : SweepOwner → Bool) (leave : Nat → State → State) (code : ResultCode) (cause : EndCause) (s : State)
    (h : ∀ i t, (leave i t).shop.receiver = t.shop.receiver) : (endSweeps mine leave code cause s).shop.receiver = s.shop.receiver := by
  simp [endSweeps, h]

@[simp] theorem endSweeps_shop_rate (mine : SweepOwner → Bool) (leave : Nat → State → State) (code : ResultCode) (cause : EndCause) (s : State)
    (h : ∀ i t, (leave i t).shop.rate = t.shop.rate) : (endSweeps mine leave code cause s).shop.rate = s.shop.rate := by
  simp [endSweeps, h]

@[simp] theorem endSweeps_shop_nextRate (mine : SweepOwner → Bool) (leave : Nat → State → State) (code : ResultCode) (cause : EndCause) (s : State)
    (h : ∀ i t, (leave i t).shop.nextRate = t.shop.nextRate) : (endSweeps mine leave code cause s).shop.nextRate = s.shop.nextRate := by
  simp [endSweeps, h]

@[simp] theorem endSweeps_shop_gapTimer (mine : SweepOwner → Bool) (leave : Nat → State → State) (code : ResultCode) (cause : EndCause) (s : State)
    (h : ∀ i t, (leave i t).shop.gapTimer = t.shop.gapTimer) : (endSweeps mine leave code cause s).shop.gapTimer = s.shop.gapTimer := by
  simp [endSweeps, h]

@[simp] theorem endSweeps_shop_idleTimer (mine : SweepOwner → Bool) (leave : Nat → State → State) (code : ResultCode) (cause : EndCause) (s : State)
    (h : ∀ i t, (leave i t).shop.idleTimer = t.shop.idleTimer) : (endSweeps mine leave code cause s).shop.idleTimer = s.shop.idleTimer := by
  simp [endSweeps, h]

@[simp] theorem returnGauge_frame (i : Nat) (s : State) :
    (returnGauge i s).pending = s.pending ∧ (returnGauge i s).now = s.now ∧ (returnGauge i s).run = s.run ∧
    (returnGauge i s).port = s.port ∧ (returnGauge i s).mem = s.mem ∧ (returnGauge i s).outside = s.outside ∧
    (returnGauge i s).setup = s.setup ∧ (returnGauge i s).signals = s.signals ∧ (returnGauge i s).sense = s.sense ∧
    (returnGauge i s).line = s.line ∧ (returnGauge i s).doors = s.doors ∧ (returnGauge i s).warnings = s.warnings ∧
    (returnGauge i s).comp = s.comp ∧ (returnGauge i s).faults = s.faults ∧ (returnGauge i s).shop = s.shop := by
  simp [returnGauge]

@[simp] theorem parkGauge_frame (i : Nat) (s : State) :
    (parkGauge i s).pending = s.pending ∧ (parkGauge i s).now = s.now ∧ (parkGauge i s).run = s.run ∧
    (parkGauge i s).port = s.port ∧ (parkGauge i s).mem = s.mem ∧ (parkGauge i s).outside = s.outside ∧
    (parkGauge i s).setup = s.setup ∧ (parkGauge i s).signals = s.signals ∧ (parkGauge i s).sense = s.sense ∧
    (parkGauge i s).line = s.line ∧ (parkGauge i s).doors = s.doors ∧ (parkGauge i s).warnings = s.warnings ∧
    (parkGauge i s).comp = s.comp ∧ (parkGauge i s).faults = s.faults ∧ (parkGauge i s).shop = s.shop := by
  simp [parkGauge]

@[simp] theorem sweepsMeetMotion_frame (s : State) :
    (sweepsMeetMotion s).pending = s.pending ∧ (sweepsMeetMotion s).now = s.now ∧
    (sweepsMeetMotion s).run = s.run ∧ (sweepsMeetMotion s).port.noticeRead = s.port.noticeRead ∧
    (sweepsMeetMotion s).port.intEnable = s.port.intEnable ∧
    (sweepsMeetMotion s).port.displayLost = s.port.displayLost ∧
    (sweepsMeetMotion s).port.livenessTimer = s.port.livenessTimer ∧
    (sweepsMeetMotion s).port.sweepTimer = s.port.sweepTimer ∧
    (sweepsMeetMotion s).port.sweepPlace = s.port.sweepPlace ∧
    (sweepsMeetMotion s).port.sweepHeld = s.port.sweepHeld ∧
    (sweepsMeetMotion s).port.sweepCount = s.port.sweepCount ∧
    (sweepsMeetMotion s).port.writeRefused = s.port.writeRefused ∧
    (sweepsMeetMotion s).port.refusedAddress = s.port.refusedAddress ∧ (sweepsMeetMotion s).outside = s.outside ∧
    (sweepsMeetMotion s).setup = s.setup ∧ (sweepsMeetMotion s).signals = s.signals ∧
    (sweepsMeetMotion s).sense = s.sense ∧ (sweepsMeetMotion s).line = s.line ∧
    (sweepsMeetMotion s).doors = s.doors ∧ (sweepsMeetMotion s).warnings = s.warnings ∧
    (sweepsMeetMotion s).comp = s.comp ∧ (sweepsMeetMotion s).faults = s.faults ∧
    (sweepsMeetMotion s).shop.session = s.shop.session ∧ (sweepsMeetMotion s).shop.forced = s.shop.forced ∧
    (sweepsMeetMotion s).shop.receiver = s.shop.receiver ∧ (sweepsMeetMotion s).shop.rate = s.shop.rate ∧
    (sweepsMeetMotion s).shop.nextRate = s.shop.nextRate ∧ (sweepsMeetMotion s).shop.gapTimer = s.shop.gapTimer ∧
    (sweepsMeetMotion s).shop.idleTimer = s.shop.idleTimer := by
  simp [sweepsMeetMotion]

@[simp] theorem endWorkshopSweeps_frame (cause : EndCause) (s : State) :
    (endWorkshopSweeps cause s).pending = s.pending ∧ (endWorkshopSweeps cause s).now = s.now ∧
    (endWorkshopSweeps cause s).run = s.run ∧ (endWorkshopSweeps cause s).port.noticeRead = s.port.noticeRead ∧
    (endWorkshopSweeps cause s).port.intEnable = s.port.intEnable ∧
    (endWorkshopSweeps cause s).port.displayLost = s.port.displayLost ∧
    (endWorkshopSweeps cause s).port.livenessTimer = s.port.livenessTimer ∧
    (endWorkshopSweeps cause s).port.sweepTimer = s.port.sweepTimer ∧
    (endWorkshopSweeps cause s).port.sweepPlace = s.port.sweepPlace ∧
    (endWorkshopSweeps cause s).port.sweepHeld = s.port.sweepHeld ∧
    (endWorkshopSweeps cause s).port.sweepCount = s.port.sweepCount ∧
    (endWorkshopSweeps cause s).port.writeRefused = s.port.writeRefused ∧
    (endWorkshopSweeps cause s).port.refusedAddress = s.port.refusedAddress ∧
    (endWorkshopSweeps cause s).outside = s.outside ∧ (endWorkshopSweeps cause s).setup = s.setup ∧
    (endWorkshopSweeps cause s).signals = s.signals ∧ (endWorkshopSweeps cause s).sense = s.sense ∧
    (endWorkshopSweeps cause s).line = s.line ∧ (endWorkshopSweeps cause s).doors = s.doors ∧
    (endWorkshopSweeps cause s).warnings = s.warnings ∧ (endWorkshopSweeps cause s).comp = s.comp ∧
    (endWorkshopSweeps cause s).faults = s.faults ∧ (endWorkshopSweeps cause s).shop.session = s.shop.session ∧
    (endWorkshopSweeps cause s).shop.forced = s.shop.forced ∧
    (endWorkshopSweeps cause s).shop.receiver = s.shop.receiver ∧
    (endWorkshopSweeps cause s).shop.rate = s.shop.rate ∧
    (endWorkshopSweeps cause s).shop.nextRate = s.shop.nextRate ∧
    (endWorkshopSweeps cause s).shop.gapTimer = s.shop.gapTimer ∧
    (endWorkshopSweeps cause s).shop.idleTimer = s.shop.idleTimer := by
  simp [endWorkshopSweeps]

@[simp] theorem updateGauge_frame (i : Nat) (s : State) :
    (updateGauge i s).pending = s.pending ∧ (updateGauge i s).now = s.now ∧ (updateGauge i s).run = s.run ∧
    (updateGauge i s).port.noticeRead = s.port.noticeRead ∧ (updateGauge i s).port.intEnable = s.port.intEnable ∧
    (updateGauge i s).port.displayLost = s.port.displayLost ∧
    (updateGauge i s).port.livenessTimer = s.port.livenessTimer ∧
    (updateGauge i s).port.sweepTimer = s.port.sweepTimer ∧ (updateGauge i s).port.sweepPlace = s.port.sweepPlace ∧
    (updateGauge i s).port.sweepHeld = s.port.sweepHeld ∧ (updateGauge i s).port.sweepCount = s.port.sweepCount ∧
    (updateGauge i s).port.writeRefused = s.port.writeRefused ∧
    (updateGauge i s).port.refusedAddress = s.port.refusedAddress ∧ (updateGauge i s).outside = s.outside ∧
    (updateGauge i s).setup = s.setup ∧ (updateGauge i s).signals = s.signals ∧ (updateGauge i s).sense = s.sense ∧
    (updateGauge i s).line = s.line ∧ (updateGauge i s).doors = s.doors ∧ (updateGauge i s).warnings = s.warnings ∧
    (updateGauge i s).comp = s.comp ∧ (updateGauge i s).faults = s.faults ∧
    (updateGauge i s).shop.session = s.shop.session ∧ (updateGauge i s).shop.forced = s.shop.forced ∧
    (updateGauge i s).shop.receiver = s.shop.receiver ∧ (updateGauge i s).shop.rate = s.shop.rate ∧
    (updateGauge i s).shop.nextRate = s.shop.nextRate ∧ (updateGauge i s).shop.gapTimer = s.shop.gapTimer ∧
    (updateGauge i s).shop.idleTimer = s.shop.idleTimer := by
  unfold updateGauge; (try dsimp only); repeat' (first | (simp; done) | split)

@[simp] theorem gaugeExpires_frame (i : Nat) (s : State) :
    (gaugeExpires i s).pending = s.pending ∧ (gaugeExpires i s).run = s.run ∧
    (gaugeExpires i s).port.noticeRead = s.port.noticeRead ∧ (gaugeExpires i s).port.intEnable = s.port.intEnable ∧
    (gaugeExpires i s).port.displayLost = s.port.displayLost ∧
    (gaugeExpires i s).port.livenessTimer = s.port.livenessTimer ∧
    (gaugeExpires i s).port.sweepTimer = s.port.sweepTimer ∧
    (gaugeExpires i s).port.sweepPlace = s.port.sweepPlace ∧ (gaugeExpires i s).port.sweepHeld = s.port.sweepHeld ∧
    (gaugeExpires i s).port.sweepCount = s.port.sweepCount ∧
    (gaugeExpires i s).port.writeRefused = s.port.writeRefused ∧
    (gaugeExpires i s).port.refusedAddress = s.port.refusedAddress ∧ (gaugeExpires i s).outside = s.outside ∧
    (gaugeExpires i s).setup = s.setup ∧ (gaugeExpires i s).signals = s.signals ∧
    (gaugeExpires i s).sense = s.sense ∧ (gaugeExpires i s).line = s.line ∧ (gaugeExpires i s).doors = s.doors ∧
    (gaugeExpires i s).warnings = s.warnings ∧ (gaugeExpires i s).comp = s.comp ∧
    (gaugeExpires i s).faults = s.faults ∧ (gaugeExpires i s).shop.session = s.shop.session ∧
    (gaugeExpires i s).shop.forced = s.shop.forced ∧ (gaugeExpires i s).shop.receiver = s.shop.receiver ∧
    (gaugeExpires i s).shop.rate = s.shop.rate ∧ (gaugeExpires i s).shop.nextRate = s.shop.nextRate ∧
    (gaugeExpires i s).shop.gapTimer = s.shop.gapTimer ∧ (gaugeExpires i s).shop.idleTimer = s.shop.idleTimer := by
  simp [gaugeExpires]

@[simp] theorem holdExpires_frame (i : Nat) (s : State) :
    (holdExpires i s).pending = s.pending ∧ (holdExpires i s).run = s.run ∧ (holdExpires i s).port = s.port ∧
    (holdExpires i s).mem = s.mem ∧ (holdExpires i s).outside = s.outside ∧ (holdExpires i s).setup = s.setup ∧
    (holdExpires i s).signals = s.signals ∧ (holdExpires i s).sense = s.sense ∧ (holdExpires i s).line = s.line ∧
    (holdExpires i s).doors = s.doors ∧ (holdExpires i s).warnings = s.warnings ∧ (holdExpires i s).comp = s.comp ∧
    (holdExpires i s).faults = s.faults ∧ (holdExpires i s).shop = s.shop := by
  simp [holdExpires]

@[simp] theorem stopGauges_frame (s : State) :
    (stopGauges s).pending = s.pending ∧ (stopGauges s).now = s.now ∧ (stopGauges s).run = s.run ∧
    (stopGauges s).port.noticeRead = s.port.noticeRead ∧ (stopGauges s).port.intEnable = s.port.intEnable ∧
    (stopGauges s).port.displayLost = s.port.displayLost ∧
    (stopGauges s).port.livenessTimer = s.port.livenessTimer ∧ (stopGauges s).port.sweepTimer = s.port.sweepTimer ∧
    (stopGauges s).port.sweepPlace = s.port.sweepPlace ∧ (stopGauges s).port.sweepHeld = s.port.sweepHeld ∧
    (stopGauges s).port.sweepCount = s.port.sweepCount ∧ (stopGauges s).port.writeRefused = s.port.writeRefused ∧
    (stopGauges s).port.refusedAddress = s.port.refusedAddress ∧ (stopGauges s).outside = s.outside ∧
    (stopGauges s).setup = s.setup ∧ (stopGauges s).signals = s.signals ∧ (stopGauges s).sense = s.sense ∧
    (stopGauges s).line = s.line ∧ (stopGauges s).doors = s.doors ∧ (stopGauges s).warnings = s.warnings ∧
    (stopGauges s).comp = s.comp ∧ (stopGauges s).faults = s.faults ∧
    (stopGauges s).shop.session = s.shop.session ∧ (stopGauges s).shop.forced = s.shop.forced ∧
    (stopGauges s).shop.receiver = s.shop.receiver ∧ (stopGauges s).shop.rate = s.shop.rate ∧
    (stopGauges s).shop.nextRate = s.shop.nextRate ∧ (stopGauges s).shop.gapTimer = s.shop.gapTimer ∧
    (stopGauges s).shop.idleTimer = s.shop.idleTimer := by
  simp [stopGauges]


end Sys2Proof.Machine
end

