-- ==== Sys2Proof/Laws/FrameDoors.lean ====
section
/-! SUPPORT. Frames: what each operation of the door supervisor leaves as it was. -/

namespace Sys2Proof.Machine

@[simp] theorem putDoor_frame (d : Nat) (x : Door) (s : State) :
    (putDoor d x s).pending = s.pending ∧ (putDoor d x s).now = s.now ∧ (putDoor d x s).run = s.run ∧
    (putDoor d x s).port = s.port ∧ (putDoor d x s).mem = s.mem ∧ (putDoor d x s).outside = s.outside ∧
    (putDoor d x s).setup = s.setup ∧ (putDoor d x s).signals = s.signals ∧ (putDoor d x s).sense = s.sense ∧
    (putDoor d x s).line = s.line ∧ (putDoor d x s).doors.motion = s.doors.motion ∧
    (putDoor d x s).doors.interlock = s.doors.interlock ∧
    (putDoor d x s).doors.releaseDelay = s.doors.releaseDelay ∧ (putDoor d x s).warnings = s.warnings ∧
    (putDoor d x s).comp = s.comp ∧ (putDoor d x s).gauges = s.gauges ∧ (putDoor d x s).faults = s.faults ∧
    (putDoor d x s).shop = s.shop := by
  simp [putDoor]

@[simp] theorem putMotion_frame (x : DoorUnit) (s : State) :
    (putMotion x s).pending = s.pending ∧ (putMotion x s).now = s.now ∧ (putMotion x s).run = s.run ∧
    (putMotion x s).port = s.port ∧ (putMotion x s).mem = s.mem ∧ (putMotion x s).outside = s.outside ∧
    (putMotion x s).setup = s.setup ∧ (putMotion x s).signals = s.signals ∧ (putMotion x s).sense = s.sense ∧
    (putMotion x s).line = s.line ∧ (putMotion x s).warnings = s.warnings ∧ (putMotion x s).comp = s.comp ∧
    (putMotion x s).gauges = s.gauges ∧ (putMotion x s).faults = s.faults ∧ (putMotion x s).shop = s.shop := by
  simp [putMotion]

@[simp] theorem takeInterlock_frame (s : State) :
    (takeInterlock s).pending = s.pending ∧ (takeInterlock s).now = s.now ∧ (takeInterlock s).run = s.run ∧
    (takeInterlock s).port.noticeRead = s.port.noticeRead ∧ (takeInterlock s).port.intEnable = s.port.intEnable ∧
    (takeInterlock s).port.displayLost = s.port.displayLost ∧
    (takeInterlock s).port.livenessTimer = s.port.livenessTimer ∧
    (takeInterlock s).port.sweepTimer = s.port.sweepTimer ∧ (takeInterlock s).port.sweepPlace = s.port.sweepPlace ∧
    (takeInterlock s).port.sweepHeld = s.port.sweepHeld ∧ (takeInterlock s).port.sweepCount = s.port.sweepCount ∧
    (takeInterlock s).port.writeRefused = s.port.writeRefused ∧
    (takeInterlock s).port.refusedAddress = s.port.refusedAddress ∧ (takeInterlock s).mem = s.mem ∧
    (takeInterlock s).outside = s.outside ∧ (takeInterlock s).setup = s.setup ∧
    (takeInterlock s).signals = s.signals ∧ (takeInterlock s).sense = s.sense ∧ (takeInterlock s).line = s.line ∧
    (takeInterlock s).gauges = s.gauges ∧ (takeInterlock s).shop = s.shop := by
  simp [takeInterlock]

@[simp] theorem takeDoorSources_frame (d : Nat) (s : State) :
    (takeDoorSources d s).pending = s.pending ∧ (takeDoorSources d s).now = s.now ∧
    (takeDoorSources d s).run = s.run ∧ (takeDoorSources d s).port.noticeRead = s.port.noticeRead ∧
    (takeDoorSources d s).port.intEnable = s.port.intEnable ∧
    (takeDoorSources d s).port.displayLost = s.port.displayLost ∧
    (takeDoorSources d s).port.livenessTimer = s.port.livenessTimer ∧
    (takeDoorSources d s).port.sweepTimer = s.port.sweepTimer ∧
    (takeDoorSources d s).port.sweepPlace = s.port.sweepPlace ∧
    (takeDoorSources d s).port.sweepHeld = s.port.sweepHeld ∧
    (takeDoorSources d s).port.sweepCount = s.port.sweepCount ∧
    (takeDoorSources d s).port.writeRefused = s.port.writeRefused ∧
    (takeDoorSources d s).port.refusedAddress = s.port.refusedAddress ∧ (takeDoorSources d s).mem = s.mem ∧
    (takeDoorSources d s).outside = s.outside ∧ (takeDoorSources d s).setup = s.setup ∧
    (takeDoorSources d s).signals = s.signals ∧ (takeDoorSources d s).sense = s.sense ∧
    (takeDoorSources d s).line = s.line ∧ (takeDoorSources d s).doors = s.doors ∧
    (takeDoorSources d s).gauges = s.gauges ∧ (takeDoorSources d s).shop = s.shop := by
  simp [takeDoorSources]

@[simp] theorem doorWritten_frame (d : Nat) (old new : Door) (s : State) :
    (doorWritten d old new s).pending = s.pending ∧ (doorWritten d old new s).now = s.now ∧
    (doorWritten d old new s).run = s.run ∧ (doorWritten d old new s).port.noticeRead = s.port.noticeRead ∧
    (doorWritten d old new s).port.intEnable = s.port.intEnable ∧
    (doorWritten d old new s).port.displayLost = s.port.displayLost ∧
    (doorWritten d old new s).port.livenessTimer = s.port.livenessTimer ∧
    (doorWritten d old new s).port.sweepTimer = s.port.sweepTimer ∧
    (doorWritten d old new s).port.sweepPlace = s.port.sweepPlace ∧
    (doorWritten d old new s).port.sweepHeld = s.port.sweepHeld ∧
    (doorWritten d old new s).port.sweepCount = s.port.sweepCount ∧
    (doorWritten d old new s).port.writeRefused = s.port.writeRefused ∧
    (doorWritten d old new s).port.refusedAddress = s.port.refusedAddress ∧ (doorWritten d old new s).mem = s.mem ∧
    (doorWritten d old new s).outside = s.outside ∧ (doorWritten d old new s).setup = s.setup ∧
    (doorWritten d old new s).signals = s.signals ∧ (doorWritten d old new s).sense = s.sense ∧
    (doorWritten d old new s).line = s.line ∧ (doorWritten d old new s).gauges = s.gauges ∧
    (doorWritten d old new s).shop = s.shop := by
  simp [doorWritten]

@[simp] theorem takeDoor_frame (d : Nat) (s : State) :
    (takeDoor d s).pending = s.pending ∧ (takeDoor d s).now = s.now ∧ (takeDoor d s).run = s.run ∧
    (takeDoor d s).port.noticeRead = s.port.noticeRead ∧ (takeDoor d s).port.intEnable = s.port.intEnable ∧
    (takeDoor d s).port.displayLost = s.port.displayLost ∧
    (takeDoor d s).port.livenessTimer = s.port.livenessTimer ∧ (takeDoor d s).port.sweepTimer = s.port.sweepTimer ∧
    (takeDoor d s).port.sweepPlace = s.port.sweepPlace ∧ (takeDoor d s).port.sweepHeld = s.port.sweepHeld ∧
    (takeDoor d s).port.sweepCount = s.port.sweepCount ∧ (takeDoor d s).port.writeRefused = s.port.writeRefused ∧
    (takeDoor d s).port.refusedAddress = s.port.refusedAddress ∧ (takeDoor d s).mem = s.mem ∧
    (takeDoor d s).outside = s.outside ∧ (takeDoor d s).setup = s.setup ∧ (takeDoor d s).signals = s.signals ∧
    (takeDoor d s).sense = s.sense ∧ (takeDoor d s).line = s.line ∧ (takeDoor d s).gauges = s.gauges ∧
    (takeDoor d s).shop = s.shop := by
  simp [takeDoor]

@[simp] theorem takeChannel_frame (c : Nat) (s : State) :
    (takeChannel c s).pending = s.pending ∧ (takeChannel c s).now = s.now ∧ (takeChannel c s).run = s.run ∧
    (takeChannel c s).port.noticeRead = s.port.noticeRead ∧ (takeChannel c s).port.intEnable = s.port.intEnable ∧
    (takeChannel c s).port.displayLost = s.port.displayLost ∧
    (takeChannel c s).port.livenessTimer = s.port.livenessTimer ∧
    (takeChannel c s).port.sweepTimer = s.port.sweepTimer ∧ (takeChannel c s).port.sweepPlace = s.port.sweepPlace ∧
    (takeChannel c s).port.sweepHeld = s.port.sweepHeld ∧ (takeChannel c s).port.sweepCount = s.port.sweepCount ∧
    (takeChannel c s).port.writeRefused = s.port.writeRefused ∧
    (takeChannel c s).port.refusedAddress = s.port.refusedAddress ∧ (takeChannel c s).mem = s.mem ∧
    (takeChannel c s).outside = s.outside ∧ (takeChannel c s).setup = s.setup ∧
    (takeChannel c s).signals = s.signals ∧ (takeChannel c s).sense = s.sense ∧ (takeChannel c s).line = s.line ∧
    (takeChannel c s).gauges = s.gauges ∧ (takeChannel c s).shop = s.shop := by
  simp [takeChannel]

@[simp] theorem agreeExpires_frame (d : Nat) (s : State) :
    (agreeExpires d s).pending = s.pending ∧ (agreeExpires d s).run = s.run ∧
    (agreeExpires d s).port.noticeRead = s.port.noticeRead ∧ (agreeExpires d s).port.intEnable = s.port.intEnable ∧
    (agreeExpires d s).port.displayLost = s.port.displayLost ∧
    (agreeExpires d s).port.livenessTimer = s.port.livenessTimer ∧
    (agreeExpires d s).port.sweepTimer = s.port.sweepTimer ∧
    (agreeExpires d s).port.sweepPlace = s.port.sweepPlace ∧ (agreeExpires d s).port.sweepHeld = s.port.sweepHeld ∧
    (agreeExpires d s).port.sweepCount = s.port.sweepCount ∧
    (agreeExpires d s).port.writeRefused = s.port.writeRefused ∧
    (agreeExpires d s).port.refusedAddress = s.port.refusedAddress ∧ (agreeExpires d s).mem = s.mem ∧
    (agreeExpires d s).outside = s.outside ∧ (agreeExpires d s).setup = s.setup ∧
    (agreeExpires d s).signals = s.signals ∧ (agreeExpires d s).sense = s.sense ∧
    (agreeExpires d s).line = s.line ∧ (agreeExpires d s).gauges = s.gauges ∧ (agreeExpires d s).shop = s.shop := by
  simp [agreeExpires]

@[simp] theorem releaseExpires_frame (s : State) :
    (releaseExpires s).pending = s.pending ∧ (releaseExpires s).run = s.run ∧
    (releaseExpires s).port.noticeRead = s.port.noticeRead ∧ (releaseExpires s).port.intEnable = s.port.intEnable ∧
    (releaseExpires s).port.displayLost = s.port.displayLost ∧
    (releaseExpires s).port.livenessTimer = s.port.livenessTimer ∧
    (releaseExpires s).port.sweepTimer = s.port.sweepTimer ∧
    (releaseExpires s).port.sweepPlace = s.port.sweepPlace ∧ (releaseExpires s).port.sweepHeld = s.port.sweepHeld ∧
    (releaseExpires s).port.sweepCount = s.port.sweepCount ∧
    (releaseExpires s).port.writeRefused = s.port.writeRefused ∧
    (releaseExpires s).port.refusedAddress = s.port.refusedAddress ∧ (releaseExpires s).mem = s.mem ∧
    (releaseExpires s).outside = s.outside ∧ (releaseExpires s).setup = s.setup ∧
    (releaseExpires s).signals = s.signals ∧ (releaseExpires s).sense = s.sense ∧
    (releaseExpires s).line = s.line ∧ (releaseExpires s).gauges = s.gauges ∧ (releaseExpires s).shop = s.shop := by
  simp [releaseExpires]

@[simp] theorem resetCounters_frame (d : Nat) (s : State) :
    (resetCounters d s).pending = s.pending ∧ (resetCounters d s).now = s.now ∧ (resetCounters d s).run = s.run ∧
    (resetCounters d s).port = s.port ∧ (resetCounters d s).mem = s.mem ∧ (resetCounters d s).outside = s.outside ∧
    (resetCounters d s).setup = s.setup ∧ (resetCounters d s).signals = s.signals ∧
    (resetCounters d s).sense = s.sense ∧ (resetCounters d s).line = s.line ∧
    (resetCounters d s).doors.motion = s.doors.motion ∧ (resetCounters d s).doors.interlock = s.doors.interlock ∧
    (resetCounters d s).doors.releaseDelay = s.doors.releaseDelay ∧ (resetCounters d s).warnings = s.warnings ∧
    (resetCounters d s).comp = s.comp ∧ (resetCounters d s).gauges = s.gauges ∧
    (resetCounters d s).faults = s.faults ∧ (resetCounters d s).shop = s.shop := by
  simp [resetCounters]

@[simp] theorem stopDoors_frame (s : State) :
    (stopDoors s).pending = s.pending ∧ (stopDoors s).now = s.now ∧ (stopDoors s).run = s.run ∧
    (stopDoors s).port = s.port ∧ (stopDoors s).mem = s.mem ∧ (stopDoors s).outside = s.outside ∧
    (stopDoors s).setup = s.setup ∧ (stopDoors s).signals = s.signals ∧ (stopDoors s).sense = s.sense ∧
    (stopDoors s).line = s.line ∧ (stopDoors s).warnings = s.warnings ∧ (stopDoors s).comp = s.comp ∧
    (stopDoors s).gauges = s.gauges ∧ (stopDoors s).faults = s.faults ∧ (stopDoors s).shop = s.shop := by
  simp [stopDoors]


end Sys2Proof.Machine
end

