-- ==== Sys2Proof/Laws/FrameSignals.lean ====
section
/-! SUPPORT. Frames: what each operation of motion, the signal image and the workshop session leaves as it was. -/

namespace Sys2Proof.Machine

@[simp] theorem takeLatch_frame (d : Nat) (s : State) :
    (takeLatch d s).pending = s.pending ∧ (takeLatch d s).now = s.now ∧ (takeLatch d s).run = s.run ∧
    (takeLatch d s).port = s.port ∧ (takeLatch d s).mem = s.mem ∧ (takeLatch d s).outside = s.outside ∧
    (takeLatch d s).setup = s.setup ∧ (takeLatch d s).signals = s.signals ∧ (takeLatch d s).sense = s.sense ∧
    (takeLatch d s).line = s.line ∧ (takeLatch d s).doors.motion = s.doors.motion ∧
    (takeLatch d s).doors.interlock = s.doors.interlock ∧
    (takeLatch d s).doors.releaseDelay = s.doors.releaseDelay ∧ (takeLatch d s).warnings = s.warnings ∧
    (takeLatch d s).comp = s.comp ∧ (takeLatch d s).gauges = s.gauges ∧ (takeLatch d s).faults = s.faults ∧
    (takeLatch d s).shop = s.shop := by
  simp [takeLatch]

@[simp] theorem leaveStopped_pending (demote : State → State) (s : State)
    (h : ∀ t, (demote t).pending = t.pending) : (leaveStopped demote s).pending = s.pending := by
  simp [leaveStopped, h]

@[simp] theorem leaveStopped_now (demote : State → State) (s : State)
    (h : ∀ t, (demote t).now = t.now) : (leaveStopped demote s).now = s.now := by
  simp [leaveStopped, h]

@[simp] theorem leaveStopped_run (demote : State → State) (s : State)
    (h : ∀ t, (demote t).run = t.run) : (leaveStopped demote s).run = s.run := by
  simp [leaveStopped, h]

@[simp] theorem leaveStopped_run_state (demote : State → State) (s : State)
    (h : ∀ t, (demote t).run.state = t.run.state) : (leaveStopped demote s).run.state = s.run.state := by
  simp [leaveStopped, h]

@[simp] theorem leaveStopped_port_noticeRead (demote : State → State) (s : State)
    (h : ∀ t, (demote t).port.noticeRead = t.port.noticeRead) : (leaveStopped demote s).port.noticeRead = s.port.noticeRead := by
  simp [leaveStopped, h]

@[simp] theorem leaveStopped_port_intEnable (demote : State → State) (s : State)
    (h : ∀ t, (demote t).port.intEnable = t.port.intEnable) : (leaveStopped demote s).port.intEnable = s.port.intEnable := by
  simp [leaveStopped, h]

@[simp] theorem leaveStopped_port_displayLost (demote : State → State) (s : State)
    (h : ∀ t, (demote t).port.displayLost = t.port.displayLost) : (leaveStopped demote s).port.displayLost = s.port.displayLost := by
  simp [leaveStopped, h]

@[simp] theorem leaveStopped_port_livenessTimer (demote : State → State) (s : State)
    (h : ∀ t, (demote t).port.livenessTimer = t.port.livenessTimer) : (leaveStopped demote s).port.livenessTimer = s.port.livenessTimer := by
  simp [leaveStopped, h]

@[simp] theorem leaveStopped_port_sweepTimer (demote : State → State) (s : State)
    (h : ∀ t, (demote t).port.sweepTimer = t.port.sweepTimer) : (leaveStopped demote s).port.sweepTimer = s.port.sweepTimer := by
  simp [leaveStopped, h]

@[simp] theorem leaveStopped_port_sweepPlace (demote : State → State) (s : State)
    (h : ∀ t, (demote t).port.sweepPlace = t.port.sweepPlace) : (leaveStopped demote s).port.sweepPlace = s.port.sweepPlace := by
  simp [leaveStopped, h]

@[simp] theorem leaveStopped_port_sweepHeld (demote : State → State) (s : State)
    (h : ∀ t, (demote t).port.sweepHeld = t.port.sweepHeld) : (leaveStopped demote s).port.sweepHeld = s.port.sweepHeld := by
  simp [leaveStopped, h]

@[simp] theorem leaveStopped_port_sweepCount (demote : State → State) (s : State)
    (h : ∀ t, (demote t).port.sweepCount = t.port.sweepCount) : (leaveStopped demote s).port.sweepCount = s.port.sweepCount := by
  simp [leaveStopped, h]

@[simp] theorem leaveStopped_port_writeRefused (demote : State → State) (s : State)
    (h : ∀ t, (demote t).port.writeRefused = t.port.writeRefused) : (leaveStopped demote s).port.writeRefused = s.port.writeRefused := by
  simp [leaveStopped, h]

@[simp] theorem leaveStopped_port_refusedAddress (demote : State → State) (s : State)
    (h : ∀ t, (demote t).port.refusedAddress = t.port.refusedAddress) : (leaveStopped demote s).port.refusedAddress = s.port.refusedAddress := by
  simp [leaveStopped, h]

@[simp] theorem leaveStopped_outside (demote : State → State) (s : State)
    (h : ∀ t, (demote t).outside = t.outside) : (leaveStopped demote s).outside = s.outside := by
  simp [leaveStopped, h]

@[simp] theorem leaveStopped_setup (demote : State → State) (s : State)
    (h : ∀ t, (demote t).setup = t.setup) : (leaveStopped demote s).setup = s.setup := by
  simp [leaveStopped, h]

@[simp] theorem leaveStopped_signals (demote : State → State) (s : State)
    (h : ∀ t, (demote t).signals = t.signals) : (leaveStopped demote s).signals = s.signals := by
  simp [leaveStopped, h]

@[simp] theorem leaveStopped_sense (demote : State → State) (s : State)
    (h : ∀ t, (demote t).sense = t.sense) : (leaveStopped demote s).sense = s.sense := by
  simp [leaveStopped, h]

@[simp] theorem leaveStopped_line (demote : State → State) (s : State)
    (h : ∀ t, (demote t).line = t.line) : (leaveStopped demote s).line = s.line := by
  simp [leaveStopped, h]

@[simp] theorem leaveStopped_doors (demote : State → State) (s : State)
    (h : ∀ t, (demote t).doors = t.doors) : (leaveStopped demote s).doors = s.doors := by
  simp [leaveStopped, h]

@[simp] theorem leaveStopped_doors_motion (demote : State → State) (s : State)
    (h : ∀ t, (demote t).doors.motion = t.doors.motion) : (leaveStopped demote s).doors.motion = s.doors.motion := by
  simp [leaveStopped, h]

@[simp] theorem leaveStopped_doors_interlock (demote : State → State) (s : State)
    (h : ∀ t, (demote t).doors.interlock = t.doors.interlock) : (leaveStopped demote s).doors.interlock = s.doors.interlock := by
  simp [leaveStopped, h]

@[simp] theorem leaveStopped_doors_releaseDelay (demote : State → State) (s : State)
    (h : ∀ t, (demote t).doors.releaseDelay = t.doors.releaseDelay) : (leaveStopped demote s).doors.releaseDelay = s.doors.releaseDelay := by
  simp [leaveStopped, h]

@[simp] theorem leaveStopped_warnings (demote : State → State) (s : State)
    (h : ∀ t, (demote t).warnings = t.warnings) : (leaveStopped demote s).warnings = s.warnings := by
  simp [leaveStopped, h]

@[simp] theorem leaveStopped_faults (demote : State → State) (s : State)
    (h : ∀ t, (demote t).faults = t.faults) : (leaveStopped demote s).faults = s.faults := by
  simp [leaveStopped, h]

@[simp] theorem leaveStopped_shop_session (demote : State → State) (s : State)
    (h : ∀ t, (demote t).shop.session = t.shop.session) : (leaveStopped demote s).shop.session = s.shop.session := by
  simp [leaveStopped, h]

@[simp] theorem leaveStopped_shop_forced (demote : State → State) (s : State)
    (h : ∀ t, (demote t).shop.forced = t.shop.forced) : (leaveStopped demote s).shop.forced = s.shop.forced := by
  simp [leaveStopped, h]

@[simp] theorem leaveStopped_shop_receiver (demote : State → State) (s : State)
    (h : ∀ t, (demote t).shop.receiver = t.shop.receiver) : (leaveStopped demote s).shop.receiver = s.shop.receiver := by
  simp [leaveStopped, h]

@[simp] theorem leaveStopped_shop_rate (demote : State → State) (s : State)
    (h : ∀ t, (demote t).shop.rate = t.shop.rate) : (leaveStopped demote s).shop.rate = s.shop.rate := by
  simp [leaveStopped, h]

@[simp] theorem leaveStopped_shop_nextRate (demote : State → State) (s : State)
    (h : ∀ t, (demote t).shop.nextRate = t.shop.nextRate) : (leaveStopped demote s).shop.nextRate = s.shop.nextRate := by
  simp [leaveStopped, h]

@[simp] theorem leaveStopped_shop_gapTimer (demote : State → State) (s : State)
    (h : ∀ t, (demote t).shop.gapTimer = t.shop.gapTimer) : (leaveStopped demote s).shop.gapTimer = s.shop.gapTimer := by
  simp [leaveStopped, h]

@[simp] theorem leaveStopped_shop_idleTimer (demote : State → State) (s : State)
    (h : ∀ t, (demote t).shop.idleTimer = t.shop.idleTimer) : (leaveStopped demote s).shop.idleTimer = s.shop.idleTimer := by
  simp [leaveStopped, h]

@[simp] theorem handMotion_pending (demote : State → State) (old : Motion) (s : State)
    (h : ∀ t, (demote t).pending = t.pending) : (handMotion demote old s).pending = s.pending := by
  simp [handMotion, h]

@[simp] theorem handMotion_now (demote : State → State) (old : Motion) (s : State)
    (h : ∀ t, (demote t).now = t.now) : (handMotion demote old s).now = s.now := by
  simp [handMotion, h]

@[simp] theorem handMotion_run (demote : State → State) (old : Motion) (s : State)
    (h : ∀ t, (demote t).run = t.run) : (handMotion demote old s).run = s.run := by
  simp [handMotion, h]

@[simp] theorem handMotion_run_state (demote : State → State) (old : Motion) (s : State)
    (h : ∀ t, (demote t).run.state = t.run.state) : (handMotion demote old s).run.state = s.run.state := by
  simp [handMotion, h]

@[simp] theorem handMotion_port_noticeRead (demote : State → State) (old : Motion) (s : State)
    (h : ∀ t, (demote t).port.noticeRead = t.port.noticeRead) : (handMotion demote old s).port.noticeRead = s.port.noticeRead := by
  simp [handMotion, h]

@[simp] theorem handMotion_port_intEnable (demote : State → State) (old : Motion) (s : State)
    (h : ∀ t, (demote t).port.intEnable = t.port.intEnable) : (handMotion demote old s).port.intEnable = s.port.intEnable := by
  simp [handMotion, h]

@[simp] theorem handMotion_port_displayLost (demote : State → State) (old : Motion) (s : State)
    (h : ∀ t, (demote t).port.displayLost = t.port.displayLost) : (handMotion demote old s).port.displayLost = s.port.displayLost := by
  simp [handMotion, h]

@[simp] theorem handMotion_port_livenessTimer (demote : State → State) (old : Motion) (s : State)
    (h : ∀ t, (demote t).port.livenessTimer = t.port.livenessTimer) : (handMotion demote old s).port.livenessTimer = s.port.livenessTimer := by
  simp [handMotion, h]

@[simp] theorem handMotion_port_sweepTimer (demote : State → State) (old : Motion) (s : State)
    (h : ∀ t, (demote t).port.sweepTimer = t.port.sweepTimer) : (handMotion demote old s).port.sweepTimer = s.port.sweepTimer := by
  simp [handMotion, h]

@[simp] theorem handMotion_port_sweepPlace (demote : State → State) (old : Motion) (s : State)
    (h : ∀ t, (demote t).port.sweepPlace = t.port.sweepPlace) : (handMotion demote old s).port.sweepPlace = s.port.sweepPlace := by
  simp [handMotion, h]

@[simp] theorem handMotion_port_sweepHeld (demote : State → State) (old : Motion) (s : State)
    (h : ∀ t, (demote t).port.sweepHeld = t.port.sweepHeld) : (handMotion demote old s).port.sweepHeld = s.port.sweepHeld := by
  simp [handMotion, h]

@[simp] theorem handMotion_port_sweepCount (demote : State → State) (old : Motion) (s : State)
    (h : ∀ t, (demote t).port.sweepCount = t.port.sweepCount) : (handMotion demote old s).port.sweepCount = s.port.sweepCount := by
  simp [handMotion, h]

@[simp] theorem handMotion_port_writeRefused (demote : State → State) (old : Motion) (s : State)
    (h : ∀ t, (demote t).port.writeRefused = t.port.writeRefused) : (handMotion demote old s).port.writeRefused = s.port.writeRefused := by
  simp [handMotion, h]

@[simp] theorem handMotion_port_refusedAddress (demote : State → State) (old : Motion) (s : State)
    (h : ∀ t, (demote t).port.refusedAddress = t.port.refusedAddress) : (handMotion demote old s).port.refusedAddress = s.port.refusedAddress := by
  simp [handMotion, h]

@[simp] theorem handMotion_outside (demote : State → State) (old : Motion) (s : State)
    (h : ∀ t, (demote t).outside = t.outside) : (handMotion demote old s).outside = s.outside := by
  simp [handMotion, h]

@[simp] theorem handMotion_setup (demote : State → State) (old : Motion) (s : State)
    (h : ∀ t, (demote t).setup = t.setup) : (handMotion demote old s).setup = s.setup := by
  simp [handMotion, h]

@[simp] theorem handMotion_signals (demote : State → State) (old : Motion) (s : State)
    (h : ∀ t, (demote t).signals = t.signals) : (handMotion demote old s).signals = s.signals := by
  simp [handMotion, h]

@[simp] theorem handMotion_sense (demote : State → State) (old : Motion) (s : State)
    (h : ∀ t, (demote t).sense = t.sense) : (handMotion demote old s).sense = s.sense := by
  simp [handMotion, h]

@[simp] theorem handMotion_line (demote : State → State) (old : Motion) (s : State)
    (h : ∀ t, (demote t).line = t.line) : (handMotion demote old s).line = s.line := by
  simp [handMotion, h]

@[simp] theorem handMotion_doors_motion (demote : State → State) (old : Motion) (s : State)
    (h : ∀ t, (demote t).doors.motion = t.doors.motion) : (handMotion demote old s).doors.motion = s.doors.motion := by
  simp [handMotion, h]

@[simp] theorem handMotion_doors_interlock (demote : State → State) (old : Motion) (s : State)
    (h : ∀ t, (demote t).doors.interlock = t.doors.interlock) : (handMotion demote old s).doors.interlock = s.doors.interlock := by
  simp [handMotion, h]

@[simp] theorem handMotion_doors_releaseDelay (demote : State → State) (old : Motion) (s : State)
    (h : ∀ t, (demote t).doors.releaseDelay = t.doors.releaseDelay) : (handMotion demote old s).doors.releaseDelay = s.doors.releaseDelay := by
  simp [handMotion, h]

@[simp] theorem handMotion_shop_session (demote : State → State) (old : Motion) (s : State)
    (h : ∀ t, (demote t).shop.session = t.shop.session) : (handMotion demote old s).shop.session = s.shop.session := by
  simp [handMotion, h]

@[simp] theorem handMotion_shop_forced (demote : State → State) (old : Motion) (s : State)
    (h : ∀ t, (demote t).shop.forced = t.shop.forced) : (handMotion demote old s).shop.forced = s.shop.forced := by
  simp [handMotion, h]

@[simp] theorem handMotion_shop_receiver (demote : State → State) (old : Motion) (s : State)
    (h : ∀ t, (demote t).shop.receiver = t.shop.receiver) : (handMotion demote old s).shop.receiver = s.shop.receiver := by
  simp [handMotion, h]

@[simp] theorem handMotion_shop_rate (demote : State → State) (old : Motion) (s : State)
    (h : ∀ t, (demote t).shop.rate = t.shop.rate) : (handMotion demote old s).shop.rate = s.shop.rate := by
  simp [handMotion, h]

@[simp] theorem handMotion_shop_nextRate (demote : State → State) (old : Motion) (s : State)
    (h : ∀ t, (demote t).shop.nextRate = t.shop.nextRate) : (handMotion demote old s).shop.nextRate = s.shop.nextRate := by
  simp [handMotion, h]

@[simp] theorem handMotion_shop_gapTimer (demote : State → State) (old : Motion) (s : State)
    (h : ∀ t, (demote t).shop.gapTimer = t.shop.gapTimer) : (handMotion demote old s).shop.gapTimer = s.shop.gapTimer := by
  simp [handMotion, h]

@[simp] theorem handMotion_shop_idleTimer (demote : State → State) (old : Motion) (s : State)
    (h : ∀ t, (demote t).shop.idleTimer = t.shop.idleTimer) : (handMotion demote old s).shop.idleTimer = s.shop.idleTimer := by
  simp [handMotion, h]

@[simp] theorem changeMotion_pending (demote : State → State) (x : DoorUnit) (s : State)
    (h : ∀ t, (demote t).pending = t.pending) : (changeMotion demote x s).pending = s.pending := by
  simp [changeMotion, h]

@[simp] theorem changeMotion_now (demote : State → State) (x : DoorUnit) (s : State)
    (h : ∀ t, (demote t).now = t.now) : (changeMotion demote x s).now = s.now := by
  simp [changeMotion, h]

@[simp] theorem changeMotion_run (demote : State → State) (x : DoorUnit) (s : State)
    (h : ∀ t, (demote t).run = t.run) : (changeMotion demote x s).run = s.run := by
  simp [changeMotion, h]

@[simp] theorem changeMotion_run_state (demote : State → State) (x : DoorUnit) (s : State)
    (h : ∀ t, (demote t).run.state = t.run.state) : (changeMotion demote x s).run.state = s.run.state := by
  simp [changeMotion, h]

@[simp] theorem changeMotion_port_noticeRead (demote : State → State) (x : DoorUnit) (s : State)
    (h : ∀ t, (demote t).port.noticeRead = t.port.noticeRead) : (changeMotion demote x s).port.noticeRead = s.port.noticeRead := by
  simp [changeMotion, h]

@[simp] theorem changeMotion_port_intEnable (demote : State → State) (x : DoorUnit) (s : State)
    (h : ∀ t, (demote t).port.intEnable = t.port.intEnable) : (changeMotion demote x s).port.intEnable = s.port.intEnable := by
  simp [changeMotion, h]

@[simp] theorem changeMotion_port_displayLost (demote : State → State) (x : DoorUnit) (s : State)
    (h : ∀ t, (demote t).port.displayLost = t.port.displayLost) : (changeMotion demote x s).port.displayLost = s.port.displayLost := by
  simp [changeMotion, h]

@[simp] theorem changeMotion_port_livenessTimer (demote : State → State) (x : DoorUnit) (s : State)
    (h : ∀ t, (demote t).port.livenessTimer = t.port.livenessTimer) : (changeMotion demote x s).port.livenessTimer = s.port.livenessTimer := by
  simp [changeMotion, h]

@[simp] theorem changeMotion_port_sweepTimer (demote : State → State) (x : DoorUnit) (s : State)
    (h : ∀ t, (demote t).port.sweepTimer = t.port.sweepTimer) : (changeMotion demote x s).port.sweepTimer = s.port.sweepTimer := by
  simp [changeMotion, h]

@[simp] theorem changeMotion_port_sweepPlace (demote : State → State) (x : DoorUnit) (s : State)
    (h : ∀ t, (demote t).port.sweepPlace = t.port.sweepPlace) : (changeMotion demote x s).port.sweepPlace = s.port.sweepPlace := by
  simp [changeMotion, h]

@[simp] theorem changeMotion_port_sweepHeld (demote : State → State) (x : DoorUnit) (s : State)
    (h : ∀ t, (demote t).port.sweepHeld = t.port.sweepHeld) : (changeMotion demote x s).port.sweepHeld = s.port.sweepHeld := by
  simp [changeMotion, h]

@[simp] theorem changeMotion_port_sweepCount (demote : State → State) (x : DoorUnit) (s : State)
    (h : ∀ t, (demote t).port.sweepCount = t.port.sweepCount) : (changeMotion demote x s).port.sweepCount = s.port.sweepCount := by
  simp [changeMotion, h]

@[simp] theorem changeMotion_port_writeRefused (demote : State → State) (x : DoorUnit) (s : State)
    (h : ∀ t, (demote t).port.writeRefused = t.port.writeRefused) : (changeMotion demote x s).port.writeRefused = s.port.writeRefused := by
  simp [changeMotion, h]

@[simp] theorem changeMotion_port_refusedAddress (demote : State → State) (x : DoorUnit) (s : State)
    (h : ∀ t, (demote t).port.refusedAddress = t.port.refusedAddress) : (changeMotion demote x s).port.refusedAddress = s.port.refusedAddress := by
  simp [changeMotion, h]

@[simp] theorem changeMotion_outside (demote : State → State) (x : DoorUnit) (s : State)
    (h : ∀ t, (demote t).outside = t.outside) : (changeMotion demote x s).outside = s.outside := by
  simp [changeMotion, h]

@[simp] theorem changeMotion_setup (demote : State → State) (x : DoorUnit) (s : State)
    (h : ∀ t, (demote t).setup = t.setup) : (changeMotion demote x s).setup = s.setup := by
  simp [changeMotion, h]

@[simp] theorem changeMotion_signals (demote : State → State) (x : DoorUnit) (s : State)
    (h : ∀ t, (demote t).signals = t.signals) : (changeMotion demote x s).signals = s.signals := by
  simp [changeMotion, h]

@[simp] theorem changeMotion_sense (demote : State → State) (x : DoorUnit) (s : State)
    (h : ∀ t, (demote t).sense = t.sense) : (changeMotion demote x s).sense = s.sense := by
  simp [changeMotion, h]

@[simp] theorem changeMotion_line (demote : State → State) (x : DoorUnit) (s : State)
    (h : ∀ t, (demote t).line = t.line) : (changeMotion demote x s).line = s.line := by
  simp [changeMotion, h]

@[simp] theorem changeMotion_shop_session (demote : State → State) (x : DoorUnit) (s : State)
    (h : ∀ t, (demote t).shop.session = t.shop.session) : (changeMotion demote x s).shop.session = s.shop.session := by
  simp [changeMotion, h]

@[simp] theorem changeMotion_shop_forced (demote : State → State) (x : DoorUnit) (s : State)
    (h : ∀ t, (demote t).shop.forced = t.shop.forced) : (changeMotion demote x s).shop.forced = s.shop.forced := by
  simp [changeMotion, h]

@[simp] theorem changeMotion_shop_receiver (demote : State → State) (x : DoorUnit) (s : State)
    (h : ∀ t, (demote t).shop.receiver = t.shop.receiver) : (changeMotion demote x s).shop.receiver = s.shop.receiver := by
  simp [changeMotion, h]

@[simp] theorem changeMotion_shop_rate (demote : State → State) (x : DoorUnit) (s : State)
    (h : ∀ t, (demote t).shop.rate = t.shop.rate) : (changeMotion demote x s).shop.rate = s.shop.rate := by
  simp [changeMotion, h]

@[simp] theorem changeMotion_shop_nextRate (demote : State → State) (x : DoorUnit) (s : State)
    (h : ∀ t, (demote t).shop.nextRate = t.shop.nextRate) : (changeMotion demote x s).shop.nextRate = s.shop.nextRate := by
  simp [changeMotion, h]

@[simp] theorem changeMotion_shop_gapTimer (demote : State → State) (x : DoorUnit) (s : State)
    (h : ∀ t, (demote t).shop.gapTimer = t.shop.gapTimer) : (changeMotion demote x s).shop.gapTimer = s.shop.gapTimer := by
  simp [changeMotion, h]

@[simp] theorem changeMotion_shop_idleTimer (demote : State → State) (x : DoorUnit) (s : State)
    (h : ∀ t, (demote t).shop.idleTimer = t.shop.idleTimer) : (changeMotion demote x s).shop.idleTimer = s.shop.idleTimer := by
  simp [changeMotion, h]

@[simp] theorem takeSpeed_pending (demote : State → State) (s : State)
    (h : ∀ t, (demote t).pending = t.pending) : (takeSpeed demote s).pending = s.pending := by
  simp [takeSpeed, h]

@[simp] theorem takeSpeed_now (demote : State → State) (s : State)
    (h : ∀ t, (demote t).now = t.now) : (takeSpeed demote s).now = s.now := by
  simp [takeSpeed, h]

@[simp] theorem takeSpeed_run (demote : State → State) (s : State)
    (h : ∀ t, (demote t).run = t.run) : (takeSpeed demote s).run = s.run := by
  simp [takeSpeed, h]

@[simp] theorem takeSpeed_run_state (demote : State → State) (s : State)
    (h : ∀ t, (demote t).run.state = t.run.state) : (takeSpeed demote s).run.state = s.run.state := by
  simp [takeSpeed, h]

@[simp] theorem takeSpeed_port_noticeRead (demote : State → State) (s : State)
    (h : ∀ t, (demote t).port.noticeRead = t.port.noticeRead) : (takeSpeed demote s).port.noticeRead = s.port.noticeRead := by
  simp [takeSpeed, h]

@[simp] theorem takeSpeed_port_intEnable (demote : State → State) (s : State)
    (h : ∀ t, (demote t).port.intEnable = t.port.intEnable) : (takeSpeed demote s).port.intEnable = s.port.intEnable := by
  simp [takeSpeed, h]

@[simp] theorem takeSpeed_port_displayLost (demote : State → State) (s : State)
    (h : ∀ t, (demote t).port.displayLost = t.port.displayLost) : (takeSpeed demote s).port.displayLost = s.port.displayLost := by
  simp [takeSpeed, h]

@[simp] theorem takeSpeed_port_livenessTimer (demote : State → State) (s : State)
    (h : ∀ t, (demote t).port.livenessTimer = t.port.livenessTimer) : (takeSpeed demote s).port.livenessTimer = s.port.livenessTimer := by
  simp [takeSpeed, h]

@[simp] theorem takeSpeed_port_sweepTimer (demote : State → State) (s : State)
    (h : ∀ t, (demote t).port.sweepTimer = t.port.sweepTimer) : (takeSpeed demote s).port.sweepTimer = s.port.sweepTimer := by
  simp [takeSpeed, h]

@[simp] theorem takeSpeed_port_sweepPlace (demote : State → State) (s : State)
    (h : ∀ t, (demote t).port.sweepPlace = t.port.sweepPlace) : (takeSpeed demote s).port.sweepPlace = s.port.sweepPlace := by
  simp [takeSpeed, h]

@[simp] theorem takeSpeed_port_sweepHeld (demote : State → State) (s : State)
    (h : ∀ t, (demote t).port.sweepHeld = t.port.sweepHeld) : (takeSpeed demote s).port.sweepHeld = s.port.sweepHeld := by
  simp [takeSpeed, h]

@[simp] theorem takeSpeed_port_sweepCount (demote : State → State) (s : State)
    (h : ∀ t, (demote t).port.sweepCount = t.port.sweepCount) : (takeSpeed demote s).port.sweepCount = s.port.sweepCount := by
  simp [takeSpeed, h]

@[simp] theorem takeSpeed_port_writeRefused (demote : State → State) (s : State)
    (h : ∀ t, (demote t).port.writeRefused = t.port.writeRefused) : (takeSpeed demote s).port.writeRefused = s.port.writeRefused := by
  simp [takeSpeed, h]

@[simp] theorem takeSpeed_port_refusedAddress (demote : State → State) (s : State)
    (h : ∀ t, (demote t).port.refusedAddress = t.port.refusedAddress) : (takeSpeed demote s).port.refusedAddress = s.port.refusedAddress := by
  simp [takeSpeed, h]

@[simp] theorem takeSpeed_outside (demote : State → State) (s : State)
    (h : ∀ t, (demote t).outside = t.outside) : (takeSpeed demote s).outside = s.outside := by
  simp [takeSpeed, h]

@[simp] theorem takeSpeed_setup (demote : State → State) (s : State)
    (h : ∀ t, (demote t).setup = t.setup) : (takeSpeed demote s).setup = s.setup := by
  simp [takeSpeed, h]

@[simp] theorem takeSpeed_signals (demote : State → State) (s : State)
    (h : ∀ t, (demote t).signals = t.signals) : (takeSpeed demote s).signals = s.signals := by
  simp [takeSpeed, h]

@[simp] theorem takeSpeed_sense (demote : State → State) (s : State)
    (h : ∀ t, (demote t).sense = t.sense) : (takeSpeed demote s).sense = s.sense := by
  simp [takeSpeed, h]

@[simp] theorem takeSpeed_line (demote : State → State) (s : State)
    (h : ∀ t, (demote t).line = t.line) : (takeSpeed demote s).line = s.line := by
  simp [takeSpeed, h]

@[simp] theorem takeSpeed_shop_session (demote : State → State) (s : State)
    (h : ∀ t, (demote t).shop.session = t.shop.session) : (takeSpeed demote s).shop.session = s.shop.session := by
  simp [takeSpeed, h]

@[simp] theorem takeSpeed_shop_forced (demote : State → State) (s : State)
    (h : ∀ t, (demote t).shop.forced = t.shop.forced) : (takeSpeed demote s).shop.forced = s.shop.forced := by
  simp [takeSpeed, h]

@[simp] theorem takeSpeed_shop_receiver (demote : State → State) (s : State)
    (h : ∀ t, (demote t).shop.receiver = t.shop.receiver) : (takeSpeed demote s).shop.receiver = s.shop.receiver := by
  simp [takeSpeed, h]

@[simp] theorem takeSpeed_shop_rate (demote : State → State) (s : State)
    (h : ∀ t, (demote t).shop.rate = t.shop.rate) : (takeSpeed demote s).shop.rate = s.shop.rate := by
  simp [takeSpeed, h]

@[simp] theorem takeSpeed_shop_nextRate (demote : State → State) (s : State)
    (h : ∀ t, (demote t).shop.nextRate = t.shop.nextRate) : (takeSpeed demote s).shop.nextRate = s.shop.nextRate := by
  simp [takeSpeed, h]

@[simp] theorem takeSpeed_shop_gapTimer (demote : State → State) (s : State)
    (h : ∀ t, (demote t).shop.gapTimer = t.shop.gapTimer) : (takeSpeed demote s).shop.gapTimer = s.shop.gapTimer := by
  simp [takeSpeed, h]

@[simp] theorem takeSpeed_shop_idleTimer (demote : State → State) (s : State)
    (h : ∀ t, (demote t).shop.idleTimer = t.shop.idleTimer) : (takeSpeed demote s).shop.idleTimer = s.shop.idleTimer := by
  simp [takeSpeed, h]

@[simp] theorem signalRead_pending (demote : State → State) (n : Nat) (statusChanged : Bool) (s : State)
    (h : ∀ t, (demote t).pending = t.pending) : (signalRead demote n statusChanged s).pending = s.pending := by
  simp [signalRead, h]

@[simp] theorem signalRead_now (demote : State → State) (n : Nat) (statusChanged : Bool) (s : State)
    (h : ∀ t, (demote t).now = t.now) : (signalRead demote n statusChanged s).now = s.now := by
  simp [signalRead, h]

@[simp] theorem signalRead_run (demote : State → State) (n : Nat) (statusChanged : Bool) (s : State)
    (h : ∀ t, (demote t).run = t.run) : (signalRead demote n statusChanged s).run = s.run := by
  simp [signalRead, h]

@[simp] theorem signalRead_run_state (demote : State → State) (n : Nat) (statusChanged : Bool) (s : State)
    (h : ∀ t, (demote t).run.state = t.run.state) : (signalRead demote n statusChanged s).run.state = s.run.state := by
  simp [signalRead, h]

@[simp] theorem signalRead_port_noticeRead (demote : State → State) (n : Nat) (statusChanged : Bool) (s : State)
    (h : ∀ t, (demote t).port.noticeRead = t.port.noticeRead) : (signalRead demote n statusChanged s).port.noticeRead = s.port.noticeRead := by
  simp [signalRead, h]

@[simp] theorem signalRead_port_intEnable (demote : State → State) (n : Nat) (statusChanged : Bool) (s : State)
    (h : ∀ t, (demote t).port.intEnable = t.port.intEnable) : (signalRead demote n statusChanged s).port.intEnable = s.port.intEnable := by
  simp [signalRead, h]

@[simp] theorem signalRead_port_displayLost (demote : State → State) (n : Nat) (statusChanged : Bool) (s : State)
    (h : ∀ t, (demote t).port.displayLost = t.port.displayLost) : (signalRead demote n statusChanged s).port.displayLost = s.port.displayLost := by
  simp [signalRead, h]

@[simp] theorem signalRead_port_livenessTimer (demote : State → State) (n : Nat) (statusChanged : Bool) (s : State)
    (h : ∀ t, (demote t).port.livenessTimer = t.port.livenessTimer) : (signalRead demote n statusChanged s).port.livenessTimer = s.port.livenessTimer := by
  simp [signalRead, h]

@[simp] theorem signalRead_port_sweepTimer (demote : State → State) (n : Nat) (statusChanged : Bool) (s : State)
    (h : ∀ t, (demote t).port.sweepTimer = t.port.sweepTimer) : (signalRead demote n statusChanged s).port.sweepTimer = s.port.sweepTimer := by
  simp [signalRead, h]

@[simp] theorem signalRead_port_sweepPlace (demote : State → State) (n : Nat) (statusChanged : Bool) (s : State)
    (h : ∀ t, (demote t).port.sweepPlace = t.port.sweepPlace) : (signalRead demote n statusChanged s).port.sweepPlace = s.port.sweepPlace := by
  simp [signalRead, h]

@[simp] theorem signalRead_port_sweepHeld (demote : State → State) (n : Nat) (statusChanged : Bool) (s : State)
    (h : ∀ t, (demote t).port.sweepHeld = t.port.sweepHeld) : (signalRead demote n statusChanged s).port.sweepHeld = s.port.sweepHeld := by
  simp [signalRead, h]

@[simp] theorem signalRead_port_sweepCount (demote : State → State) (n : Nat) (statusChanged : Bool) (s : State)
    (h : ∀ t, (demote t).port.sweepCount = t.port.sweepCount) : (signalRead demote n statusChanged s).port.sweepCount = s.port.sweepCount := by
  simp [signalRead, h]

@[simp] theorem signalRead_port_writeRefused (demote : State → State) (n : Nat) (statusChanged : Bool) (s : State)
    (h : ∀ t, (demote t).port.writeRefused = t.port.writeRefused) : (signalRead demote n statusChanged s).port.writeRefused = s.port.writeRefused := by
  simp [signalRead, h]

@[simp] theorem signalRead_port_refusedAddress (demote : State → State) (n : Nat) (statusChanged : Bool) (s : State)
    (h : ∀ t, (demote t).port.refusedAddress = t.port.refusedAddress) : (signalRead demote n statusChanged s).port.refusedAddress = s.port.refusedAddress := by
  simp [signalRead, h]

@[simp] theorem signalRead_outside (demote : State → State) (n : Nat) (statusChanged : Bool) (s : State)
    (h : ∀ t, (demote t).outside = t.outside) : (signalRead demote n statusChanged s).outside = s.outside := by
  simp [signalRead, h]

@[simp] theorem signalRead_setup (demote : State → State) (n : Nat) (statusChanged : Bool) (s : State)
    (h : ∀ t, (demote t).setup = t.setup) : (signalRead demote n statusChanged s).setup = s.setup := by
  simp [signalRead, h]

@[simp] theorem signalRead_signals (demote : State → State) (n : Nat) (statusChanged : Bool) (s : State)
    (h : ∀ t, (demote t).signals = t.signals) : (signalRead demote n statusChanged s).signals = s.signals := by
  simp [signalRead, h]

@[simp] theorem signalRead_sense (demote : State → State) (n : Nat) (statusChanged : Bool) (s : State)
    (h : ∀ t, (demote t).sense = t.sense) : (signalRead demote n statusChanged s).sense = s.sense := by
  simp [signalRead, h]

@[simp] theorem signalRead_line (demote : State → State) (n : Nat) (statusChanged : Bool) (s : State)
    (h : ∀ t, (demote t).line = t.line) : (signalRead demote n statusChanged s).line = s.line := by
  simp [signalRead, h]

@[simp] theorem signalRead_shop_session (demote : State → State) (n : Nat) (statusChanged : Bool) (s : State)
    (h : ∀ t, (demote t).shop.session = t.shop.session) : (signalRead demote n statusChanged s).shop.session = s.shop.session := by
  simp [signalRead, h]

@[simp] theorem signalRead_shop_forced (demote : State → State) (n : Nat) (statusChanged : Bool) (s : State)
    (h : ∀ t, (demote t).shop.forced = t.shop.forced) : (signalRead demote n statusChanged s).shop.forced = s.shop.forced := by
  simp [signalRead, h]

@[simp] theorem signalRead_shop_receiver (demote : State → State) (n : Nat) (statusChanged : Bool) (s : State)
    (h : ∀ t, (demote t).shop.receiver = t.shop.receiver) : (signalRead demote n statusChanged s).shop.receiver = s.shop.receiver := by
  simp [signalRead, h]

@[simp] theorem signalRead_shop_rate (demote : State → State) (n : Nat) (statusChanged : Bool) (s : State)
    (h : ∀ t, (demote t).shop.rate = t.shop.rate) : (signalRead demote n statusChanged s).shop.rate = s.shop.rate := by
  simp [signalRead, h]

@[simp] theorem signalRead_shop_nextRate (demote : State → State) (n : Nat) (statusChanged : Bool) (s : State)
    (h : ∀ t, (demote t).shop.nextRate = t.shop.nextRate) : (signalRead demote n statusChanged s).shop.nextRate = s.shop.nextRate := by
  simp [signalRead, h]

@[simp] theorem signalRead_shop_gapTimer (demote : State → State) (n : Nat) (statusChanged : Bool) (s : State)
    (h : ∀ t, (demote t).shop.gapTimer = t.shop.gapTimer) : (signalRead demote n statusChanged s).shop.gapTimer = s.shop.gapTimer := by
  simp [signalRead, h]

@[simp] theorem signalRead_shop_idleTimer (demote : State → State) (n : Nat) (statusChanged : Bool) (s : State)
    (h : ∀ t, (demote t).shop.idleTimer = t.shop.idleTimer) : (signalRead demote n statusChanged s).shop.idleTimer = s.shop.idleTimer := by
  simp [signalRead, h]

@[simp] theorem putSignal_frame (n : Nat) (x : Signal) (s : State) :
    (putSignal n x s).pending = s.pending ∧ (putSignal n x s).now = s.now ∧ (putSignal n x s).run = s.run ∧
    (putSignal n x s).port = s.port ∧ (putSignal n x s).mem = s.mem ∧ (putSignal n x s).outside = s.outside ∧
    (putSignal n x s).setup = s.setup ∧ (putSignal n x s).sense = s.sense ∧ (putSignal n x s).line = s.line ∧
    (putSignal n x s).doors = s.doors ∧ (putSignal n x s).warnings = s.warnings ∧ (putSignal n x s).comp = s.comp ∧
    (putSignal n x s).gauges = s.gauges ∧ (putSignal n x s).faults = s.faults ∧ (putSignal n x s).shop = s.shop := by
  simp [putSignal]

@[simp] theorem writeSignal_pending (demote : State → State) (n : Nat) (x : Signal) (s : State)
    (h : ∀ t, (demote t).pending = t.pending) : (writeSignal demote n x s).pending = s.pending := by
  simp [writeSignal, h]

@[simp] theorem writeSignal_now (demote : State → State) (n : Nat) (x : Signal) (s : State)
    (h : ∀ t, (demote t).now = t.now) : (writeSignal demote n x s).now = s.now := by
  simp [writeSignal, h]

@[simp] theorem writeSignal_run (demote : State → State) (n : Nat) (x : Signal) (s : State)
    (h : ∀ t, (demote t).run = t.run) : (writeSignal demote n x s).run = s.run := by
  simp [writeSignal, h]

@[simp] theorem writeSignal_run_state (demote : State → State) (n : Nat) (x : Signal) (s : State)
    (h : ∀ t, (demote t).run.state = t.run.state) : (writeSignal demote n x s).run.state = s.run.state := by
  simp [writeSignal, h]

@[simp] theorem writeSignal_port_noticeRead (demote : State → State) (n : Nat) (x : Signal) (s : State)
    (h : ∀ t, (demote t).port.noticeRead = t.port.noticeRead) : (writeSignal demote n x s).port.noticeRead = s.port.noticeRead := by
  simp [writeSignal, h]

@[simp] theorem writeSignal_port_intEnable (demote : State → State) (n : Nat) (x : Signal) (s : State)
    (h : ∀ t, (demote t).port.intEnable = t.port.intEnable) : (writeSignal demote n x s).port.intEnable = s.port.intEnable := by
  simp [writeSignal, h]

@[simp] theorem writeSignal_port_displayLost (demote : State → State) (n : Nat) (x : Signal) (s : State)
    (h : ∀ t, (demote t).port.displayLost = t.port.displayLost) : (writeSignal demote n x s).port.displayLost = s.port.displayLost := by
  simp [writeSignal, h]

@[simp] theorem writeSignal_port_livenessTimer (demote : State → State) (n : Nat) (x : Signal) (s : State)
    (h : ∀ t, (demote t).port.livenessTimer = t.port.livenessTimer) : (writeSignal demote n x s).port.livenessTimer = s.port.livenessTimer := by
  simp [writeSignal, h]

@[simp] theorem writeSignal_port_sweepTimer (demote : State → State) (n : Nat) (x : Signal) (s : State)
    (h : ∀ t, (demote t).port.sweepTimer = t.port.sweepTimer) : (writeSignal demote n x s).port.sweepTimer = s.port.sweepTimer := by
  simp [writeSignal, h]

@[simp] theorem writeSignal_port_sweepPlace (demote : State → State) (n : Nat) (x : Signal) (s : State)
    (h : ∀ t, (demote t).port.sweepPlace = t.port.sweepPlace) : (writeSignal demote n x s).port.sweepPlace = s.port.sweepPlace := by
  simp [writeSignal, h]

@[simp] theorem writeSignal_port_sweepHeld (demote : State → State) (n : Nat) (x : Signal) (s : State)
    (h : ∀ t, (demote t).port.sweepHeld = t.port.sweepHeld) : (writeSignal demote n x s).port.sweepHeld = s.port.sweepHeld := by
  simp [writeSignal, h]

@[simp] theorem writeSignal_port_sweepCount (demote : State → State) (n : Nat) (x : Signal) (s : State)
    (h : ∀ t, (demote t).port.sweepCount = t.port.sweepCount) : (writeSignal demote n x s).port.sweepCount = s.port.sweepCount := by
  simp [writeSignal, h]

@[simp] theorem writeSignal_port_writeRefused (demote : State → State) (n : Nat) (x : Signal) (s : State)
    (h : ∀ t, (demote t).port.writeRefused = t.port.writeRefused) : (writeSignal demote n x s).port.writeRefused = s.port.writeRefused := by
  simp [writeSignal, h]

@[simp] theorem writeSignal_port_refusedAddress (demote : State → State) (n : Nat) (x : Signal) (s : State)
    (h : ∀ t, (demote t).port.refusedAddress = t.port.refusedAddress) : (writeSignal demote n x s).port.refusedAddress = s.port.refusedAddress := by
  simp [writeSignal, h]

@[simp] theorem writeSignal_outside (demote : State → State) (n : Nat) (x : Signal) (s : State)
    (h : ∀ t, (demote t).outside = t.outside) : (writeSignal demote n x s).outside = s.outside := by
  simp [writeSignal, h]

@[simp] theorem writeSignal_setup (demote : State → State) (n : Nat) (x : Signal) (s : State)
    (h : ∀ t, (demote t).setup = t.setup) : (writeSignal demote n x s).setup = s.setup := by
  simp [writeSignal, h]

@[simp] theorem writeSignal_sense (demote : State → State) (n : Nat) (x : Signal) (s : State)
    (h : ∀ t, (demote t).sense = t.sense) : (writeSignal demote n x s).sense = s.sense := by
  simp [writeSignal, h]

@[simp] theorem writeSignal_line (demote : State → State) (n : Nat) (x : Signal) (s : State)
    (h : ∀ t, (demote t).line = t.line) : (writeSignal demote n x s).line = s.line := by
  simp [writeSignal, h]

@[simp] theorem writeSignal_shop_session (demote : State → State) (n : Nat) (x : Signal) (s : State)
    (h : ∀ t, (demote t).shop.session = t.shop.session) : (writeSignal demote n x s).shop.session = s.shop.session := by
  simp [writeSignal, h]

@[simp] theorem writeSignal_shop_forced (demote : State → State) (n : Nat) (x : Signal) (s : State)
    (h : ∀ t, (demote t).shop.forced = t.shop.forced) : (writeSignal demote n x s).shop.forced = s.shop.forced := by
  simp [writeSignal, h]

@[simp] theorem writeSignal_shop_receiver (demote : State → State) (n : Nat) (x : Signal) (s : State)
    (h : ∀ t, (demote t).shop.receiver = t.shop.receiver) : (writeSignal demote n x s).shop.receiver = s.shop.receiver := by
  simp [writeSignal, h]

@[simp] theorem writeSignal_shop_rate (demote : State → State) (n : Nat) (x : Signal) (s : State)
    (h : ∀ t, (demote t).shop.rate = t.shop.rate) : (writeSignal demote n x s).shop.rate = s.shop.rate := by
  simp [writeSignal, h]

@[simp] theorem writeSignal_shop_nextRate (demote : State → State) (n : Nat) (x : Signal) (s : State)
    (h : ∀ t, (demote t).shop.nextRate = t.shop.nextRate) : (writeSignal demote n x s).shop.nextRate = s.shop.nextRate := by
  simp [writeSignal, h]

@[simp] theorem writeSignal_shop_gapTimer (demote : State → State) (n : Nat) (x : Signal) (s : State)
    (h : ∀ t, (demote t).shop.gapTimer = t.shop.gapTimer) : (writeSignal demote n x s).shop.gapTimer = s.shop.gapTimer := by
  simp [writeSignal, h]

@[simp] theorem writeSignal_shop_idleTimer (demote : State → State) (n : Nat) (x : Signal) (s : State)
    (h : ∀ t, (demote t).shop.idleTimer = t.shop.idleTimer) : (writeSignal demote n x s).shop.idleTimer = s.shop.idleTimer := by
  simp [writeSignal, h]

@[simp] theorem releaseForce_pending (demote : State → State) (n : Nat) (s : State)
    (h : ∀ t, (demote t).pending = t.pending) : (releaseForce demote n s).pending = s.pending := by
  simp [releaseForce, h]

@[simp] theorem releaseForce_now (demote : State → State) (n : Nat) (s : State)
    (h : ∀ t, (demote t).now = t.now) : (releaseForce demote n s).now = s.now := by
  simp [releaseForce, h]

@[simp] theorem releaseForce_run (demote : State → State) (n : Nat) (s : State)
    (h : ∀ t, (demote t).run = t.run) : (releaseForce demote n s).run = s.run := by
  simp [releaseForce, h]

@[simp] theorem releaseForce_run_state (demote : State → State) (n : Nat) (s : State)
    (h : ∀ t, (demote t).run.state = t.run.state) : (releaseForce demote n s).run.state = s.run.state := by
  simp [releaseForce, h]

@[simp] theorem releaseForce_port_noticeRead (demote : State → State) (n : Nat) (s : State)
    (h : ∀ t, (demote t).port.noticeRead = t.port.noticeRead) : (releaseForce demote n s).port.noticeRead = s.port.noticeRead := by
  simp [releaseForce, h]

@[simp] theorem releaseForce_port_intEnable (demote : State → State) (n : Nat) (s : State)
    (h : ∀ t, (demote t).port.intEnable = t.port.intEnable) : (releaseForce demote n s).port.intEnable = s.port.intEnable := by
  simp [releaseForce, h]

@[simp] theorem releaseForce_port_displayLost (demote : State → State) (n : Nat) (s : State)
    (h : ∀ t, (demote t).port.displayLost = t.port.displayLost) : (releaseForce demote n s).port.displayLost = s.port.displayLost := by
  simp [releaseForce, h]

@[simp] theorem releaseForce_port_livenessTimer (demote : State → State) (n : Nat) (s : State)
    (h : ∀ t, (demote t).port.livenessTimer = t.port.livenessTimer) : (releaseForce demote n s).port.livenessTimer = s.port.livenessTimer := by
  simp [releaseForce, h]

@[simp] theorem releaseForce_port_sweepTimer (demote : State → State) (n : Nat) (s : State)
    (h : ∀ t, (demote t).port.sweepTimer = t.port.sweepTimer) : (releaseForce demote n s).port.sweepTimer = s.port.sweepTimer := by
  simp [releaseForce, h]

@[simp] theorem releaseForce_port_sweepPlace (demote : State → State) (n : Nat) (s : State)
    (h : ∀ t, (demote t).port.sweepPlace = t.port.sweepPlace) : (releaseForce demote n s).port.sweepPlace = s.port.sweepPlace := by
  simp [releaseForce, h]

@[simp] theorem releaseForce_port_sweepHeld (demote : State → State) (n : Nat) (s : State)
    (h : ∀ t, (demote t).port.sweepHeld = t.port.sweepHeld) : (releaseForce demote n s).port.sweepHeld = s.port.sweepHeld := by
  simp [releaseForce, h]

@[simp] theorem releaseForce_port_sweepCount (demote : State → State) (n : Nat) (s : State)
    (h : ∀ t, (demote t).port.sweepCount = t.port.sweepCount) : (releaseForce demote n s).port.sweepCount = s.port.sweepCount := by
  simp [releaseForce, h]

@[simp] theorem releaseForce_port_writeRefused (demote : State → State) (n : Nat) (s : State)
    (h : ∀ t, (demote t).port.writeRefused = t.port.writeRefused) : (releaseForce demote n s).port.writeRefused = s.port.writeRefused := by
  simp [releaseForce, h]

@[simp] theorem releaseForce_port_refusedAddress (demote : State → State) (n : Nat) (s : State)
    (h : ∀ t, (demote t).port.refusedAddress = t.port.refusedAddress) : (releaseForce demote n s).port.refusedAddress = s.port.refusedAddress := by
  simp [releaseForce, h]

@[simp] theorem releaseForce_outside (demote : State → State) (n : Nat) (s : State)
    (h : ∀ t, (demote t).outside = t.outside) : (releaseForce demote n s).outside = s.outside := by
  simp [releaseForce, h]

@[simp] theorem releaseForce_setup (demote : State → State) (n : Nat) (s : State)
    (h : ∀ t, (demote t).setup = t.setup) : (releaseForce demote n s).setup = s.setup := by
  simp [releaseForce, h]

@[simp] theorem releaseForce_sense (demote : State → State) (n : Nat) (s : State)
    (h : ∀ t, (demote t).sense = t.sense) : (releaseForce demote n s).sense = s.sense := by
  simp [releaseForce, h]

@[simp] theorem releaseForce_line (demote : State → State) (n : Nat) (s : State)
    (h : ∀ t, (demote t).line = t.line) : (releaseForce demote n s).line = s.line := by
  simp [releaseForce, h]

@[simp] theorem releaseForce_shop_session (demote : State → State) (n : Nat) (s : State)
    (h : ∀ t, (demote t).shop.session = t.shop.session) : (releaseForce demote n s).shop.session = s.shop.session := by
  simp [releaseForce, h]

@[simp] theorem releaseForce_shop_forced (demote : State → State) (n : Nat) (s : State)
    (h : ∀ t, (demote t).shop.forced = t.shop.forced) : (releaseForce demote n s).shop.forced = s.shop.forced := by
  simp [releaseForce, h]

@[simp] theorem releaseForce_shop_receiver (demote : State → State) (n : Nat) (s : State)
    (h : ∀ t, (demote t).shop.receiver = t.shop.receiver) : (releaseForce demote n s).shop.receiver = s.shop.receiver := by
  simp [releaseForce, h]

@[simp] theorem releaseForce_shop_rate (demote : State → State) (n : Nat) (s : State)
    (h : ∀ t, (demote t).shop.rate = t.shop.rate) : (releaseForce demote n s).shop.rate = s.shop.rate := by
  simp [releaseForce, h]

@[simp] theorem releaseForce_shop_nextRate (demote : State → State) (n : Nat) (s : State)
    (h : ∀ t, (demote t).shop.nextRate = t.shop.nextRate) : (releaseForce demote n s).shop.nextRate = s.shop.nextRate := by
  simp [releaseForce, h]

@[simp] theorem releaseForce_shop_gapTimer (demote : State → State) (n : Nat) (s : State)
    (h : ∀ t, (demote t).shop.gapTimer = t.shop.gapTimer) : (releaseForce demote n s).shop.gapTimer = s.shop.gapTimer := by
  simp [releaseForce, h]

@[simp] theorem releaseForce_shop_idleTimer (demote : State → State) (n : Nat) (s : State)
    (h : ∀ t, (demote t).shop.idleTimer = t.shop.idleTimer) : (releaseForce demote n s).shop.idleTimer = s.shop.idleTimer := by
  simp [releaseForce, h]

@[simp] theorem releaseEntries_frame (l : List Nat) (s : State) :
    (releaseEntries l s).pending = s.pending ∧ (releaseEntries l s).now = s.now ∧ (releaseEntries l s).run = s.run ∧
    (releaseEntries l s).port.noticeRead = s.port.noticeRead ∧
    (releaseEntries l s).port.intEnable = s.port.intEnable ∧
    (releaseEntries l s).port.displayLost = s.port.displayLost ∧
    (releaseEntries l s).port.livenessTimer = s.port.livenessTimer ∧
    (releaseEntries l s).port.sweepTimer = s.port.sweepTimer ∧
    (releaseEntries l s).port.sweepPlace = s.port.sweepPlace ∧
    (releaseEntries l s).port.sweepHeld = s.port.sweepHeld ∧
    (releaseEntries l s).port.sweepCount = s.port.sweepCount ∧
    (releaseEntries l s).port.writeRefused = s.port.writeRefused ∧
    (releaseEntries l s).port.refusedAddress = s.port.refusedAddress ∧ (releaseEntries l s).outside = s.outside ∧
    (releaseEntries l s).setup = s.setup ∧ (releaseEntries l s).sense = s.sense ∧
    (releaseEntries l s).line = s.line ∧ (releaseEntries l s).shop.receiver = s.shop.receiver ∧
    (releaseEntries l s).shop.rate = s.shop.rate ∧ (releaseEntries l s).shop.nextRate = s.shop.nextRate ∧
    (releaseEntries l s).shop.gapTimer = s.shop.gapTimer ∧ (releaseEntries l s).shop.idleTimer = s.shop.idleTimer ∧
    (releaseEntries l s).doors = s.doors ∧ (releaseEntries l s).warnings = s.warnings ∧
    (releaseEntries l s).comp = s.comp ∧ (releaseEntries l s).gauges = s.gauges ∧
    (releaseEntries l s).faults = s.faults ∧ (releaseEntries l s).shop = s.shop := by
  simp [releaseEntries]

@[simp] theorem releaseRead_frame (shown : Table 128 Signal) (n : Nat) (s : State) :
    (releaseRead shown n s).pending = s.pending ∧ (releaseRead shown n s).now = s.now ∧
    (releaseRead shown n s).run = s.run ∧ (releaseRead shown n s).port.noticeRead = s.port.noticeRead ∧
    (releaseRead shown n s).port.intEnable = s.port.intEnable ∧
    (releaseRead shown n s).port.displayLost = s.port.displayLost ∧
    (releaseRead shown n s).port.livenessTimer = s.port.livenessTimer ∧
    (releaseRead shown n s).port.sweepTimer = s.port.sweepTimer ∧
    (releaseRead shown n s).port.sweepPlace = s.port.sweepPlace ∧
    (releaseRead shown n s).port.sweepHeld = s.port.sweepHeld ∧
    (releaseRead shown n s).port.sweepCount = s.port.sweepCount ∧
    (releaseRead shown n s).port.writeRefused = s.port.writeRefused ∧
    (releaseRead shown n s).port.refusedAddress = s.port.refusedAddress ∧
    (releaseRead shown n s).outside = s.outside ∧ (releaseRead shown n s).setup = s.setup ∧
    (releaseRead shown n s).sense = s.sense ∧ (releaseRead shown n s).line = s.line ∧
    (releaseRead shown n s).shop.receiver = s.shop.receiver ∧ (releaseRead shown n s).shop.rate = s.shop.rate ∧
    (releaseRead shown n s).shop.nextRate = s.shop.nextRate ∧
    (releaseRead shown n s).shop.gapTimer = s.shop.gapTimer ∧
    (releaseRead shown n s).shop.idleTimer = s.shop.idleTimer ∧
    (releaseRead shown n s).shop.session = s.shop.session ∧ (releaseRead shown n s).shop.forced = s.shop.forced := by
  simp [releaseRead]

@[simp] theorem releaseTogether_frame (l : List Nat) (s : State) :
    (releaseTogether l s).pending = s.pending ∧ (releaseTogether l s).now = s.now ∧
    (releaseTogether l s).run = s.run ∧ (releaseTogether l s).port.noticeRead = s.port.noticeRead ∧
    (releaseTogether l s).port.intEnable = s.port.intEnable ∧
    (releaseTogether l s).port.displayLost = s.port.displayLost ∧
    (releaseTogether l s).port.livenessTimer = s.port.livenessTimer ∧
    (releaseTogether l s).port.sweepTimer = s.port.sweepTimer ∧
    (releaseTogether l s).port.sweepPlace = s.port.sweepPlace ∧
    (releaseTogether l s).port.sweepHeld = s.port.sweepHeld ∧
    (releaseTogether l s).port.sweepCount = s.port.sweepCount ∧
    (releaseTogether l s).port.writeRefused = s.port.writeRefused ∧
    (releaseTogether l s).port.refusedAddress = s.port.refusedAddress ∧ (releaseTogether l s).outside = s.outside ∧
    (releaseTogether l s).setup = s.setup ∧ (releaseTogether l s).sense = s.sense ∧
    (releaseTogether l s).line = s.line ∧ (releaseTogether l s).shop.receiver = s.shop.receiver ∧
    (releaseTogether l s).shop.rate = s.shop.rate ∧ (releaseTogether l s).shop.nextRate = s.shop.nextRate ∧
    (releaseTogether l s).shop.gapTimer = s.shop.gapTimer ∧ (releaseTogether l s).shop.idleTimer = s.shop.idleTimer ∧
    (releaseTogether l s).shop.session = s.shop.session ∧ (releaseTogether l s).shop.forced = s.shop.forced := by
  simp [releaseTogether]

@[simp] theorem postLevel_frame (s : State) :
    (postLevel s).pending = s.pending ∧ (postLevel s).now = s.now ∧ (postLevel s).run = s.run ∧
    (postLevel s).port.noticeRead = s.port.noticeRead ∧ (postLevel s).port.intEnable = s.port.intEnable ∧
    (postLevel s).port.displayLost = s.port.displayLost ∧ (postLevel s).port.livenessTimer = s.port.livenessTimer ∧
    (postLevel s).port.sweepTimer = s.port.sweepTimer ∧ (postLevel s).port.sweepPlace = s.port.sweepPlace ∧
    (postLevel s).port.sweepHeld = s.port.sweepHeld ∧ (postLevel s).port.sweepCount = s.port.sweepCount ∧
    (postLevel s).port.writeRefused = s.port.writeRefused ∧
    (postLevel s).port.refusedAddress = s.port.refusedAddress ∧ (postLevel s).mem = s.mem ∧
    (postLevel s).outside = s.outside ∧ (postLevel s).setup = s.setup ∧ (postLevel s).signals = s.signals ∧
    (postLevel s).sense = s.sense ∧ (postLevel s).line = s.line ∧ (postLevel s).doors = s.doors ∧
    (postLevel s).warnings = s.warnings ∧ (postLevel s).comp = s.comp ∧ (postLevel s).gauges = s.gauges ∧
    (postLevel s).faults = s.faults ∧ (postLevel s).shop = s.shop := by
  simp [postLevel]

@[simp] theorem lowerSession_frame (level : Session) (cause : EndCause) (s : State) :
    (lowerSession level cause s).pending = s.pending ∧ (lowerSession level cause s).now = s.now ∧
    (lowerSession level cause s).run = s.run ∧ (lowerSession level cause s).port.noticeRead = s.port.noticeRead ∧
    (lowerSession level cause s).port.intEnable = s.port.intEnable ∧
    (lowerSession level cause s).port.displayLost = s.port.displayLost ∧
    (lowerSession level cause s).port.livenessTimer = s.port.livenessTimer ∧
    (lowerSession level cause s).port.sweepTimer = s.port.sweepTimer ∧
    (lowerSession level cause s).port.sweepPlace = s.port.sweepPlace ∧
    (lowerSession level cause s).port.sweepHeld = s.port.sweepHeld ∧
    (lowerSession level cause s).port.sweepCount = s.port.sweepCount ∧
    (lowerSession level cause s).port.writeRefused = s.port.writeRefused ∧
    (lowerSession level cause s).port.refusedAddress = s.port.refusedAddress ∧
    (lowerSession level cause s).outside = s.outside ∧ (lowerSession level cause s).setup = s.setup ∧
    (lowerSession level cause s).sense = s.sense ∧ (lowerSession level cause s).line = s.line ∧
    (lowerSession level cause s).shop.receiver = s.shop.receiver ∧
    (lowerSession level cause s).shop.rate = s.shop.rate ∧
    (lowerSession level cause s).shop.nextRate = s.shop.nextRate ∧
    (lowerSession level cause s).shop.gapTimer = s.shop.gapTimer ∧
    (lowerSession level cause s).shop.idleTimer = s.shop.idleTimer := by
  simp [lowerSession]

@[simp] theorem demoteFor_frame (cause : EndCause) (s : State) :
    (demoteFor cause s).pending = s.pending ∧ (demoteFor cause s).now = s.now ∧ (demoteFor cause s).run = s.run ∧
    (demoteFor cause s).port.noticeRead = s.port.noticeRead ∧
    (demoteFor cause s).port.intEnable = s.port.intEnable ∧
    (demoteFor cause s).port.displayLost = s.port.displayLost ∧
    (demoteFor cause s).port.livenessTimer = s.port.livenessTimer ∧
    (demoteFor cause s).port.sweepTimer = s.port.sweepTimer ∧
    (demoteFor cause s).port.sweepPlace = s.port.sweepPlace ∧
    (demoteFor cause s).port.sweepHeld = s.port.sweepHeld ∧
    (demoteFor cause s).port.sweepCount = s.port.sweepCount ∧
    (demoteFor cause s).port.writeRefused = s.port.writeRefused ∧
    (demoteFor cause s).port.refusedAddress = s.port.refusedAddress ∧ (demoteFor cause s).outside = s.outside ∧
    (demoteFor cause s).setup = s.setup ∧ (demoteFor cause s).sense = s.sense ∧ (demoteFor cause s).line = s.line ∧
    (demoteFor cause s).shop.receiver = s.shop.receiver ∧ (demoteFor cause s).shop.rate = s.shop.rate ∧
    (demoteFor cause s).shop.nextRate = s.shop.nextRate ∧ (demoteFor cause s).shop.gapTimer = s.shop.gapTimer ∧
    (demoteFor cause s).shop.idleTimer = s.shop.idleTimer := by
  simp [demoteFor]

@[simp] theorem demoteSession_frame (s : State) :
    (demoteSession s).pending = s.pending ∧ (demoteSession s).now = s.now ∧ (demoteSession s).run = s.run ∧
    (demoteSession s).port.noticeRead = s.port.noticeRead ∧ (demoteSession s).port.intEnable = s.port.intEnable ∧
    (demoteSession s).port.displayLost = s.port.displayLost ∧
    (demoteSession s).port.livenessTimer = s.port.livenessTimer ∧
    (demoteSession s).port.sweepTimer = s.port.sweepTimer ∧ (demoteSession s).port.sweepPlace = s.port.sweepPlace ∧
    (demoteSession s).port.sweepHeld = s.port.sweepHeld ∧ (demoteSession s).port.sweepCount = s.port.sweepCount ∧
    (demoteSession s).port.writeRefused = s.port.writeRefused ∧
    (demoteSession s).port.refusedAddress = s.port.refusedAddress ∧ (demoteSession s).outside = s.outside ∧
    (demoteSession s).setup = s.setup ∧ (demoteSession s).sense = s.sense ∧ (demoteSession s).line = s.line ∧
    (demoteSession s).shop.receiver = s.shop.receiver ∧ (demoteSession s).shop.rate = s.shop.rate ∧
    (demoteSession s).shop.nextRate = s.shop.nextRate ∧ (demoteSession s).shop.gapTimer = s.shop.gapTimer ∧
    (demoteSession s).shop.idleTimer = s.shop.idleTimer := by
  simp [demoteSession]

@[simp] theorem endSession_frame (cause : EndCause) (byClose : Bool) (s : State) :
    (endSession cause byClose s).pending = s.pending ∧ (endSession cause byClose s).now = s.now ∧
    (endSession cause byClose s).run = s.run ∧ (endSession cause byClose s).port.noticeRead = s.port.noticeRead ∧
    (endSession cause byClose s).port.intEnable = s.port.intEnable ∧
    (endSession cause byClose s).port.displayLost = s.port.displayLost ∧
    (endSession cause byClose s).port.livenessTimer = s.port.livenessTimer ∧
    (endSession cause byClose s).port.sweepTimer = s.port.sweepTimer ∧
    (endSession cause byClose s).port.sweepPlace = s.port.sweepPlace ∧
    (endSession cause byClose s).port.sweepHeld = s.port.sweepHeld ∧
    (endSession cause byClose s).port.sweepCount = s.port.sweepCount ∧
    (endSession cause byClose s).port.writeRefused = s.port.writeRefused ∧
    (endSession cause byClose s).port.refusedAddress = s.port.refusedAddress ∧
    (endSession cause byClose s).outside = s.outside ∧ (endSession cause byClose s).setup = s.setup ∧
    (endSession cause byClose s).sense = s.sense ∧ (endSession cause byClose s).line = s.line ∧
    (endSession cause byClose s).shop.receiver = s.shop.receiver ∧
    (endSession cause byClose s).shop.gapTimer = s.shop.gapTimer := by
  simp [endSession]

@[simp] theorem deliverValue_frame (n : Nat) (v : Word) (s : State) :
    (deliverValue n v s).pending = s.pending ∧ (deliverValue n v s).now = s.now ∧
    (deliverValue n v s).run = s.run ∧ (deliverValue n v s).port.noticeRead = s.port.noticeRead ∧
    (deliverValue n v s).port.intEnable = s.port.intEnable ∧
    (deliverValue n v s).port.displayLost = s.port.displayLost ∧
    (deliverValue n v s).port.livenessTimer = s.port.livenessTimer ∧
    (deliverValue n v s).port.sweepTimer = s.port.sweepTimer ∧
    (deliverValue n v s).port.sweepPlace = s.port.sweepPlace ∧
    (deliverValue n v s).port.sweepHeld = s.port.sweepHeld ∧
    (deliverValue n v s).port.sweepCount = s.port.sweepCount ∧
    (deliverValue n v s).port.writeRefused = s.port.writeRefused ∧
    (deliverValue n v s).port.refusedAddress = s.port.refusedAddress ∧ (deliverValue n v s).outside = s.outside ∧
    (deliverValue n v s).setup = s.setup ∧ (deliverValue n v s).sense = s.sense ∧
    (deliverValue n v s).line = s.line ∧ (deliverValue n v s).shop.receiver = s.shop.receiver ∧
    (deliverValue n v s).shop.rate = s.shop.rate ∧ (deliverValue n v s).shop.nextRate = s.shop.nextRate ∧
    (deliverValue n v s).shop.gapTimer = s.shop.gapTimer ∧ (deliverValue n v s).shop.idleTimer = s.shop.idleTimer := by
  simp [deliverValue]

@[simp] theorem declareFault_frame (n : Nat) (substitute : Option Word) (s : State) :
    (declareFault n substitute s).pending = s.pending ∧ (declareFault n substitute s).now = s.now ∧
    (declareFault n substitute s).run = s.run ∧ (declareFault n substitute s).port.noticeRead = s.port.noticeRead ∧
    (declareFault n substitute s).port.intEnable = s.port.intEnable ∧
    (declareFault n substitute s).port.displayLost = s.port.displayLost ∧
    (declareFault n substitute s).port.livenessTimer = s.port.livenessTimer ∧
    (declareFault n substitute s).port.sweepTimer = s.port.sweepTimer ∧
    (declareFault n substitute s).port.sweepPlace = s.port.sweepPlace ∧
    (declareFault n substitute s).port.sweepHeld = s.port.sweepHeld ∧
    (declareFault n substitute s).port.sweepCount = s.port.sweepCount ∧
    (declareFault n substitute s).port.writeRefused = s.port.writeRefused ∧
    (declareFault n substitute s).port.refusedAddress = s.port.refusedAddress ∧
    (declareFault n substitute s).outside = s.outside ∧ (declareFault n substitute s).setup = s.setup ∧
    (declareFault n substitute s).sense = s.sense ∧ (declareFault n substitute s).line = s.line ∧
    (declareFault n substitute s).shop.receiver = s.shop.receiver ∧
    (declareFault n substitute s).shop.rate = s.shop.rate ∧
    (declareFault n substitute s).shop.nextRate = s.shop.nextRate ∧
    (declareFault n substitute s).shop.gapTimer = s.shop.gapTimer ∧
    (declareFault n substitute s).shop.idleTimer = s.shop.idleTimer := by
  simp [declareFault]

@[simp] theorem goStale_frame (n : Nat) (s : State) :
    (goStale n s).pending = s.pending ∧ (goStale n s).now = s.now ∧ (goStale n s).run = s.run ∧
    (goStale n s).port.noticeRead = s.port.noticeRead ∧ (goStale n s).port.intEnable = s.port.intEnable ∧
    (goStale n s).port.displayLost = s.port.displayLost ∧ (goStale n s).port.livenessTimer = s.port.livenessTimer ∧
    (goStale n s).port.sweepTimer = s.port.sweepTimer ∧ (goStale n s).port.sweepPlace = s.port.sweepPlace ∧
    (goStale n s).port.sweepHeld = s.port.sweepHeld ∧ (goStale n s).port.sweepCount = s.port.sweepCount ∧
    (goStale n s).port.writeRefused = s.port.writeRefused ∧
    (goStale n s).port.refusedAddress = s.port.refusedAddress ∧ (goStale n s).outside = s.outside ∧
    (goStale n s).setup = s.setup ∧ (goStale n s).sense = s.sense ∧ (goStale n s).line = s.line ∧
    (goStale n s).shop.receiver = s.shop.receiver ∧ (goStale n s).shop.rate = s.shop.rate ∧
    (goStale n s).shop.nextRate = s.shop.nextRate ∧ (goStale n s).shop.gapTimer = s.shop.gapTimer ∧
    (goStale n s).shop.idleTimer = s.shop.idleTimer := by
  unfold goStale; (try dsimp only); repeat' (first | (simp; done) | split)

@[simp] theorem staleExpires_frame (n : Nat) (s : State) :
    (staleExpires n s).pending = s.pending ∧ (staleExpires n s).run = s.run ∧
    (staleExpires n s).port.noticeRead = s.port.noticeRead ∧ (staleExpires n s).port.intEnable = s.port.intEnable ∧
    (staleExpires n s).port.displayLost = s.port.displayLost ∧
    (staleExpires n s).port.livenessTimer = s.port.livenessTimer ∧
    (staleExpires n s).port.sweepTimer = s.port.sweepTimer ∧
    (staleExpires n s).port.sweepPlace = s.port.sweepPlace ∧ (staleExpires n s).port.sweepHeld = s.port.sweepHeld ∧
    (staleExpires n s).port.sweepCount = s.port.sweepCount ∧
    (staleExpires n s).port.writeRefused = s.port.writeRefused ∧
    (staleExpires n s).port.refusedAddress = s.port.refusedAddress ∧ (staleExpires n s).outside = s.outside ∧
    (staleExpires n s).setup = s.setup ∧ (staleExpires n s).sense = s.sense ∧ (staleExpires n s).line = s.line ∧
    (staleExpires n s).shop.receiver = s.shop.receiver ∧ (staleExpires n s).shop.rate = s.shop.rate ∧
    (staleExpires n s).shop.nextRate = s.shop.nextRate ∧ (staleExpires n s).shop.gapTimer = s.shop.gapTimer ∧
    (staleExpires n s).shop.idleTimer = s.shop.idleTimer := by
  simp [staleExpires]

@[simp] theorem placeForce_frame (n : Nat) (w : Word) (s : State) :
    (placeForce n w s).pending = s.pending ∧ (placeForce n w s).now = s.now ∧ (placeForce n w s).run = s.run ∧
    (placeForce n w s).port.noticeRead = s.port.noticeRead ∧ (placeForce n w s).port.intEnable = s.port.intEnable ∧
    (placeForce n w s).port.displayLost = s.port.displayLost ∧
    (placeForce n w s).port.livenessTimer = s.port.livenessTimer ∧
    (placeForce n w s).port.sweepTimer = s.port.sweepTimer ∧
    (placeForce n w s).port.sweepPlace = s.port.sweepPlace ∧ (placeForce n w s).port.sweepHeld = s.port.sweepHeld ∧
    (placeForce n w s).port.sweepCount = s.port.sweepCount ∧
    (placeForce n w s).port.writeRefused = s.port.writeRefused ∧
    (placeForce n w s).port.refusedAddress = s.port.refusedAddress ∧ (placeForce n w s).outside = s.outside ∧
    (placeForce n w s).setup = s.setup ∧ (placeForce n w s).sense = s.sense ∧ (placeForce n w s).line = s.line ∧
    (placeForce n w s).shop.receiver = s.shop.receiver ∧ (placeForce n w s).shop.rate = s.shop.rate ∧
    (placeForce n w s).shop.nextRate = s.shop.nextRate ∧ (placeForce n w s).shop.gapTimer = s.shop.gapTimer ∧
    (placeForce n w s).shop.idleTimer = s.shop.idleTimer := by
  simp [placeForce]

@[simp] theorem stopExpires_frame (s : State) :
    (stopExpires s).pending = s.pending ∧ (stopExpires s).run = s.run ∧
    (stopExpires s).port.noticeRead = s.port.noticeRead ∧ (stopExpires s).port.intEnable = s.port.intEnable ∧
    (stopExpires s).port.displayLost = s.port.displayLost ∧
    (stopExpires s).port.livenessTimer = s.port.livenessTimer ∧
    (stopExpires s).port.sweepTimer = s.port.sweepTimer ∧ (stopExpires s).port.sweepPlace = s.port.sweepPlace ∧
    (stopExpires s).port.sweepHeld = s.port.sweepHeld ∧ (stopExpires s).port.sweepCount = s.port.sweepCount ∧
    (stopExpires s).port.writeRefused = s.port.writeRefused ∧
    (stopExpires s).port.refusedAddress = s.port.refusedAddress ∧ (stopExpires s).outside = s.outside ∧
    (stopExpires s).setup = s.setup ∧ (stopExpires s).sense = s.sense ∧ (stopExpires s).line = s.line ∧
    (stopExpires s).shop.receiver = s.shop.receiver ∧ (stopExpires s).shop.rate = s.shop.rate ∧
    (stopExpires s).shop.nextRate = s.shop.nextRate ∧ (stopExpires s).shop.gapTimer = s.shop.gapTimer ∧
    (stopExpires s).shop.idleTimer = s.shop.idleTimer := by
  simp [stopExpires]

@[simp] theorem stopSignals_frame (s : State) :
    (stopSignals s).pending = s.pending ∧ (stopSignals s).now = s.now ∧ (stopSignals s).run = s.run ∧
    (stopSignals s).port = s.port ∧ (stopSignals s).mem = s.mem ∧ (stopSignals s).outside = s.outside ∧
    (stopSignals s).setup = s.setup ∧ (stopSignals s).sense = s.sense ∧ (stopSignals s).line = s.line ∧
    (stopSignals s).doors = s.doors ∧ (stopSignals s).warnings = s.warnings ∧ (stopSignals s).comp = s.comp ∧
    (stopSignals s).gauges = s.gauges ∧ (stopSignals s).faults = s.faults ∧ (stopSignals s).shop = s.shop := by
  simp [stopSignals]


end Sys2Proof.Machine
end

