-- ==== Sys2Proof/Laws/FrameSense.lean ====
section
/-! SUPPORT. Frames: what each operation of the sense scanner leaves as it was. -/

namespace Sys2Proof.Machine

@[simp] theorem putChannel_frame (c : Nat) (x : SenseChannel) (s : State) :
    (putChannel c x s).pending = s.pending ∧ (putChannel c x s).now = s.now ∧ (putChannel c x s).run = s.run ∧
    (putChannel c x s).port = s.port ∧ (putChannel c x s).mem = s.mem ∧ (putChannel c x s).outside = s.outside ∧
    (putChannel c x s).setup = s.setup ∧ (putChannel c x s).signals = s.signals ∧
    (putChannel c x s).line = s.line ∧ (putChannel c x s).doors = s.doors ∧
    (putChannel c x s).warnings = s.warnings ∧ (putChannel c x s).comp = s.comp ∧
    (putChannel c x s).gauges = s.gauges ∧ (putChannel c x s).faults = s.faults ∧ (putChannel c x s).shop = s.shop := by
  simp [putChannel]

@[simp] theorem writeChannel_frame (c : Nat) (x : SenseChannel) (s : State) :
    (writeChannel c x s).pending = s.pending ∧ (writeChannel c x s).now = s.now ∧
    (writeChannel c x s).run = s.run ∧ (writeChannel c x s).port.noticeRead = s.port.noticeRead ∧
    (writeChannel c x s).port.intEnable = s.port.intEnable ∧
    (writeChannel c x s).port.displayLost = s.port.displayLost ∧
    (writeChannel c x s).port.livenessTimer = s.port.livenessTimer ∧
    (writeChannel c x s).port.sweepTimer = s.port.sweepTimer ∧
    (writeChannel c x s).port.sweepPlace = s.port.sweepPlace ∧
    (writeChannel c x s).port.sweepHeld = s.port.sweepHeld ∧
    (writeChannel c x s).port.sweepCount = s.port.sweepCount ∧
    (writeChannel c x s).port.writeRefused = s.port.writeRefused ∧
    (writeChannel c x s).port.refusedAddress = s.port.refusedAddress ∧ (writeChannel c x s).mem = s.mem ∧
    (writeChannel c x s).outside = s.outside ∧ (writeChannel c x s).setup = s.setup ∧
    (writeChannel c x s).signals = s.signals ∧ (writeChannel c x s).line = s.line ∧
    (writeChannel c x s).gauges = s.gauges ∧ (writeChannel c x s).shop = s.shop := by
  simp [writeChannel]

@[simp] theorem deliverChannel_frame (c : Nat) (x : SenseChannel) (s : State) :
    (deliverChannel c x s).pending = s.pending ∧ (deliverChannel c x s).now = s.now ∧
    (deliverChannel c x s).run = s.run ∧ (deliverChannel c x s).port.noticeRead = s.port.noticeRead ∧
    (deliverChannel c x s).port.intEnable = s.port.intEnable ∧
    (deliverChannel c x s).port.displayLost = s.port.displayLost ∧
    (deliverChannel c x s).port.livenessTimer = s.port.livenessTimer ∧
    (deliverChannel c x s).port.sweepTimer = s.port.sweepTimer ∧
    (deliverChannel c x s).port.sweepPlace = s.port.sweepPlace ∧
    (deliverChannel c x s).port.sweepHeld = s.port.sweepHeld ∧
    (deliverChannel c x s).port.sweepCount = s.port.sweepCount ∧
    (deliverChannel c x s).port.writeRefused = s.port.writeRefused ∧
    (deliverChannel c x s).port.refusedAddress = s.port.refusedAddress ∧
    (deliverChannel c x s).outside = s.outside ∧ (deliverChannel c x s).setup = s.setup ∧
    (deliverChannel c x s).sense = s.sense ∧ (deliverChannel c x s).line = s.line ∧
    (deliverChannel c x s).shop.receiver = s.shop.receiver ∧ (deliverChannel c x s).shop.rate = s.shop.rate ∧
    (deliverChannel c x s).shop.nextRate = s.shop.nextRate ∧
    (deliverChannel c x s).shop.gapTimer = s.shop.gapTimer ∧
    (deliverChannel c x s).shop.idleTimer = s.shop.idleTimer := by
  unfold deliverChannel; (try dsimp only); repeat' (first | (simp; done) | split)

@[simp] theorem faultChanged_frame (c : Nat) (x : SenseChannel) (s : State) :
    (faultChanged c x s).pending = s.pending ∧ (faultChanged c x s).now = s.now ∧
    (faultChanged c x s).run = s.run ∧ (faultChanged c x s).port.noticeRead = s.port.noticeRead ∧
    (faultChanged c x s).port.intEnable = s.port.intEnable ∧
    (faultChanged c x s).port.displayLost = s.port.displayLost ∧
    (faultChanged c x s).port.livenessTimer = s.port.livenessTimer ∧
    (faultChanged c x s).port.sweepTimer = s.port.sweepTimer ∧
    (faultChanged c x s).port.sweepPlace = s.port.sweepPlace ∧
    (faultChanged c x s).port.sweepHeld = s.port.sweepHeld ∧
    (faultChanged c x s).port.sweepCount = s.port.sweepCount ∧
    (faultChanged c x s).port.writeRefused = s.port.writeRefused ∧
    (faultChanged c x s).port.refusedAddress = s.port.refusedAddress ∧ (faultChanged c x s).mem = s.mem ∧
    (faultChanged c x s).outside = s.outside ∧ (faultChanged c x s).setup = s.setup ∧
    (faultChanged c x s).signals = s.signals ∧ (faultChanged c x s).sense = s.sense ∧
    (faultChanged c x s).line = s.line ∧ (faultChanged c x s).doors = s.doors ∧
    (faultChanged c x s).gauges = s.gauges ∧ (faultChanged c x s).shop = s.shop := by
  simp [faultChanged]

@[simp] theorem sampleTaken_frame (c : Nat) (r : SenseChannel × Bool) (s : State) :
    (sampleTaken c r s).pending = s.pending ∧ (sampleTaken c r s).now = s.now ∧ (sampleTaken c r s).run = s.run ∧
    (sampleTaken c r s).port.noticeRead = s.port.noticeRead ∧
    (sampleTaken c r s).port.intEnable = s.port.intEnable ∧
    (sampleTaken c r s).port.displayLost = s.port.displayLost ∧
    (sampleTaken c r s).port.livenessTimer = s.port.livenessTimer ∧
    (sampleTaken c r s).port.sweepTimer = s.port.sweepTimer ∧
    (sampleTaken c r s).port.sweepPlace = s.port.sweepPlace ∧
    (sampleTaken c r s).port.sweepHeld = s.port.sweepHeld ∧
    (sampleTaken c r s).port.sweepCount = s.port.sweepCount ∧
    (sampleTaken c r s).port.writeRefused = s.port.writeRefused ∧
    (sampleTaken c r s).port.refusedAddress = s.port.refusedAddress ∧ (sampleTaken c r s).outside = s.outside ∧
    (sampleTaken c r s).setup = s.setup ∧ (sampleTaken c r s).line = s.line ∧
    (sampleTaken c r s).shop.receiver = s.shop.receiver ∧ (sampleTaken c r s).shop.rate = s.shop.rate ∧
    (sampleTaken c r s).shop.nextRate = s.shop.nextRate ∧ (sampleTaken c r s).shop.gapTimer = s.shop.gapTimer ∧
    (sampleTaken c r s).shop.idleTimer = s.shop.idleTimer := by
  simp [sampleTaken]

@[simp] theorem advanceSample_frame (c due : Nat) (s : State) :
    (advanceSample c due s).pending = s.pending ∧ (advanceSample c due s).now = s.now ∧
    (advanceSample c due s).run = s.run ∧ (advanceSample c due s).port = s.port ∧
    (advanceSample c due s).mem = s.mem ∧ (advanceSample c due s).outside = s.outside ∧
    (advanceSample c due s).setup = s.setup ∧ (advanceSample c due s).signals = s.signals ∧
    (advanceSample c due s).line = s.line ∧ (advanceSample c due s).doors = s.doors ∧
    (advanceSample c due s).warnings = s.warnings ∧ (advanceSample c due s).comp = s.comp ∧
    (advanceSample c due s).gauges = s.gauges ∧ (advanceSample c due s).faults = s.faults ∧
    (advanceSample c due s).shop = s.shop := by
  simp [advanceSample]

@[simp] theorem sample_frame (c reading : Nat) (s : State) :
    (sample c reading s).pending = s.pending ∧ (sample c reading s).run = s.run ∧
    (sample c reading s).port.noticeRead = s.port.noticeRead ∧
    (sample c reading s).port.intEnable = s.port.intEnable ∧
    (sample c reading s).port.displayLost = s.port.displayLost ∧
    (sample c reading s).port.livenessTimer = s.port.livenessTimer ∧
    (sample c reading s).port.sweepTimer = s.port.sweepTimer ∧
    (sample c reading s).port.sweepPlace = s.port.sweepPlace ∧
    (sample c reading s).port.sweepHeld = s.port.sweepHeld ∧
    (sample c reading s).port.sweepCount = s.port.sweepCount ∧
    (sample c reading s).port.writeRefused = s.port.writeRefused ∧
    (sample c reading s).port.refusedAddress = s.port.refusedAddress ∧ (sample c reading s).outside = s.outside ∧
    (sample c reading s).setup = s.setup ∧ (sample c reading s).line = s.line ∧
    (sample c reading s).shop.receiver = s.shop.receiver ∧ (sample c reading s).shop.rate = s.shop.rate ∧
    (sample c reading s).shop.nextRate = s.shop.nextRate ∧ (sample c reading s).shop.gapTimer = s.shop.gapTimer ∧
    (sample c reading s).shop.idleTimer = s.shop.idleTimer := by
  simp [sample]

@[simp] theorem edge_frame (c after : Nat) (s : State) :
    (edge c after s).pending = s.pending ∧ (edge c after s).run = s.run ∧ (edge c after s).port = s.port ∧
    (edge c after s).mem = s.mem ∧ (edge c after s).outside = s.outside ∧ (edge c after s).setup = s.setup ∧
    (edge c after s).signals = s.signals ∧ (edge c after s).line = s.line ∧ (edge c after s).doors = s.doors ∧
    (edge c after s).warnings = s.warnings ∧ (edge c after s).comp = s.comp ∧ (edge c after s).gauges = s.gauges ∧
    (edge c after s).faults = s.faults ∧ (edge c after s).shop = s.shop := by
  simp [edge]

@[simp] theorem startCheck_frame (slot c : Nat) (s : State) :
    (startCheck slot c s).pending = s.pending ∧ (startCheck slot c s).now = s.now ∧
    (startCheck slot c s).run = s.run ∧ (startCheck slot c s).port.noticeRead = s.port.noticeRead ∧
    (startCheck slot c s).port.intEnable = s.port.intEnable ∧
    (startCheck slot c s).port.displayLost = s.port.displayLost ∧
    (startCheck slot c s).port.livenessTimer = s.port.livenessTimer ∧
    (startCheck slot c s).port.sweepTimer = s.port.sweepTimer ∧
    (startCheck slot c s).port.sweepPlace = s.port.sweepPlace ∧
    (startCheck slot c s).port.sweepHeld = s.port.sweepHeld ∧
    (startCheck slot c s).port.sweepCount = s.port.sweepCount ∧
    (startCheck slot c s).port.writeRefused = s.port.writeRefused ∧
    (startCheck slot c s).port.refusedAddress = s.port.refusedAddress ∧ (startCheck slot c s).mem = s.mem ∧
    (startCheck slot c s).outside = s.outside ∧ (startCheck slot c s).setup = s.setup ∧
    (startCheck slot c s).signals = s.signals ∧ (startCheck slot c s).line = s.line ∧
    (startCheck slot c s).gauges = s.gauges ∧ (startCheck slot c s).shop = s.shop := by
  simp [startCheck]

@[simp] theorem judgeCheck_frame (c : Nat) (w : WiringCheck) (held measured : SenseChannel) (s : State) :
    (judgeCheck c w held measured s).pending = s.pending ∧ (judgeCheck c w held measured s).now = s.now ∧
    (judgeCheck c w held measured s).run = s.run ∧
    (judgeCheck c w held measured s).port.noticeRead = s.port.noticeRead ∧
    (judgeCheck c w held measured s).port.intEnable = s.port.intEnable ∧
    (judgeCheck c w held measured s).port.displayLost = s.port.displayLost ∧
    (judgeCheck c w held measured s).port.livenessTimer = s.port.livenessTimer ∧
    (judgeCheck c w held measured s).port.sweepTimer = s.port.sweepTimer ∧
    (judgeCheck c w held measured s).port.sweepPlace = s.port.sweepPlace ∧
    (judgeCheck c w held measured s).port.sweepHeld = s.port.sweepHeld ∧
    (judgeCheck c w held measured s).port.sweepCount = s.port.sweepCount ∧
    (judgeCheck c w held measured s).port.writeRefused = s.port.writeRefused ∧
    (judgeCheck c w held measured s).port.refusedAddress = s.port.refusedAddress ∧
    (judgeCheck c w held measured s).outside = s.outside ∧ (judgeCheck c w held measured s).setup = s.setup ∧
    (judgeCheck c w held measured s).line = s.line ∧
    (judgeCheck c w held measured s).shop.receiver = s.shop.receiver ∧
    (judgeCheck c w held measured s).shop.rate = s.shop.rate ∧
    (judgeCheck c w held measured s).shop.nextRate = s.shop.nextRate ∧
    (judgeCheck c w held measured s).shop.gapTimer = s.shop.gapTimer ∧
    (judgeCheck c w held measured s).shop.idleTimer = s.shop.idleTimer := by
  simp [judgeCheck]

@[simp] theorem measured_frame (c reading : Nat) (w : WiringCheck) (s : State) :
    (measured c reading w s).pending = s.pending ∧ (measured c reading w s).now = s.now ∧
    (measured c reading w s).run = s.run ∧ (measured c reading w s).port.noticeRead = s.port.noticeRead ∧
    (measured c reading w s).port.intEnable = s.port.intEnable ∧
    (measured c reading w s).port.displayLost = s.port.displayLost ∧
    (measured c reading w s).port.livenessTimer = s.port.livenessTimer ∧
    (measured c reading w s).port.sweepTimer = s.port.sweepTimer ∧
    (measured c reading w s).port.sweepPlace = s.port.sweepPlace ∧
    (measured c reading w s).port.sweepHeld = s.port.sweepHeld ∧
    (measured c reading w s).port.sweepCount = s.port.sweepCount ∧
    (measured c reading w s).port.writeRefused = s.port.writeRefused ∧
    (measured c reading w s).port.refusedAddress = s.port.refusedAddress ∧
    (measured c reading w s).outside = s.outside ∧ (measured c reading w s).setup = s.setup ∧
    (measured c reading w s).line = s.line ∧ (measured c reading w s).shop.receiver = s.shop.receiver ∧
    (measured c reading w s).shop.rate = s.shop.rate ∧ (measured c reading w s).shop.nextRate = s.shop.nextRate ∧
    (measured c reading w s).shop.gapTimer = s.shop.gapTimer ∧
    (measured c reading w s).shop.idleTimer = s.shop.idleTimer := by
  unfold measured; (try dsimp only); repeat' (first | (simp; done) | split)

@[simp] theorem wiringMeasurement_frame (c reading : Nat) (s : State) :
    (wiringMeasurement c reading s).pending = s.pending ∧ (wiringMeasurement c reading s).run = s.run ∧
    (wiringMeasurement c reading s).port.noticeRead = s.port.noticeRead ∧
    (wiringMeasurement c reading s).port.intEnable = s.port.intEnable ∧
    (wiringMeasurement c reading s).port.displayLost = s.port.displayLost ∧
    (wiringMeasurement c reading s).port.livenessTimer = s.port.livenessTimer ∧
    (wiringMeasurement c reading s).port.sweepTimer = s.port.sweepTimer ∧
    (wiringMeasurement c reading s).port.sweepPlace = s.port.sweepPlace ∧
    (wiringMeasurement c reading s).port.sweepHeld = s.port.sweepHeld ∧
    (wiringMeasurement c reading s).port.sweepCount = s.port.sweepCount ∧
    (wiringMeasurement c reading s).port.writeRefused = s.port.writeRefused ∧
    (wiringMeasurement c reading s).port.refusedAddress = s.port.refusedAddress ∧
    (wiringMeasurement c reading s).outside = s.outside ∧ (wiringMeasurement c reading s).setup = s.setup ∧
    (wiringMeasurement c reading s).line = s.line ∧
    (wiringMeasurement c reading s).shop.receiver = s.shop.receiver ∧
    (wiringMeasurement c reading s).shop.rate = s.shop.rate ∧
    (wiringMeasurement c reading s).shop.nextRate = s.shop.nextRate ∧
    (wiringMeasurement c reading s).shop.gapTimer = s.shop.gapTimer ∧
    (wiringMeasurement c reading s).shop.idleTimer = s.shop.idleTimer := by
  unfold wiringMeasurement; split <;> simp

@[simp] theorem abortCheck_frame (r : Bool) (c : Nat) (s : State) :
    (abortCheck r c s).pending = s.pending ∧ (abortCheck r c s).now = s.now ∧ (abortCheck r c s).run = s.run ∧
    (abortCheck r c s).port.noticeRead = s.port.noticeRead ∧ (abortCheck r c s).port.intEnable = s.port.intEnable ∧
    (abortCheck r c s).port.displayLost = s.port.displayLost ∧
    (abortCheck r c s).port.livenessTimer = s.port.livenessTimer ∧
    (abortCheck r c s).port.sweepTimer = s.port.sweepTimer ∧ (abortCheck r c s).port.sweepPlace = s.port.sweepPlace ∧
    (abortCheck r c s).port.sweepHeld = s.port.sweepHeld ∧ (abortCheck r c s).port.sweepCount = s.port.sweepCount ∧
    (abortCheck r c s).port.writeRefused = s.port.writeRefused ∧
    (abortCheck r c s).port.refusedAddress = s.port.refusedAddress ∧ (abortCheck r c s).outside = s.outside ∧
    (abortCheck r c s).setup = s.setup ∧ (abortCheck r c s).signals = s.signals ∧ (abortCheck r c s).line = s.line ∧
    (abortCheck r c s).gauges = s.gauges ∧ (abortCheck r c s).shop = s.shop := by
  unfold abortCheck; (try dsimp only); repeat' (first | (simp; done) | split)

@[simp] theorem abortChecks_frame (r : Bool) (s : State) :
    (abortChecks r s).pending = s.pending ∧ (abortChecks r s).now = s.now ∧ (abortChecks r s).run = s.run ∧
    (abortChecks r s).port.noticeRead = s.port.noticeRead ∧ (abortChecks r s).port.intEnable = s.port.intEnable ∧
    (abortChecks r s).port.displayLost = s.port.displayLost ∧
    (abortChecks r s).port.livenessTimer = s.port.livenessTimer ∧
    (abortChecks r s).port.sweepTimer = s.port.sweepTimer ∧ (abortChecks r s).port.sweepPlace = s.port.sweepPlace ∧
    (abortChecks r s).port.sweepHeld = s.port.sweepHeld ∧ (abortChecks r s).port.sweepCount = s.port.sweepCount ∧
    (abortChecks r s).port.writeRefused = s.port.writeRefused ∧
    (abortChecks r s).port.refusedAddress = s.port.refusedAddress ∧ (abortChecks r s).outside = s.outside ∧
    (abortChecks r s).setup = s.setup ∧ (abortChecks r s).signals = s.signals ∧ (abortChecks r s).line = s.line ∧
    (abortChecks r s).gauges = s.gauges ∧ (abortChecks r s).shop = s.shop := by
  simp [abortChecks]

@[simp] theorem supplyMeasured_frame (millivolts : Word) (s : State) :
    (supplyMeasured millivolts s).pending = s.pending ∧ (supplyMeasured millivolts s).run = s.run ∧
    (supplyMeasured millivolts s).port.noticeRead = s.port.noticeRead ∧
    (supplyMeasured millivolts s).port.intEnable = s.port.intEnable ∧
    (supplyMeasured millivolts s).port.displayLost = s.port.displayLost ∧
    (supplyMeasured millivolts s).port.livenessTimer = s.port.livenessTimer ∧
    (supplyMeasured millivolts s).port.sweepTimer = s.port.sweepTimer ∧
    (supplyMeasured millivolts s).port.sweepPlace = s.port.sweepPlace ∧
    (supplyMeasured millivolts s).port.sweepHeld = s.port.sweepHeld ∧
    (supplyMeasured millivolts s).port.sweepCount = s.port.sweepCount ∧
    (supplyMeasured millivolts s).port.writeRefused = s.port.writeRefused ∧
    (supplyMeasured millivolts s).port.refusedAddress = s.port.refusedAddress ∧
    (supplyMeasured millivolts s).mem = s.mem ∧ (supplyMeasured millivolts s).outside = s.outside ∧
    (supplyMeasured millivolts s).setup = s.setup ∧ (supplyMeasured millivolts s).signals = s.signals ∧
    (supplyMeasured millivolts s).line = s.line ∧ (supplyMeasured millivolts s).doors = s.doors ∧
    (supplyMeasured millivolts s).gauges = s.gauges ∧ (supplyMeasured millivolts s).shop = s.shop := by
  simp [supplyMeasured]

@[simp] theorem supplyLowExpires_frame (s : State) :
    (supplyLowExpires s).pending = s.pending ∧ (supplyLowExpires s).run = s.run ∧
    (supplyLowExpires s).port.noticeRead = s.port.noticeRead ∧
    (supplyLowExpires s).port.intEnable = s.port.intEnable ∧
    (supplyLowExpires s).port.displayLost = s.port.displayLost ∧
    (supplyLowExpires s).port.livenessTimer = s.port.livenessTimer ∧
    (supplyLowExpires s).port.sweepTimer = s.port.sweepTimer ∧
    (supplyLowExpires s).port.sweepPlace = s.port.sweepPlace ∧
    (supplyLowExpires s).port.sweepHeld = s.port.sweepHeld ∧
    (supplyLowExpires s).port.sweepCount = s.port.sweepCount ∧
    (supplyLowExpires s).port.writeRefused = s.port.writeRefused ∧
    (supplyLowExpires s).port.refusedAddress = s.port.refusedAddress ∧ (supplyLowExpires s).outside = s.outside ∧
    (supplyLowExpires s).setup = s.setup ∧ (supplyLowExpires s).signals = s.signals ∧
    (supplyLowExpires s).line = s.line ∧ (supplyLowExpires s).gauges = s.gauges ∧
    (supplyLowExpires s).shop = s.shop := by
  simp [supplyLowExpires]

@[simp] theorem stopSense_frame (s : State) :
    (stopSense s).pending = s.pending ∧ (stopSense s).now = s.now ∧ (stopSense s).run = s.run ∧
    (stopSense s).port.noticeRead = s.port.noticeRead ∧ (stopSense s).port.intEnable = s.port.intEnable ∧
    (stopSense s).port.displayLost = s.port.displayLost ∧ (stopSense s).port.livenessTimer = s.port.livenessTimer ∧
    (stopSense s).port.sweepTimer = s.port.sweepTimer ∧ (stopSense s).port.sweepPlace = s.port.sweepPlace ∧
    (stopSense s).port.sweepHeld = s.port.sweepHeld ∧ (stopSense s).port.sweepCount = s.port.sweepCount ∧
    (stopSense s).port.writeRefused = s.port.writeRefused ∧
    (stopSense s).port.refusedAddress = s.port.refusedAddress ∧ (stopSense s).outside = s.outside ∧
    (stopSense s).setup = s.setup ∧ (stopSense s).signals = s.signals ∧ (stopSense s).line = s.line ∧
    (stopSense s).gauges = s.gauges ∧ (stopSense s).shop = s.shop := by
  simp [stopSense]


end Sys2Proof.Machine
end

