-- ==== Sys2Proof/Laws/FrameLine.lean ====
section
/-! SUPPORT. Frames: what each operation of the body line controller leaves as it was. -/

namespace Sys2Proof.Machine

@[simp] theorem takeSearch_frame (s : State) :
    (takeSearch s).pending = s.pending ∧ (takeSearch s).now = s.now ∧ (takeSearch s).run = s.run ∧
    (takeSearch s).port = s.port ∧ (takeSearch s).mem = s.mem ∧ (takeSearch s).outside = s.outside ∧
    (takeSearch s).setup = s.setup ∧ (takeSearch s).signals = s.signals ∧ (takeSearch s).sense = s.sense ∧
    (takeSearch s).doors = s.doors ∧ (takeSearch s).warnings = s.warnings ∧ (takeSearch s).comp = s.comp ∧
    (takeSearch s).gauges = s.gauges ∧ (takeSearch s).faults = s.faults ∧ (takeSearch s).shop = s.shop := by
  simp [takeSearch]

@[simp] theorem takeSummary_frame (s : State) :
    (takeSummary s).pending = s.pending ∧ (takeSummary s).now = s.now ∧ (takeSummary s).run = s.run ∧
    (takeSummary s).port.noticeRead = s.port.noticeRead ∧ (takeSummary s).port.intEnable = s.port.intEnable ∧
    (takeSummary s).port.displayLost = s.port.displayLost ∧
    (takeSummary s).port.livenessTimer = s.port.livenessTimer ∧
    (takeSummary s).port.sweepTimer = s.port.sweepTimer ∧ (takeSummary s).port.sweepPlace = s.port.sweepPlace ∧
    (takeSummary s).port.sweepHeld = s.port.sweepHeld ∧ (takeSummary s).port.sweepCount = s.port.sweepCount ∧
    (takeSummary s).port.writeRefused = s.port.writeRefused ∧
    (takeSummary s).port.refusedAddress = s.port.refusedAddress ∧ (takeSummary s).mem = s.mem ∧
    (takeSummary s).outside = s.outside ∧ (takeSummary s).setup = s.setup ∧ (takeSummary s).signals = s.signals ∧
    (takeSummary s).sense = s.sense ∧ (takeSummary s).doors = s.doors ∧ (takeSummary s).gauges = s.gauges ∧
    (takeSummary s).shop = s.shop := by
  simp [takeSummary]

@[simp] theorem channelChanged_frame (c : Channel) (failed : Bool) (s : State) :
    (channelChanged c failed s).pending = s.pending ∧ (channelChanged c failed s).now = s.now ∧
    (channelChanged c failed s).run = s.run ∧ (channelChanged c failed s).port.noticeRead = s.port.noticeRead ∧
    (channelChanged c failed s).port.intEnable = s.port.intEnable ∧
    (channelChanged c failed s).port.displayLost = s.port.displayLost ∧
    (channelChanged c failed s).port.livenessTimer = s.port.livenessTimer ∧
    (channelChanged c failed s).port.sweepTimer = s.port.sweepTimer ∧
    (channelChanged c failed s).port.sweepPlace = s.port.sweepPlace ∧
    (channelChanged c failed s).port.sweepHeld = s.port.sweepHeld ∧
    (channelChanged c failed s).port.sweepCount = s.port.sweepCount ∧
    (channelChanged c failed s).port.writeRefused = s.port.writeRefused ∧
    (channelChanged c failed s).port.refusedAddress = s.port.refusedAddress ∧
    (channelChanged c failed s).mem = s.mem ∧ (channelChanged c failed s).outside = s.outside ∧
    (channelChanged c failed s).setup = s.setup ∧ (channelChanged c failed s).signals = s.signals ∧
    (channelChanged c failed s).sense = s.sense ∧ (channelChanged c failed s).doors = s.doors ∧
    (channelChanged c failed s).gauges = s.gauges ∧ (channelChanged c failed s).shop = s.shop := by
  simp [channelChanged]

@[simp] theorem changeHealth_frame (c : Channel) (h : ChannelHealth) (s : State) :
    (changeHealth c h s).pending = s.pending ∧ (changeHealth c h s).now = s.now ∧
    (changeHealth c h s).run = s.run ∧ (changeHealth c h s).port.noticeRead = s.port.noticeRead ∧
    (changeHealth c h s).port.intEnable = s.port.intEnable ∧
    (changeHealth c h s).port.displayLost = s.port.displayLost ∧
    (changeHealth c h s).port.livenessTimer = s.port.livenessTimer ∧
    (changeHealth c h s).port.sweepTimer = s.port.sweepTimer ∧
    (changeHealth c h s).port.sweepPlace = s.port.sweepPlace ∧
    (changeHealth c h s).port.sweepHeld = s.port.sweepHeld ∧
    (changeHealth c h s).port.sweepCount = s.port.sweepCount ∧
    (changeHealth c h s).port.writeRefused = s.port.writeRefused ∧
    (changeHealth c h s).port.refusedAddress = s.port.refusedAddress ∧ (changeHealth c h s).mem = s.mem ∧
    (changeHealth c h s).outside = s.outside ∧ (changeHealth c h s).setup = s.setup ∧
    (changeHealth c h s).signals = s.signals ∧ (changeHealth c h s).sense = s.sense ∧
    (changeHealth c h s).doors = s.doors ∧ (changeHealth c h s).gauges = s.gauges ∧
    (changeHealth c h s).shop = s.shop := by
  simp [changeHealth]

@[simp] theorem moveHealth_frame (made : List (Channel × LineOutcome)) (s : State) :
    (moveHealth made s).pending = s.pending ∧ (moveHealth made s).now = s.now ∧ (moveHealth made s).run = s.run ∧
    (moveHealth made s).port.noticeRead = s.port.noticeRead ∧
    (moveHealth made s).port.intEnable = s.port.intEnable ∧
    (moveHealth made s).port.displayLost = s.port.displayLost ∧
    (moveHealth made s).port.livenessTimer = s.port.livenessTimer ∧
    (moveHealth made s).port.sweepTimer = s.port.sweepTimer ∧
    (moveHealth made s).port.sweepPlace = s.port.sweepPlace ∧
    (moveHealth made s).port.sweepHeld = s.port.sweepHeld ∧
    (moveHealth made s).port.sweepCount = s.port.sweepCount ∧
    (moveHealth made s).port.writeRefused = s.port.writeRefused ∧
    (moveHealth made s).port.refusedAddress = s.port.refusedAddress ∧ (moveHealth made s).mem = s.mem ∧
    (moveHealth made s).outside = s.outside ∧ (moveHealth made s).setup = s.setup ∧
    (moveHealth made s).signals = s.signals ∧ (moveHealth made s).sense = s.sense ∧
    (moveHealth made s).doors = s.doors ∧ (moveHealth made s).gauges = s.gauges ∧ (moveHealth made s).shop = s.shop := by
  unfold moveHealth; (try dsimp only); repeat' (first | (simp; done) | split)

@[simp] theorem moveProbeHealth_frame (c : Channel) (o : LineOutcome) (s : State) :
    (moveProbeHealth c o s).pending = s.pending ∧ (moveProbeHealth c o s).now = s.now ∧
    (moveProbeHealth c o s).run = s.run ∧ (moveProbeHealth c o s).port.noticeRead = s.port.noticeRead ∧
    (moveProbeHealth c o s).port.intEnable = s.port.intEnable ∧
    (moveProbeHealth c o s).port.displayLost = s.port.displayLost ∧
    (moveProbeHealth c o s).port.livenessTimer = s.port.livenessTimer ∧
    (moveProbeHealth c o s).port.sweepTimer = s.port.sweepTimer ∧
    (moveProbeHealth c o s).port.sweepPlace = s.port.sweepPlace ∧
    (moveProbeHealth c o s).port.sweepHeld = s.port.sweepHeld ∧
    (moveProbeHealth c o s).port.sweepCount = s.port.sweepCount ∧
    (moveProbeHealth c o s).port.writeRefused = s.port.writeRefused ∧
    (moveProbeHealth c o s).port.refusedAddress = s.port.refusedAddress ∧ (moveProbeHealth c o s).mem = s.mem ∧
    (moveProbeHealth c o s).outside = s.outside ∧ (moveProbeHealth c o s).setup = s.setup ∧
    (moveProbeHealth c o s).signals = s.signals ∧ (moveProbeHealth c o s).sense = s.sense ∧
    (moveProbeHealth c o s).doors = s.doors ∧ (moveProbeHealth c o s).gauges = s.gauges ∧
    (moveProbeHealth c o s).shop = s.shop := by
  simp [moveProbeHealth]

@[simp] theorem putStation_frame (a : Nat) (x : Station) (s : State) :
    (putStation a x s).pending = s.pending ∧ (putStation a x s).now = s.now ∧ (putStation a x s).run = s.run ∧
    (putStation a x s).port = s.port ∧ (putStation a x s).mem = s.mem ∧ (putStation a x s).outside = s.outside ∧
    (putStation a x s).setup = s.setup ∧ (putStation a x s).signals = s.signals ∧
    (putStation a x s).sense = s.sense ∧ (putStation a x s).doors = s.doors ∧
    (putStation a x s).warnings = s.warnings ∧ (putStation a x s).comp = s.comp ∧
    (putStation a x s).gauges = s.gauges ∧ (putStation a x s).faults = s.faults ∧ (putStation a x s).shop = s.shop := by
  simp [putStation]

@[simp] theorem stationChanged_frame (a : Nat) (x : Station) (s : State) :
    (stationChanged a x s).pending = s.pending ∧ (stationChanged a x s).now = s.now ∧
    (stationChanged a x s).run = s.run ∧ (stationChanged a x s).port.noticeRead = s.port.noticeRead ∧
    (stationChanged a x s).port.intEnable = s.port.intEnable ∧
    (stationChanged a x s).port.displayLost = s.port.displayLost ∧
    (stationChanged a x s).port.livenessTimer = s.port.livenessTimer ∧
    (stationChanged a x s).port.sweepTimer = s.port.sweepTimer ∧
    (stationChanged a x s).port.sweepPlace = s.port.sweepPlace ∧
    (stationChanged a x s).port.sweepHeld = s.port.sweepHeld ∧
    (stationChanged a x s).port.sweepCount = s.port.sweepCount ∧
    (stationChanged a x s).port.writeRefused = s.port.writeRefused ∧
    (stationChanged a x s).port.refusedAddress = s.port.refusedAddress ∧ (stationChanged a x s).mem = s.mem ∧
    (stationChanged a x s).outside = s.outside ∧ (stationChanged a x s).setup = s.setup ∧
    (stationChanged a x s).signals = s.signals ∧ (stationChanged a x s).sense = s.sense ∧
    (stationChanged a x s).doors = s.doors ∧ (stationChanged a x s).gauges = s.gauges ∧
    (stationChanged a x s).shop = s.shop := by
  simp [stationChanged]

@[simp] theorem changeStation_frame (a : Nat) (x : Station) (s : State) :
    (changeStation a x s).pending = s.pending ∧ (changeStation a x s).now = s.now ∧
    (changeStation a x s).run = s.run ∧ (changeStation a x s).port.noticeRead = s.port.noticeRead ∧
    (changeStation a x s).port.intEnable = s.port.intEnable ∧
    (changeStation a x s).port.displayLost = s.port.displayLost ∧
    (changeStation a x s).port.livenessTimer = s.port.livenessTimer ∧
    (changeStation a x s).port.sweepTimer = s.port.sweepTimer ∧
    (changeStation a x s).port.sweepPlace = s.port.sweepPlace ∧
    (changeStation a x s).port.sweepHeld = s.port.sweepHeld ∧
    (changeStation a x s).port.sweepCount = s.port.sweepCount ∧
    (changeStation a x s).port.writeRefused = s.port.writeRefused ∧
    (changeStation a x s).port.refusedAddress = s.port.refusedAddress ∧ (changeStation a x s).mem = s.mem ∧
    (changeStation a x s).outside = s.outside ∧ (changeStation a x s).setup = s.setup ∧
    (changeStation a x s).signals = s.signals ∧ (changeStation a x s).sense = s.sense ∧
    (changeStation a x s).doors = s.doors ∧ (changeStation a x s).gauges = s.gauges ∧
    (changeStation a x s).shop = s.shop := by
  simp [changeStation]

@[simp] theorem moveStation_frame (a : Nat) (made : List (Channel × LineOutcome)) (flags : StationFlags) (s : State) :
    (moveStation a made flags s).pending = s.pending ∧ (moveStation a made flags s).now = s.now ∧
    (moveStation a made flags s).run = s.run ∧ (moveStation a made flags s).port.noticeRead = s.port.noticeRead ∧
    (moveStation a made flags s).port.intEnable = s.port.intEnable ∧
    (moveStation a made flags s).port.displayLost = s.port.displayLost ∧
    (moveStation a made flags s).port.livenessTimer = s.port.livenessTimer ∧
    (moveStation a made flags s).port.sweepTimer = s.port.sweepTimer ∧
    (moveStation a made flags s).port.sweepPlace = s.port.sweepPlace ∧
    (moveStation a made flags s).port.sweepHeld = s.port.sweepHeld ∧
    (moveStation a made flags s).port.sweepCount = s.port.sweepCount ∧
    (moveStation a made flags s).port.writeRefused = s.port.writeRefused ∧
    (moveStation a made flags s).port.refusedAddress = s.port.refusedAddress ∧
    (moveStation a made flags s).mem = s.mem ∧ (moveStation a made flags s).outside = s.outside ∧
    (moveStation a made flags s).setup = s.setup ∧ (moveStation a made flags s).signals = s.signals ∧
    (moveStation a made flags s).sense = s.sense ∧ (moveStation a made flags s).doors = s.doors ∧
    (moveStation a made flags s).gauges = s.gauges ∧ (moveStation a made flags s).shop = s.shop := by
  unfold moveStation; split <;> simp

@[simp] theorem appendOneShot_frame (o : OneShot) (s : State) :
    (appendOneShot o s).pending = s.pending ∧ (appendOneShot o s).now = s.now ∧ (appendOneShot o s).run = s.run ∧
    (appendOneShot o s).port = s.port ∧ (appendOneShot o s).mem = s.mem ∧ (appendOneShot o s).outside = s.outside ∧
    (appendOneShot o s).setup = s.setup ∧ (appendOneShot o s).signals = s.signals ∧
    (appendOneShot o s).sense = s.sense ∧ (appendOneShot o s).doors = s.doors ∧
    (appendOneShot o s).warnings = s.warnings ∧ (appendOneShot o s).comp = s.comp ∧
    (appendOneShot o s).gauges = s.gauges ∧ (appendOneShot o s).faults = s.faults ∧
    (appendOneShot o s).shop = s.shop := by
  simp [appendOneShot]

@[simp] theorem askService_frame (a : Nat) (s : State) :
    (askService a s).pending = s.pending ∧ (askService a s).now = s.now ∧ (askService a s).run = s.run ∧
    (askService a s).port = s.port ∧ (askService a s).mem = s.mem ∧ (askService a s).outside = s.outside ∧
    (askService a s).setup = s.setup ∧ (askService a s).signals = s.signals ∧ (askService a s).sense = s.sense ∧
    (askService a s).doors = s.doors ∧ (askService a s).warnings = s.warnings ∧ (askService a s).comp = s.comp ∧
    (askService a s).gauges = s.gauges ∧ (askService a s).faults = s.faults ∧ (askService a s).shop = s.shop := by
  unfold askService; split <;> simp

@[simp] theorem serviceFlag_frame (a : Nat) (flags : StationFlags) (s : State) :
    (serviceFlag a flags s).pending = s.pending ∧ (serviceFlag a flags s).now = s.now ∧
    (serviceFlag a flags s).run = s.run ∧ (serviceFlag a flags s).port = s.port ∧
    (serviceFlag a flags s).mem = s.mem ∧ (serviceFlag a flags s).outside = s.outside ∧
    (serviceFlag a flags s).setup = s.setup ∧ (serviceFlag a flags s).signals = s.signals ∧
    (serviceFlag a flags s).sense = s.sense ∧ (serviceFlag a flags s).doors = s.doors ∧
    (serviceFlag a flags s).warnings = s.warnings ∧ (serviceFlag a flags s).comp = s.comp ∧
    (serviceFlag a flags s).gauges = s.gauges ∧ (serviceFlag a flags s).faults = s.faults ∧
    (serviceFlag a flags s).shop = s.shop := by
  simp [serviceFlag]

@[simp] theorem serveDeferred_frame (s : State) :
    (serveDeferred s).pending = s.pending ∧ (serveDeferred s).now = s.now ∧ (serveDeferred s).run = s.run ∧
    (serveDeferred s).port = s.port ∧ (serveDeferred s).mem = s.mem ∧ (serveDeferred s).outside = s.outside ∧
    (serveDeferred s).setup = s.setup ∧ (serveDeferred s).signals = s.signals ∧ (serveDeferred s).sense = s.sense ∧
    (serveDeferred s).doors = s.doors ∧ (serveDeferred s).warnings = s.warnings ∧ (serveDeferred s).comp = s.comp ∧
    (serveDeferred s).gauges = s.gauges ∧ (serveDeferred s).faults = s.faults ∧ (serveDeferred s).shop = s.shop := by
  unfold serveDeferred; (try dsimp only); repeat' (first | (simp; done) | split)

@[simp] theorem leaveHead_frame (s : State) :
    (leaveHead s).pending = s.pending ∧ (leaveHead s).now = s.now ∧ (leaveHead s).run = s.run ∧
    (leaveHead s).port = s.port ∧ (leaveHead s).mem = s.mem ∧ (leaveHead s).outside = s.outside ∧
    (leaveHead s).setup = s.setup ∧ (leaveHead s).signals = s.signals ∧ (leaveHead s).sense = s.sense ∧
    (leaveHead s).doors = s.doors ∧ (leaveHead s).warnings = s.warnings ∧ (leaveHead s).comp = s.comp ∧
    (leaveHead s).gauges = s.gauges ∧ (leaveHead s).faults = s.faults ∧ (leaveHead s).shop = s.shop := by
  simp [leaveHead]

@[simp] theorem endService_frame (a : Nat) (o : LineOutcome) (words : List Word) (s : State) :
    (endService a o words s).pending = s.pending ∧ (endService a o words s).now = s.now ∧
    (endService a o words s).run = s.run ∧ (endService a o words s).port.noticeRead = s.port.noticeRead ∧
    (endService a o words s).port.intEnable = s.port.intEnable ∧
    (endService a o words s).port.displayLost = s.port.displayLost ∧
    (endService a o words s).port.livenessTimer = s.port.livenessTimer ∧
    (endService a o words s).port.sweepTimer = s.port.sweepTimer ∧
    (endService a o words s).port.sweepPlace = s.port.sweepPlace ∧
    (endService a o words s).port.sweepHeld = s.port.sweepHeld ∧
    (endService a o words s).port.sweepCount = s.port.sweepCount ∧
    (endService a o words s).port.writeRefused = s.port.writeRefused ∧
    (endService a o words s).port.refusedAddress = s.port.refusedAddress ∧ (endService a o words s).mem = s.mem ∧
    (endService a o words s).outside = s.outside ∧ (endService a o words s).setup = s.setup ∧
    (endService a o words s).signals = s.signals ∧ (endService a o words s).sense = s.sense ∧
    (endService a o words s).doors = s.doors ∧ (endService a o words s).warnings = s.warnings ∧
    (endService a o words s).comp = s.comp ∧ (endService a o words s).gauges = s.gauges ∧
    (endService a o words s).faults = s.faults ∧ (endService a o words s).shop = s.shop := by
  unfold endService; split <;> simp

@[simp] theorem endTransfer_frame (slot : Nat) (o : LineOutcome) (flags : StationFlags) (c : Channel) (attempts : Nat) (words : List Word) (s : State) :
    (endTransfer slot o flags c attempts words s).pending = s.pending ∧
    (endTransfer slot o flags c attempts words s).now = s.now ∧
    (endTransfer slot o flags c attempts words s).run = s.run ∧
    (endTransfer slot o flags c attempts words s).port.noticeRead = s.port.noticeRead ∧
    (endTransfer slot o flags c attempts words s).port.intEnable = s.port.intEnable ∧
    (endTransfer slot o flags c attempts words s).port.displayLost = s.port.displayLost ∧
    (endTransfer slot o flags c attempts words s).port.livenessTimer = s.port.livenessTimer ∧
    (endTransfer slot o flags c attempts words s).port.sweepTimer = s.port.sweepTimer ∧
    (endTransfer slot o flags c attempts words s).port.sweepPlace = s.port.sweepPlace ∧
    (endTransfer slot o flags c attempts words s).port.sweepHeld = s.port.sweepHeld ∧
    (endTransfer slot o flags c attempts words s).port.sweepCount = s.port.sweepCount ∧
    (endTransfer slot o flags c attempts words s).port.writeRefused = s.port.writeRefused ∧
    (endTransfer slot o flags c attempts words s).port.refusedAddress = s.port.refusedAddress ∧
    (endTransfer slot o flags c attempts words s).outside = s.outside ∧
    (endTransfer slot o flags c attempts words s).setup = s.setup ∧
    (endTransfer slot o flags c attempts words s).signals = s.signals ∧
    (endTransfer slot o flags c attempts words s).sense = s.sense ∧
    (endTransfer slot o flags c attempts words s).line = s.line ∧
    (endTransfer slot o flags c attempts words s).doors = s.doors ∧
    (endTransfer slot o flags c attempts words s).warnings = s.warnings ∧
    (endTransfer slot o flags c attempts words s).comp = s.comp ∧
    (endTransfer slot o flags c attempts words s).gauges = s.gauges ∧
    (endTransfer slot o flags c attempts words s).faults = s.faults ∧
    (endTransfer slot o flags c attempts words s).shop = s.shop := by
  unfold endTransfer; split <;> simp

@[simp] theorem appendLog_frame (r : LogRecord) (s : State) :
    (appendLog r s).pending = s.pending ∧ (appendLog r s).now = s.now ∧ (appendLog r s).run = s.run ∧
    (appendLog r s).port.noticeRead = s.port.noticeRead ∧ (appendLog r s).port.intEnable = s.port.intEnable ∧
    (appendLog r s).port.displayLost = s.port.displayLost ∧
    (appendLog r s).port.livenessTimer = s.port.livenessTimer ∧
    (appendLog r s).port.sweepTimer = s.port.sweepTimer ∧ (appendLog r s).port.sweepPlace = s.port.sweepPlace ∧
    (appendLog r s).port.sweepHeld = s.port.sweepHeld ∧ (appendLog r s).port.sweepCount = s.port.sweepCount ∧
    (appendLog r s).port.writeRefused = s.port.writeRefused ∧
    (appendLog r s).port.refusedAddress = s.port.refusedAddress ∧ (appendLog r s).mem = s.mem ∧
    (appendLog r s).outside = s.outside ∧ (appendLog r s).setup = s.setup ∧ (appendLog r s).signals = s.signals ∧
    (appendLog r s).sense = s.sense ∧ (appendLog r s).doors = s.doors ∧ (appendLog r s).warnings = s.warnings ∧
    (appendLog r s).comp = s.comp ∧ (appendLog r s).gauges = s.gauges ∧ (appendLog r s).faults = s.faults ∧
    (appendLog r s).shop = s.shop := by
  unfold appendLog; (try dsimp only); repeat' (first | (simp; done) | split)

@[simp] theorem logEnd_frame (t : Transaction) (o : LineOutcome) (c : Channel) (attempts : Nat) (flags : StationFlags) (fetched : List Word) (s : State) :
    (logEnd t o c attempts flags fetched s).pending = s.pending ∧
    (logEnd t o c attempts flags fetched s).now = s.now ∧ (logEnd t o c attempts flags fetched s).run = s.run ∧
    (logEnd t o c attempts flags fetched s).port.noticeRead = s.port.noticeRead ∧
    (logEnd t o c attempts flags fetched s).port.intEnable = s.port.intEnable ∧
    (logEnd t o c attempts flags fetched s).port.displayLost = s.port.displayLost ∧
    (logEnd t o c attempts flags fetched s).port.livenessTimer = s.port.livenessTimer ∧
    (logEnd t o c attempts flags fetched s).port.sweepTimer = s.port.sweepTimer ∧
    (logEnd t o c attempts flags fetched s).port.sweepPlace = s.port.sweepPlace ∧
    (logEnd t o c attempts flags fetched s).port.sweepHeld = s.port.sweepHeld ∧
    (logEnd t o c attempts flags fetched s).port.sweepCount = s.port.sweepCount ∧
    (logEnd t o c attempts flags fetched s).port.writeRefused = s.port.writeRefused ∧
    (logEnd t o c attempts flags fetched s).port.refusedAddress = s.port.refusedAddress ∧
    (logEnd t o c attempts flags fetched s).mem = s.mem ∧
    (logEnd t o c attempts flags fetched s).outside = s.outside ∧
    (logEnd t o c attempts flags fetched s).setup = s.setup ∧
    (logEnd t o c attempts flags fetched s).signals = s.signals ∧
    (logEnd t o c attempts flags fetched s).sense = s.sense ∧
    (logEnd t o c attempts flags fetched s).doors = s.doors ∧
    (logEnd t o c attempts flags fetched s).warnings = s.warnings ∧
    (logEnd t o c attempts flags fetched s).comp = s.comp ∧
    (logEnd t o c attempts flags fetched s).gauges = s.gauges ∧
    (logEnd t o c attempts flags fetched s).faults = s.faults ∧
    (logEnd t o c attempts flags fetched s).shop = s.shop := by
  simp [logEnd]

@[simp] theorem countOverrun_frame (s : State) :
    (countOverrun s).pending = s.pending ∧ (countOverrun s).now = s.now ∧ (countOverrun s).run = s.run ∧
    (countOverrun s).port.noticeRead = s.port.noticeRead ∧ (countOverrun s).port.intEnable = s.port.intEnable ∧
    (countOverrun s).port.displayLost = s.port.displayLost ∧
    (countOverrun s).port.livenessTimer = s.port.livenessTimer ∧
    (countOverrun s).port.sweepTimer = s.port.sweepTimer ∧ (countOverrun s).port.sweepPlace = s.port.sweepPlace ∧
    (countOverrun s).port.sweepHeld = s.port.sweepHeld ∧ (countOverrun s).port.sweepCount = s.port.sweepCount ∧
    (countOverrun s).port.writeRefused = s.port.writeRefused ∧
    (countOverrun s).port.refusedAddress = s.port.refusedAddress ∧ (countOverrun s).mem = s.mem ∧
    (countOverrun s).outside = s.outside ∧ (countOverrun s).setup = s.setup ∧
    (countOverrun s).signals = s.signals ∧ (countOverrun s).sense = s.sense ∧ (countOverrun s).doors = s.doors ∧
    (countOverrun s).warnings = s.warnings ∧ (countOverrun s).comp = s.comp ∧ (countOverrun s).gauges = s.gauges ∧
    (countOverrun s).faults = s.faults ∧ (countOverrun s).shop = s.shop := by
  simp [countOverrun]

@[simp] theorem deliverWords_frame (e : Nat) (words : List Word) (s : State) :
    (deliverWords e words s).pending = s.pending ∧ (deliverWords e words s).now = s.now ∧
    (deliverWords e words s).run = s.run ∧ (deliverWords e words s).port.noticeRead = s.port.noticeRead ∧
    (deliverWords e words s).port.intEnable = s.port.intEnable ∧
    (deliverWords e words s).port.displayLost = s.port.displayLost ∧
    (deliverWords e words s).port.livenessTimer = s.port.livenessTimer ∧
    (deliverWords e words s).port.sweepTimer = s.port.sweepTimer ∧
    (deliverWords e words s).port.sweepPlace = s.port.sweepPlace ∧
    (deliverWords e words s).port.sweepHeld = s.port.sweepHeld ∧
    (deliverWords e words s).port.sweepCount = s.port.sweepCount ∧
    (deliverWords e words s).port.writeRefused = s.port.writeRefused ∧
    (deliverWords e words s).port.refusedAddress = s.port.refusedAddress ∧
    (deliverWords e words s).outside = s.outside ∧ (deliverWords e words s).setup = s.setup ∧
    (deliverWords e words s).sense = s.sense ∧ (deliverWords e words s).line = s.line ∧
    (deliverWords e words s).shop.receiver = s.shop.receiver ∧ (deliverWords e words s).shop.rate = s.shop.rate ∧
    (deliverWords e words s).shop.nextRate = s.shop.nextRate ∧
    (deliverWords e words s).shop.gapTimer = s.shop.gapTimer ∧
    (deliverWords e words s).shop.idleTimer = s.shop.idleTimer := by
  simp [deliverWords]

@[simp] theorem deliverEnd_frame (t : Transaction) (o : LineOutcome) (fetched : List Word) (s : State) :
    (deliverEnd t o fetched s).pending = s.pending ∧ (deliverEnd t o fetched s).now = s.now ∧
    (deliverEnd t o fetched s).run = s.run ∧ (deliverEnd t o fetched s).port.noticeRead = s.port.noticeRead ∧
    (deliverEnd t o fetched s).port.intEnable = s.port.intEnable ∧
    (deliverEnd t o fetched s).port.displayLost = s.port.displayLost ∧
    (deliverEnd t o fetched s).port.livenessTimer = s.port.livenessTimer ∧
    (deliverEnd t o fetched s).port.sweepTimer = s.port.sweepTimer ∧
    (deliverEnd t o fetched s).port.sweepPlace = s.port.sweepPlace ∧
    (deliverEnd t o fetched s).port.sweepHeld = s.port.sweepHeld ∧
    (deliverEnd t o fetched s).port.sweepCount = s.port.sweepCount ∧
    (deliverEnd t o fetched s).port.writeRefused = s.port.writeRefused ∧
    (deliverEnd t o fetched s).port.refusedAddress = s.port.refusedAddress ∧
    (deliverEnd t o fetched s).outside = s.outside ∧ (deliverEnd t o fetched s).setup = s.setup ∧
    (deliverEnd t o fetched s).sense = s.sense ∧ (deliverEnd t o fetched s).line = s.line ∧
    (deliverEnd t o fetched s).shop.receiver = s.shop.receiver ∧
    (deliverEnd t o fetched s).shop.rate = s.shop.rate ∧
    (deliverEnd t o fetched s).shop.nextRate = s.shop.nextRate ∧
    (deliverEnd t o fetched s).shop.gapTimer = s.shop.gapTimer ∧
    (deliverEnd t o fetched s).shop.idleTimer = s.shop.idleTimer := by
  unfold deliverEnd; split <;> simp

@[simp] theorem endOneShot_frame (a : Nat) (o : LineOutcome) (flags : StationFlags) (c : Channel) (attempts : Nat) (fetched : List Word) (s : State) :
    (endOneShot a o flags c attempts fetched s).pending = s.pending ∧
    (endOneShot a o flags c attempts fetched s).now = s.now ∧
    (endOneShot a o flags c attempts fetched s).run = s.run ∧
    (endOneShot a o flags c attempts fetched s).port.noticeRead = s.port.noticeRead ∧
    (endOneShot a o flags c attempts fetched s).port.intEnable = s.port.intEnable ∧
    (endOneShot a o flags c attempts fetched s).port.displayLost = s.port.displayLost ∧
    (endOneShot a o flags c attempts fetched s).port.livenessTimer = s.port.livenessTimer ∧
    (endOneShot a o flags c attempts fetched s).port.sweepTimer = s.port.sweepTimer ∧
    (endOneShot a o flags c attempts fetched s).port.sweepPlace = s.port.sweepPlace ∧
    (endOneShot a o flags c attempts fetched s).port.sweepHeld = s.port.sweepHeld ∧
    (endOneShot a o flags c attempts fetched s).port.sweepCount = s.port.sweepCount ∧
    (endOneShot a o flags c attempts fetched s).port.writeRefused = s.port.writeRefused ∧
    (endOneShot a o flags c attempts fetched s).port.refusedAddress = s.port.refusedAddress ∧
    (endOneShot a o flags c attempts fetched s).outside = s.outside ∧
    (endOneShot a o flags c attempts fetched s).setup = s.setup ∧
    (endOneShot a o flags c attempts fetched s).signals = s.signals ∧
    (endOneShot a o flags c attempts fetched s).sense = s.sense ∧
    (endOneShot a o flags c attempts fetched s).doors = s.doors ∧
    (endOneShot a o flags c attempts fetched s).warnings = s.warnings ∧
    (endOneShot a o flags c attempts fetched s).comp = s.comp ∧
    (endOneShot a o flags c attempts fetched s).gauges = s.gauges ∧
    (endOneShot a o flags c attempts fetched s).faults = s.faults ∧
    (endOneShot a o flags c attempts fetched s).shop = s.shop := by
  unfold endOneShot; split <;> simp

@[simp] theorem endTransaction_frame (t : Transaction) (o : LineOutcome) (flags : StationFlags) (fetched : List Word) (s : State) :
    (endTransaction t o flags fetched s).pending = s.pending ∧ (endTransaction t o flags fetched s).now = s.now ∧
    (endTransaction t o flags fetched s).run = s.run ∧
    (endTransaction t o flags fetched s).port.noticeRead = s.port.noticeRead ∧
    (endTransaction t o flags fetched s).port.intEnable = s.port.intEnable ∧
    (endTransaction t o flags fetched s).port.displayLost = s.port.displayLost ∧
    (endTransaction t o flags fetched s).port.livenessTimer = s.port.livenessTimer ∧
    (endTransaction t o flags fetched s).port.sweepTimer = s.port.sweepTimer ∧
    (endTransaction t o flags fetched s).port.sweepPlace = s.port.sweepPlace ∧
    (endTransaction t o flags fetched s).port.sweepHeld = s.port.sweepHeld ∧
    (endTransaction t o flags fetched s).port.sweepCount = s.port.sweepCount ∧
    (endTransaction t o flags fetched s).port.writeRefused = s.port.writeRefused ∧
    (endTransaction t o flags fetched s).port.refusedAddress = s.port.refusedAddress ∧
    (endTransaction t o flags fetched s).outside = s.outside ∧
    (endTransaction t o flags fetched s).setup = s.setup ∧ (endTransaction t o flags fetched s).sense = s.sense ∧
    (endTransaction t o flags fetched s).shop.receiver = s.shop.receiver ∧
    (endTransaction t o flags fetched s).shop.rate = s.shop.rate ∧
    (endTransaction t o flags fetched s).shop.nextRate = s.shop.nextRate ∧
    (endTransaction t o flags fetched s).shop.gapTimer = s.shop.gapTimer ∧
    (endTransaction t o flags fetched s).shop.idleTimer = s.shop.idleTimer := by
  unfold endTransaction; split <;> simp

@[simp] theorem setProbe_frame (t : Transaction) (o : LineOutcome) (s : State) :
    (setProbe t o s).pending = s.pending ∧ (setProbe t o s).now = s.now ∧ (setProbe t o s).run = s.run ∧
    (setProbe t o s).port = s.port ∧ (setProbe t o s).mem = s.mem ∧ (setProbe t o s).outside = s.outside ∧
    (setProbe t o s).setup = s.setup ∧ (setProbe t o s).signals = s.signals ∧ (setProbe t o s).sense = s.sense ∧
    (setProbe t o s).doors = s.doors ∧ (setProbe t o s).warnings = s.warnings ∧ (setProbe t o s).comp = s.comp ∧
    (setProbe t o s).gauges = s.gauges ∧ (setProbe t o s).faults = s.faults ∧ (setProbe t o s).shop = s.shop := by
  unfold setProbe; split <;> simp

@[simp] theorem endProbe_frame (t : Transaction) (c : Channel) (o : LineOutcome) (flags : StationFlags) (fetched : List Word) (s : State) :
    (endProbe t c o flags fetched s).pending = s.pending ∧ (endProbe t c o flags fetched s).now = s.now ∧
    (endProbe t c o flags fetched s).run = s.run ∧
    (endProbe t c o flags fetched s).port.noticeRead = s.port.noticeRead ∧
    (endProbe t c o flags fetched s).port.intEnable = s.port.intEnable ∧
    (endProbe t c o flags fetched s).port.displayLost = s.port.displayLost ∧
    (endProbe t c o flags fetched s).port.livenessTimer = s.port.livenessTimer ∧
    (endProbe t c o flags fetched s).port.sweepTimer = s.port.sweepTimer ∧
    (endProbe t c o flags fetched s).port.sweepPlace = s.port.sweepPlace ∧
    (endProbe t c o flags fetched s).port.sweepHeld = s.port.sweepHeld ∧
    (endProbe t c o flags fetched s).port.sweepCount = s.port.sweepCount ∧
    (endProbe t c o flags fetched s).port.writeRefused = s.port.writeRefused ∧
    (endProbe t c o flags fetched s).port.refusedAddress = s.port.refusedAddress ∧
    (endProbe t c o flags fetched s).outside = s.outside ∧ (endProbe t c o flags fetched s).setup = s.setup ∧
    (endProbe t c o flags fetched s).sense = s.sense ∧
    (endProbe t c o flags fetched s).shop.receiver = s.shop.receiver ∧
    (endProbe t c o flags fetched s).shop.rate = s.shop.rate ∧
    (endProbe t c o flags fetched s).shop.nextRate = s.shop.nextRate ∧
    (endProbe t c o flags fetched s).shop.gapTimer = s.shop.gapTimer ∧
    (endProbe t c o flags fetched s).shop.idleTimer = s.shop.idleTimer := by
  simp [endProbe]

@[simp] theorem abortOneShot_frame (o : OneShot) (s : State) :
    (abortOneShot o s).pending = s.pending ∧ (abortOneShot o s).now = s.now ∧ (abortOneShot o s).run = s.run ∧
    (abortOneShot o s).port.noticeRead = s.port.noticeRead ∧ (abortOneShot o s).port.intEnable = s.port.intEnable ∧
    (abortOneShot o s).port.displayLost = s.port.displayLost ∧
    (abortOneShot o s).port.livenessTimer = s.port.livenessTimer ∧
    (abortOneShot o s).port.sweepTimer = s.port.sweepTimer ∧
    (abortOneShot o s).port.sweepPlace = s.port.sweepPlace ∧ (abortOneShot o s).port.sweepHeld = s.port.sweepHeld ∧
    (abortOneShot o s).port.sweepCount = s.port.sweepCount ∧
    (abortOneShot o s).port.writeRefused = s.port.writeRefused ∧
    (abortOneShot o s).port.refusedAddress = s.port.refusedAddress ∧ (abortOneShot o s).outside = s.outside ∧
    (abortOneShot o s).setup = s.setup ∧ (abortOneShot o s).signals = s.signals ∧
    (abortOneShot o s).sense = s.sense ∧ (abortOneShot o s).line = s.line ∧ (abortOneShot o s).doors = s.doors ∧
    (abortOneShot o s).warnings = s.warnings ∧ (abortOneShot o s).comp = s.comp ∧
    (abortOneShot o s).gauges = s.gauges ∧ (abortOneShot o s).faults = s.faults ∧ (abortOneShot o s).shop = s.shop := by
  unfold abortOneShot; split <;> simp

@[simp] theorem clearPending_frame (a : Nat) (s : State) :
    (clearPending a s).pending = s.pending ∧ (clearPending a s).now = s.now ∧ (clearPending a s).run = s.run ∧
    (clearPending a s).port = s.port ∧ (clearPending a s).mem = s.mem ∧ (clearPending a s).outside = s.outside ∧
    (clearPending a s).setup = s.setup ∧ (clearPending a s).signals = s.signals ∧
    (clearPending a s).sense = s.sense ∧ (clearPending a s).doors = s.doors ∧
    (clearPending a s).warnings = s.warnings ∧ (clearPending a s).comp = s.comp ∧
    (clearPending a s).gauges = s.gauges ∧ (clearPending a s).faults = s.faults ∧ (clearPending a s).shop = s.shop := by
  simp [clearPending]

@[simp] theorem emptyList_frame (s : State) :
    (emptyList s).pending = s.pending ∧ (emptyList s).now = s.now ∧ (emptyList s).run = s.run ∧
    (emptyList s).port.noticeRead = s.port.noticeRead ∧ (emptyList s).port.intEnable = s.port.intEnable ∧
    (emptyList s).port.displayLost = s.port.displayLost ∧ (emptyList s).port.livenessTimer = s.port.livenessTimer ∧
    (emptyList s).port.sweepTimer = s.port.sweepTimer ∧ (emptyList s).port.sweepPlace = s.port.sweepPlace ∧
    (emptyList s).port.sweepHeld = s.port.sweepHeld ∧ (emptyList s).port.sweepCount = s.port.sweepCount ∧
    (emptyList s).port.writeRefused = s.port.writeRefused ∧
    (emptyList s).port.refusedAddress = s.port.refusedAddress ∧ (emptyList s).outside = s.outside ∧
    (emptyList s).setup = s.setup ∧ (emptyList s).signals = s.signals ∧ (emptyList s).sense = s.sense ∧
    (emptyList s).doors = s.doors ∧ (emptyList s).warnings = s.warnings ∧ (emptyList s).comp = s.comp ∧
    (emptyList s).gauges = s.gauges ∧ (emptyList s).faults = s.faults ∧ (emptyList s).shop = s.shop := by
  simp [emptyList]

@[simp] theorem startAttempt_frame (c : Channel) (t : Transaction) (s : State) :
    (startAttempt c t s).pending = s.pending ∧ (startAttempt c t s).now = s.now ∧
    (startAttempt c t s).run = s.run ∧ (startAttempt c t s).port = s.port ∧ (startAttempt c t s).mem = s.mem ∧
    (startAttempt c t s).outside = s.outside ∧ (startAttempt c t s).setup = s.setup ∧
    (startAttempt c t s).signals = s.signals ∧ (startAttempt c t s).sense = s.sense ∧
    (startAttempt c t s).doors = s.doors ∧ (startAttempt c t s).warnings = s.warnings ∧
    (startAttempt c t s).comp = s.comp ∧ (startAttempt c t s).gauges = s.gauges ∧
    (startAttempt c t s).faults = s.faults ∧ (startAttempt c t s).shop = s.shop := by
  simp [startAttempt]

@[simp] theorem startFirst_frame (c : Channel) (t : Transaction) (s : State) :
    (startFirst c t s).pending = s.pending ∧ (startFirst c t s).now = s.now ∧ (startFirst c t s).run = s.run ∧
    (startFirst c t s).port = s.port ∧ (startFirst c t s).mem = s.mem ∧ (startFirst c t s).outside = s.outside ∧
    (startFirst c t s).setup = s.setup ∧ (startFirst c t s).signals = s.signals ∧
    (startFirst c t s).sense = s.sense ∧ (startFirst c t s).doors = s.doors ∧
    (startFirst c t s).warnings = s.warnings ∧ (startFirst c t s).comp = s.comp ∧
    (startFirst c t s).gauges = s.gauges ∧ (startFirst c t s).faults = s.faults ∧ (startFirst c t s).shop = s.shop := by
  simp [startFirst]

@[simp] theorem runList_frame (s : State) :
    (runList s).pending = s.pending ∧ (runList s).now = s.now ∧ (runList s).run = s.run ∧
    (runList s).port = s.port ∧ (runList s).mem = s.mem ∧ (runList s).outside = s.outside ∧
    (runList s).setup = s.setup ∧ (runList s).signals = s.signals ∧ (runList s).sense = s.sense ∧
    (runList s).doors = s.doors ∧ (runList s).warnings = s.warnings ∧ (runList s).comp = s.comp ∧
    (runList s).gauges = s.gauges ∧ (runList s).faults = s.faults ∧ (runList s).shop = s.shop := by
  unfold runList; split <;> simp

@[simp] theorem skipEntry_frame (e : Nat) (s : State) :
    (skipEntry e s).pending = s.pending ∧ (skipEntry e s).now = s.now ∧ (skipEntry e s).run = s.run ∧
    (skipEntry e s).port.noticeRead = s.port.noticeRead ∧ (skipEntry e s).port.intEnable = s.port.intEnable ∧
    (skipEntry e s).port.displayLost = s.port.displayLost ∧
    (skipEntry e s).port.livenessTimer = s.port.livenessTimer ∧
    (skipEntry e s).port.sweepTimer = s.port.sweepTimer ∧ (skipEntry e s).port.sweepPlace = s.port.sweepPlace ∧
    (skipEntry e s).port.sweepHeld = s.port.sweepHeld ∧ (skipEntry e s).port.sweepCount = s.port.sweepCount ∧
    (skipEntry e s).port.writeRefused = s.port.writeRefused ∧
    (skipEntry e s).port.refusedAddress = s.port.refusedAddress ∧ (skipEntry e s).mem = s.mem ∧
    (skipEntry e s).outside = s.outside ∧ (skipEntry e s).setup = s.setup ∧ (skipEntry e s).signals = s.signals ∧
    (skipEntry e s).sense = s.sense ∧ (skipEntry e s).doors = s.doors ∧ (skipEntry e s).warnings = s.warnings ∧
    (skipEntry e s).comp = s.comp ∧ (skipEntry e s).gauges = s.gauges ∧ (skipEntry e s).faults = s.faults ∧
    (skipEntry e s).shop = s.shop := by
  simp [skipEntry]

@[simp] theorem walkOn_frame (l : List Nat) (s : State) :
    (walkOn l s).pending = s.pending ∧ (walkOn l s).now = s.now ∧ (walkOn l s).run = s.run ∧
    (walkOn l s).port.noticeRead = s.port.noticeRead ∧ (walkOn l s).port.intEnable = s.port.intEnable ∧
    (walkOn l s).port.displayLost = s.port.displayLost ∧ (walkOn l s).port.livenessTimer = s.port.livenessTimer ∧
    (walkOn l s).port.sweepTimer = s.port.sweepTimer ∧ (walkOn l s).port.sweepPlace = s.port.sweepPlace ∧
    (walkOn l s).port.sweepHeld = s.port.sweepHeld ∧ (walkOn l s).port.sweepCount = s.port.sweepCount ∧
    (walkOn l s).port.writeRefused = s.port.writeRefused ∧
    (walkOn l s).port.refusedAddress = s.port.refusedAddress ∧ (walkOn l s).mem = s.mem ∧
    (walkOn l s).outside = s.outside ∧ (walkOn l s).setup = s.setup ∧ (walkOn l s).signals = s.signals ∧
    (walkOn l s).sense = s.sense ∧ (walkOn l s).doors = s.doors ∧ (walkOn l s).warnings = s.warnings ∧
    (walkOn l s).comp = s.comp ∧ (walkOn l s).gauges = s.gauges ∧ (walkOn l s).faults = s.faults ∧
    (walkOn l s).shop = s.shop := by
  fun_induction walkOn <;> simp_all

@[simp] theorem startNext_frame (s : State) :
    (startNext s).pending = s.pending ∧ (startNext s).now = s.now ∧ (startNext s).run = s.run ∧
    (startNext s).port.noticeRead = s.port.noticeRead ∧ (startNext s).port.intEnable = s.port.intEnable ∧
    (startNext s).port.displayLost = s.port.displayLost ∧ (startNext s).port.livenessTimer = s.port.livenessTimer ∧
    (startNext s).port.sweepTimer = s.port.sweepTimer ∧ (startNext s).port.sweepPlace = s.port.sweepPlace ∧
    (startNext s).port.sweepHeld = s.port.sweepHeld ∧ (startNext s).port.sweepCount = s.port.sweepCount ∧
    (startNext s).port.writeRefused = s.port.writeRefused ∧
    (startNext s).port.refusedAddress = s.port.refusedAddress ∧ (startNext s).mem = s.mem ∧
    (startNext s).outside = s.outside ∧ (startNext s).setup = s.setup ∧ (startNext s).signals = s.signals ∧
    (startNext s).sense = s.sense ∧ (startNext s).doors = s.doors ∧ (startNext s).warnings = s.warnings ∧
    (startNext s).comp = s.comp ∧ (startNext s).gauges = s.gauges ∧ (startNext s).faults = s.faults ∧
    (startNext s).shop = s.shop := by
  simp [startNext]

@[simp] theorem startMinor_frame (m due : Nat) (s : State) :
    (startMinor m due s).pending = s.pending ∧ (startMinor m due s).now = s.now ∧
    (startMinor m due s).run = s.run ∧ (startMinor m due s).port.noticeRead = s.port.noticeRead ∧
    (startMinor m due s).port.intEnable = s.port.intEnable ∧
    (startMinor m due s).port.displayLost = s.port.displayLost ∧
    (startMinor m due s).port.livenessTimer = s.port.livenessTimer ∧
    (startMinor m due s).port.sweepTimer = s.port.sweepTimer ∧
    (startMinor m due s).port.sweepPlace = s.port.sweepPlace ∧
    (startMinor m due s).port.sweepHeld = s.port.sweepHeld ∧
    (startMinor m due s).port.sweepCount = s.port.sweepCount ∧
    (startMinor m due s).port.writeRefused = s.port.writeRefused ∧
    (startMinor m due s).port.refusedAddress = s.port.refusedAddress ∧ (startMinor m due s).mem = s.mem ∧
    (startMinor m due s).outside = s.outside ∧ (startMinor m due s).setup = s.setup ∧
    (startMinor m due s).signals = s.signals ∧ (startMinor m due s).sense = s.sense ∧
    (startMinor m due s).doors = s.doors ∧ (startMinor m due s).warnings = s.warnings ∧
    (startMinor m due s).comp = s.comp ∧ (startMinor m due s).gauges = s.gauges ∧
    (startMinor m due s).faults = s.faults ∧ (startMinor m due s).shop = s.shop := by
  simp [startMinor]

@[simp] theorem minorExpires_frame (s : State) :
    (minorExpires s).pending = s.pending ∧ (minorExpires s).run = s.run ∧
    (minorExpires s).port.noticeRead = s.port.noticeRead ∧ (minorExpires s).port.intEnable = s.port.intEnable ∧
    (minorExpires s).port.displayLost = s.port.displayLost ∧
    (minorExpires s).port.livenessTimer = s.port.livenessTimer ∧
    (minorExpires s).port.sweepTimer = s.port.sweepTimer ∧ (minorExpires s).port.sweepPlace = s.port.sweepPlace ∧
    (minorExpires s).port.sweepHeld = s.port.sweepHeld ∧ (minorExpires s).port.sweepCount = s.port.sweepCount ∧
    (minorExpires s).port.writeRefused = s.port.writeRefused ∧
    (minorExpires s).port.refusedAddress = s.port.refusedAddress ∧ (minorExpires s).mem = s.mem ∧
    (minorExpires s).outside = s.outside ∧ (minorExpires s).setup = s.setup ∧
    (minorExpires s).signals = s.signals ∧ (minorExpires s).sense = s.sense ∧ (minorExpires s).doors = s.doors ∧
    (minorExpires s).warnings = s.warnings ∧ (minorExpires s).comp = s.comp ∧ (minorExpires s).gauges = s.gauges ∧
    (minorExpires s).faults = s.faults ∧ (minorExpires s).shop = s.shop := by
  simp [minorExpires]

@[simp] theorem attemptEnded_frame (t : Transaction) (c : Channel) (o : LineOutcome) (received : List Byte) (s : State) :
    (attemptEnded t c o received s).pending = s.pending ∧ (attemptEnded t c o received s).now = s.now ∧
    (attemptEnded t c o received s).run = s.run ∧
    (attemptEnded t c o received s).port.noticeRead = s.port.noticeRead ∧
    (attemptEnded t c o received s).port.intEnable = s.port.intEnable ∧
    (attemptEnded t c o received s).port.displayLost = s.port.displayLost ∧
    (attemptEnded t c o received s).port.livenessTimer = s.port.livenessTimer ∧
    (attemptEnded t c o received s).port.sweepTimer = s.port.sweepTimer ∧
    (attemptEnded t c o received s).port.sweepPlace = s.port.sweepPlace ∧
    (attemptEnded t c o received s).port.sweepHeld = s.port.sweepHeld ∧
    (attemptEnded t c o received s).port.sweepCount = s.port.sweepCount ∧
    (attemptEnded t c o received s).port.writeRefused = s.port.writeRefused ∧
    (attemptEnded t c o received s).port.refusedAddress = s.port.refusedAddress ∧
    (attemptEnded t c o received s).outside = s.outside ∧ (attemptEnded t c o received s).setup = s.setup ∧
    (attemptEnded t c o received s).sense = s.sense ∧
    (attemptEnded t c o received s).shop.receiver = s.shop.receiver ∧
    (attemptEnded t c o received s).shop.rate = s.shop.rate ∧
    (attemptEnded t c o received s).shop.nextRate = s.shop.nextRate ∧
    (attemptEnded t c o received s).shop.gapTimer = s.shop.gapTimer ∧
    (attemptEnded t c o received s).shop.idleTimer = s.shop.idleTimer := by
  unfold attemptEnded; (try dsimp only); repeat' (first | (simp; done) | split)

@[simp] theorem endAttempt_frame (a : Attempt) (o : LineOutcome) (s : State) :
    (endAttempt a o s).pending = s.pending ∧ (endAttempt a o s).now = s.now ∧ (endAttempt a o s).run = s.run ∧
    (endAttempt a o s).port.noticeRead = s.port.noticeRead ∧ (endAttempt a o s).port.intEnable = s.port.intEnable ∧
    (endAttempt a o s).port.displayLost = s.port.displayLost ∧
    (endAttempt a o s).port.livenessTimer = s.port.livenessTimer ∧
    (endAttempt a o s).port.sweepTimer = s.port.sweepTimer ∧
    (endAttempt a o s).port.sweepPlace = s.port.sweepPlace ∧ (endAttempt a o s).port.sweepHeld = s.port.sweepHeld ∧
    (endAttempt a o s).port.sweepCount = s.port.sweepCount ∧
    (endAttempt a o s).port.writeRefused = s.port.writeRefused ∧
    (endAttempt a o s).port.refusedAddress = s.port.refusedAddress ∧ (endAttempt a o s).outside = s.outside ∧
    (endAttempt a o s).setup = s.setup ∧ (endAttempt a o s).sense = s.sense ∧
    (endAttempt a o s).shop.receiver = s.shop.receiver ∧ (endAttempt a o s).shop.rate = s.shop.rate ∧
    (endAttempt a o s).shop.nextRate = s.shop.nextRate ∧ (endAttempt a o s).shop.gapTimer = s.shop.gapTimer ∧
    (endAttempt a o s).shop.idleTimer = s.shop.idleTimer := by
  unfold endAttempt; split <;> simp

@[simp] theorem responseExpires_frame (s : State) :
    (responseExpires s).pending = s.pending ∧ (responseExpires s).run = s.run ∧
    (responseExpires s).port.noticeRead = s.port.noticeRead ∧
    (responseExpires s).port.intEnable = s.port.intEnable ∧
    (responseExpires s).port.displayLost = s.port.displayLost ∧
    (responseExpires s).port.livenessTimer = s.port.livenessTimer ∧
    (responseExpires s).port.sweepTimer = s.port.sweepTimer ∧
    (responseExpires s).port.sweepPlace = s.port.sweepPlace ∧
    (responseExpires s).port.sweepHeld = s.port.sweepHeld ∧
    (responseExpires s).port.sweepCount = s.port.sweepCount ∧
    (responseExpires s).port.writeRefused = s.port.writeRefused ∧
    (responseExpires s).port.refusedAddress = s.port.refusedAddress ∧ (responseExpires s).outside = s.outside ∧
    (responseExpires s).setup = s.setup ∧ (responseExpires s).sense = s.sense ∧
    (responseExpires s).shop.receiver = s.shop.receiver ∧ (responseExpires s).shop.rate = s.shop.rate ∧
    (responseExpires s).shop.nextRate = s.shop.nextRate ∧ (responseExpires s).shop.gapTimer = s.shop.gapTimer ∧
    (responseExpires s).shop.idleTimer = s.shop.idleTimer := by
  unfold responseExpires; (try dsimp only); repeat' (first | (simp; done) | split)

@[simp] theorem hold_frame (a : Attempt) (o : LineOutcome) (s : State) :
    (hold a o s).pending = s.pending ∧ (hold a o s).now = s.now ∧ (hold a o s).run = s.run ∧
    (hold a o s).port = s.port ∧ (hold a o s).mem = s.mem ∧ (hold a o s).outside = s.outside ∧
    (hold a o s).setup = s.setup ∧ (hold a o s).signals = s.signals ∧ (hold a o s).sense = s.sense ∧
    (hold a o s).doors = s.doors ∧ (hold a o s).warnings = s.warnings ∧ (hold a o s).comp = s.comp ∧
    (hold a o s).gauges = s.gauges ∧ (hold a o s).faults = s.faults ∧ (hold a o s).shop = s.shop := by
  simp [hold]

@[simp] theorem windowExpires_frame (s : State) :
    (windowExpires s).pending = s.pending ∧ (windowExpires s).run = s.run ∧
    (windowExpires s).port.noticeRead = s.port.noticeRead ∧ (windowExpires s).port.intEnable = s.port.intEnable ∧
    (windowExpires s).port.displayLost = s.port.displayLost ∧
    (windowExpires s).port.livenessTimer = s.port.livenessTimer ∧
    (windowExpires s).port.sweepTimer = s.port.sweepTimer ∧ (windowExpires s).port.sweepPlace = s.port.sweepPlace ∧
    (windowExpires s).port.sweepHeld = s.port.sweepHeld ∧ (windowExpires s).port.sweepCount = s.port.sweepCount ∧
    (windowExpires s).port.writeRefused = s.port.writeRefused ∧
    (windowExpires s).port.refusedAddress = s.port.refusedAddress ∧ (windowExpires s).outside = s.outside ∧
    (windowExpires s).setup = s.setup ∧ (windowExpires s).sense = s.sense ∧
    (windowExpires s).shop.receiver = s.shop.receiver ∧ (windowExpires s).shop.rate = s.shop.rate ∧
    (windowExpires s).shop.nextRate = s.shop.nextRate ∧ (windowExpires s).shop.gapTimer = s.shop.gapTimer ∧
    (windowExpires s).shop.idleTimer = s.shop.idleTimer := by
  unfold windowExpires; (try dsimp only); repeat' (first | (simp; done) | split)

@[simp] theorem gapExpires_frame (s : State) :
    (gapExpires s).pending = s.pending ∧ (gapExpires s).run = s.run ∧ (gapExpires s).port = s.port ∧
    (gapExpires s).mem = s.mem ∧ (gapExpires s).outside = s.outside ∧ (gapExpires s).setup = s.setup ∧
    (gapExpires s).signals = s.signals ∧ (gapExpires s).sense = s.sense ∧ (gapExpires s).doors = s.doors ∧
    (gapExpires s).warnings = s.warnings ∧ (gapExpires s).comp = s.comp ∧ (gapExpires s).gauges = s.gauges ∧
    (gapExpires s).faults = s.faults ∧ (gapExpires s).shop = s.shop := by
  unfold gapExpires; (try dsimp only); repeat' (first | (simp; done) | split)

@[simp] theorem judgeCharacter_frame (a : Attempt) (ends : Nat) (data : Byte) (headerMark stopBit : Bool) (s : State) :
    (judgeCharacter a ends data headerMark stopBit s).pending = s.pending ∧
    (judgeCharacter a ends data headerMark stopBit s).run = s.run ∧
    (judgeCharacter a ends data headerMark stopBit s).port.noticeRead = s.port.noticeRead ∧
    (judgeCharacter a ends data headerMark stopBit s).port.intEnable = s.port.intEnable ∧
    (judgeCharacter a ends data headerMark stopBit s).port.displayLost = s.port.displayLost ∧
    (judgeCharacter a ends data headerMark stopBit s).port.livenessTimer = s.port.livenessTimer ∧
    (judgeCharacter a ends data headerMark stopBit s).port.sweepTimer = s.port.sweepTimer ∧
    (judgeCharacter a ends data headerMark stopBit s).port.sweepPlace = s.port.sweepPlace ∧
    (judgeCharacter a ends data headerMark stopBit s).port.sweepHeld = s.port.sweepHeld ∧
    (judgeCharacter a ends data headerMark stopBit s).port.sweepCount = s.port.sweepCount ∧
    (judgeCharacter a ends data headerMark stopBit s).port.writeRefused = s.port.writeRefused ∧
    (judgeCharacter a ends data headerMark stopBit s).port.refusedAddress = s.port.refusedAddress ∧
    (judgeCharacter a ends data headerMark stopBit s).outside = s.outside ∧
    (judgeCharacter a ends data headerMark stopBit s).setup = s.setup ∧
    (judgeCharacter a ends data headerMark stopBit s).sense = s.sense ∧
    (judgeCharacter a ends data headerMark stopBit s).shop.receiver = s.shop.receiver ∧
    (judgeCharacter a ends data headerMark stopBit s).shop.rate = s.shop.rate ∧
    (judgeCharacter a ends data headerMark stopBit s).shop.nextRate = s.shop.nextRate ∧
    (judgeCharacter a ends data headerMark stopBit s).shop.gapTimer = s.shop.gapTimer ∧
    (judgeCharacter a ends data headerMark stopBit s).shop.idleTimer = s.shop.idleTimer := by
  unfold judgeCharacter; (try dsimp only); repeat' (first | (simp; done) | split)

@[simp] theorem replyCharacterArrives_frame (c : Channel) (gap : Nat) (data : Byte) (headerMark stopBit : Bool) (s : State) :
    (replyCharacterArrives c gap data headerMark stopBit s).pending = s.pending ∧
    (replyCharacterArrives c gap data headerMark stopBit s).run = s.run ∧
    (replyCharacterArrives c gap data headerMark stopBit s).port.noticeRead = s.port.noticeRead ∧
    (replyCharacterArrives c gap data headerMark stopBit s).port.intEnable = s.port.intEnable ∧
    (replyCharacterArrives c gap data headerMark stopBit s).port.displayLost = s.port.displayLost ∧
    (replyCharacterArrives c gap data headerMark stopBit s).port.livenessTimer = s.port.livenessTimer ∧
    (replyCharacterArrives c gap data headerMark stopBit s).port.sweepTimer = s.port.sweepTimer ∧
    (replyCharacterArrives c gap data headerMark stopBit s).port.sweepPlace = s.port.sweepPlace ∧
    (replyCharacterArrives c gap data headerMark stopBit s).port.sweepHeld = s.port.sweepHeld ∧
    (replyCharacterArrives c gap data headerMark stopBit s).port.sweepCount = s.port.sweepCount ∧
    (replyCharacterArrives c gap data headerMark stopBit s).port.writeRefused = s.port.writeRefused ∧
    (replyCharacterArrives c gap data headerMark stopBit s).port.refusedAddress = s.port.refusedAddress ∧
    (replyCharacterArrives c gap data headerMark stopBit s).outside = s.outside ∧
    (replyCharacterArrives c gap data headerMark stopBit s).setup = s.setup ∧
    (replyCharacterArrives c gap data headerMark stopBit s).sense = s.sense ∧
    (replyCharacterArrives c gap data headerMark stopBit s).shop.receiver = s.shop.receiver ∧
    (replyCharacterArrives c gap data headerMark stopBit s).shop.rate = s.shop.rate ∧
    (replyCharacterArrives c gap data headerMark stopBit s).shop.nextRate = s.shop.nextRate ∧
    (replyCharacterArrives c gap data headerMark stopBit s).shop.gapTimer = s.shop.gapTimer ∧
    (replyCharacterArrives c gap data headerMark stopBit s).shop.idleTimer = s.shop.idleTimer := by
  unfold replyCharacterArrives; (try dsimp only); repeat' (first | (simp; done) | split)

@[simp] theorem retryDue_frame (t : Transaction) (s : State) :
    (retryDue t s).pending = s.pending ∧ (retryDue t s).now = s.now ∧ (retryDue t s).run = s.run ∧
    (retryDue t s).port.noticeRead = s.port.noticeRead ∧ (retryDue t s).port.intEnable = s.port.intEnable ∧
    (retryDue t s).port.displayLost = s.port.displayLost ∧
    (retryDue t s).port.livenessTimer = s.port.livenessTimer ∧ (retryDue t s).port.sweepTimer = s.port.sweepTimer ∧
    (retryDue t s).port.sweepPlace = s.port.sweepPlace ∧ (retryDue t s).port.sweepHeld = s.port.sweepHeld ∧
    (retryDue t s).port.sweepCount = s.port.sweepCount ∧ (retryDue t s).port.writeRefused = s.port.writeRefused ∧
    (retryDue t s).port.refusedAddress = s.port.refusedAddress ∧ (retryDue t s).outside = s.outside ∧
    (retryDue t s).setup = s.setup ∧ (retryDue t s).sense = s.sense ∧
    (retryDue t s).shop.receiver = s.shop.receiver ∧ (retryDue t s).shop.rate = s.shop.rate ∧
    (retryDue t s).shop.nextRate = s.shop.nextRate ∧ (retryDue t s).shop.gapTimer = s.shop.gapTimer ∧
    (retryDue t s).shop.idleTimer = s.shop.idleTimer := by
  unfold retryDue; split <;> simp

@[simp] theorem probeDue_frame (p : Transaction) (s : State) :
    (probeDue p s).pending = s.pending ∧ (probeDue p s).now = s.now ∧ (probeDue p s).run = s.run ∧
    (probeDue p s).port.noticeRead = s.port.noticeRead ∧ (probeDue p s).port.intEnable = s.port.intEnable ∧
    (probeDue p s).port.displayLost = s.port.displayLost ∧
    (probeDue p s).port.livenessTimer = s.port.livenessTimer ∧ (probeDue p s).port.sweepTimer = s.port.sweepTimer ∧
    (probeDue p s).port.sweepPlace = s.port.sweepPlace ∧ (probeDue p s).port.sweepHeld = s.port.sweepHeld ∧
    (probeDue p s).port.sweepCount = s.port.sweepCount ∧ (probeDue p s).port.writeRefused = s.port.writeRefused ∧
    (probeDue p s).port.refusedAddress = s.port.refusedAddress ∧ (probeDue p s).mem = s.mem ∧
    (probeDue p s).outside = s.outside ∧ (probeDue p s).setup = s.setup ∧ (probeDue p s).signals = s.signals ∧
    (probeDue p s).sense = s.sense ∧ (probeDue p s).doors = s.doors ∧ (probeDue p s).warnings = s.warnings ∧
    (probeDue p s).comp = s.comp ∧ (probeDue p s).gauges = s.gauges ∧ (probeDue p s).faults = s.faults ∧
    (probeDue p s).shop = s.shop := by
  unfold probeDue; split <;> simp

@[simp] theorem turnaroundExpires_frame (s : State) :
    (turnaroundExpires s).pending = s.pending ∧ (turnaroundExpires s).run = s.run ∧
    (turnaroundExpires s).port.noticeRead = s.port.noticeRead ∧
    (turnaroundExpires s).port.intEnable = s.port.intEnable ∧
    (turnaroundExpires s).port.displayLost = s.port.displayLost ∧
    (turnaroundExpires s).port.livenessTimer = s.port.livenessTimer ∧
    (turnaroundExpires s).port.sweepTimer = s.port.sweepTimer ∧
    (turnaroundExpires s).port.sweepPlace = s.port.sweepPlace ∧
    (turnaroundExpires s).port.sweepHeld = s.port.sweepHeld ∧
    (turnaroundExpires s).port.sweepCount = s.port.sweepCount ∧
    (turnaroundExpires s).port.writeRefused = s.port.writeRefused ∧
    (turnaroundExpires s).port.refusedAddress = s.port.refusedAddress ∧ (turnaroundExpires s).outside = s.outside ∧
    (turnaroundExpires s).setup = s.setup ∧ (turnaroundExpires s).sense = s.sense ∧
    (turnaroundExpires s).shop.receiver = s.shop.receiver ∧ (turnaroundExpires s).shop.rate = s.shop.rate ∧
    (turnaroundExpires s).shop.nextRate = s.shop.nextRate ∧ (turnaroundExpires s).shop.gapTimer = s.shop.gapTimer ∧
    (turnaroundExpires s).shop.idleTimer = s.shop.idleTimer := by
  unfold turnaroundExpires; (try dsimp only); repeat' (first | (simp; done) | split)

@[simp] theorem endWaiting_frame (s : State) :
    (endWaiting s).pending = s.pending ∧ (endWaiting s).now = s.now ∧ (endWaiting s).run = s.run ∧
    (endWaiting s).port.noticeRead = s.port.noticeRead ∧ (endWaiting s).port.intEnable = s.port.intEnable ∧
    (endWaiting s).port.displayLost = s.port.displayLost ∧
    (endWaiting s).port.livenessTimer = s.port.livenessTimer ∧ (endWaiting s).port.sweepTimer = s.port.sweepTimer ∧
    (endWaiting s).port.sweepPlace = s.port.sweepPlace ∧ (endWaiting s).port.sweepHeld = s.port.sweepHeld ∧
    (endWaiting s).port.sweepCount = s.port.sweepCount ∧ (endWaiting s).port.writeRefused = s.port.writeRefused ∧
    (endWaiting s).port.refusedAddress = s.port.refusedAddress ∧ (endWaiting s).outside = s.outside ∧
    (endWaiting s).setup = s.setup ∧ (endWaiting s).sense = s.sense ∧
    (endWaiting s).shop.receiver = s.shop.receiver ∧ (endWaiting s).shop.rate = s.shop.rate ∧
    (endWaiting s).shop.nextRate = s.shop.nextRate ∧ (endWaiting s).shop.gapTimer = s.shop.gapTimer ∧
    (endWaiting s).shop.idleTimer = s.shop.idleTimer := by
  unfold endWaiting; (try dsimp only); repeat' (first | (simp; done) | split)

@[simp] theorem stopLine_frame (s : State) :
    (stopLine s).pending = s.pending ∧ (stopLine s).now = s.now ∧ (stopLine s).run = s.run ∧
    (stopLine s).port.noticeRead = s.port.noticeRead ∧ (stopLine s).port.intEnable = s.port.intEnable ∧
    (stopLine s).port.displayLost = s.port.displayLost ∧ (stopLine s).port.livenessTimer = s.port.livenessTimer ∧
    (stopLine s).port.sweepTimer = s.port.sweepTimer ∧ (stopLine s).port.sweepPlace = s.port.sweepPlace ∧
    (stopLine s).port.sweepHeld = s.port.sweepHeld ∧ (stopLine s).port.sweepCount = s.port.sweepCount ∧
    (stopLine s).port.writeRefused = s.port.writeRefused ∧
    (stopLine s).port.refusedAddress = s.port.refusedAddress ∧ (stopLine s).outside = s.outside ∧
    (stopLine s).setup = s.setup ∧ (stopLine s).sense = s.sense ∧ (stopLine s).shop.receiver = s.shop.receiver ∧
    (stopLine s).shop.rate = s.shop.rate ∧ (stopLine s).shop.nextRate = s.shop.nextRate ∧
    (stopLine s).shop.gapTimer = s.shop.gapTimer ∧ (stopLine s).shop.idleTimer = s.shop.idleTimer := by
  unfold stopLine; (try dsimp only); repeat' (first | (simp; done) | split)


end Sys2Proof.Machine
end

