-- ==== Sys2Proof/Laws/FrameShop.lean ====
section
/-! SUPPORT. Frames: what each operation of the workshop port leaves as it was. -/

namespace Sys2Proof.Machine

@[simp] theorem declined_frame (r : ShopResult) (s : State) :
    ((declined r s).2.2).pending = s.pending ∧ ((declined r s).2.2).now = s.now ∧
    ((declined r s).2.2).run = s.run ∧ ((declined r s).2.2).port = s.port ∧ ((declined r s).2.2).mem = s.mem ∧
    ((declined r s).2.2).outside = s.outside ∧ ((declined r s).2.2).setup = s.setup ∧
    ((declined r s).2.2).signals = s.signals ∧ ((declined r s).2.2).sense = s.sense ∧
    ((declined r s).2.2).line = s.line ∧ ((declined r s).2.2).doors = s.doors ∧
    ((declined r s).2.2).warnings = s.warnings ∧ ((declined r s).2.2).comp = s.comp ∧
    ((declined r s).2.2).gauges = s.gauges ∧ ((declined r s).2.2).faults = s.faults ∧
    ((declined r s).2.2).shop = s.shop := by
  simp [declined]

@[simp] theorem serveIdentify_frame (s : State) :
    ((serveIdentify s).2.2).pending = s.pending ∧ ((serveIdentify s).2.2).now = s.now ∧
    ((serveIdentify s).2.2).run = s.run ∧ ((serveIdentify s).2.2).port = s.port ∧
    ((serveIdentify s).2.2).mem = s.mem ∧ ((serveIdentify s).2.2).outside = s.outside ∧
    ((serveIdentify s).2.2).setup = s.setup ∧ ((serveIdentify s).2.2).signals = s.signals ∧
    ((serveIdentify s).2.2).sense = s.sense ∧ ((serveIdentify s).2.2).line = s.line ∧
    ((serveIdentify s).2.2).doors = s.doors ∧ ((serveIdentify s).2.2).warnings = s.warnings ∧
    ((serveIdentify s).2.2).comp = s.comp ∧ ((serveIdentify s).2.2).gauges = s.gauges ∧
    ((serveIdentify s).2.2).faults = s.faults ∧ ((serveIdentify s).2.2).shop = s.shop := by
  simp [serveIdentify]

@[simp] theorem serveReadSignals_frame (data : List Byte) (s : State) :
    ((serveReadSignals data s).2.2).pending = s.pending ∧ ((serveReadSignals data s).2.2).now = s.now ∧
    ((serveReadSignals data s).2.2).run = s.run ∧ ((serveReadSignals data s).2.2).port = s.port ∧
    ((serveReadSignals data s).2.2).mem = s.mem ∧ ((serveReadSignals data s).2.2).outside = s.outside ∧
    ((serveReadSignals data s).2.2).setup = s.setup ∧ ((serveReadSignals data s).2.2).signals = s.signals ∧
    ((serveReadSignals data s).2.2).sense = s.sense ∧ ((serveReadSignals data s).2.2).line = s.line ∧
    ((serveReadSignals data s).2.2).doors = s.doors ∧ ((serveReadSignals data s).2.2).warnings = s.warnings ∧
    ((serveReadSignals data s).2.2).comp = s.comp ∧ ((serveReadSignals data s).2.2).gauges = s.gauges ∧
    ((serveReadSignals data s).2.2).faults = s.faults ∧ ((serveReadSignals data s).2.2).shop = s.shop := by
  unfold serveReadSignals; split <;> simp

@[simp] theorem serveReadFaults_frame (data : List Byte) (s : State) :
    ((serveReadFaults data s).2.2).pending = s.pending ∧ ((serveReadFaults data s).2.2).now = s.now ∧
    ((serveReadFaults data s).2.2).run = s.run ∧ ((serveReadFaults data s).2.2).port = s.port ∧
    ((serveReadFaults data s).2.2).mem = s.mem ∧ ((serveReadFaults data s).2.2).outside = s.outside ∧
    ((serveReadFaults data s).2.2).setup = s.setup ∧ ((serveReadFaults data s).2.2).signals = s.signals ∧
    ((serveReadFaults data s).2.2).sense = s.sense ∧ ((serveReadFaults data s).2.2).line = s.line ∧
    ((serveReadFaults data s).2.2).doors = s.doors ∧ ((serveReadFaults data s).2.2).warnings = s.warnings ∧
    ((serveReadFaults data s).2.2).comp = s.comp ∧ ((serveReadFaults data s).2.2).gauges = s.gauges ∧
    ((serveReadFaults data s).2.2).faults = s.faults ∧ ((serveReadFaults data s).2.2).shop = s.shop := by
  unfold serveReadFaults; split <;> simp

@[simp] theorem serveReadFaultSnapshot_frame (data : List Byte) (s : State) :
    ((serveReadFaultSnapshot data s).2.2).pending = s.pending ∧ ((serveReadFaultSnapshot data s).2.2).now = s.now ∧
    ((serveReadFaultSnapshot data s).2.2).run = s.run ∧ ((serveReadFaultSnapshot data s).2.2).port = s.port ∧
    ((serveReadFaultSnapshot data s).2.2).mem = s.mem ∧ ((serveReadFaultSnapshot data s).2.2).outside = s.outside ∧
    ((serveReadFaultSnapshot data s).2.2).setup = s.setup ∧
    ((serveReadFaultSnapshot data s).2.2).signals = s.signals ∧
    ((serveReadFaultSnapshot data s).2.2).sense = s.sense ∧ ((serveReadFaultSnapshot data s).2.2).line = s.line ∧
    ((serveReadFaultSnapshot data s).2.2).doors = s.doors ∧
    ((serveReadFaultSnapshot data s).2.2).warnings = s.warnings ∧
    ((serveReadFaultSnapshot data s).2.2).comp = s.comp ∧ ((serveReadFaultSnapshot data s).2.2).gauges = s.gauges ∧
    ((serveReadFaultSnapshot data s).2.2).faults = s.faults ∧ ((serveReadFaultSnapshot data s).2.2).shop = s.shop := by
  unfold serveReadFaultSnapshot; split <;> simp

@[simp] theorem serveReadDoorCounters_frame (s : State) :
    ((serveReadDoorCounters s).2.2).pending = s.pending ∧ ((serveReadDoorCounters s).2.2).now = s.now ∧
    ((serveReadDoorCounters s).2.2).run = s.run ∧ ((serveReadDoorCounters s).2.2).port = s.port ∧
    ((serveReadDoorCounters s).2.2).mem = s.mem ∧ ((serveReadDoorCounters s).2.2).outside = s.outside ∧
    ((serveReadDoorCounters s).2.2).setup = s.setup ∧ ((serveReadDoorCounters s).2.2).signals = s.signals ∧
    ((serveReadDoorCounters s).2.2).sense = s.sense ∧ ((serveReadDoorCounters s).2.2).line = s.line ∧
    ((serveReadDoorCounters s).2.2).doors = s.doors ∧ ((serveReadDoorCounters s).2.2).warnings = s.warnings ∧
    ((serveReadDoorCounters s).2.2).comp = s.comp ∧ ((serveReadDoorCounters s).2.2).gauges = s.gauges ∧
    ((serveReadDoorCounters s).2.2).faults = s.faults ∧ ((serveReadDoorCounters s).2.2).shop = s.shop := by
  simp [serveReadDoorCounters]

@[simp] theorem serveReadLog_frame (data : List Byte) (s : State) :
    ((serveReadLog data s).2.2).pending = s.pending ∧ ((serveReadLog data s).2.2).now = s.now ∧
    ((serveReadLog data s).2.2).run = s.run ∧ ((serveReadLog data s).2.2).port = s.port ∧
    ((serveReadLog data s).2.2).mem = s.mem ∧ ((serveReadLog data s).2.2).outside = s.outside ∧
    ((serveReadLog data s).2.2).setup = s.setup ∧ ((serveReadLog data s).2.2).signals = s.signals ∧
    ((serveReadLog data s).2.2).sense = s.sense ∧ ((serveReadLog data s).2.2).line = s.line ∧
    ((serveReadLog data s).2.2).doors = s.doors ∧ ((serveReadLog data s).2.2).warnings = s.warnings ∧
    ((serveReadLog data s).2.2).comp = s.comp ∧ ((serveReadLog data s).2.2).gauges = s.gauges ∧
    ((serveReadLog data s).2.2).faults = s.faults ∧ ((serveReadLog data s).2.2).shop = s.shop := by
  unfold serveReadLog; split <;> simp

@[simp] theorem raiseSession_frame (level : Session) (s : State) :
    (raiseSession level s).pending = s.pending ∧ (raiseSession level s).now = s.now ∧
    (raiseSession level s).run = s.run ∧ (raiseSession level s).port.noticeRead = s.port.noticeRead ∧
    (raiseSession level s).port.intEnable = s.port.intEnable ∧
    (raiseSession level s).port.displayLost = s.port.displayLost ∧
    (raiseSession level s).port.livenessTimer = s.port.livenessTimer ∧
    (raiseSession level s).port.sweepTimer = s.port.sweepTimer ∧
    (raiseSession level s).port.sweepPlace = s.port.sweepPlace ∧
    (raiseSession level s).port.sweepHeld = s.port.sweepHeld ∧
    (raiseSession level s).port.sweepCount = s.port.sweepCount ∧
    (raiseSession level s).port.writeRefused = s.port.writeRefused ∧
    (raiseSession level s).port.refusedAddress = s.port.refusedAddress ∧ (raiseSession level s).mem = s.mem ∧
    (raiseSession level s).outside = s.outside ∧ (raiseSession level s).setup = s.setup ∧
    (raiseSession level s).signals = s.signals ∧ (raiseSession level s).sense = s.sense ∧
    (raiseSession level s).line = s.line ∧ (raiseSession level s).doors = s.doors ∧
    (raiseSession level s).warnings = s.warnings ∧ (raiseSession level s).comp = s.comp ∧
    (raiseSession level s).gauges = s.gauges ∧ (raiseSession level s).faults = s.faults ∧
    (raiseSession level s).shop.forced = s.shop.forced ∧ (raiseSession level s).shop.receiver = s.shop.receiver ∧
    (raiseSession level s).shop.rate = s.shop.rate ∧ (raiseSession level s).shop.nextRate = s.shop.nextRate ∧
    (raiseSession level s).shop.gapTimer = s.shop.gapTimer ∧
    (raiseSession level s).shop.idleTimer = s.shop.idleTimer := by
  simp [raiseSession]

@[simp] theorem grantSession_frame (level : Session) (s : State) :
    (grantSession level s).pending = s.pending ∧ (grantSession level s).now = s.now ∧
    (grantSession level s).run = s.run ∧ (grantSession level s).port.noticeRead = s.port.noticeRead ∧
    (grantSession level s).port.intEnable = s.port.intEnable ∧
    (grantSession level s).port.displayLost = s.port.displayLost ∧
    (grantSession level s).port.livenessTimer = s.port.livenessTimer ∧
    (grantSession level s).port.sweepTimer = s.port.sweepTimer ∧
    (grantSession level s).port.sweepPlace = s.port.sweepPlace ∧
    (grantSession level s).port.sweepHeld = s.port.sweepHeld ∧
    (grantSession level s).port.sweepCount = s.port.sweepCount ∧
    (grantSession level s).port.writeRefused = s.port.writeRefused ∧
    (grantSession level s).port.refusedAddress = s.port.refusedAddress ∧
    (grantSession level s).outside = s.outside ∧ (grantSession level s).setup = s.setup ∧
    (grantSession level s).sense = s.sense ∧ (grantSession level s).line = s.line ∧
    (grantSession level s).shop.receiver = s.shop.receiver ∧ (grantSession level s).shop.rate = s.shop.rate ∧
    (grantSession level s).shop.nextRate = s.shop.nextRate ∧
    (grantSession level s).shop.gapTimer = s.shop.gapTimer ∧
    (grantSession level s).shop.idleTimer = s.shop.idleTimer := by
  unfold grantSession; (try dsimp only); repeat' (first | (simp; done) | split)

@[simp] theorem sessionGranted_frame (rate : LineRate) (s : State) :
    (sessionGranted rate s).pending = s.pending ∧ (sessionGranted rate s).now = s.now ∧
    (sessionGranted rate s).run = s.run ∧ (sessionGranted rate s).port = s.port ∧
    (sessionGranted rate s).mem = s.mem ∧ (sessionGranted rate s).outside = s.outside ∧
    (sessionGranted rate s).setup = s.setup ∧ (sessionGranted rate s).signals = s.signals ∧
    (sessionGranted rate s).sense = s.sense ∧ (sessionGranted rate s).line = s.line ∧
    (sessionGranted rate s).doors = s.doors ∧ (sessionGranted rate s).warnings = s.warnings ∧
    (sessionGranted rate s).comp = s.comp ∧ (sessionGranted rate s).gauges = s.gauges ∧
    (sessionGranted rate s).faults = s.faults ∧ (sessionGranted rate s).shop.session = s.shop.session ∧
    (sessionGranted rate s).shop.forced = s.shop.forced ∧ (sessionGranted rate s).shop.receiver = s.shop.receiver ∧
    (sessionGranted rate s).shop.rate = s.shop.rate ∧ (sessionGranted rate s).shop.gapTimer = s.shop.gapTimer := by
  simp [sessionGranted]

@[simp] theorem serveOpenSession_frame (data : List Byte) (s : State) :
    ((serveOpenSession data s).2.2).pending = s.pending ∧ ((serveOpenSession data s).2.2).now = s.now ∧
    ((serveOpenSession data s).2.2).run = s.run ∧
    ((serveOpenSession data s).2.2).port.noticeRead = s.port.noticeRead ∧
    ((serveOpenSession data s).2.2).port.intEnable = s.port.intEnable ∧
    ((serveOpenSession data s).2.2).port.displayLost = s.port.displayLost ∧
    ((serveOpenSession data s).2.2).port.livenessTimer = s.port.livenessTimer ∧
    ((serveOpenSession data s).2.2).port.sweepTimer = s.port.sweepTimer ∧
    ((serveOpenSession data s).2.2).port.sweepPlace = s.port.sweepPlace ∧
    ((serveOpenSession data s).2.2).port.sweepHeld = s.port.sweepHeld ∧
    ((serveOpenSession data s).2.2).port.sweepCount = s.port.sweepCount ∧
    ((serveOpenSession data s).2.2).port.writeRefused = s.port.writeRefused ∧
    ((serveOpenSession data s).2.2).port.refusedAddress = s.port.refusedAddress ∧
    ((serveOpenSession data s).2.2).outside = s.outside ∧ ((serveOpenSession data s).2.2).setup = s.setup ∧
    ((serveOpenSession data s).2.2).sense = s.sense ∧ ((serveOpenSession data s).2.2).line = s.line ∧
    ((serveOpenSession data s).2.2).shop.receiver = s.shop.receiver ∧
    ((serveOpenSession data s).2.2).shop.rate = s.shop.rate ∧
    ((serveOpenSession data s).2.2).shop.gapTimer = s.shop.gapTimer := by
  unfold serveOpenSession; (try dsimp only); repeat' (first | (simp; done) | split)

@[simp] theorem serveCloseSession_frame (s : State) :
    ((serveCloseSession s).2.2).pending = s.pending ∧ ((serveCloseSession s).2.2).now = s.now ∧
    ((serveCloseSession s).2.2).run = s.run ∧ ((serveCloseSession s).2.2).port.noticeRead = s.port.noticeRead ∧
    ((serveCloseSession s).2.2).port.intEnable = s.port.intEnable ∧
    ((serveCloseSession s).2.2).port.displayLost = s.port.displayLost ∧
    ((serveCloseSession s).2.2).port.livenessTimer = s.port.livenessTimer ∧
    ((serveCloseSession s).2.2).port.sweepTimer = s.port.sweepTimer ∧
    ((serveCloseSession s).2.2).port.sweepPlace = s.port.sweepPlace ∧
    ((serveCloseSession s).2.2).port.sweepHeld = s.port.sweepHeld ∧
    ((serveCloseSession s).2.2).port.sweepCount = s.port.sweepCount ∧
    ((serveCloseSession s).2.2).port.writeRefused = s.port.writeRefused ∧
    ((serveCloseSession s).2.2).port.refusedAddress = s.port.refusedAddress ∧
    ((serveCloseSession s).2.2).outside = s.outside ∧ ((serveCloseSession s).2.2).setup = s.setup ∧
    ((serveCloseSession s).2.2).sense = s.sense ∧ ((serveCloseSession s).2.2).line = s.line ∧
    ((serveCloseSession s).2.2).shop.receiver = s.shop.receiver ∧
    ((serveCloseSession s).2.2).shop.gapTimer = s.shop.gapTimer := by
  simp [serveCloseSession]

@[simp] theorem forceAccepted_frame (n : Nat) (w : Word) (s : State) :
    (forceAccepted n w s).pending = s.pending ∧ (forceAccepted n w s).now = s.now ∧
    (forceAccepted n w s).run = s.run ∧ (forceAccepted n w s).port.noticeRead = s.port.noticeRead ∧
    (forceAccepted n w s).port.intEnable = s.port.intEnable ∧
    (forceAccepted n w s).port.displayLost = s.port.displayLost ∧
    (forceAccepted n w s).port.livenessTimer = s.port.livenessTimer ∧
    (forceAccepted n w s).port.sweepTimer = s.port.sweepTimer ∧
    (forceAccepted n w s).port.sweepPlace = s.port.sweepPlace ∧
    (forceAccepted n w s).port.sweepHeld = s.port.sweepHeld ∧
    (forceAccepted n w s).port.sweepCount = s.port.sweepCount ∧
    (forceAccepted n w s).port.writeRefused = s.port.writeRefused ∧
    (forceAccepted n w s).port.refusedAddress = s.port.refusedAddress ∧ (forceAccepted n w s).outside = s.outside ∧
    (forceAccepted n w s).setup = s.setup ∧ (forceAccepted n w s).sense = s.sense ∧
    (forceAccepted n w s).line = s.line ∧ (forceAccepted n w s).shop.receiver = s.shop.receiver ∧
    (forceAccepted n w s).shop.rate = s.shop.rate ∧ (forceAccepted n w s).shop.nextRate = s.shop.nextRate ∧
    (forceAccepted n w s).shop.gapTimer = s.shop.gapTimer ∧ (forceAccepted n w s).shop.idleTimer = s.shop.idleTimer := by
  simp [forceAccepted]

@[simp] theorem serveForceSignal_frame (data : List Byte) (s : State) :
    ((serveForceSignal data s).2.2).pending = s.pending ∧ ((serveForceSignal data s).2.2).now = s.now ∧
    ((serveForceSignal data s).2.2).run = s.run ∧
    ((serveForceSignal data s).2.2).port.noticeRead = s.port.noticeRead ∧
    ((serveForceSignal data s).2.2).port.intEnable = s.port.intEnable ∧
    ((serveForceSignal data s).2.2).port.displayLost = s.port.displayLost ∧
    ((serveForceSignal data s).2.2).port.livenessTimer = s.port.livenessTimer ∧
    ((serveForceSignal data s).2.2).port.sweepTimer = s.port.sweepTimer ∧
    ((serveForceSignal data s).2.2).port.sweepPlace = s.port.sweepPlace ∧
    ((serveForceSignal data s).2.2).port.sweepHeld = s.port.sweepHeld ∧
    ((serveForceSignal data s).2.2).port.sweepCount = s.port.sweepCount ∧
    ((serveForceSignal data s).2.2).port.writeRefused = s.port.writeRefused ∧
    ((serveForceSignal data s).2.2).port.refusedAddress = s.port.refusedAddress ∧
    ((serveForceSignal data s).2.2).outside = s.outside ∧ ((serveForceSignal data s).2.2).setup = s.setup ∧
    ((serveForceSignal data s).2.2).sense = s.sense ∧ ((serveForceSignal data s).2.2).line = s.line ∧
    ((serveForceSignal data s).2.2).shop.receiver = s.shop.receiver ∧
    ((serveForceSignal data s).2.2).shop.rate = s.shop.rate ∧
    ((serveForceSignal data s).2.2).shop.nextRate = s.shop.nextRate ∧
    ((serveForceSignal data s).2.2).shop.gapTimer = s.shop.gapTimer ∧
    ((serveForceSignal data s).2.2).shop.idleTimer = s.shop.idleTimer := by
  unfold serveForceSignal; (try dsimp only); repeat' (first | (simp; done) | split)

@[simp] theorem releaseForces_frame (gone : List Nat) (s : State) :
    (releaseForces gone s).pending = s.pending ∧ (releaseForces gone s).now = s.now ∧
    (releaseForces gone s).run = s.run ∧ (releaseForces gone s).port.noticeRead = s.port.noticeRead ∧
    (releaseForces gone s).port.intEnable = s.port.intEnable ∧
    (releaseForces gone s).port.displayLost = s.port.displayLost ∧
    (releaseForces gone s).port.livenessTimer = s.port.livenessTimer ∧
    (releaseForces gone s).port.sweepTimer = s.port.sweepTimer ∧
    (releaseForces gone s).port.sweepPlace = s.port.sweepPlace ∧
    (releaseForces gone s).port.sweepHeld = s.port.sweepHeld ∧
    (releaseForces gone s).port.sweepCount = s.port.sweepCount ∧
    (releaseForces gone s).port.writeRefused = s.port.writeRefused ∧
    (releaseForces gone s).port.refusedAddress = s.port.refusedAddress ∧
    (releaseForces gone s).outside = s.outside ∧ (releaseForces gone s).setup = s.setup ∧
    (releaseForces gone s).sense = s.sense ∧ (releaseForces gone s).line = s.line ∧
    (releaseForces gone s).shop.receiver = s.shop.receiver ∧ (releaseForces gone s).shop.rate = s.shop.rate ∧
    (releaseForces gone s).shop.nextRate = s.shop.nextRate ∧
    (releaseForces gone s).shop.gapTimer = s.shop.gapTimer ∧
    (releaseForces gone s).shop.idleTimer = s.shop.idleTimer := by
  simp [releaseForces]

@[simp] theorem serveReleaseSignal_frame (data : List Byte) (s : State) :
    ((serveReleaseSignal data s).2.2).pending = s.pending ∧ ((serveReleaseSignal data s).2.2).now = s.now ∧
    ((serveReleaseSignal data s).2.2).run = s.run ∧
    ((serveReleaseSignal data s).2.2).port.noticeRead = s.port.noticeRead ∧
    ((serveReleaseSignal data s).2.2).port.intEnable = s.port.intEnable ∧
    ((serveReleaseSignal data s).2.2).port.displayLost = s.port.displayLost ∧
    ((serveReleaseSignal data s).2.2).port.livenessTimer = s.port.livenessTimer ∧
    ((serveReleaseSignal data s).2.2).port.sweepTimer = s.port.sweepTimer ∧
    ((serveReleaseSignal data s).2.2).port.sweepPlace = s.port.sweepPlace ∧
    ((serveReleaseSignal data s).2.2).port.sweepHeld = s.port.sweepHeld ∧
    ((serveReleaseSignal data s).2.2).port.sweepCount = s.port.sweepCount ∧
    ((serveReleaseSignal data s).2.2).port.writeRefused = s.port.writeRefused ∧
    ((serveReleaseSignal data s).2.2).port.refusedAddress = s.port.refusedAddress ∧
    ((serveReleaseSignal data s).2.2).outside = s.outside ∧ ((serveReleaseSignal data s).2.2).setup = s.setup ∧
    ((serveReleaseSignal data s).2.2).sense = s.sense ∧ ((serveReleaseSignal data s).2.2).line = s.line ∧
    ((serveReleaseSignal data s).2.2).shop.receiver = s.shop.receiver ∧
    ((serveReleaseSignal data s).2.2).shop.rate = s.shop.rate ∧
    ((serveReleaseSignal data s).2.2).shop.nextRate = s.shop.nextRate ∧
    ((serveReleaseSignal data s).2.2).shop.gapTimer = s.shop.gapTimer ∧
    ((serveReleaseSignal data s).2.2).shop.idleTimer = s.shop.idleTimer := by
  unfold serveReleaseSignal; (try dsimp only); repeat' (first | (simp; done) | split)

@[simp] theorem serveClearFaults_frame (data : List Byte) (s : State) :
    ((serveClearFaults data s).2.2).pending = s.pending ∧ ((serveClearFaults data s).2.2).now = s.now ∧
    ((serveClearFaults data s).2.2).run = s.run ∧
    ((serveClearFaults data s).2.2).port.noticeRead = s.port.noticeRead ∧
    ((serveClearFaults data s).2.2).port.intEnable = s.port.intEnable ∧
    ((serveClearFaults data s).2.2).port.displayLost = s.port.displayLost ∧
    ((serveClearFaults data s).2.2).port.livenessTimer = s.port.livenessTimer ∧
    ((serveClearFaults data s).2.2).port.sweepTimer = s.port.sweepTimer ∧
    ((serveClearFaults data s).2.2).port.sweepPlace = s.port.sweepPlace ∧
    ((serveClearFaults data s).2.2).port.sweepHeld = s.port.sweepHeld ∧
    ((serveClearFaults data s).2.2).port.sweepCount = s.port.sweepCount ∧
    ((serveClearFaults data s).2.2).port.writeRefused = s.port.writeRefused ∧
    ((serveClearFaults data s).2.2).port.refusedAddress = s.port.refusedAddress ∧
    ((serveClearFaults data s).2.2).mem = s.mem ∧ ((serveClearFaults data s).2.2).outside = s.outside ∧
    ((serveClearFaults data s).2.2).setup = s.setup ∧ ((serveClearFaults data s).2.2).signals = s.signals ∧
    ((serveClearFaults data s).2.2).sense = s.sense ∧ ((serveClearFaults data s).2.2).line = s.line ∧
    ((serveClearFaults data s).2.2).doors = s.doors ∧ ((serveClearFaults data s).2.2).warnings = s.warnings ∧
    ((serveClearFaults data s).2.2).comp = s.comp ∧ ((serveClearFaults data s).2.2).gauges = s.gauges ∧
    ((serveClearFaults data s).2.2).shop = s.shop := by
  unfold serveClearFaults; (try dsimp only); repeat' (first | (simp; done) | split)

@[simp] theorem serveResetDoorCounter_frame (data : List Byte) (s : State) :
    ((serveResetDoorCounter data s).2.2).pending = s.pending ∧ ((serveResetDoorCounter data s).2.2).now = s.now ∧
    ((serveResetDoorCounter data s).2.2).run = s.run ∧ ((serveResetDoorCounter data s).2.2).port = s.port ∧
    ((serveResetDoorCounter data s).2.2).mem = s.mem ∧ ((serveResetDoorCounter data s).2.2).outside = s.outside ∧
    ((serveResetDoorCounter data s).2.2).setup = s.setup ∧
    ((serveResetDoorCounter data s).2.2).signals = s.signals ∧
    ((serveResetDoorCounter data s).2.2).sense = s.sense ∧ ((serveResetDoorCounter data s).2.2).line = s.line ∧
    ((serveResetDoorCounter data s).2.2).doors.motion = s.doors.motion ∧
    ((serveResetDoorCounter data s).2.2).doors.interlock = s.doors.interlock ∧
    ((serveResetDoorCounter data s).2.2).doors.releaseDelay = s.doors.releaseDelay ∧
    ((serveResetDoorCounter data s).2.2).warnings = s.warnings ∧
    ((serveResetDoorCounter data s).2.2).comp = s.comp ∧ ((serveResetDoorCounter data s).2.2).gauges = s.gauges ∧
    ((serveResetDoorCounter data s).2.2).faults = s.faults ∧ ((serveResetDoorCounter data s).2.2).shop = s.shop := by
  unfold serveResetDoorCounter; split <;> simp

@[simp] theorem startWorkshopSweep_frame (set : BitVec 8) (s : State) :
    (startWorkshopSweep set s).pending = s.pending ∧ (startWorkshopSweep set s).now = s.now ∧
    (startWorkshopSweep set s).run = s.run ∧ (startWorkshopSweep set s).port = s.port ∧
    (startWorkshopSweep set s).mem = s.mem ∧ (startWorkshopSweep set s).outside = s.outside ∧
    (startWorkshopSweep set s).setup = s.setup ∧ (startWorkshopSweep set s).signals = s.signals ∧
    (startWorkshopSweep set s).sense = s.sense ∧ (startWorkshopSweep set s).line = s.line ∧
    (startWorkshopSweep set s).doors = s.doors ∧ (startWorkshopSweep set s).warnings = s.warnings ∧
    (startWorkshopSweep set s).comp = s.comp ∧ (startWorkshopSweep set s).faults = s.faults ∧
    (startWorkshopSweep set s).shop.session = s.shop.session ∧
    (startWorkshopSweep set s).shop.forced = s.shop.forced ∧
    (startWorkshopSweep set s).shop.receiver = s.shop.receiver ∧
    (startWorkshopSweep set s).shop.rate = s.shop.rate ∧
    (startWorkshopSweep set s).shop.nextRate = s.shop.nextRate ∧
    (startWorkshopSweep set s).shop.gapTimer = s.shop.gapTimer ∧
    (startWorkshopSweep set s).shop.idleTimer = s.shop.idleTimer := by
  simp [startWorkshopSweep]

@[simp] theorem serveGaugeSweep_frame (set : BitVec 8) (s : State) :
    ((serveGaugeSweep set s).2.2).pending = s.pending ∧ ((serveGaugeSweep set s).2.2).now = s.now ∧
    ((serveGaugeSweep set s).2.2).run = s.run ∧ ((serveGaugeSweep set s).2.2).port = s.port ∧
    ((serveGaugeSweep set s).2.2).mem = s.mem ∧ ((serveGaugeSweep set s).2.2).outside = s.outside ∧
    ((serveGaugeSweep set s).2.2).setup = s.setup ∧ ((serveGaugeSweep set s).2.2).signals = s.signals ∧
    ((serveGaugeSweep set s).2.2).sense = s.sense ∧ ((serveGaugeSweep set s).2.2).line = s.line ∧
    ((serveGaugeSweep set s).2.2).doors = s.doors ∧ ((serveGaugeSweep set s).2.2).warnings = s.warnings ∧
    ((serveGaugeSweep set s).2.2).comp = s.comp ∧ ((serveGaugeSweep set s).2.2).faults = s.faults ∧
    ((serveGaugeSweep set s).2.2).shop.session = s.shop.session ∧
    ((serveGaugeSweep set s).2.2).shop.forced = s.shop.forced ∧
    ((serveGaugeSweep set s).2.2).shop.receiver = s.shop.receiver ∧
    ((serveGaugeSweep set s).2.2).shop.rate = s.shop.rate ∧
    ((serveGaugeSweep set s).2.2).shop.nextRate = s.shop.nextRate ∧
    ((serveGaugeSweep set s).2.2).shop.gapTimer = s.shop.gapTimer ∧
    ((serveGaugeSweep set s).2.2).shop.idleTimer = s.shop.idleTimer := by
  unfold serveGaugeSweep; (try dsimp only); repeat' (first | (simp; done) | split)

@[simp] theorem startWorkshopCheck_frame (s : State) :
    (startWorkshopCheck s).pending = s.pending ∧ (startWorkshopCheck s).now = s.now ∧
    (startWorkshopCheck s).run = s.run ∧ (startWorkshopCheck s).port.noticeRead = s.port.noticeRead ∧
    (startWorkshopCheck s).port.intEnable = s.port.intEnable ∧
    (startWorkshopCheck s).port.displayLost = s.port.displayLost ∧
    (startWorkshopCheck s).port.livenessTimer = s.port.livenessTimer ∧
    (startWorkshopCheck s).port.sweepTimer = s.port.sweepTimer ∧
    (startWorkshopCheck s).port.sweepPlace = s.port.sweepPlace ∧
    (startWorkshopCheck s).port.sweepHeld = s.port.sweepHeld ∧
    (startWorkshopCheck s).port.sweepCount = s.port.sweepCount ∧
    (startWorkshopCheck s).port.writeRefused = s.port.writeRefused ∧
    (startWorkshopCheck s).port.refusedAddress = s.port.refusedAddress ∧ (startWorkshopCheck s).mem = s.mem ∧
    (startWorkshopCheck s).outside = s.outside ∧ (startWorkshopCheck s).setup = s.setup ∧
    (startWorkshopCheck s).signals = s.signals ∧ (startWorkshopCheck s).sense = s.sense ∧
    (startWorkshopCheck s).line = s.line ∧ (startWorkshopCheck s).doors = s.doors ∧
    (startWorkshopCheck s).gauges = s.gauges ∧ (startWorkshopCheck s).shop.session = s.shop.session ∧
    (startWorkshopCheck s).shop.forced = s.shop.forced ∧ (startWorkshopCheck s).shop.receiver = s.shop.receiver ∧
    (startWorkshopCheck s).shop.rate = s.shop.rate ∧ (startWorkshopCheck s).shop.nextRate = s.shop.nextRate ∧
    (startWorkshopCheck s).shop.gapTimer = s.shop.gapTimer ∧
    (startWorkshopCheck s).shop.idleTimer = s.shop.idleTimer := by
  simp [startWorkshopCheck]

@[simp] theorem serveLampCheck_frame (s : State) :
    ((serveLampCheck s).2.2).pending = s.pending ∧ ((serveLampCheck s).2.2).now = s.now ∧
    ((serveLampCheck s).2.2).run = s.run ∧ ((serveLampCheck s).2.2).port.noticeRead = s.port.noticeRead ∧
    ((serveLampCheck s).2.2).port.intEnable = s.port.intEnable ∧
    ((serveLampCheck s).2.2).port.displayLost = s.port.displayLost ∧
    ((serveLampCheck s).2.2).port.livenessTimer = s.port.livenessTimer ∧
    ((serveLampCheck s).2.2).port.sweepTimer = s.port.sweepTimer ∧
    ((serveLampCheck s).2.2).port.sweepPlace = s.port.sweepPlace ∧
    ((serveLampCheck s).2.2).port.sweepHeld = s.port.sweepHeld ∧
    ((serveLampCheck s).2.2).port.sweepCount = s.port.sweepCount ∧
    ((serveLampCheck s).2.2).port.writeRefused = s.port.writeRefused ∧
    ((serveLampCheck s).2.2).port.refusedAddress = s.port.refusedAddress ∧ ((serveLampCheck s).2.2).mem = s.mem ∧
    ((serveLampCheck s).2.2).outside = s.outside ∧ ((serveLampCheck s).2.2).setup = s.setup ∧
    ((serveLampCheck s).2.2).signals = s.signals ∧ ((serveLampCheck s).2.2).sense = s.sense ∧
    ((serveLampCheck s).2.2).line = s.line ∧ ((serveLampCheck s).2.2).doors = s.doors ∧
    ((serveLampCheck s).2.2).gauges = s.gauges ∧ ((serveLampCheck s).2.2).shop.session = s.shop.session ∧
    ((serveLampCheck s).2.2).shop.forced = s.shop.forced ∧
    ((serveLampCheck s).2.2).shop.receiver = s.shop.receiver ∧ ((serveLampCheck s).2.2).shop.rate = s.shop.rate ∧
    ((serveLampCheck s).2.2).shop.nextRate = s.shop.nextRate ∧
    ((serveLampCheck s).2.2).shop.gapTimer = s.shop.gapTimer ∧
    ((serveLampCheck s).2.2).shop.idleTimer = s.shop.idleTimer := by
  unfold serveLampCheck; (try dsimp only); repeat' (first | (simp; done) | split)

@[simp] theorem serveActuatorTest_frame (data : List Byte) (s : State) :
    ((serveActuatorTest data s).2.2).pending = s.pending ∧ ((serveActuatorTest data s).2.2).now = s.now ∧
    ((serveActuatorTest data s).2.2).run = s.run ∧
    ((serveActuatorTest data s).2.2).port.noticeRead = s.port.noticeRead ∧
    ((serveActuatorTest data s).2.2).port.intEnable = s.port.intEnable ∧
    ((serveActuatorTest data s).2.2).port.displayLost = s.port.displayLost ∧
    ((serveActuatorTest data s).2.2).port.livenessTimer = s.port.livenessTimer ∧
    ((serveActuatorTest data s).2.2).port.sweepTimer = s.port.sweepTimer ∧
    ((serveActuatorTest data s).2.2).port.sweepPlace = s.port.sweepPlace ∧
    ((serveActuatorTest data s).2.2).port.sweepHeld = s.port.sweepHeld ∧
    ((serveActuatorTest data s).2.2).port.sweepCount = s.port.sweepCount ∧
    ((serveActuatorTest data s).2.2).port.writeRefused = s.port.writeRefused ∧
    ((serveActuatorTest data s).2.2).port.refusedAddress = s.port.refusedAddress ∧
    ((serveActuatorTest data s).2.2).mem = s.mem ∧ ((serveActuatorTest data s).2.2).outside = s.outside ∧
    ((serveActuatorTest data s).2.2).setup = s.setup ∧ ((serveActuatorTest data s).2.2).signals = s.signals ∧
    ((serveActuatorTest data s).2.2).sense = s.sense ∧ ((serveActuatorTest data s).2.2).line = s.line ∧
    ((serveActuatorTest data s).2.2).doors = s.doors ∧
    ((serveActuatorTest data s).2.2).shop.session = s.shop.session ∧
    ((serveActuatorTest data s).2.2).shop.forced = s.shop.forced ∧
    ((serveActuatorTest data s).2.2).shop.receiver = s.shop.receiver ∧
    ((serveActuatorTest data s).2.2).shop.rate = s.shop.rate ∧
    ((serveActuatorTest data s).2.2).shop.nextRate = s.shop.nextRate ∧
    ((serveActuatorTest data s).2.2).shop.gapTimer = s.shop.gapTimer ∧
    ((serveActuatorTest data s).2.2).shop.idleTimer = s.shop.idleTimer := by
  unfold serveActuatorTest; split <;> simp

@[simp] theorem Service.serve_frame (v : Service) (data : List Byte) (s : State) :
    ((Service.serve v data s).2.2).pending = s.pending ∧ ((Service.serve v data s).2.2).now = s.now ∧
    ((Service.serve v data s).2.2).run = s.run ∧
    ((Service.serve v data s).2.2).port.noticeRead = s.port.noticeRead ∧
    ((Service.serve v data s).2.2).port.intEnable = s.port.intEnable ∧
    ((Service.serve v data s).2.2).port.displayLost = s.port.displayLost ∧
    ((Service.serve v data s).2.2).port.livenessTimer = s.port.livenessTimer ∧
    ((Service.serve v data s).2.2).port.sweepTimer = s.port.sweepTimer ∧
    ((Service.serve v data s).2.2).port.sweepPlace = s.port.sweepPlace ∧
    ((Service.serve v data s).2.2).port.sweepHeld = s.port.sweepHeld ∧
    ((Service.serve v data s).2.2).port.sweepCount = s.port.sweepCount ∧
    ((Service.serve v data s).2.2).port.writeRefused = s.port.writeRefused ∧
    ((Service.serve v data s).2.2).port.refusedAddress = s.port.refusedAddress ∧
    ((Service.serve v data s).2.2).outside = s.outside ∧ ((Service.serve v data s).2.2).setup = s.setup ∧
    ((Service.serve v data s).2.2).sense = s.sense ∧ ((Service.serve v data s).2.2).line = s.line ∧
    ((Service.serve v data s).2.2).shop.receiver = s.shop.receiver ∧
    ((Service.serve v data s).2.2).shop.gapTimer = s.shop.gapTimer := by
  unfold Service.serve; split <;> simp

@[simp] theorem serveRequest_frame (code : Byte) (data : List Byte) (s : State) :
    ((serveRequest code data s).2.2).pending = s.pending ∧ ((serveRequest code data s).2.2).now = s.now ∧
    ((serveRequest code data s).2.2).run = s.run ∧
    ((serveRequest code data s).2.2).port.noticeRead = s.port.noticeRead ∧
    ((serveRequest code data s).2.2).port.intEnable = s.port.intEnable ∧
    ((serveRequest code data s).2.2).port.displayLost = s.port.displayLost ∧
    ((serveRequest code data s).2.2).port.livenessTimer = s.port.livenessTimer ∧
    ((serveRequest code data s).2.2).port.sweepTimer = s.port.sweepTimer ∧
    ((serveRequest code data s).2.2).port.sweepPlace = s.port.sweepPlace ∧
    ((serveRequest code data s).2.2).port.sweepHeld = s.port.sweepHeld ∧
    ((serveRequest code data s).2.2).port.sweepCount = s.port.sweepCount ∧
    ((serveRequest code data s).2.2).port.writeRefused = s.port.writeRefused ∧
    ((serveRequest code data s).2.2).port.refusedAddress = s.port.refusedAddress ∧
    ((serveRequest code data s).2.2).outside = s.outside ∧ ((serveRequest code data s).2.2).setup = s.setup ∧
    ((serveRequest code data s).2.2).sense = s.sense ∧ ((serveRequest code data s).2.2).line = s.line ∧
    ((serveRequest code data s).2.2).shop.receiver = s.shop.receiver ∧
    ((serveRequest code data s).2.2).shop.gapTimer = s.shop.gapTimer := by
  unfold serveRequest; (try dsimp only); repeat' (first | (simp; done) | split)

@[simp] theorem restartIdle_frame (s : State) :
    (restartIdle s).pending = s.pending ∧ (restartIdle s).now = s.now ∧ (restartIdle s).run = s.run ∧
    (restartIdle s).port = s.port ∧ (restartIdle s).mem = s.mem ∧ (restartIdle s).outside = s.outside ∧
    (restartIdle s).setup = s.setup ∧ (restartIdle s).signals = s.signals ∧ (restartIdle s).sense = s.sense ∧
    (restartIdle s).line = s.line ∧ (restartIdle s).doors = s.doors ∧ (restartIdle s).warnings = s.warnings ∧
    (restartIdle s).comp = s.comp ∧ (restartIdle s).gauges = s.gauges ∧ (restartIdle s).faults = s.faults ∧
    (restartIdle s).shop.session = s.shop.session ∧ (restartIdle s).shop.forced = s.shop.forced ∧
    (restartIdle s).shop.receiver = s.shop.receiver ∧ (restartIdle s).shop.rate = s.shop.rate ∧
    (restartIdle s).shop.nextRate = s.shop.nextRate ∧ (restartIdle s).shop.gapTimer = s.shop.gapTimer := by
  simp [restartIdle]

@[simp] theorem takeRequest_frame (code tag : Byte) (data : List Byte) (s : State) :
    (takeRequest code tag data s).pending = s.pending ∧ (takeRequest code tag data s).now = s.now ∧
    (takeRequest code tag data s).run = s.run ∧ (takeRequest code tag data s).port.noticeRead = s.port.noticeRead ∧
    (takeRequest code tag data s).port.intEnable = s.port.intEnable ∧
    (takeRequest code tag data s).port.displayLost = s.port.displayLost ∧
    (takeRequest code tag data s).port.livenessTimer = s.port.livenessTimer ∧
    (takeRequest code tag data s).port.sweepTimer = s.port.sweepTimer ∧
    (takeRequest code tag data s).port.sweepPlace = s.port.sweepPlace ∧
    (takeRequest code tag data s).port.sweepHeld = s.port.sweepHeld ∧
    (takeRequest code tag data s).port.sweepCount = s.port.sweepCount ∧
    (takeRequest code tag data s).port.writeRefused = s.port.writeRefused ∧
    (takeRequest code tag data s).port.refusedAddress = s.port.refusedAddress ∧
    (takeRequest code tag data s).outside = s.outside ∧ (takeRequest code tag data s).setup = s.setup ∧
    (takeRequest code tag data s).sense = s.sense ∧ (takeRequest code tag data s).line = s.line := by
  simp [takeRequest]

@[simp] theorem receiveAs_frame (r : Receiver) (s : State) :
    (receiveAs r s).pending = s.pending ∧ (receiveAs r s).now = s.now ∧ (receiveAs r s).run = s.run ∧
    (receiveAs r s).port = s.port ∧ (receiveAs r s).mem = s.mem ∧ (receiveAs r s).outside = s.outside ∧
    (receiveAs r s).setup = s.setup ∧ (receiveAs r s).signals = s.signals ∧ (receiveAs r s).sense = s.sense ∧
    (receiveAs r s).line = s.line ∧ (receiveAs r s).doors = s.doors ∧ (receiveAs r s).warnings = s.warnings ∧
    (receiveAs r s).comp = s.comp ∧ (receiveAs r s).gauges = s.gauges ∧ (receiveAs r s).faults = s.faults ∧
    (receiveAs r s).shop.session = s.shop.session ∧ (receiveAs r s).shop.forced = s.shop.forced ∧
    (receiveAs r s).shop.rate = s.shop.rate ∧ (receiveAs r s).shop.nextRate = s.shop.nextRate ∧
    (receiveAs r s).shop.idleTimer = s.shop.idleTimer := by
  simp [receiveAs]

@[simp] theorem frameComplete_frame (frame : List Byte) (s : State) :
    (frameComplete frame s).pending = s.pending ∧ (frameComplete frame s).now = s.now ∧
    (frameComplete frame s).run = s.run ∧ (frameComplete frame s).port.noticeRead = s.port.noticeRead ∧
    (frameComplete frame s).port.intEnable = s.port.intEnable ∧
    (frameComplete frame s).port.displayLost = s.port.displayLost ∧
    (frameComplete frame s).port.livenessTimer = s.port.livenessTimer ∧
    (frameComplete frame s).port.sweepTimer = s.port.sweepTimer ∧
    (frameComplete frame s).port.sweepPlace = s.port.sweepPlace ∧
    (frameComplete frame s).port.sweepHeld = s.port.sweepHeld ∧
    (frameComplete frame s).port.sweepCount = s.port.sweepCount ∧
    (frameComplete frame s).port.writeRefused = s.port.writeRefused ∧
    (frameComplete frame s).port.refusedAddress = s.port.refusedAddress ∧
    (frameComplete frame s).outside = s.outside ∧ (frameComplete frame s).setup = s.setup ∧
    (frameComplete frame s).sense = s.sense ∧ (frameComplete frame s).line = s.line := by
  unfold frameComplete; split <;> simp

@[simp] theorem frameGains_frame (frame : List Byte) (s : State) :
    (frameGains frame s).pending = s.pending ∧ (frameGains frame s).now = s.now ∧
    (frameGains frame s).run = s.run ∧ (frameGains frame s).port.noticeRead = s.port.noticeRead ∧
    (frameGains frame s).port.intEnable = s.port.intEnable ∧
    (frameGains frame s).port.displayLost = s.port.displayLost ∧
    (frameGains frame s).port.livenessTimer = s.port.livenessTimer ∧
    (frameGains frame s).port.sweepTimer = s.port.sweepTimer ∧
    (frameGains frame s).port.sweepPlace = s.port.sweepPlace ∧
    (frameGains frame s).port.sweepHeld = s.port.sweepHeld ∧
    (frameGains frame s).port.sweepCount = s.port.sweepCount ∧
    (frameGains frame s).port.writeRefused = s.port.writeRefused ∧
    (frameGains frame s).port.refusedAddress = s.port.refusedAddress ∧ (frameGains frame s).outside = s.outside ∧
    (frameGains frame s).setup = s.setup ∧ (frameGains frame s).sense = s.sense ∧
    (frameGains frame s).line = s.line := by
  unfold frameGains; split <;> simp

@[simp] theorem receiveCharacter_frame (data : Byte) (error : CharError) (s : State) :
    (receiveCharacter data error s).pending = s.pending ∧ (receiveCharacter data error s).now = s.now ∧
    (receiveCharacter data error s).run = s.run ∧
    (receiveCharacter data error s).port.noticeRead = s.port.noticeRead ∧
    (receiveCharacter data error s).port.intEnable = s.port.intEnable ∧
    (receiveCharacter data error s).port.displayLost = s.port.displayLost ∧
    (receiveCharacter data error s).port.livenessTimer = s.port.livenessTimer ∧
    (receiveCharacter data error s).port.sweepTimer = s.port.sweepTimer ∧
    (receiveCharacter data error s).port.sweepPlace = s.port.sweepPlace ∧
    (receiveCharacter data error s).port.sweepHeld = s.port.sweepHeld ∧
    (receiveCharacter data error s).port.sweepCount = s.port.sweepCount ∧
    (receiveCharacter data error s).port.writeRefused = s.port.writeRefused ∧
    (receiveCharacter data error s).port.refusedAddress = s.port.refusedAddress ∧
    (receiveCharacter data error s).outside = s.outside ∧ (receiveCharacter data error s).setup = s.setup ∧
    (receiveCharacter data error s).sense = s.sense ∧ (receiveCharacter data error s).line = s.line := by
  unfold receiveCharacter; (try dsimp only); repeat' (first | (simp; done) | split)

@[simp] theorem receiveFrame_frame (frame : List Byte) (s : State) :
    (receiveFrame frame s).pending = s.pending ∧ (receiveFrame frame s).now = s.now ∧
    (receiveFrame frame s).run = s.run ∧ (receiveFrame frame s).port.noticeRead = s.port.noticeRead ∧
    (receiveFrame frame s).port.intEnable = s.port.intEnable ∧
    (receiveFrame frame s).port.displayLost = s.port.displayLost ∧
    (receiveFrame frame s).port.livenessTimer = s.port.livenessTimer ∧
    (receiveFrame frame s).port.sweepTimer = s.port.sweepTimer ∧
    (receiveFrame frame s).port.sweepPlace = s.port.sweepPlace ∧
    (receiveFrame frame s).port.sweepHeld = s.port.sweepHeld ∧
    (receiveFrame frame s).port.sweepCount = s.port.sweepCount ∧
    (receiveFrame frame s).port.writeRefused = s.port.writeRefused ∧
    (receiveFrame frame s).port.refusedAddress = s.port.refusedAddress ∧
    (receiveFrame frame s).outside = s.outside ∧ (receiveFrame frame s).setup = s.setup ∧
    (receiveFrame frame s).sense = s.sense ∧ (receiveFrame frame s).line = s.line := by
  simp [receiveFrame]

@[simp] theorem frameGapExpires_frame (s : State) :
    (frameGapExpires s).pending = s.pending ∧ (frameGapExpires s).run = s.run ∧ (frameGapExpires s).port = s.port ∧
    (frameGapExpires s).mem = s.mem ∧ (frameGapExpires s).outside = s.outside ∧
    (frameGapExpires s).setup = s.setup ∧ (frameGapExpires s).signals = s.signals ∧
    (frameGapExpires s).sense = s.sense ∧ (frameGapExpires s).line = s.line ∧ (frameGapExpires s).doors = s.doors ∧
    (frameGapExpires s).warnings = s.warnings ∧ (frameGapExpires s).comp = s.comp ∧
    (frameGapExpires s).gauges = s.gauges ∧ (frameGapExpires s).faults = s.faults ∧
    (frameGapExpires s).shop.session = s.shop.session ∧ (frameGapExpires s).shop.forced = s.shop.forced ∧
    (frameGapExpires s).shop.rate = s.shop.rate ∧ (frameGapExpires s).shop.nextRate = s.shop.nextRate ∧
    (frameGapExpires s).shop.idleTimer = s.shop.idleTimer := by
  unfold frameGapExpires; split <;> simp

@[simp] theorem resyncExpires_frame (s : State) :
    (resyncExpires s).pending = s.pending ∧ (resyncExpires s).run = s.run ∧ (resyncExpires s).port = s.port ∧
    (resyncExpires s).mem = s.mem ∧ (resyncExpires s).outside = s.outside ∧ (resyncExpires s).setup = s.setup ∧
    (resyncExpires s).signals = s.signals ∧ (resyncExpires s).sense = s.sense ∧ (resyncExpires s).line = s.line ∧
    (resyncExpires s).doors = s.doors ∧ (resyncExpires s).warnings = s.warnings ∧ (resyncExpires s).comp = s.comp ∧
    (resyncExpires s).gauges = s.gauges ∧ (resyncExpires s).faults = s.faults ∧
    (resyncExpires s).shop.session = s.shop.session ∧ (resyncExpires s).shop.forced = s.shop.forced ∧
    (resyncExpires s).shop.rate = s.shop.rate ∧ (resyncExpires s).shop.nextRate = s.shop.nextRate ∧
    (resyncExpires s).shop.idleTimer = s.shop.idleTimer := by
  unfold resyncExpires; split <;> simp

@[simp] theorem answerEnds_frame (s : State) :
    (answerEnds s).pending = s.pending ∧ (answerEnds s).now = s.now ∧ (answerEnds s).run = s.run ∧
    (answerEnds s).port = s.port ∧ (answerEnds s).mem = s.mem ∧ (answerEnds s).outside = s.outside ∧
    (answerEnds s).setup = s.setup ∧ (answerEnds s).signals = s.signals ∧ (answerEnds s).sense = s.sense ∧
    (answerEnds s).line = s.line ∧ (answerEnds s).doors = s.doors ∧ (answerEnds s).warnings = s.warnings ∧
    (answerEnds s).comp = s.comp ∧ (answerEnds s).gauges = s.gauges ∧ (answerEnds s).faults = s.faults ∧
    (answerEnds s).shop.session = s.shop.session ∧ (answerEnds s).shop.forced = s.shop.forced ∧
    (answerEnds s).shop.gapTimer = s.shop.gapTimer ∧ (answerEnds s).shop.idleTimer = s.shop.idleTimer := by
  unfold answerEnds; split <;> simp

@[simp] theorem sessionExpires_frame (s : State) :
    (sessionExpires s).pending = s.pending ∧ (sessionExpires s).run = s.run ∧
    (sessionExpires s).port.noticeRead = s.port.noticeRead ∧ (sessionExpires s).port.intEnable = s.port.intEnable ∧
    (sessionExpires s).port.displayLost = s.port.displayLost ∧
    (sessionExpires s).port.livenessTimer = s.port.livenessTimer ∧
    (sessionExpires s).port.sweepTimer = s.port.sweepTimer ∧
    (sessionExpires s).port.sweepPlace = s.port.sweepPlace ∧ (sessionExpires s).port.sweepHeld = s.port.sweepHeld ∧
    (sessionExpires s).port.sweepCount = s.port.sweepCount ∧
    (sessionExpires s).port.writeRefused = s.port.writeRefused ∧
    (sessionExpires s).port.refusedAddress = s.port.refusedAddress ∧ (sessionExpires s).outside = s.outside ∧
    (sessionExpires s).setup = s.setup ∧ (sessionExpires s).sense = s.sense ∧ (sessionExpires s).line = s.line ∧
    (sessionExpires s).shop.receiver = s.shop.receiver ∧ (sessionExpires s).shop.gapTimer = s.shop.gapTimer := by
  simp [sessionExpires]

@[simp] theorem quietShop_frame (s : State) :
    (quietShop s).pending = s.pending ∧ (quietShop s).now = s.now ∧ (quietShop s).run = s.run ∧
    (quietShop s).port = s.port ∧ (quietShop s).mem = s.mem ∧ (quietShop s).outside = s.outside ∧
    (quietShop s).setup = s.setup ∧ (quietShop s).signals = s.signals ∧ (quietShop s).sense = s.sense ∧
    (quietShop s).line = s.line ∧ (quietShop s).doors = s.doors ∧ (quietShop s).warnings = s.warnings ∧
    (quietShop s).comp = s.comp ∧ (quietShop s).gauges = s.gauges ∧ (quietShop s).faults = s.faults ∧
    (quietShop s).shop.session = s.shop.session ∧ (quietShop s).shop.forced = s.shop.forced ∧
    (quietShop s).shop.idleTimer = s.shop.idleTimer := by
  simp [quietShop]


end Sys2Proof.Machine
end

