-- ==== Sys2Proof/Laws/Table.lean ====
section
/-! SUPPORT. What a table reads after each of its operations. -/

namespace Sys2Proof

variable {n : Nat} {α β : Type}

/-- An entry set inside the table is read back. -/
@[simp] theorem Table.get_set_same [Inhabited α] (t : Table n α) (i : Nat) (a : α) (h : i < n) :
    (t.set i a).get i = a := by
  simp [Table.get, Table.set, List.getD_eq_getElem?_getD, t.size, h]

/-- Setting an entry leaves the others. -/
theorem Table.get_set_other [Inhabited α] (t : Table n α) (i j : Nat) (a : α) (h : j ≠ i) :
    (t.set i a).get j = t.get j := by
  simp [Table.get, Table.set, List.getD_eq_getElem?_getD, Ne.symm h]

/-- An entry set past the table changes nothing. -/
theorem Table.set_past (t : Table n α) (i : Nat) (a : α) (h : n ≤ i) : t.set i a = t := by
  obtain ⟨cells, size⟩ := t
  subst size
  simp [Table.set, List.set_eq_of_length_le h]

/-- A mapped table reads the function of what it read. -/
@[simp] theorem Table.get_map [Inhabited α] [Inhabited β] (f : α → β) (t : Table n α) (i : Nat) (h : i < n) :
    (t.map f).get i = f (t.get i) := by
  have hi : i < t.cells.length := by rw [t.size]; exact h
  simp [Table.get, Table.map, List.getD_eq_getElem?_getD, hi]

/-- A tabulated table reads the function of its index. -/
@[simp] theorem Table.get_tabulate [Inhabited α] (f : Nat → α) (i : Nat) (h : i < n) :
    (Table.tabulate n f).get i = f i := by
  simp [Table.get, Table.tabulate, List.getD_eq_getElem?_getD, h]

/-- A replicated table reads its one entry. -/
@[simp] theorem Table.get_replicate [Inhabited α] (a : α) (i : Nat) (h : i < n) :
    (Table.replicate n a).get i = a := by
  simp [Table.get, Table.replicate, List.getD_eq_getElem?_getD, h]

/-- Past the table an index reads the default. -/
theorem Table.get_past [Inhabited α] (t : Table n α) (i : Nat) (h : n ≤ i) : t.get i = default := by
  simp [Table.get, List.getD_eq_getElem?_getD, t.size, h]

/-- Two tables that read the same at every index are the same. -/
theorem Table.eq_of_get [Inhabited α] (t u : Table n α) (h : ∀ i, i < n → t.get i = u.get i) : t = u := by
  obtain ⟨a, ha⟩ := t
  obtain ⟨b, hb⟩ := u
  congr 1
  refine List.ext_getElem (ha.trans hb.symm) fun i h1 h2 => ?_
  have := h i (ha ▸ h1)
  simpa [Table.get, List.getD_eq_getElem?_getD, h1, h2] using this

/-- The entries that pass a test, counted by their indices. -/
theorem Table.countP_cells [Inhabited α] (t : Table n α) (p : α → Bool) :
    t.cells.countP p = (List.range n).countP fun i => p (t.get i) := by
  have h : t.cells = (List.range n).map t.get := by
    apply List.ext_getElem
    · simp [t.size]
    · intro i hi _
      simp [Table.get, List.getD_eq_getElem?_getD, hi]
  conv => lhs; rw [h]
  rw [List.countP_map]; rfl

end Sys2Proof
end

