-- ==== Sys2Proof/Laws/FrameRun.lean ====
section
/-! SUPPORT. Frames: what each operation of the run-state logic leaves as it was. -/

namespace Sys2Proof.Machine

@[simp] theorem changeRunState_frame (new : RunState) (s : State) :
    (changeRunState new s).pending = s.pending ∧ (changeRunState new s).now = s.now ∧
    (changeRunState new s).port.noticeRead = s.port.noticeRead ∧
    (changeRunState new s).port.intEnable = s.port.intEnable ∧
    (changeRunState new s).port.displayLost = s.port.displayLost ∧
    (changeRunState new s).port.livenessTimer = s.port.livenessTimer ∧
    (changeRunState new s).port.sweepTimer = s.port.sweepTimer ∧
    (changeRunState new s).port.sweepPlace = s.port.sweepPlace ∧
    (changeRunState new s).port.sweepHeld = s.port.sweepHeld ∧
    (changeRunState new s).port.sweepCount = s.port.sweepCount ∧
    (changeRunState new s).port.writeRefused = s.port.writeRefused ∧
    (changeRunState new s).port.refusedAddress = s.port.refusedAddress ∧ (changeRunState new s).mem = s.mem ∧
    (changeRunState new s).outside = s.outside ∧ (changeRunState new s).setup = s.setup ∧
    (changeRunState new s).signals = s.signals ∧ (changeRunState new s).sense = s.sense ∧
    (changeRunState new s).line = s.line ∧ (changeRunState new s).doors = s.doors ∧
    (changeRunState new s).warnings = s.warnings ∧ (changeRunState new s).comp = s.comp ∧
    (changeRunState new s).gauges = s.gauges ∧ (changeRunState new s).faults = s.faults ∧
    (changeRunState new s).shop = s.shop := by
  simp [changeRunState]

@[simp] theorem startConfigIdle_frame (s : State) :
    (startConfigIdle s).pending = s.pending ∧ (startConfigIdle s).now = s.now ∧
    (startConfigIdle s).run.state = s.run.state ∧ (startConfigIdle s).port = s.port ∧
    (startConfigIdle s).mem = s.mem ∧ (startConfigIdle s).outside = s.outside ∧
    (startConfigIdle s).setup = s.setup ∧ (startConfigIdle s).signals = s.signals ∧
    (startConfigIdle s).sense = s.sense ∧ (startConfigIdle s).line = s.line ∧ (startConfigIdle s).doors = s.doors ∧
    (startConfigIdle s).warnings = s.warnings ∧ (startConfigIdle s).comp = s.comp ∧
    (startConfigIdle s).gauges = s.gauges ∧ (startConfigIdle s).faults = s.faults ∧
    (startConfigIdle s).shop = s.shop := by
  simp [startConfigIdle]

@[simp] theorem abortLine_frame (s : State) :
    (abortLine s).pending = s.pending ∧ (abortLine s).now = s.now ∧ (abortLine s).run = s.run ∧
    (abortLine s).port.noticeRead = s.port.noticeRead ∧ (abortLine s).port.intEnable = s.port.intEnable ∧
    (abortLine s).port.displayLost = s.port.displayLost ∧ (abortLine s).port.livenessTimer = s.port.livenessTimer ∧
    (abortLine s).port.sweepTimer = s.port.sweepTimer ∧ (abortLine s).port.sweepPlace = s.port.sweepPlace ∧
    (abortLine s).port.sweepHeld = s.port.sweepHeld ∧ (abortLine s).port.sweepCount = s.port.sweepCount ∧
    (abortLine s).port.writeRefused = s.port.writeRefused ∧
    (abortLine s).port.refusedAddress = s.port.refusedAddress ∧ (abortLine s).outside = s.outside ∧
    (abortLine s).setup = s.setup ∧ (abortLine s).signals = s.signals ∧ (abortLine s).sense = s.sense ∧
    (abortLine s).doors = s.doors ∧ (abortLine s).warnings = s.warnings ∧ (abortLine s).comp = s.comp ∧
    (abortLine s).gauges = s.gauges ∧ (abortLine s).faults = s.faults ∧ (abortLine s).shop = s.shop := by
  simp [abortLine]

@[simp] theorem enterStandby_frame (s : State) :
    (enterStandby s).pending = s.pending ∧ (enterStandby s).now = s.now ∧
    (enterStandby s).port.noticeRead = s.port.noticeRead ∧ (enterStandby s).port.intEnable = s.port.intEnable ∧
    (enterStandby s).port.displayLost = s.port.displayLost ∧
    (enterStandby s).port.livenessTimer = s.port.livenessTimer ∧
    (enterStandby s).port.sweepCount = s.port.sweepCount ∧
    (enterStandby s).port.writeRefused = s.port.writeRefused ∧
    (enterStandby s).port.refusedAddress = s.port.refusedAddress ∧ (enterStandby s).outside = s.outside ∧
    (enterStandby s).setup = s.setup ∧ (enterStandby s).line = s.line := by
  simp [enterStandby]

@[simp] theorem standbyIfDue_frame (s : State) :
    (standbyIfDue s).pending = s.pending ∧ (standbyIfDue s).now = s.now ∧
    (standbyIfDue s).port.noticeRead = s.port.noticeRead ∧ (standbyIfDue s).port.intEnable = s.port.intEnable ∧
    (standbyIfDue s).port.displayLost = s.port.displayLost ∧
    (standbyIfDue s).port.livenessTimer = s.port.livenessTimer ∧
    (standbyIfDue s).port.sweepCount = s.port.sweepCount ∧
    (standbyIfDue s).port.writeRefused = s.port.writeRefused ∧
    (standbyIfDue s).port.refusedAddress = s.port.refusedAddress ∧ (standbyIfDue s).outside = s.outside ∧
    (standbyIfDue s).setup = s.setup ∧ (standbyIfDue s).line = s.line := by
  simp [standbyIfDue]

@[simp] theorem stopBlocks_frame (s : State) :
    (stopBlocks s).pending = s.pending ∧ (stopBlocks s).now = s.now ∧ (stopBlocks s).run = s.run ∧
    (stopBlocks s).port.noticeRead = s.port.noticeRead ∧ (stopBlocks s).port.intEnable = s.port.intEnable ∧
    (stopBlocks s).port.displayLost = s.port.displayLost ∧
    (stopBlocks s).port.livenessTimer = s.port.livenessTimer ∧ (stopBlocks s).port.sweepTimer = s.port.sweepTimer ∧
    (stopBlocks s).port.sweepPlace = s.port.sweepPlace ∧ (stopBlocks s).port.sweepHeld = s.port.sweepHeld ∧
    (stopBlocks s).port.sweepCount = s.port.sweepCount ∧ (stopBlocks s).port.writeRefused = s.port.writeRefused ∧
    (stopBlocks s).port.refusedAddress = s.port.refusedAddress ∧ (stopBlocks s).outside = s.outside ∧
    (stopBlocks s).setup = s.setup ∧ (stopBlocks s).shop.receiver = s.shop.receiver ∧
    (stopBlocks s).shop.rate = s.shop.rate ∧ (stopBlocks s).shop.nextRate = s.shop.nextRate ∧
    (stopBlocks s).shop.gapTimer = s.shop.gapTimer ∧ (stopBlocks s).shop.idleTimer = s.shop.idleTimer := by
  simp [stopBlocks]

@[simp] theorem leaveRun_frame (new : RunState) (s : State) :
    (leaveRun new s).pending = s.pending ∧ (leaveRun new s).now = s.now ∧
    (leaveRun new s).port.noticeRead = s.port.noticeRead ∧ (leaveRun new s).port.intEnable = s.port.intEnable ∧
    (leaveRun new s).port.displayLost = s.port.displayLost ∧ (leaveRun new s).port.sweepTimer = s.port.sweepTimer ∧
    (leaveRun new s).port.sweepPlace = s.port.sweepPlace ∧ (leaveRun new s).port.sweepHeld = s.port.sweepHeld ∧
    (leaveRun new s).port.sweepCount = s.port.sweepCount ∧
    (leaveRun new s).port.writeRefused = s.port.writeRefused ∧
    (leaveRun new s).port.refusedAddress = s.port.refusedAddress ∧ (leaveRun new s).outside = s.outside ∧
    (leaveRun new s).setup = s.setup ∧ (leaveRun new s).shop.receiver = s.shop.receiver ∧
    (leaveRun new s).shop.rate = s.shop.rate ∧ (leaveRun new s).shop.nextRate = s.shop.nextRate ∧
    (leaveRun new s).shop.gapTimer = s.shop.gapTimer ∧ (leaveRun new s).shop.idleTimer = s.shop.idleTimer := by
  simp [leaveRun]

@[simp] theorem toConfig_frame (s : State) :
    (toConfig s).pending = s.pending ∧ (toConfig s).now = s.now ∧
    (toConfig s).port.noticeRead = s.port.noticeRead ∧ (toConfig s).port.intEnable = s.port.intEnable ∧
    (toConfig s).port.displayLost = s.port.displayLost ∧ (toConfig s).port.sweepTimer = s.port.sweepTimer ∧
    (toConfig s).port.sweepPlace = s.port.sweepPlace ∧ (toConfig s).port.sweepHeld = s.port.sweepHeld ∧
    (toConfig s).port.sweepCount = s.port.sweepCount ∧ (toConfig s).port.writeRefused = s.port.writeRefused ∧
    (toConfig s).port.refusedAddress = s.port.refusedAddress ∧ (toConfig s).outside = s.outside ∧
    (toConfig s).setup = s.setup ∧ (toConfig s).shop.receiver = s.shop.receiver ∧
    (toConfig s).shop.rate = s.shop.rate ∧ (toConfig s).shop.nextRate = s.shop.nextRate ∧
    (toConfig s).shop.gapTimer = s.shop.gapTimer ∧ (toConfig s).shop.idleTimer = s.shop.idleTimer := by
  simp [toConfig]

@[simp] theorem toShutdown_frame (s : State) :
    (toShutdown s).pending = s.pending ∧ (toShutdown s).now = s.now ∧
    (toShutdown s).port.noticeRead = s.port.noticeRead ∧ (toShutdown s).port.intEnable = s.port.intEnable ∧
    (toShutdown s).port.displayLost = s.port.displayLost ∧ (toShutdown s).port.sweepCount = s.port.sweepCount ∧
    (toShutdown s).port.writeRefused = s.port.writeRefused ∧
    (toShutdown s).port.refusedAddress = s.port.refusedAddress ∧ (toShutdown s).outside = s.outside ∧
    (toShutdown s).setup = s.setup := by
  simp [toShutdown]

@[simp] theorem firstComposition_frame (s : State) :
    (firstComposition s).pending = s.pending ∧ (firstComposition s).now = s.now ∧
    (firstComposition s).run = s.run ∧ (firstComposition s).port = s.port ∧ (firstComposition s).mem = s.mem ∧
    (firstComposition s).outside = s.outside ∧ (firstComposition s).setup = s.setup ∧
    (firstComposition s).signals = s.signals ∧ (firstComposition s).sense = s.sense ∧
    (firstComposition s).line = s.line ∧ (firstComposition s).doors = s.doors ∧
    (firstComposition s).warnings = s.warnings ∧ (firstComposition s).gauges = s.gauges ∧
    (firstComposition s).faults = s.faults ∧ (firstComposition s).shop = s.shop := by
  simp [firstComposition]

@[simp] theorem startLiveness_frame (s : State) :
    (startLiveness s).pending = s.pending ∧ (startLiveness s).now = s.now ∧ (startLiveness s).run = s.run ∧
    (startLiveness s).port.noticeRead = s.port.noticeRead ∧ (startLiveness s).port.intEnable = s.port.intEnable ∧
    (startLiveness s).port.displayLost = s.port.displayLost ∧
    (startLiveness s).port.sweepTimer = s.port.sweepTimer ∧ (startLiveness s).port.sweepPlace = s.port.sweepPlace ∧
    (startLiveness s).port.sweepHeld = s.port.sweepHeld ∧ (startLiveness s).port.sweepCount = s.port.sweepCount ∧
    (startLiveness s).port.writeRefused = s.port.writeRefused ∧
    (startLiveness s).port.refusedAddress = s.port.refusedAddress ∧ (startLiveness s).mem = s.mem ∧
    (startLiveness s).outside = s.outside ∧ (startLiveness s).setup = s.setup ∧
    (startLiveness s).signals = s.signals ∧ (startLiveness s).sense = s.sense ∧ (startLiveness s).line = s.line ∧
    (startLiveness s).doors = s.doors ∧ (startLiveness s).warnings = s.warnings ∧ (startLiveness s).comp = s.comp ∧
    (startLiveness s).gauges = s.gauges ∧ (startLiveness s).faults = s.faults ∧ (startLiveness s).shop = s.shop := by
  simp [startLiveness]

@[simp] theorem setBlocks_frame (byApply : Bool) (s : State) :
    (setBlocks byApply s).pending = s.pending ∧ (setBlocks byApply s).now = s.now ∧
    (setBlocks byApply s).run = s.run ∧ (setBlocks byApply s).port = s.port ∧ (setBlocks byApply s).mem = s.mem ∧
    (setBlocks byApply s).outside = s.outside ∧ (setBlocks byApply s).setup = s.setup ∧
    (setBlocks byApply s).faults = s.faults ∧ (setBlocks byApply s).shop.session = s.shop.session ∧
    (setBlocks byApply s).shop.receiver = s.shop.receiver ∧ (setBlocks byApply s).shop.rate = s.shop.rate ∧
    (setBlocks byApply s).shop.nextRate = s.shop.nextRate ∧ (setBlocks byApply s).shop.gapTimer = s.shop.gapTimer ∧
    (setBlocks byApply s).shop.idleTimer = s.shop.idleTimer := by
  simp [setBlocks]

@[simp] theorem takeBlocks_frame (s : State) :
    (takeBlocks s).pending = s.pending ∧ (takeBlocks s).now = s.now ∧ (takeBlocks s).run = s.run ∧
    (takeBlocks s).port.noticeRead = s.port.noticeRead ∧ (takeBlocks s).port.intEnable = s.port.intEnable ∧
    (takeBlocks s).port.displayLost = s.port.displayLost ∧
    (takeBlocks s).port.livenessTimer = s.port.livenessTimer ∧ (takeBlocks s).port.sweepTimer = s.port.sweepTimer ∧
    (takeBlocks s).port.sweepPlace = s.port.sweepPlace ∧ (takeBlocks s).port.sweepHeld = s.port.sweepHeld ∧
    (takeBlocks s).port.sweepCount = s.port.sweepCount ∧ (takeBlocks s).port.writeRefused = s.port.writeRefused ∧
    (takeBlocks s).port.refusedAddress = s.port.refusedAddress ∧ (takeBlocks s).mem = s.mem ∧
    (takeBlocks s).outside = s.outside ∧ (takeBlocks s).setup = s.setup ∧ (takeBlocks s).signals = s.signals ∧
    (takeBlocks s).sense = s.sense ∧ (takeBlocks s).line = s.line ∧ (takeBlocks s).gauges = s.gauges ∧
    (takeBlocks s).shop = s.shop := by
  simp [takeBlocks]

@[simp] theorem startRunOn_frame (s : State) :
    (startRunOn s).pending = s.pending ∧ (startRunOn s).now = s.now ∧ (startRunOn s).run.state = s.run.state ∧
    (startRunOn s).port = s.port ∧ (startRunOn s).mem = s.mem ∧ (startRunOn s).outside = s.outside ∧
    (startRunOn s).setup = s.setup ∧ (startRunOn s).signals = s.signals ∧ (startRunOn s).sense = s.sense ∧
    (startRunOn s).line = s.line ∧ (startRunOn s).doors = s.doors ∧ (startRunOn s).warnings = s.warnings ∧
    (startRunOn s).comp = s.comp ∧ (startRunOn s).gauges = s.gauges ∧ (startRunOn s).faults = s.faults ∧
    (startRunOn s).shop = s.shop := by
  simp [startRunOn]

@[simp] theorem enterRun_frame (byApply : Bool) (s : State) :
    (enterRun byApply s).pending = s.pending ∧ (enterRun byApply s).now = s.now ∧
    (enterRun byApply s).port.noticeRead = s.port.noticeRead ∧
    (enterRun byApply s).port.intEnable = s.port.intEnable ∧
    (enterRun byApply s).port.displayLost = s.port.displayLost ∧
    (enterRun byApply s).port.sweepTimer = s.port.sweepTimer ∧
    (enterRun byApply s).port.sweepPlace = s.port.sweepPlace ∧
    (enterRun byApply s).port.sweepHeld = s.port.sweepHeld ∧
    (enterRun byApply s).port.sweepCount = s.port.sweepCount ∧
    (enterRun byApply s).port.writeRefused = s.port.writeRefused ∧
    (enterRun byApply s).port.refusedAddress = s.port.refusedAddress ∧ (enterRun byApply s).outside = s.outside ∧
    (enterRun byApply s).setup = s.setup ∧ (enterRun byApply s).shop.session = s.shop.session ∧
    (enterRun byApply s).shop.receiver = s.shop.receiver ∧ (enterRun byApply s).shop.rate = s.shop.rate ∧
    (enterRun byApply s).shop.nextRate = s.shop.nextRate ∧ (enterRun byApply s).shop.gapTimer = s.shop.gapTimer ∧
    (enterRun byApply s).shop.idleTimer = s.shop.idleTimer := by
  simp [enterRun]

@[simp] theorem runOn_frame (s : State) :
    (runOn s).pending = s.pending ∧ (runOn s).now = s.now ∧ (runOn s).port.noticeRead = s.port.noticeRead ∧
    (runOn s).port.intEnable = s.port.intEnable ∧ (runOn s).port.displayLost = s.port.displayLost ∧
    (runOn s).port.sweepCount = s.port.sweepCount ∧ (runOn s).port.writeRefused = s.port.writeRefused ∧
    (runOn s).port.refusedAddress = s.port.refusedAddress ∧ (runOn s).outside = s.outside ∧
    (runOn s).setup = s.setup := by
  unfold runOn; split <;> simp

@[simp] theorem runOnExpires_frame (s : State) :
    (runOnExpires s).pending = s.pending ∧ (runOnExpires s).port.noticeRead = s.port.noticeRead ∧
    (runOnExpires s).port.intEnable = s.port.intEnable ∧ (runOnExpires s).port.displayLost = s.port.displayLost ∧
    (runOnExpires s).port.sweepCount = s.port.sweepCount ∧
    (runOnExpires s).port.writeRefused = s.port.writeRefused ∧
    (runOnExpires s).port.refusedAddress = s.port.refusedAddress ∧ (runOnExpires s).outside = s.outside ∧
    (runOnExpires s).setup = s.setup := by
  simp [runOnExpires]

@[simp] theorem configIdleExpires_frame (s : State) :
    (configIdleExpires s).pending = s.pending ∧ (configIdleExpires s).run.state = s.run.state ∧
    (configIdleExpires s).port = s.port ∧ (configIdleExpires s).mem = s.mem ∧
    (configIdleExpires s).outside = s.outside ∧ (configIdleExpires s).setup = s.setup ∧
    (configIdleExpires s).signals = s.signals ∧ (configIdleExpires s).sense = s.sense ∧
    (configIdleExpires s).line = s.line ∧ (configIdleExpires s).doors = s.doors ∧
    (configIdleExpires s).warnings = s.warnings ∧ (configIdleExpires s).comp = s.comp ∧
    (configIdleExpires s).gauges = s.gauges ∧ (configIdleExpires s).faults = s.faults ∧
    (configIdleExpires s).shop = s.shop := by
  simp [configIdleExpires]

@[simp] theorem blankBlocks_frame (s : State) :
    (blankBlocks s).pending = s.pending ∧ (blankBlocks s).now = s.now ∧ (blankBlocks s).run = s.run ∧
    (blankBlocks s).port = s.port ∧ (blankBlocks s).mem = s.mem ∧ (blankBlocks s).outside = s.outside ∧
    (blankBlocks s).setup = s.setup ∧ (blankBlocks s).gauges = s.gauges ∧ (blankBlocks s).faults = s.faults ∧
    (blankBlocks s).shop = s.shop := by
  simp [blankBlocks]

@[simp] theorem wakeBlocks_frame (s : State) :
    (wakeBlocks s).pending = s.pending ∧ (wakeBlocks s).run = s.run ∧ (wakeBlocks s).mem = s.mem ∧
    (wakeBlocks s).outside = s.outside ∧ (wakeBlocks s).setup = s.setup ∧ (wakeBlocks s).faults = s.faults := by
  simp [wakeBlocks]

@[simp] theorem countCycle_frame (s : State) :
    (countCycle s).pending = s.pending ∧ (countCycle s).now = s.now ∧ (countCycle s).run.state = s.run.state ∧
    (countCycle s).port.noticeRead = s.port.noticeRead ∧ (countCycle s).port.intEnable = s.port.intEnable ∧
    (countCycle s).port.displayLost = s.port.displayLost ∧
    (countCycle s).port.livenessTimer = s.port.livenessTimer ∧ (countCycle s).port.sweepTimer = s.port.sweepTimer ∧
    (countCycle s).port.sweepPlace = s.port.sweepPlace ∧ (countCycle s).port.sweepHeld = s.port.sweepHeld ∧
    (countCycle s).port.sweepCount = s.port.sweepCount ∧ (countCycle s).port.writeRefused = s.port.writeRefused ∧
    (countCycle s).port.refusedAddress = s.port.refusedAddress ∧ (countCycle s).mem = s.mem ∧
    (countCycle s).outside = s.outside ∧ (countCycle s).setup = s.setup ∧ (countCycle s).signals = s.signals ∧
    (countCycle s).sense = s.sense ∧ (countCycle s).line = s.line ∧ (countCycle s).doors = s.doors ∧
    (countCycle s).warnings = s.warnings ∧ (countCycle s).comp = s.comp ∧ (countCycle s).gauges = s.gauges ∧
    (countCycle s).shop = s.shop := by
  simp [countCycle]

@[simp] theorem wake_frame (s : State) :
    (wake s).pending = s.pending ∧ (wake s).mem = s.mem ∧ (wake s).outside = s.outside ∧ (wake s).setup = s.setup := by
  simp [wake]

@[simp] theorem wakeFromStandby_frame (s : State) :
    (wakeFromStandby s).pending = s.pending ∧ (wakeFromStandby s).mem = s.mem ∧
    (wakeFromStandby s).outside = s.outside ∧ (wakeFromStandby s).setup = s.setup := by
  simp [wakeFromStandby]

@[simp] theorem tallyRelease_frame (d reading samples : Nat) (s : State) :
    (tallyRelease d reading samples s).pending = s.pending ∧ (tallyRelease d reading samples s).mem = s.mem ∧
    (tallyRelease d reading samples s).outside = s.outside ∧ (tallyRelease d reading samples s).setup = s.setup := by
  unfold tallyRelease; split <;> simp

@[simp] theorem releaseSampled_frame (d reading samples : Nat) (s : State) :
    (releaseSampled d reading samples s).pending = s.pending ∧ (releaseSampled d reading samples s).mem = s.mem ∧
    (releaseSampled d reading samples s).outside = s.outside ∧ (releaseSampled d reading samples s).setup = s.setup := by
  simp [releaseSampled]

@[simp] theorem ignitionChanged_frame (s : State) :
    (ignitionChanged s).pending = s.pending ∧ (ignitionChanged s).outside = s.outside ∧
    (ignitionChanged s).setup = s.setup := by
  unfold ignitionChanged; split <;> simp

@[simp] theorem ignitionSampled_frame (on : Bool) (samples : Nat) (s : State) :
    (ignitionSampled on samples s).pending = s.pending ∧ (ignitionSampled on samples s).outside = s.outside ∧
    (ignitionSampled on samples s).setup = s.setup := by
  unfold ignitionSampled; (try dsimp only); repeat' (first | (simp; done) | split)

@[simp] theorem abortTaken_frame (s : State) :
    (abortTaken s).pending = s.pending ∧ (abortTaken s).now = s.now ∧ (abortTaken s).run = s.run ∧
    (abortTaken s).port.noticeRead = s.port.noticeRead ∧ (abortTaken s).port.intEnable = s.port.intEnable ∧
    (abortTaken s).port.displayLost = s.port.displayLost ∧
    (abortTaken s).port.livenessTimer = s.port.livenessTimer ∧ (abortTaken s).port.sweepTimer = s.port.sweepTimer ∧
    (abortTaken s).port.sweepPlace = s.port.sweepPlace ∧ (abortTaken s).port.sweepHeld = s.port.sweepHeld ∧
    (abortTaken s).port.sweepCount = s.port.sweepCount ∧ (abortTaken s).port.writeRefused = s.port.writeRefused ∧
    (abortTaken s).port.refusedAddress = s.port.refusedAddress ∧ (abortTaken s).outside = s.outside ∧
    (abortTaken s).setup = s.setup ∧ (abortTaken s).signals = s.signals ∧ (abortTaken s).sense = s.sense ∧
    (abortTaken s).line = s.line ∧ (abortTaken s).doors = s.doors ∧ (abortTaken s).warnings = s.warnings ∧
    (abortTaken s).comp = s.comp ∧ (abortTaken s).gauges = s.gauges ∧ (abortTaken s).faults = s.faults ∧
    (abortTaken s).shop = s.shop := by
  simp [abortTaken]

@[simp] theorem stopWarningsFrom_frame (old : RunState) (s : State) :
    (stopWarningsFrom old s).pending = s.pending ∧ (stopWarningsFrom old s).now = s.now ∧
    (stopWarningsFrom old s).run = s.run ∧ (stopWarningsFrom old s).port.noticeRead = s.port.noticeRead ∧
    (stopWarningsFrom old s).port.intEnable = s.port.intEnable ∧
    (stopWarningsFrom old s).port.displayLost = s.port.displayLost ∧
    (stopWarningsFrom old s).port.livenessTimer = s.port.livenessTimer ∧
    (stopWarningsFrom old s).port.sweepTimer = s.port.sweepTimer ∧
    (stopWarningsFrom old s).port.sweepPlace = s.port.sweepPlace ∧
    (stopWarningsFrom old s).port.sweepHeld = s.port.sweepHeld ∧
    (stopWarningsFrom old s).port.sweepCount = s.port.sweepCount ∧
    (stopWarningsFrom old s).port.writeRefused = s.port.writeRefused ∧
    (stopWarningsFrom old s).port.refusedAddress = s.port.refusedAddress ∧ (stopWarningsFrom old s).mem = s.mem ∧
    (stopWarningsFrom old s).outside = s.outside ∧ (stopWarningsFrom old s).setup = s.setup ∧
    (stopWarningsFrom old s).signals = s.signals ∧ (stopWarningsFrom old s).sense = s.sense ∧
    (stopWarningsFrom old s).line = s.line ∧ (stopWarningsFrom old s).doors = s.doors ∧
    (stopWarningsFrom old s).comp = s.comp ∧ (stopWarningsFrom old s).gauges = s.gauges ∧
    (stopWarningsFrom old s).shop = s.shop := by
  simp [stopWarningsFrom]

@[simp] theorem softBlocks_frame (s : State) :
    (softBlocks s).pending = s.pending ∧ (softBlocks s).now = s.now ∧ (softBlocks s).run = s.run ∧
    (softBlocks s).port.noticeRead = s.port.noticeRead ∧ (softBlocks s).port.intEnable = s.port.intEnable ∧
    (softBlocks s).port.displayLost = s.port.displayLost ∧
    (softBlocks s).port.livenessTimer = s.port.livenessTimer ∧ (softBlocks s).port.sweepTimer = s.port.sweepTimer ∧
    (softBlocks s).port.sweepPlace = s.port.sweepPlace ∧ (softBlocks s).port.sweepHeld = s.port.sweepHeld ∧
    (softBlocks s).port.sweepCount = s.port.sweepCount ∧ (softBlocks s).port.writeRefused = s.port.writeRefused ∧
    (softBlocks s).port.refusedAddress = s.port.refusedAddress ∧ (softBlocks s).mem = s.mem ∧
    (softBlocks s).outside = s.outside ∧ (softBlocks s).setup = s.setup ∧ (softBlocks s).faults = s.faults ∧
    (softBlocks s).shop.session = s.shop.session ∧ (softBlocks s).shop.idleTimer = s.shop.idleTimer := by
  simp [softBlocks]

@[simp] theorem softReset_frame (s : State) :
    (softReset s).pending = s.pending ∧ (softReset s).now = s.now ∧ (softReset s).outside = s.outside ∧
    (softReset s).setup = s.setup := by
  simp [softReset]

@[simp] theorem powerUp_frame (s : State) :
    (powerUp s).pending = s.pending := by
  simp [powerUp]


/-- The blocks as a return to RUN sets them, before their takings. -/
theorem setBlocks_values (s : State) :
    (setBlocks false s).signals = s.freshSignals ∧
    (setBlocks false s).doors = s.doors.blanked s.time s.setup.releaseDelay ∧
    (setBlocks false s).warnings = s.warnings.map (fun x => x.blanked true) ∧
    (setBlocks false s).gauges = s.freshGauges false ∧
    (setBlocks false s).shop = { s.shop with forced := [] } ∧
    (setBlocks false s).line = s.line.blanked s.setup.stationAtEntry s.setup.settings.preferred ∧
    ∀ k, ((setBlocks false s).sense.channels.get k).settled = false := by
  refine ⟨by simp [setBlocks], by simp [setBlocks, State.time, State.ms], by simp [setBlocks],
    by simp [setBlocks, State.freshGauges], by simp [setBlocks], by simp [setBlocks], fun k => ?_⟩
  by_cases h : k < 48
  · simp [setBlocks, State.freshChannels, h, SenseChannel.blanked]
  · rw [Table.get_past _ _ (by omega)]; rfl

end Sys2Proof.Machine
end

