-- ==== Sys2Proof/Laws/FramePort.lean ====
section
/-! SUPPORT. Frames: what each request, each sweep and each write of the port leaves as it was. -/

namespace Sys2Proof.Machine

@[simp] theorem applyItem_frame (x : SupplyItem) (s : State) :
    (applyItem x s).pending = s.pending ∧ (applyItem x s).now = s.now ∧ (applyItem x s).run = s.run ∧
    (applyItem x s).port.noticeRead = s.port.noticeRead ∧ (applyItem x s).port.intEnable = s.port.intEnable ∧
    (applyItem x s).port.displayLost = s.port.displayLost ∧
    (applyItem x s).port.livenessTimer = s.port.livenessTimer ∧
    (applyItem x s).port.sweepTimer = s.port.sweepTimer ∧ (applyItem x s).port.sweepPlace = s.port.sweepPlace ∧
    (applyItem x s).port.sweepHeld = s.port.sweepHeld ∧ (applyItem x s).port.sweepCount = s.port.sweepCount ∧
    (applyItem x s).port.writeRefused = s.port.writeRefused ∧
    (applyItem x s).port.refusedAddress = s.port.refusedAddress ∧ (applyItem x s).outside = s.outside ∧
    (applyItem x s).setup = s.setup ∧ (applyItem x s).sense = s.sense ∧ (applyItem x s).line = s.line ∧
    (applyItem x s).shop.receiver = s.shop.receiver ∧ (applyItem x s).shop.rate = s.shop.rate ∧
    (applyItem x s).shop.nextRate = s.shop.nextRate ∧ (applyItem x s).shop.gapTimer = s.shop.gapTimer ∧
    (applyItem x s).shop.idleTimer = s.shop.idleTimer := by
  unfold applyItem; split <;> simp

@[simp] theorem applyItems_frame (l : List SupplyItem) (s : State) :
    (applyItems l s).1.pending = s.pending ∧ (applyItems l s).1.now = s.now ∧ (applyItems l s).1.run = s.run ∧
    (applyItems l s).1.port.noticeRead = s.port.noticeRead ∧ (applyItems l s).1.port.intEnable = s.port.intEnable ∧
    (applyItems l s).1.port.displayLost = s.port.displayLost ∧
    (applyItems l s).1.port.livenessTimer = s.port.livenessTimer ∧
    (applyItems l s).1.port.sweepTimer = s.port.sweepTimer ∧ (applyItems l s).1.port.sweepPlace = s.port.sweepPlace ∧
    (applyItems l s).1.port.sweepHeld = s.port.sweepHeld ∧ (applyItems l s).1.port.sweepCount = s.port.sweepCount ∧
    (applyItems l s).1.port.writeRefused = s.port.writeRefused ∧
    (applyItems l s).1.port.refusedAddress = s.port.refusedAddress ∧ (applyItems l s).1.outside = s.outside ∧
    (applyItems l s).1.setup = s.setup ∧ (applyItems l s).1.sense = s.sense ∧ (applyItems l s).1.line = s.line ∧
    (applyItems l s).1.shop.receiver = s.shop.receiver ∧ (applyItems l s).1.shop.rate = s.shop.rate ∧
    (applyItems l s).1.shop.nextRate = s.shop.nextRate ∧ (applyItems l s).1.shop.gapTimer = s.shop.gapTimer ∧
    (applyItems l s).1.shop.idleTimer = s.shop.idleTimer := by
  induction l generalizing s with
  | nil => simp [applyItems]
  | cons x rest ih => simp [applyItems, ih]

@[simp] theorem refuseRequest_frame (i : Nat) (code : ResultCode) (detail : Nat) (s : State) :
    (refuseRequest i code detail s).pending = s.pending ∧ (refuseRequest i code detail s).now = s.now ∧
    (refuseRequest i code detail s).run = s.run ∧
    (refuseRequest i code detail s).port.noticeRead = s.port.noticeRead ∧
    (refuseRequest i code detail s).port.intEnable = s.port.intEnable ∧
    (refuseRequest i code detail s).port.displayLost = s.port.displayLost ∧
    (refuseRequest i code detail s).port.livenessTimer = s.port.livenessTimer ∧
    (refuseRequest i code detail s).port.sweepTimer = s.port.sweepTimer ∧
    (refuseRequest i code detail s).port.sweepPlace = s.port.sweepPlace ∧
    (refuseRequest i code detail s).port.sweepHeld = s.port.sweepHeld ∧
    (refuseRequest i code detail s).port.sweepCount = s.port.sweepCount ∧
    (refuseRequest i code detail s).port.writeRefused = s.port.writeRefused ∧
    (refuseRequest i code detail s).port.refusedAddress = s.port.refusedAddress ∧
    (refuseRequest i code detail s).outside = s.outside ∧ (refuseRequest i code detail s).setup = s.setup ∧
    (refuseRequest i code detail s).signals = s.signals ∧ (refuseRequest i code detail s).sense = s.sense ∧
    (refuseRequest i code detail s).line = s.line ∧ (refuseRequest i code detail s).doors = s.doors ∧
    (refuseRequest i code detail s).warnings = s.warnings ∧ (refuseRequest i code detail s).comp = s.comp ∧
    (refuseRequest i code detail s).gauges = s.gauges ∧ (refuseRequest i code detail s).faults = s.faults ∧
    (refuseRequest i code detail s).shop = s.shop := by
  simp [refuseRequest]

@[simp] theorem noteApplyResult_frame (code : ResultCode) (detail : Nat) (s : State) :
    (noteApplyResult code detail s).run = { s.run with lastResult := code, lastDetail := detail } ∧
    (noteApplyResult code detail s).pending = s.pending ∧ (noteApplyResult code detail s).now = s.now ∧
    (noteApplyResult code detail s).port.noticeRead = s.port.noticeRead ∧
    (noteApplyResult code detail s).port.intEnable = s.port.intEnable ∧
    (noteApplyResult code detail s).port.displayLost = s.port.displayLost ∧
    (noteApplyResult code detail s).port.livenessTimer = s.port.livenessTimer ∧
    (noteApplyResult code detail s).port.sweepTimer = s.port.sweepTimer ∧
    (noteApplyResult code detail s).port.sweepPlace = s.port.sweepPlace ∧
    (noteApplyResult code detail s).port.sweepHeld = s.port.sweepHeld ∧
    (noteApplyResult code detail s).port.sweepCount = s.port.sweepCount ∧
    (noteApplyResult code detail s).port.writeRefused = s.port.writeRefused ∧
    (noteApplyResult code detail s).port.refusedAddress = s.port.refusedAddress ∧
    (noteApplyResult code detail s).outside = s.outside ∧ (noteApplyResult code detail s).setup = s.setup ∧
    (noteApplyResult code detail s).signals = s.signals ∧ (noteApplyResult code detail s).sense = s.sense ∧
    (noteApplyResult code detail s).line = s.line ∧ (noteApplyResult code detail s).doors = s.doors ∧
    (noteApplyResult code detail s).warnings = s.warnings ∧ (noteApplyResult code detail s).comp = s.comp ∧
    (noteApplyResult code detail s).gauges = s.gauges ∧ (noteApplyResult code detail s).faults = s.faults ∧
    (noteApplyResult code detail s).shop = s.shop := by
  simp [noteApplyResult]

@[simp] theorem refuseApplySetup_frame (i : Nat) (code : ResultCode) (s : State) :
    (refuseApplySetup i code s).run = { s.run with lastResult := code, lastDetail := 0 } ∧
    (refuseApplySetup i code s).pending = s.pending ∧ (refuseApplySetup i code s).now = s.now ∧
    (refuseApplySetup i code s).port.noticeRead = s.port.noticeRead ∧
    (refuseApplySetup i code s).port.intEnable = s.port.intEnable ∧
    (refuseApplySetup i code s).port.displayLost = s.port.displayLost ∧
    (refuseApplySetup i code s).port.livenessTimer = s.port.livenessTimer ∧
    (refuseApplySetup i code s).port.sweepTimer = s.port.sweepTimer ∧
    (refuseApplySetup i code s).port.sweepPlace = s.port.sweepPlace ∧
    (refuseApplySetup i code s).port.sweepHeld = s.port.sweepHeld ∧
    (refuseApplySetup i code s).port.sweepCount = s.port.sweepCount ∧
    (refuseApplySetup i code s).port.writeRefused = s.port.writeRefused ∧
    (refuseApplySetup i code s).port.refusedAddress = s.port.refusedAddress ∧
    (refuseApplySetup i code s).outside = s.outside ∧ (refuseApplySetup i code s).setup = s.setup ∧
    (refuseApplySetup i code s).signals = s.signals ∧ (refuseApplySetup i code s).sense = s.sense ∧
    (refuseApplySetup i code s).line = s.line ∧ (refuseApplySetup i code s).doors = s.doors ∧
    (refuseApplySetup i code s).warnings = s.warnings ∧ (refuseApplySetup i code s).comp = s.comp ∧
    (refuseApplySetup i code s).gauges = s.gauges ∧ (refuseApplySetup i code s).faults = s.faults ∧
    (refuseApplySetup i code s).shop = s.shop := by
  simp [refuseApplySetup]

@[simp] theorem requestApplySetup_frame (i : Nat) (s : State) :
    (requestApplySetup i s).pending = s.pending ∧ (requestApplySetup i s).now = s.now ∧
    (requestApplySetup i s).run.state = s.run.state ∧ (requestApplySetup i s).port.noticeRead = s.port.noticeRead ∧
    (requestApplySetup i s).port.intEnable = s.port.intEnable ∧
    (requestApplySetup i s).port.displayLost = s.port.displayLost ∧
    (requestApplySetup i s).port.livenessTimer = s.port.livenessTimer ∧
    (requestApplySetup i s).port.sweepTimer = s.port.sweepTimer ∧
    (requestApplySetup i s).port.sweepPlace = s.port.sweepPlace ∧
    (requestApplySetup i s).port.sweepHeld = s.port.sweepHeld ∧
    (requestApplySetup i s).port.sweepCount = s.port.sweepCount ∧
    (requestApplySetup i s).port.writeRefused = s.port.writeRefused ∧
    (requestApplySetup i s).port.refusedAddress = s.port.refusedAddress ∧
    (requestApplySetup i s).outside = s.outside ∧ (requestApplySetup i s).setup = s.setup ∧
    (requestApplySetup i s).signals = s.signals ∧ (requestApplySetup i s).sense = s.sense ∧
    (requestApplySetup i s).line = s.line ∧ (requestApplySetup i s).doors = s.doors ∧
    (requestApplySetup i s).warnings = s.warnings ∧ (requestApplySetup i s).comp = s.comp ∧
    (requestApplySetup i s).gauges = s.gauges ∧ (requestApplySetup i s).faults = s.faults ∧
    (requestApplySetup i s).shop = s.shop := by
  unfold requestApplySetup; (try dsimp only); repeat' (first | (simp; done) | split)

@[simp] theorem requestEnterConfig_frame (i : Nat) (s : State) :
    (requestEnterConfig i s).pending = s.pending ∧ (requestEnterConfig i s).now = s.now ∧
    (requestEnterConfig i s).port.noticeRead = s.port.noticeRead ∧
    (requestEnterConfig i s).port.intEnable = s.port.intEnable ∧
    (requestEnterConfig i s).port.displayLost = s.port.displayLost ∧
    (requestEnterConfig i s).port.sweepTimer = s.port.sweepTimer ∧
    (requestEnterConfig i s).port.sweepPlace = s.port.sweepPlace ∧
    (requestEnterConfig i s).port.sweepHeld = s.port.sweepHeld ∧
    (requestEnterConfig i s).port.sweepCount = s.port.sweepCount ∧
    (requestEnterConfig i s).port.writeRefused = s.port.writeRefused ∧
    (requestEnterConfig i s).port.refusedAddress = s.port.refusedAddress ∧
    (requestEnterConfig i s).outside = s.outside ∧ (requestEnterConfig i s).setup = s.setup ∧
    (requestEnterConfig i s).shop.receiver = s.shop.receiver ∧ (requestEnterConfig i s).shop.rate = s.shop.rate ∧
    (requestEnterConfig i s).shop.nextRate = s.shop.nextRate ∧
    (requestEnterConfig i s).shop.gapTimer = s.shop.gapTimer ∧
    (requestEnterConfig i s).shop.idleTimer = s.shop.idleTimer := by
  unfold requestEnterConfig; split <;> simp

@[simp] theorem requestStandbyPermit_frame (i : Nat) (s : State) :
    (requestStandbyPermit i s).pending = s.pending ∧ (requestStandbyPermit i s).now = s.now ∧
    (requestStandbyPermit i s).port.noticeRead = s.port.noticeRead ∧
    (requestStandbyPermit i s).port.intEnable = s.port.intEnable ∧
    (requestStandbyPermit i s).port.displayLost = s.port.displayLost ∧
    (requestStandbyPermit i s).port.sweepCount = s.port.sweepCount ∧
    (requestStandbyPermit i s).port.writeRefused = s.port.writeRefused ∧
    (requestStandbyPermit i s).port.refusedAddress = s.port.refusedAddress ∧
    (requestStandbyPermit i s).outside = s.outside ∧ (requestStandbyPermit i s).setup = s.setup := by
  unfold requestStandbyPermit; split <;> simp

@[simp] theorem requestSupplySignal_frame (i : Nat) (s : State) :
    (requestSupplySignal i s).pending = s.pending ∧ (requestSupplySignal i s).now = s.now ∧
    (requestSupplySignal i s).run = s.run ∧ (requestSupplySignal i s).port.noticeRead = s.port.noticeRead ∧
    (requestSupplySignal i s).port.intEnable = s.port.intEnable ∧
    (requestSupplySignal i s).port.displayLost = s.port.displayLost ∧
    (requestSupplySignal i s).port.livenessTimer = s.port.livenessTimer ∧
    (requestSupplySignal i s).port.sweepTimer = s.port.sweepTimer ∧
    (requestSupplySignal i s).port.sweepPlace = s.port.sweepPlace ∧
    (requestSupplySignal i s).port.sweepHeld = s.port.sweepHeld ∧
    (requestSupplySignal i s).port.sweepCount = s.port.sweepCount ∧
    (requestSupplySignal i s).port.writeRefused = s.port.writeRefused ∧
    (requestSupplySignal i s).port.refusedAddress = s.port.refusedAddress ∧
    (requestSupplySignal i s).outside = s.outside ∧ (requestSupplySignal i s).setup = s.setup ∧
    (requestSupplySignal i s).sense = s.sense ∧ (requestSupplySignal i s).line = s.line ∧
    (requestSupplySignal i s).shop.receiver = s.shop.receiver ∧ (requestSupplySignal i s).shop.rate = s.shop.rate ∧
    (requestSupplySignal i s).shop.nextRate = s.shop.nextRate ∧
    (requestSupplySignal i s).shop.gapTimer = s.shop.gapTimer ∧
    (requestSupplySignal i s).shop.idleTimer = s.shop.idleTimer := by
  unfold requestSupplySignal; (try dsimp only); repeat' (first | (simp; done) | split)

@[simp] theorem requestStationTransfer_frame (i : Nat) (s : State) :
    (requestStationTransfer i s).pending = s.pending ∧ (requestStationTransfer i s).now = s.now ∧
    (requestStationTransfer i s).run = s.run ∧ (requestStationTransfer i s).port.noticeRead = s.port.noticeRead ∧
    (requestStationTransfer i s).port.intEnable = s.port.intEnable ∧
    (requestStationTransfer i s).port.displayLost = s.port.displayLost ∧
    (requestStationTransfer i s).port.livenessTimer = s.port.livenessTimer ∧
    (requestStationTransfer i s).port.sweepTimer = s.port.sweepTimer ∧
    (requestStationTransfer i s).port.sweepPlace = s.port.sweepPlace ∧
    (requestStationTransfer i s).port.sweepHeld = s.port.sweepHeld ∧
    (requestStationTransfer i s).port.sweepCount = s.port.sweepCount ∧
    (requestStationTransfer i s).port.writeRefused = s.port.writeRefused ∧
    (requestStationTransfer i s).port.refusedAddress = s.port.refusedAddress ∧
    (requestStationTransfer i s).outside = s.outside ∧ (requestStationTransfer i s).setup = s.setup ∧
    (requestStationTransfer i s).signals = s.signals ∧ (requestStationTransfer i s).sense = s.sense ∧
    (requestStationTransfer i s).doors = s.doors ∧ (requestStationTransfer i s).warnings = s.warnings ∧
    (requestStationTransfer i s).comp = s.comp ∧ (requestStationTransfer i s).gauges = s.gauges ∧
    (requestStationTransfer i s).faults = s.faults ∧ (requestStationTransfer i s).shop = s.shop := by
  unfold requestStationTransfer; (try dsimp only); repeat' (first | (simp; done) | split)

@[simp] theorem requestAcknowledge_frame (i : Nat) (s : State) :
    (requestAcknowledge i s).pending = s.pending ∧ (requestAcknowledge i s).now = s.now ∧
    (requestAcknowledge i s).run = s.run ∧ (requestAcknowledge i s).port.noticeRead = s.port.noticeRead ∧
    (requestAcknowledge i s).port.intEnable = s.port.intEnable ∧
    (requestAcknowledge i s).port.displayLost = s.port.displayLost ∧
    (requestAcknowledge i s).port.livenessTimer = s.port.livenessTimer ∧
    (requestAcknowledge i s).port.sweepTimer = s.port.sweepTimer ∧
    (requestAcknowledge i s).port.sweepPlace = s.port.sweepPlace ∧
    (requestAcknowledge i s).port.sweepHeld = s.port.sweepHeld ∧
    (requestAcknowledge i s).port.sweepCount = s.port.sweepCount ∧
    (requestAcknowledge i s).port.writeRefused = s.port.writeRefused ∧
    (requestAcknowledge i s).port.refusedAddress = s.port.refusedAddress ∧
    (requestAcknowledge i s).outside = s.outside ∧ (requestAcknowledge i s).setup = s.setup ∧
    (requestAcknowledge i s).signals = s.signals ∧ (requestAcknowledge i s).sense = s.sense ∧
    (requestAcknowledge i s).line = s.line ∧ (requestAcknowledge i s).doors = s.doors ∧
    (requestAcknowledge i s).gauges = s.gauges ∧ (requestAcknowledge i s).shop = s.shop := by
  unfold requestAcknowledge; (try dsimp only); repeat' (first | (simp; done) | split)

@[simp] theorem requestGaugeSweep_frame (i : Nat) (s : State) :
    (requestGaugeSweep i s).pending = s.pending ∧ (requestGaugeSweep i s).now = s.now ∧
    (requestGaugeSweep i s).run = s.run ∧ (requestGaugeSweep i s).port.noticeRead = s.port.noticeRead ∧
    (requestGaugeSweep i s).port.intEnable = s.port.intEnable ∧
    (requestGaugeSweep i s).port.displayLost = s.port.displayLost ∧
    (requestGaugeSweep i s).port.livenessTimer = s.port.livenessTimer ∧
    (requestGaugeSweep i s).port.sweepTimer = s.port.sweepTimer ∧
    (requestGaugeSweep i s).port.sweepPlace = s.port.sweepPlace ∧
    (requestGaugeSweep i s).port.sweepHeld = s.port.sweepHeld ∧
    (requestGaugeSweep i s).port.sweepCount = s.port.sweepCount ∧
    (requestGaugeSweep i s).port.writeRefused = s.port.writeRefused ∧
    (requestGaugeSweep i s).port.refusedAddress = s.port.refusedAddress ∧
    (requestGaugeSweep i s).outside = s.outside ∧ (requestGaugeSweep i s).setup = s.setup ∧
    (requestGaugeSweep i s).signals = s.signals ∧ (requestGaugeSweep i s).sense = s.sense ∧
    (requestGaugeSweep i s).line = s.line ∧ (requestGaugeSweep i s).doors = s.doors ∧
    (requestGaugeSweep i s).warnings = s.warnings ∧ (requestGaugeSweep i s).comp = s.comp ∧
    (requestGaugeSweep i s).faults = s.faults ∧ (requestGaugeSweep i s).shop = s.shop := by
  unfold requestGaugeSweep; (try dsimp only); repeat' (first | (simp; done) | split)

@[simp] theorem requestLampCheck_frame (i : Nat) (s : State) :
    (requestLampCheck i s).pending = s.pending ∧ (requestLampCheck i s).now = s.now ∧
    (requestLampCheck i s).run = s.run ∧ (requestLampCheck i s).port.noticeRead = s.port.noticeRead ∧
    (requestLampCheck i s).port.intEnable = s.port.intEnable ∧
    (requestLampCheck i s).port.displayLost = s.port.displayLost ∧
    (requestLampCheck i s).port.livenessTimer = s.port.livenessTimer ∧
    (requestLampCheck i s).port.sweepTimer = s.port.sweepTimer ∧
    (requestLampCheck i s).port.sweepPlace = s.port.sweepPlace ∧
    (requestLampCheck i s).port.sweepHeld = s.port.sweepHeld ∧
    (requestLampCheck i s).port.sweepCount = s.port.sweepCount ∧
    (requestLampCheck i s).port.writeRefused = s.port.writeRefused ∧
    (requestLampCheck i s).port.refusedAddress = s.port.refusedAddress ∧
    (requestLampCheck i s).outside = s.outside ∧ (requestLampCheck i s).setup = s.setup ∧
    (requestLampCheck i s).signals = s.signals ∧ (requestLampCheck i s).sense = s.sense ∧
    (requestLampCheck i s).line = s.line ∧ (requestLampCheck i s).doors = s.doors ∧
    (requestLampCheck i s).gauges = s.gauges ∧ (requestLampCheck i s).shop = s.shop := by
  unfold requestLampCheck; (try dsimp only); repeat' (first | (simp; done) | split)

@[simp] theorem requestWiringCheck_frame (i : Nat) (s : State) :
    (requestWiringCheck i s).pending = s.pending ∧ (requestWiringCheck i s).now = s.now ∧
    (requestWiringCheck i s).run = s.run ∧ (requestWiringCheck i s).port.noticeRead = s.port.noticeRead ∧
    (requestWiringCheck i s).port.intEnable = s.port.intEnable ∧
    (requestWiringCheck i s).port.displayLost = s.port.displayLost ∧
    (requestWiringCheck i s).port.livenessTimer = s.port.livenessTimer ∧
    (requestWiringCheck i s).port.sweepTimer = s.port.sweepTimer ∧
    (requestWiringCheck i s).port.sweepPlace = s.port.sweepPlace ∧
    (requestWiringCheck i s).port.sweepHeld = s.port.sweepHeld ∧
    (requestWiringCheck i s).port.sweepCount = s.port.sweepCount ∧
    (requestWiringCheck i s).port.writeRefused = s.port.writeRefused ∧
    (requestWiringCheck i s).port.refusedAddress = s.port.refusedAddress ∧
    (requestWiringCheck i s).outside = s.outside ∧ (requestWiringCheck i s).setup = s.setup ∧
    (requestWiringCheck i s).signals = s.signals ∧ (requestWiringCheck i s).line = s.line ∧
    (requestWiringCheck i s).gauges = s.gauges ∧ (requestWiringCheck i s).shop = s.shop := by
  unfold requestWiringCheck; (try dsimp only); repeat' (first | (simp; done) | split)

@[simp] theorem requestClearFaults_frame (i : Nat) (s : State) :
    (requestClearFaults i s).pending = s.pending ∧ (requestClearFaults i s).now = s.now ∧
    (requestClearFaults i s).run = s.run ∧ (requestClearFaults i s).port.noticeRead = s.port.noticeRead ∧
    (requestClearFaults i s).port.intEnable = s.port.intEnable ∧
    (requestClearFaults i s).port.displayLost = s.port.displayLost ∧
    (requestClearFaults i s).port.livenessTimer = s.port.livenessTimer ∧
    (requestClearFaults i s).port.sweepTimer = s.port.sweepTimer ∧
    (requestClearFaults i s).port.sweepPlace = s.port.sweepPlace ∧
    (requestClearFaults i s).port.sweepHeld = s.port.sweepHeld ∧
    (requestClearFaults i s).port.sweepCount = s.port.sweepCount ∧
    (requestClearFaults i s).port.writeRefused = s.port.writeRefused ∧
    (requestClearFaults i s).port.refusedAddress = s.port.refusedAddress ∧
    (requestClearFaults i s).outside = s.outside ∧ (requestClearFaults i s).setup = s.setup ∧
    (requestClearFaults i s).signals = s.signals ∧ (requestClearFaults i s).sense = s.sense ∧
    (requestClearFaults i s).line = s.line ∧ (requestClearFaults i s).doors = s.doors ∧
    (requestClearFaults i s).warnings = s.warnings ∧ (requestClearFaults i s).comp = s.comp ∧
    (requestClearFaults i s).gauges = s.gauges ∧ (requestClearFaults i s).shop = s.shop := by
  unfold requestClearFaults; (try dsimp only); repeat' (first | (simp; done) | split)

@[simp] theorem RequestKind.route_frame (k : RequestKind) (i : Nat) (s : State) :
    (RequestKind.route k i s).pending = s.pending ∧ (RequestKind.route k i s).now = s.now ∧
    (RequestKind.route k i s).port.noticeRead = s.port.noticeRead ∧
    (RequestKind.route k i s).port.intEnable = s.port.intEnable ∧
    (RequestKind.route k i s).port.displayLost = s.port.displayLost ∧
    (RequestKind.route k i s).port.sweepCount = s.port.sweepCount ∧
    (RequestKind.route k i s).port.writeRefused = s.port.writeRefused ∧
    (RequestKind.route k i s).port.refusedAddress = s.port.refusedAddress ∧
    (RequestKind.route k i s).outside = s.outside ∧ (RequestKind.route k i s).setup = s.setup := by
  unfold RequestKind.route; split <;> simp

@[simp] theorem takeSlot_frame (i : Nat) (s : State) :
    (takeSlot i s).pending = s.pending ∧ (takeSlot i s).now = s.now ∧
    (takeSlot i s).port.noticeRead = s.port.noticeRead ∧ (takeSlot i s).port.intEnable = s.port.intEnable ∧
    (takeSlot i s).port.displayLost = s.port.displayLost ∧ (takeSlot i s).port.sweepCount = s.port.sweepCount ∧
    (takeSlot i s).port.writeRefused = s.port.writeRefused ∧
    (takeSlot i s).port.refusedAddress = s.port.refusedAddress ∧ (takeSlot i s).outside = s.outside ∧
    (takeSlot i s).setup = s.setup := by
  unfold takeSlot; split <;> simp

@[simp] theorem endSweep_frame (s : State) :
    (endSweep s).pending = s.pending ∧ (endSweep s).now = s.now ∧ (endSweep s).run = s.run ∧
    (endSweep s).port.noticeRead = s.port.noticeRead ∧ (endSweep s).port.intEnable = s.port.intEnable ∧
    (endSweep s).port.displayLost = s.port.displayLost ∧ (endSweep s).port.livenessTimer = s.port.livenessTimer ∧
    (endSweep s).port.sweepTimer = s.port.sweepTimer ∧ (endSweep s).port.sweepHeld = s.port.sweepHeld ∧
    (endSweep s).port.writeRefused = s.port.writeRefused ∧
    (endSweep s).port.refusedAddress = s.port.refusedAddress ∧ (endSweep s).mem = s.mem ∧
    (endSweep s).outside = s.outside ∧ (endSweep s).setup = s.setup ∧ (endSweep s).signals = s.signals ∧
    (endSweep s).sense = s.sense ∧ (endSweep s).line = s.line ∧ (endSweep s).doors = s.doors ∧
    (endSweep s).warnings = s.warnings ∧ (endSweep s).comp = s.comp ∧ (endSweep s).gauges = s.gauges ∧
    (endSweep s).faults = s.faults ∧ (endSweep s).shop = s.shop := by
  simp [endSweep]

@[simp] theorem sweepOn_frame (k : Nat) (s : State) :
    (sweepOn k s).pending = s.pending ∧ (sweepOn k s).now = s.now ∧ (sweepOn k s).run = s.run ∧
    (sweepOn k s).port.noticeRead = s.port.noticeRead ∧ (sweepOn k s).port.intEnable = s.port.intEnable ∧
    (sweepOn k s).port.displayLost = s.port.displayLost ∧ (sweepOn k s).port.livenessTimer = s.port.livenessTimer ∧
    (sweepOn k s).port.sweepTimer = s.port.sweepTimer ∧ (sweepOn k s).port.sweepHeld = s.port.sweepHeld ∧
    (sweepOn k s).port.writeRefused = s.port.writeRefused ∧
    (sweepOn k s).port.refusedAddress = s.port.refusedAddress ∧ (sweepOn k s).mem = s.mem ∧
    (sweepOn k s).outside = s.outside ∧ (sweepOn k s).setup = s.setup ∧ (sweepOn k s).signals = s.signals ∧
    (sweepOn k s).sense = s.sense ∧ (sweepOn k s).line = s.line ∧ (sweepOn k s).doors = s.doors ∧
    (sweepOn k s).warnings = s.warnings ∧ (sweepOn k s).comp = s.comp ∧ (sweepOn k s).gauges = s.gauges ∧
    (sweepOn k s).faults = s.faults ∧ (sweepOn k s).shop = s.shop := by
  unfold sweepOn; (try dsimp only); repeat' (first | (simp; done) | split)

@[simp] theorem visitSlot_frame (s : State) :
    (visitSlot s).pending = s.pending ∧ (visitSlot s).now = s.now ∧
    (visitSlot s).port.noticeRead = s.port.noticeRead ∧ (visitSlot s).port.intEnable = s.port.intEnable ∧
    (visitSlot s).port.displayLost = s.port.displayLost ∧ (visitSlot s).port.writeRefused = s.port.writeRefused ∧
    (visitSlot s).port.refusedAddress = s.port.refusedAddress ∧ (visitSlot s).outside = s.outside ∧
    (visitSlot s).setup = s.setup := by
  unfold visitSlot; split <;> simp

@[simp] theorem visitSlots_frame (n : Nat) (s : State) :
    (visitSlots n s).pending = s.pending ∧ (visitSlots n s).now = s.now ∧
    (visitSlots n s).port.noticeRead = s.port.noticeRead ∧ (visitSlots n s).port.intEnable = s.port.intEnable ∧
    (visitSlots n s).port.displayLost = s.port.displayLost ∧
    (visitSlots n s).port.writeRefused = s.port.writeRefused ∧
    (visitSlots n s).port.refusedAddress = s.port.refusedAddress ∧ (visitSlots n s).outside = s.outside ∧
    (visitSlots n s).setup = s.setup := by
  fun_induction visitSlots <;> simp_all

@[simp] theorem startSweep_frame (places : Nat) (s : State) :
    (startSweep places s).pending = s.pending ∧ (startSweep places s).now = s.now ∧
    (startSweep places s).port.noticeRead = s.port.noticeRead ∧
    (startSweep places s).port.intEnable = s.port.intEnable ∧
    (startSweep places s).port.displayLost = s.port.displayLost ∧
    (startSweep places s).port.writeRefused = s.port.writeRefused ∧
    (startSweep places s).port.refusedAddress = s.port.refusedAddress ∧ (startSweep places s).outside = s.outside ∧
    (startSweep places s).setup = s.setup := by
  unfold startSweep; split <;> simp

@[simp] theorem sweepExpires_frame (places : Nat) (s : State) :
    (sweepExpires places s).pending = s.pending ∧ (sweepExpires places s).port.noticeRead = s.port.noticeRead ∧
    (sweepExpires places s).port.intEnable = s.port.intEnable ∧
    (sweepExpires places s).port.displayLost = s.port.displayLost ∧
    (sweepExpires places s).port.writeRefused = s.port.writeRefused ∧
    (sweepExpires places s).port.refusedAddress = s.port.refusedAddress ∧
    (sweepExpires places s).outside = s.outside ∧ (sweepExpires places s).setup = s.setup := by
  simp [sweepExpires]

@[simp] theorem startHeld_frame (places : Nat) (s : State) :
    (startHeld places s).pending = s.pending ∧ (startHeld places s).now = s.now ∧
    (startHeld places s).port.noticeRead = s.port.noticeRead ∧
    (startHeld places s).port.intEnable = s.port.intEnable ∧
    (startHeld places s).port.displayLost = s.port.displayLost ∧
    (startHeld places s).port.writeRefused = s.port.writeRefused ∧
    (startHeld places s).port.refusedAddress = s.port.refusedAddress ∧ (startHeld places s).outside = s.outside ∧
    (startHeld places s).setup = s.setup := by
  simp [startHeld]

@[simp] theorem heldSweepStarts_frame (places : Nat) (s : State) :
    (heldSweepStarts places s).pending = s.pending ∧ (heldSweepStarts places s).now = s.now ∧
    (heldSweepStarts places s).port.noticeRead = s.port.noticeRead ∧
    (heldSweepStarts places s).port.intEnable = s.port.intEnable ∧
    (heldSweepStarts places s).port.displayLost = s.port.displayLost ∧
    (heldSweepStarts places s).port.writeRefused = s.port.writeRefused ∧
    (heldSweepStarts places s).port.refusedAddress = s.port.refusedAddress ∧
    (heldSweepStarts places s).outside = s.outside ∧ (heldSweepStarts places s).setup = s.setup := by
  simp [heldSweepStarts]

@[simp] theorem validationFails_frame (i : Nat) (f : SetupFailure) (s : State) :
    (validationFails i f s).pending = s.pending ∧ (validationFails i f s).now = s.now ∧
    (validationFails i f s).run.state = s.run.state ∧ (validationFails i f s).port.noticeRead = s.port.noticeRead ∧
    (validationFails i f s).port.intEnable = s.port.intEnable ∧
    (validationFails i f s).port.displayLost = s.port.displayLost ∧
    (validationFails i f s).port.livenessTimer = s.port.livenessTimer ∧
    (validationFails i f s).port.sweepTimer = s.port.sweepTimer ∧
    (validationFails i f s).port.sweepPlace = s.port.sweepPlace ∧
    (validationFails i f s).port.sweepHeld = s.port.sweepHeld ∧
    (validationFails i f s).port.sweepCount = s.port.sweepCount ∧
    (validationFails i f s).port.writeRefused = s.port.writeRefused ∧
    (validationFails i f s).port.refusedAddress = s.port.refusedAddress ∧
    (validationFails i f s).outside = s.outside ∧ (validationFails i f s).setup = s.setup ∧
    (validationFails i f s).signals = s.signals ∧ (validationFails i f s).sense = s.sense ∧
    (validationFails i f s).line = s.line ∧ (validationFails i f s).doors = s.doors ∧
    (validationFails i f s).warnings = s.warnings ∧ (validationFails i f s).comp = s.comp ∧
    (validationFails i f s).gauges = s.gauges ∧ (validationFails i f s).faults = s.faults ∧
    (validationFails i f s).shop = s.shop := by
  simp [validationFails]

@[simp] theorem validationPasses_frame (i : Nat) (s : State) :
    (validationPasses i s).pending = s.pending ∧ (validationPasses i s).now = s.now ∧
    (validationPasses i s).port.noticeRead = s.port.noticeRead ∧
    (validationPasses i s).port.intEnable = s.port.intEnable ∧
    (validationPasses i s).port.displayLost = s.port.displayLost ∧
    (validationPasses i s).port.sweepTimer = s.port.sweepTimer ∧
    (validationPasses i s).port.sweepPlace = s.port.sweepPlace ∧
    (validationPasses i s).port.sweepHeld = s.port.sweepHeld ∧
    (validationPasses i s).port.sweepCount = s.port.sweepCount ∧
    (validationPasses i s).port.writeRefused = s.port.writeRefused ∧
    (validationPasses i s).port.refusedAddress = s.port.refusedAddress ∧
    (validationPasses i s).outside = s.outside ∧ (validationPasses i s).shop.session = s.shop.session ∧
    (validationPasses i s).shop.receiver = s.shop.receiver ∧ (validationPasses i s).shop.rate = s.shop.rate ∧
    (validationPasses i s).shop.nextRate = s.shop.nextRate ∧
    (validationPasses i s).shop.gapTimer = s.shop.gapTimer ∧
    (validationPasses i s).shop.idleTimer = s.shop.idleTimer := by
  simp [validationPasses]

@[simp] theorem validationEnds_frame (s : State) :
    (validationEnds s).pending = s.pending ∧ (validationEnds s).now = s.now ∧
    (validationEnds s).port.noticeRead = s.port.noticeRead ∧ (validationEnds s).port.intEnable = s.port.intEnable ∧
    (validationEnds s).port.displayLost = s.port.displayLost ∧
    (validationEnds s).port.sweepTimer = s.port.sweepTimer ∧
    (validationEnds s).port.sweepPlace = s.port.sweepPlace ∧ (validationEnds s).port.sweepHeld = s.port.sweepHeld ∧
    (validationEnds s).port.sweepCount = s.port.sweepCount ∧
    (validationEnds s).port.writeRefused = s.port.writeRefused ∧
    (validationEnds s).port.refusedAddress = s.port.refusedAddress ∧ (validationEnds s).outside = s.outside ∧
    (validationEnds s).shop.session = s.shop.session ∧ (validationEnds s).shop.receiver = s.shop.receiver ∧
    (validationEnds s).shop.rate = s.shop.rate ∧ (validationEnds s).shop.nextRate = s.shop.nextRate ∧
    (validationEnds s).shop.gapTimer = s.shop.gapTimer ∧ (validationEnds s).shop.idleTimer = s.shop.idleTimer := by
  unfold validationEnds; (try dsimp only); repeat' (first | (simp; done) | split)

@[simp] theorem setDisplayLost_frame (lost : Bool) (s : State) :
    (setDisplayLost lost s).pending = s.pending ∧ (setDisplayLost lost s).now = s.now ∧
    (setDisplayLost lost s).run = s.run ∧ (setDisplayLost lost s).port.noticeRead = s.port.noticeRead ∧
    (setDisplayLost lost s).port.intEnable = s.port.intEnable ∧
    (setDisplayLost lost s).port.livenessTimer = s.port.livenessTimer ∧
    (setDisplayLost lost s).port.sweepTimer = s.port.sweepTimer ∧
    (setDisplayLost lost s).port.sweepPlace = s.port.sweepPlace ∧
    (setDisplayLost lost s).port.sweepHeld = s.port.sweepHeld ∧
    (setDisplayLost lost s).port.sweepCount = s.port.sweepCount ∧
    (setDisplayLost lost s).port.writeRefused = s.port.writeRefused ∧
    (setDisplayLost lost s).port.refusedAddress = s.port.refusedAddress ∧ (setDisplayLost lost s).mem = s.mem ∧
    (setDisplayLost lost s).outside = s.outside ∧ (setDisplayLost lost s).setup = s.setup ∧
    (setDisplayLost lost s).signals = s.signals ∧ (setDisplayLost lost s).sense = s.sense ∧
    (setDisplayLost lost s).line = s.line ∧ (setDisplayLost lost s).doors = s.doors ∧
    (setDisplayLost lost s).gauges = s.gauges ∧ (setDisplayLost lost s).shop = s.shop := by
  simp [setDisplayLost]

@[simp] theorem heartbeat_frame (s : State) :
    (heartbeat s).pending = s.pending ∧ (heartbeat s).now = s.now ∧ (heartbeat s).run = s.run ∧
    (heartbeat s).port.noticeRead = s.port.noticeRead ∧ (heartbeat s).port.intEnable = s.port.intEnable ∧
    (heartbeat s).port.sweepTimer = s.port.sweepTimer ∧ (heartbeat s).port.sweepPlace = s.port.sweepPlace ∧
    (heartbeat s).port.sweepHeld = s.port.sweepHeld ∧ (heartbeat s).port.sweepCount = s.port.sweepCount ∧
    (heartbeat s).port.writeRefused = s.port.writeRefused ∧
    (heartbeat s).port.refusedAddress = s.port.refusedAddress ∧ (heartbeat s).mem = s.mem ∧
    (heartbeat s).outside = s.outside ∧ (heartbeat s).setup = s.setup ∧ (heartbeat s).signals = s.signals ∧
    (heartbeat s).sense = s.sense ∧ (heartbeat s).line = s.line ∧ (heartbeat s).doors = s.doors ∧
    (heartbeat s).gauges = s.gauges ∧ (heartbeat s).shop = s.shop := by
  simp [heartbeat]

@[simp] theorem livenessExpires_frame (s : State) :
    (livenessExpires s).pending = s.pending ∧ (livenessExpires s).run = s.run ∧
    (livenessExpires s).port.noticeRead = s.port.noticeRead ∧
    (livenessExpires s).port.intEnable = s.port.intEnable ∧
    (livenessExpires s).port.sweepTimer = s.port.sweepTimer ∧
    (livenessExpires s).port.sweepPlace = s.port.sweepPlace ∧
    (livenessExpires s).port.sweepHeld = s.port.sweepHeld ∧
    (livenessExpires s).port.sweepCount = s.port.sweepCount ∧
    (livenessExpires s).port.writeRefused = s.port.writeRefused ∧
    (livenessExpires s).port.refusedAddress = s.port.refusedAddress ∧ (livenessExpires s).mem = s.mem ∧
    (livenessExpires s).outside = s.outside ∧ (livenessExpires s).setup = s.setup ∧
    (livenessExpires s).signals = s.signals ∧ (livenessExpires s).sense = s.sense ∧
    (livenessExpires s).line = s.line ∧ (livenessExpires s).doors = s.doors ∧
    (livenessExpires s).gauges = s.gauges ∧ (livenessExpires s).shop = s.shop := by
  simp [livenessExpires]

@[simp] theorem refuseWrite_frame (addr : BitVec 14) (s : State) :
    (refuseWrite addr s).pending = s.pending ∧ (refuseWrite addr s).now = s.now ∧
    (refuseWrite addr s).run = s.run ∧ (refuseWrite addr s).port.noticeRead = s.port.noticeRead ∧
    (refuseWrite addr s).port.intEnable = s.port.intEnable ∧
    (refuseWrite addr s).port.displayLost = s.port.displayLost ∧
    (refuseWrite addr s).port.livenessTimer = s.port.livenessTimer ∧
    (refuseWrite addr s).port.sweepTimer = s.port.sweepTimer ∧
    (refuseWrite addr s).port.sweepPlace = s.port.sweepPlace ∧
    (refuseWrite addr s).port.sweepHeld = s.port.sweepHeld ∧
    (refuseWrite addr s).port.sweepCount = s.port.sweepCount ∧ (refuseWrite addr s).mem = s.mem ∧
    (refuseWrite addr s).outside = s.outside ∧ (refuseWrite addr s).setup = s.setup ∧
    (refuseWrite addr s).signals = s.signals ∧ (refuseWrite addr s).sense = s.sense ∧
    (refuseWrite addr s).line = s.line ∧ (refuseWrite addr s).doors = s.doors ∧
    (refuseWrite addr s).warnings = s.warnings ∧ (refuseWrite addr s).comp = s.comp ∧
    (refuseWrite addr s).gauges = s.gauges ∧ (refuseWrite addr s).faults = s.faults ∧
    (refuseWrite addr s).shop = s.shop := by
  simp [refuseWrite]

@[simp] theorem memoryWrite_frame (addr : BitVec 14) (bytes : List (Nat × Byte)) (s : State) :
    (memoryWrite addr bytes s).pending = s.pending ∧ (memoryWrite addr bytes s).now = s.now ∧
    (memoryWrite addr bytes s).run = s.run ∧ (memoryWrite addr bytes s).port.noticeRead = s.port.noticeRead ∧
    (memoryWrite addr bytes s).port.intEnable = s.port.intEnable ∧
    (memoryWrite addr bytes s).port.displayLost = s.port.displayLost ∧
    (memoryWrite addr bytes s).port.livenessTimer = s.port.livenessTimer ∧
    (memoryWrite addr bytes s).port.sweepTimer = s.port.sweepTimer ∧
    (memoryWrite addr bytes s).port.sweepPlace = s.port.sweepPlace ∧
    (memoryWrite addr bytes s).port.sweepHeld = s.port.sweepHeld ∧
    (memoryWrite addr bytes s).port.sweepCount = s.port.sweepCount ∧ (memoryWrite addr bytes s).setup = s.setup ∧
    (memoryWrite addr bytes s).signals = s.signals ∧ (memoryWrite addr bytes s).sense = s.sense ∧
    (memoryWrite addr bytes s).line = s.line ∧ (memoryWrite addr bytes s).doors = s.doors ∧
    (memoryWrite addr bytes s).warnings = s.warnings ∧ (memoryWrite addr bytes s).comp = s.comp ∧
    (memoryWrite addr bytes s).gauges = s.gauges ∧ (memoryWrite addr bytes s).faults = s.faults ∧
    (memoryWrite addr bytes s).shop = s.shop := by
  unfold memoryWrite; split <;> simp

@[simp] theorem writePortStatus_frame (value : Word) (s : State) :
    (writePortStatus value s).pending = s.pending ∧ (writePortStatus value s).now = s.now ∧
    (writePortStatus value s).run = s.run ∧ (writePortStatus value s).port.noticeRead = s.port.noticeRead ∧
    (writePortStatus value s).port.intEnable = s.port.intEnable ∧
    (writePortStatus value s).port.displayLost = s.port.displayLost ∧
    (writePortStatus value s).port.livenessTimer = s.port.livenessTimer ∧
    (writePortStatus value s).port.sweepTimer = s.port.sweepTimer ∧
    (writePortStatus value s).port.sweepPlace = s.port.sweepPlace ∧
    (writePortStatus value s).port.sweepHeld = s.port.sweepHeld ∧
    (writePortStatus value s).port.sweepCount = s.port.sweepCount ∧
    (writePortStatus value s).port.refusedAddress = s.port.refusedAddress ∧ (writePortStatus value s).mem = s.mem ∧
    (writePortStatus value s).outside = s.outside ∧ (writePortStatus value s).setup = s.setup ∧
    (writePortStatus value s).signals = s.signals ∧ (writePortStatus value s).sense = s.sense ∧
    (writePortStatus value s).line = s.line ∧ (writePortStatus value s).doors = s.doors ∧
    (writePortStatus value s).warnings = s.warnings ∧ (writePortStatus value s).comp = s.comp ∧
    (writePortStatus value s).gauges = s.gauges ∧ (writePortStatus value s).faults = s.faults ∧
    (writePortStatus value s).shop = s.shop := by
  simp [writePortStatus]

@[simp] theorem writePortControl_frame (value : Word) (s : State) :
    (writePortControl value s).pending = s.pending ∧ (writePortControl value s).now = s.now ∧
    (writePortControl value s).outside = s.outside ∧ (writePortControl value s).setup = s.setup := by
  simp [writePortControl]

@[simp] theorem writeAttention_frame (places : Nat) (s : State) :
    (writeAttention places s).pending = s.pending ∧ (writeAttention places s).now = s.now ∧
    (writeAttention places s).port.noticeRead = s.port.noticeRead ∧
    (writeAttention places s).port.intEnable = s.port.intEnable ∧
    (writeAttention places s).port.writeRefused = s.port.writeRefused ∧
    (writeAttention places s).port.refusedAddress = s.port.refusedAddress ∧
    (writeAttention places s).outside = s.outside ∧ (writeAttention places s).setup = s.setup := by
  simp [writeAttention]

@[simp] theorem writeNoticeRead_frame (addr : BitVec 14) (value : Word) (s : State) :
    (writeNoticeRead addr value s).pending = s.pending ∧ (writeNoticeRead addr value s).now = s.now ∧
    (writeNoticeRead addr value s).run = s.run ∧ (writeNoticeRead addr value s).port.intEnable = s.port.intEnable ∧
    (writeNoticeRead addr value s).port.sweepTimer = s.port.sweepTimer ∧
    (writeNoticeRead addr value s).port.sweepPlace = s.port.sweepPlace ∧
    (writeNoticeRead addr value s).port.sweepHeld = s.port.sweepHeld ∧
    (writeNoticeRead addr value s).port.sweepCount = s.port.sweepCount ∧
    (writeNoticeRead addr value s).mem = s.mem ∧ (writeNoticeRead addr value s).outside = s.outside ∧
    (writeNoticeRead addr value s).setup = s.setup ∧ (writeNoticeRead addr value s).signals = s.signals ∧
    (writeNoticeRead addr value s).sense = s.sense ∧ (writeNoticeRead addr value s).line = s.line ∧
    (writeNoticeRead addr value s).doors = s.doors ∧ (writeNoticeRead addr value s).gauges = s.gauges ∧
    (writeNoticeRead addr value s).shop = s.shop := by
  unfold writeNoticeRead; (try dsimp only); repeat' (first | (simp; done) | split)

@[simp] theorem registerWrite_frame (addr : BitVec 14) (en : ByteEnable) (data : Word) (places : Nat) (s : State) :
    (registerWrite addr en data places s).pending = s.pending ∧ (registerWrite addr en data places s).now = s.now ∧
    (registerWrite addr en data places s).outside = s.outside ∧
    (registerWrite addr en data places s).setup = s.setup := by
  unfold registerWrite; split <;> simp

@[simp] theorem takeWrite_frame (addr : BitVec 14) (en : ByteEnable) (data : Word) (places : Nat) (s : State) :
    (takeWrite addr en data places s).pending = s.pending ∧ (takeWrite addr en data places s).now = s.now ∧
    (takeWrite addr en data places s).setup = s.setup := by
  unfold takeWrite; split <;> simp

@[simp] theorem hostWrite_frame (addr : BitVec 14) (en : ByteEnable) (data : Word) (places : Nat) (s : State) :
    (hostWrite addr en data places s).pending = s.pending ∧ (hostWrite addr en data places s).now = s.now ∧
    (hostWrite addr en data places s).setup = s.setup := by
  simp [hostWrite]

@[simp] theorem sweepMoves_frame (s : State) :
    (sweepMoves s).pending = s.pending ∧ (sweepMoves s).now = s.now ∧
    (sweepMoves s).port.noticeRead = s.port.noticeRead ∧ (sweepMoves s).port.intEnable = s.port.intEnable ∧
    (sweepMoves s).port.displayLost = s.port.displayLost ∧ (sweepMoves s).port.writeRefused = s.port.writeRefused ∧
    (sweepMoves s).port.refusedAddress = s.port.refusedAddress ∧ (sweepMoves s).outside = s.outside ∧
    (sweepMoves s).setup = s.setup := by
  unfold sweepMoves; (try dsimp only); repeat' (first | (simp; done) | split)

@[simp] theorem tick_frame (s : State) :
    (tick s).pending = s.pending ∧ (tick s).port.noticeRead = s.port.noticeRead ∧
    (tick s).port.intEnable = s.port.intEnable ∧ (tick s).port.displayLost = s.port.displayLost ∧
    (tick s).port.writeRefused = s.port.writeRefused ∧ (tick s).port.refusedAddress = s.port.refusedAddress ∧
    (tick s).outside = s.outside ∧ (tick s).setup = s.setup := by
  simp [tick]


end Sys2Proof.Machine
end

