-- ==== Sys2Proof/Laws/Parts.lean ====
section
/-! SUPPORT. How a part of the state is shown to be the same, and the canonical form of the exchange memory over the
host's stores and at reset. -/

namespace Sys2Proof.Machine

/-- A memory that is the same is the same inside and outside the request slots. -/
theorem Part.same_mem (s t : State) (h : t.mem = s.mem) : Part.same s t .slots ∧ Part.same s t .freeBytes := by
  constructor <;> (unfold Part.same; intro a; simp [h])

/-- The bytes outside the request slots are those of `State.outside`. -/
theorem Part.same_freeBytes (s t : State) (h : t.outside = s.outside) : Part.same s t .freeBytes := by
  unfold Part.same
  intro a ha
  have := congrFun h a
  unfold State.outside at this
  rwa [if_neg (by omega), if_neg (by omega)] at this

/-- The registers are the fields of the port unit beside the notices and the status block count. -/
theorem Part.same_registers (s t : State) (h1 : t.port.noticeRead = s.port.noticeRead)
    (h2 : t.port.writeRefused = s.port.writeRefused) (h3 : t.port.refusedAddress = s.port.refusedAddress)
    (h4 : t.port.intEnable = s.port.intEnable) (h5 : t.port.displayLost = s.port.displayLost)
    (h6 : t.port.livenessTimer = s.port.livenessTimer) (h7 : t.port.sweepTimer = s.port.sweepTimer)
    (h8 : t.port.sweepPlace = s.port.sweepPlace) (h9 : t.port.sweepHeld = s.port.sweepHeld)
    (h10 : t.port.sweepCount = s.port.sweepCount) : Part.same s t .registers := by
  simp [Part.same, Port.registers, *]

/-- Every part of a state is the same as itself. -/
theorem Part.same_refl (s : State) (p : Part) : p.same s s := by
  cases p <;> simp [Part.same]

/-- What is the same twice over is the same. -/
theorem Part.same_trans (s t u : State) (p : Part) (h : p.same s t) (k : p.same t u) : p.same s u := by
  cases p <;> simp_all [Part.same]

/-- Nothing changes from a state to itself. -/
theorem State.changesOnly_refl (s : State) (l : List Part) : s.changesOnly s l := fun p _ => p.same_refl s

/-- Two changes, one after the other, stay inside a list that holds both. -/
theorem State.changesOnly_trans (s t u : State) (l : List Part) (h : s.changesOnly t l) (k : t.changesOnly u l) :
    s.changesOnly u l := fun p hp => p.same_trans s t u (h p hp) (k p hp)

/-- A change inside a list is a change inside a longer one. -/
theorem State.changesOnly_mono (s t : State) (l m : List Part) (h : s.changesOnly t l) (hlm : ∀ p ∈ l, p ∈ m) :
    s.changesOnly t m := fun p hp => h p fun hl => hp (hlm p hl)

/-- The host's stores keep the canonical form. -/
theorem Memory.wf_store (bytes : List (Nat × Byte)) (m : Memory) (h : Memory.wf m = true) :
    Memory.wf (Memory.store m bytes) = true := by
  induction bytes generalizing m with
  | nil => exact h
  | cons b rest ih => exact ih _ (Memory.wf_write m b.1 b.2 h)

/-- The exchange memory at reset stands in the canonical form. -/
theorem reset_memorySound : State.reset.memorySound := rfl

/-- A write of a slot's state keeps the canonical form. -/
theorem setSlotState_memorySound (i : Nat) (x : SlotState) (s : State) (h : s.memorySound) :
    (setSlotState i x s).memorySound := Memory.wf_write _ _ _ h

/-- A request that ends keeps the canonical form. -/
theorem finishSlot_memorySound (i : Nat) (x : SlotState) (code : ResultCode) (detail : Nat) (body : List Byte)
    (s : State) (h : s.memorySound) : (finishSlot i x code detail body s).memorySound :=
  Memory.wf_write _ _ _ (Memory.wf_writeBytes _ _ _ (Memory.wf_writeBytes _ _ _ (Memory.wf_write _ _ _ h)))

/-- A store leaves every byte it does not name. -/
theorem Memory.read_store_other (l : List (Nat × Byte)) (m : Memory) (a : Nat) (h : a ∉ l.map (·.1)) :
    Memory.read (Memory.store m l) a = Memory.read m a := by
  induction l generalizing m with
  | nil => rfl
  | cons b l ih =>
    simp at h
    simp only [Memory.store, List.foldl_cons] at ih ⊢
    rw [ih _ (by simpa using h.2), Memory.read_write_other]
    exact h.1

end Sys2Proof.Machine
end

