-- ==== Sys2Proof/Laws/Receiver.lean ====
section
/-! SUPPORT. The workshop receiver fed a whole request frame: an idle receiver takes the request at its last
character. -/

namespace Sys2Proof.Machine

/-- Two moves of the receiver at one instant are the second alone. -/
theorem receiveAs_receiveAs (r q : Receiver) (s : State) : receiveAs r (receiveAs q s) = receiveAs r s := rfl

/-- A receiving receiver takes characters in order while the frame is not complete. -/
theorem receiving_foldl (mid cs : List Byte) (s : State) (hc : cs ≠ [])
    (h : cs.length + mid.length < (cs.getD 0 0#8).toNat) :
    mid.foldl (fun u b => receiveCharacter b .none u) (receiveAs (.receiving cs) s) =
      receiveAs (.receiving (cs ++ mid)) s := by
  induction mid generalizing cs with
  | nil => simp
  | cons b rest ih =>
    obtain ⟨c, cs', rfl⟩ := List.exists_cons_of_ne_nil hc
    have hstep : receiveCharacter b .none (receiveAs (.receiving (c :: cs')) s) =
        receiveAs (.receiving (c :: cs' ++ [b])) s := by
      simp only [receiveCharacter, receiveAs, frameGains, State.setShop]
      rw [if_neg (by simp), if_neg]
      simp at h ⊢
      omega
    rw [List.foldl_cons, hstep, ih _ (by simp)]
    · simp
    · simp at h ⊢
      omega

/-- The check character brings the sum of a frame to 0 (R163). -/
theorem sumBytes_checkOf (l : List Byte) : sumBytes (l ++ [checkOf l]) = 0#8 := by
  simp [sumBytes, checkOf, List.foldl_append]

/-- An idle receiver in an awake state that is fed a request frame takes its request at the last character (R163). -/
theorem receiveFrame_requestFrame (code tag : Byte) (data : List Byte) (s : State) (ha : s.awake = true)
    (hi : s.shop.receiver = .idle) (hl : data.length ≤ 60) :
    receiveFrame (requestFrame code tag data) s =
      takeRequest code tag data
        (receiveAs (.receiving ([byteOf (data.length + 4), code, tag] ++ data)) s) := by
  have hn : (byteOf (data.length + 4)).toNat = data.length + 4 := by
    simp [byteOf]
    omega
  have hfirst : receiveCharacter (byteOf (data.length + 4)) .none s =
      receiveAs (.receiving [byteOf (data.length + 4)]) s := by
    simp only [receiveCharacter, hi, hn]
    rw [if_neg]
    simp
    omega
  simp only [receiveFrame, when, ha, if_true, requestFrame, List.foldl_append, List.foldl_cons, List.foldl_nil,
    List.cons_append, List.nil_append, hfirst]
  have hmid := receiving_foldl ([code, tag] ++ data) [byteOf (data.length + 4)] s (by simp)
    (by
      simp [hn]
      omega)
  simp only [List.foldl_cons, List.cons_append, List.nil_append] at hmid
  rw [hmid]
  have hsum := sumBytes_checkOf (byteOf (data.length + 4) :: code :: tag :: data)
  simp only [receiveCharacter, receiveAs, State.setShop, frameGains]
  rw [if_neg (by simp), if_pos (by simp [hn])]
  simp only [frameComplete]
  rw [if_neg (by simpa using hsum)]
  simp

end Sys2Proof.Machine
end

