-- ==== Sys2Proof/Laws/Walk.lean ====
section
/-! SUPPORT. What the walk of a minor cycle can do: the one lemma that says which entry or one-shot it starts. -/

namespace Sys2Proof.Machine

/-! ### Poll frames -/

theorem flatMap_wordBytes_length (ws : List Word) : (ws.flatMap wordBytes).length = 2 * ws.length := by
  induction ws with
  | nil => rfl
  | cons w ws ih => simp only [List.flatMap_cons, List.length_append, List.length_cons, ih]; simp [wordBytes]; omega

/-- The two characters of a word give it back. -/
theorem wordBytes_append (w : Word) : ((w >>> 8).setWidth 8 ++ w.setWidth 8 : BitVec 16) = w := by
  ext i hi
  simp only [BitVec.getElem_append, BitVec.getElem_setWidth, BitVec.getLsbD_ushiftRight]
  split
  · exact BitVec.getLsbD_eq_getElem hi
  · rw [show 8 + (i - 8) = i by omega]; exact BitVec.getLsbD_eq_getElem hi

theorem flatMap_wordBytes_get (ws : List Word) (i : Nat) (h : i < ws.length) :
    ((ws.flatMap wordBytes).getD (2 * i + 1) 0#8 ++ (ws.flatMap wordBytes).getD (2 * i) 0#8 : BitVec 16) =
      ws.getD i 0#16 := by
  induction ws generalizing i with
  | nil => simp at h
  | cons w ws ih =>
    cases i with
    | zero => simpa [wordBytes] using wordBytes_append w
    | succ i =>
      have := ih i (by simpa using h)
      rw [show 2 * (i + 1) + 1 = (2 * i + 1) + 2 by omega, show 2 * (i + 1) = 2 * i + 2 by omega]
      simpa [wordBytes] using this

theorem framed_spec (l : List Byte) (h : l ≠ []) :
    (framed l).map (·.data) = l ∧ (∀ z ∈ framed l, z.stopBit = true) ∧ (framed l).length = l.length ∧
    (framed l).map (·.headerMark) = true :: List.replicate (l.length - 1) false := by
  cases l with
  | nil => exact absurd rfl h
  | cons b rest =>
    refine ⟨by simp [framed, Function.comp_def], ?_, by simp [framed], by simp [framed, Function.comp_def]⟩
    intro z hz
    simp [framed] at hz
    obtain rfl | ⟨d, _, rfl⟩ := hz <;> rfl

/-- The poll frame carries its transaction (R38, R39, R193). -/
theorem pollFrame_polledBy (x : Transaction) :
    x.polledBy (pollFrame x.station x.block x.dir x.length x.words) := by
  obtain ⟨hd, hs, hl, hm⟩ := framed_spec (pollBytes x.station x.block x.dir x.length x.words)
    (by simp [pollBytes])
  simp only [Transaction.polledBy, pollFrame]
  rw [hd, hl, hm]
  refine ⟨?_, by simp [pollBytes], by simp [pollBytes], by simp [pollBytes], ?_, ?_, hs, rfl⟩
  · cases hx : x.dir <;> simp [pollBytes, -List.length_flatMap, flatMap_wordBytes_length]; omega
  · intro hx i hi
    have hlen := flatMap_wordBytes_length x.words
    have := flatMap_wordBytes_get x.words i hi
    simp only [pollBytes, hx]
    rw [show 4 + 2 * i = (2 * i + 1) + 3 by omega, show 3 + 2 * i = 2 * i + 3 by omega]
    simp only [if_true, List.cons_append, List.nil_append, List.getD_cons_succ]
    rw [List.getD_append _ _ _ _ (by omega), List.getD_append _ _ _ _ (by omega)]
    exact this
  · exact sumBytes_checkOf _

/-- A skipped entry moves the message log and the overrun count of the line, and nothing else of it (R60). -/
theorem skipEntry_line (e : Nat) (s : State) :
    (skipEntry e s).line = { s.line with
      log := (skipEntry e s).line.log, logHead := (skipEntry e s).line.logHead
      logWrap := (skipEntry e s).line.logWrap, overrun := saturate 65535 s.line.overrun } := by
  simp only [skipEntry, countOverrun, logEnd, appendLog, when, writeStatus, post]
  repeat' split
  all_goals rfl

/-! ### Starts -/

theorem startFirst_startsFirst (c : Channel) (x : Transaction) (s : State) (h : x.made = []) :
    (startFirst c x s).startsFirst x c :=
  ⟨rfl, h, rfl, _, rfl, rfl, rfl, rfl, rfl, pollFrame_polledBy x, rfl⟩

theorem normalChannel_onNormal (s : State) : s.onNormal s.normalChannel := by
  refine ⟨rfl, fun p hp => ?_⟩
  simp only [State.normalChannel, hp, Option.getD_some]
  constructor <;> intro h <;> simp [h]

/-- The words of a DELIVER entry are those that R62 and R193 give. -/
theorem entryWords_sends (s : State) (u : PollEntry) : s.sends u (s.entryWords u) := by
  have code8 (x : DoorState) : x.code < 8 := by cases x <;> decide
  constructor
  · intro hk
    simp only [State.entryWords, hk]
    refine ⟨by simp, fun i hi => ?_⟩
    have hget (f : Nat → Word) : ((List.range u.length).map f).getD i 0#16 = f i := by simp [hi]
    rw [hget]
    refine ⟨fun hc hs => ?_, fun hc hs hu => ?_, fun hc => by simp [show ¬i < u.count by omega]⟩
    · rw [if_pos hc]
      rcases hs with hs | hs | hs <;> simp [State.deliveredWord, SignalStatus.usable, hs]
    · rw [if_pos hc]
      simp only [not_or] at hu
      simp [State.deliveredWord, SignalStatus.usable, hs, hu.1, hu.2]
  · intro hk
    simp only [State.entryWords, hk, State.summaryWords]
    have h0 := code8 (s.doors.doors.get 0).state
    have h1 := code8 (s.doors.doors.get 1).state
    have h2 := code8 (s.doors.doors.get 2).state
    have h3 := code8 (s.doors.doors.get 3).state
    refine ⟨rfl, fun d hd => ?_, ?_, ?_, ?_, ?_, ?_, ?_, rfl⟩
    · obtain rfl | rfl | rfl | rfl : d = 0 ∨ d = 1 ∨ d = 2 ∨ d = 3 := by omega
      all_goals simp; omega
    all_goals simp only [List.getD_cons_succ, List.getD_cons_zero]
    · cases s.doors.interlock <;> cases s.doors.reasons.door <;> cases s.doors.reasons.ramp <;>
        cases s.doors.reasons.release <;> decide
    · cases s.doors.interlock <;> cases s.doors.reasons.door <;> cases s.doors.reasons.ramp <;>
        cases s.doors.reasons.release <;> decide
    · cases s.doors.interlock <;> cases s.doors.reasons.door <;> cases s.doors.reasons.ramp <;>
        cases s.doors.reasons.release <;> decide
    · cases s.doors.interlock <;> cases s.doors.reasons.door <;> cases s.doors.reasons.ramp <;>
        cases s.doors.reasons.release <;> decide
    · cases s.doors.interlock <;> cases s.doors.reasons.door <;> cases s.doors.reasons.ramp <;>
        cases s.doors.reasons.release <;> decide
    · cases s.doors.motion <;> decide

/-- The start of a schedule entry in the walk (R59, R62). -/
theorem startEntry_startsEntry (e : Nat) (rest : List Nat) (s : State) :
    s.startsEntry (startFirst s.entryChannel (s.entryTransaction e) (s.setLine { s.line with walk := rest })) e := by
  refine ⟨_, _, startFirst_startsFirst _ _ _ rfl, ?_, ?_, rfl, rfl, rfl, rfl, rfl, rfl, ?_, ?_, ?_⟩
  · intro q hq
    have : s.line.search = some q := hq
    simp [State.entryChannel, this]
  · intro hq
    have : s.line.search = none := hq
    rw [show s.entryChannel = s.normalChannel by simp [State.entryChannel, this]]
    exact normalChannel_onNormal s
  · intro d hd; simp [State.entryTransaction, hd]
  · intro hd
    simp only [State.entryTransaction] at hd ⊢
    simp [hd]
  · intro hd
    simp only [State.entryTransaction] at hd ⊢
    simpa [hd] using entryWords_sends s _

/-- The start of the head of the one-shot list (R66). -/
theorem startOneShot_startsOneShot (o : OneShot) (s : State) :
    s.startsOneShot (startFirst s.normalChannel (s.oneShotTransaction o) s) o := by
  cases o with
  | transfer slot a b d l ws =>
    refine ⟨_, _, startFirst_startsFirst _ _ _ rfl, normalChannel_onNormal s, rfl, rfl, rfl, rfl, ?_, ?_⟩
    · rintro _ _ _ _ _ _ ⟨⟩; exact ⟨rfl, rfl, rfl, rfl⟩
    · rintro _ ⟨⟩
  | service a =>
    refine ⟨_, _, startFirst_startsFirst _ _ _ rfl, normalChannel_onNormal s, rfl, rfl, rfl, rfl, ?_, ?_⟩
    · rintro _ _ _ _ _ _ ⟨⟩
    · rintro _ ⟨⟩; exact ⟨rfl, rfl, rfl, rfl⟩

/-! ### The walk -/

/-- The time left in the present minor cycle holds an attempt (R60). -/
theorem fits_iff (s : State) (length next : Nat) (h : s.line.minorNext = some next) :
    s.fits length = true ↔
      s.now + ((7 + 2 * length) * 44 + Config.responseTimeout s.setup.settings.timeoutCode + 60) ≤ next := by
  simp only [State.fits, h, attemptBudget, attemptWindow, Config.lineChar, Config.turnaround]
  exact decide_eq_true_iff

/-- The run of the one-shot list with nothing left to walk (R66). -/
theorem runList_walks (s : State) (next : Nat) (hn : s.line.minorNext = some next) (hp : s.line.phase = .idle) :
    s.walks (runList (s.setLine { s.line with walk := [] })) [] next := by
  have hf (length : Nat) := fits_iff (s.setLine { s.line with walk := [] }) length next hn
  have hlen (o : OneShot) : (s.oneShotTransaction o).length = s.wordsOfOneShot o := by cases o <;> rfl
  refine ⟨fun passed e rest hl => by simp at hl, fun _ => ?_, ?_⟩
  · cases ho : s.line.oneShots with
    | nil =>
      have : runList (s.setLine { s.line with walk := [] }) = s.setLine { s.line with walk := [] } := by
        simp [runList, ho]
      rw [this]
      exact ⟨rfl, rfl, fun _ => ⟨hp, rfl⟩, fun _ _ h => by simp at h⟩
    | cons o rest =>
      have hr : runList (s.setLine { s.line with walk := [] }) =
          when ((s.setLine { s.line with walk := [] }).fits (s.wordsOfOneShot o))
            (startFirst s.normalChannel (s.oneShotTransaction o)) (s.setLine { s.line with walk := [] }) := by
        rw [← hlen]; simp only [runList, State.setLine, ho]; rfl
      rw [hr]
      unfold when
      split
      next h =>
        refine ⟨rfl, rfl, fun h => by simp at h, ?_⟩
        rintro _ _ ⟨⟩
        exact ⟨fun _ => startOneShot_startsOneShot o (s.setLine { s.line with walk := [] }),
          fun hn => absurd ((hf _).mp h) hn⟩
      next h =>
        refine ⟨rfl, rfl, fun h => by simp at h, ?_⟩
        rintro _ _ ⟨⟩
        exact ⟨fun hn => absurd ((hf _).mpr hn) h, fun _ => ⟨hp, rfl⟩⟩
  · simp only [runList, when]
    repeat' split
    all_goals exact ⟨rfl, rfl, rfl, rfl⟩

/-- A count that stops at a limit, raised once and then some times more (R60). -/
theorem saturate_count (m x n : Nat) :
    (if n = 0 then saturate m x else min (saturate m x + n) m) = min (x + (n + 1)) m := by
  unfold saturate; split <;> omega

/-- A walk that goes on after a skipped entry is one that began with it (R60). -/
theorem walks_of_skipped (s t : State) (e : Nat) (l : List Nat) (next : Nat) (ht : t.now = s.now)
    (hn : s.line.minorNext = some next) (hl : s.fits (s.setup.schedule.get e).length = false)
    (h : (skipEntry e s).walks t l next) : s.walks t (e :: l) next := by
  have hw (o : OneShot) : (skipEntry e s).wordsOfOneShot o = s.wordsOfOneShot o := by
    cases o <;> simp [State.wordsOfOneShot]
  have ho : (skipEntry e s).line.overrun = saturate 65535 s.line.overrun := by rw [skipEntry_line]
  have h1 : (skipEntry e s).line.oneShots = s.line.oneShots := by rw [skipEntry_line]
  have h2 : (skipEntry e s).line.transaction = s.line.transaction := by rw [skipEntry_line]
  have h3 : (skipEntry e s).line.stations = s.line.stations := by rw [skipEntry_line]
  have h4 : (skipEntry e s).line.healthA = s.line.healthA := by rw [skipEntry_line]
  have h5 : (skipEntry e s).line.healthB = s.line.healthB := by rw [skipEntry_line]
  have late : ¬t.now + ((7 + 2 * (s.setup.schedule.get e).length) * 44 +
      Config.responseTimeout s.setup.settings.timeoutCode + 60) ≤ next := by
    rw [ht, ← fits_iff s _ next hn, hl]; decide
  simp only [State.walks, State.startsEntry, State.sends, State.startsOneShot, skipEntry_frame, hw, ho, h1, h2, h3, h4,
    h5] at h ⊢
  obtain ⟨ha, hb, hc⟩ := h
  have count (n : Nat) (k : t.line.overrun = if n = 0 then saturate 65535 s.line.overrun
      else min (saturate 65535 s.line.overrun + n) 65535) :
      t.line.overrun = if n + 1 = 0 then s.line.overrun else min (s.line.overrun + (n + 1)) 65535 := by
    rw [k, if_neg (Nat.succ_ne_zero n), saturate_count]
  refine ⟨?_, ?_, hc⟩
  · intro passed x rest hl hp hx
    cases passed with
    | nil => cases hl; exact absurd late hx
    | cons y passed =>
      cases hl
      obtain ⟨k1, k2, k3⟩ := ha passed x rest rfl (fun z hz => hp z (List.mem_cons_of_mem _ hz)) hx
      exact ⟨k1, count _ k2, k3⟩
  · intro hp
    obtain ⟨k1, k2, k3⟩ := hb fun z hz => hp z (List.mem_cons_of_mem _ hz)
    exact ⟨k1, count _ k2, k3⟩

/-- What a walk leads to, from an idle line in a minor cycle that ends at `next` (R59, R60, R62, R66). -/
theorem walkOn_walks (l : List Nat) (s : State) (next : Nat) (hn : s.line.minorNext = some next)
    (hp : s.line.phase = .idle) : s.walks (walkOn l s) l next := by
  induction l generalizing s with
  | nil => exact runList_walks s next hn hp
  | cons e l ih =>
    unfold walkOn
    split
    · next hf =>
      have fit := (fits_iff s _ next hn).mp hf
      refine ⟨?_, fun hp => absurd fit (hp e (List.mem_cons_self ..)), rfl, rfl, rfl, rfl⟩
      intro passed x rest hl hp hx
      cases passed with
      | nil => cases hl; exact ⟨rfl, rfl, startEntry_startsEntry e l s⟩
      | cons y passed => cases hl; exact absurd fit (hp e (List.mem_cons_self ..))
    · next hf =>
      refine walks_of_skipped s _ e l next (by simp) hn (by simpa using hf) (ih _ ?_ ?_)
      · rw [skipEntry_line]; exact hn
      · rw [skipEntry_line]; exact hp

/-- A walk leaves the timetable, search mode and the probes as they were (R58, R60). -/
theorem walkOn_line (l : List Nat) (s : State) :
    (walkOn l s).line.minor = s.line.minor ∧ (walkOn l s).line.minorNext = s.line.minorNext ∧
    (walkOn l s).line.search = s.line.search ∧ (walkOn l s).line.probeMade = s.line.probeMade ∧
    (walkOn l s).line.probeNext = s.line.probeNext := by
  induction l generalizing s with
  | nil =>
    simp only [walkOn, runList, when]
    repeat' split
    all_goals exact ⟨rfl, rfl, rfl, rfl, rfl⟩
  | cons e l ih =>
    simp only [walkOn]
    split
    · exact ⟨rfl, rfl, rfl, rfl, rfl⟩
    · have := ih (skipEntry e s)
      rw [skipEntry_line] at this
      exact this

end Sys2Proof.Machine
end

