-- ==== Sys2Proof/Tests/Slice0.lean ====
section
/-! SUPPORT. Tests: one ill-formed command for each check of WellFormed, a few single steps with results from the
spec's rules and worked figures, and for each statement with hypotheses a state and operands that meet them. -/

namespace Sys2Proof.Tests

open Sys2Proof.Machine

/-! ### WellFormed refuses -/

theorem test_refuses_no_samples : (Instr.ignitionStateChange true 0).WellFormed = false := by decide
theorem test_refuses_frequency_channel : (Instr.frequencyEdge 43 5).WellFormed = false := by decide
theorem test_refuses_known_code : (Instr.unknownService 13#8 0#8 []).WellFormed = false := by decide
theorem test_refuses_long_data : (Instr.identify 0#8 (List.replicate 61 0#8)).WellFormed = false := by decide
theorem test_refuses_long_rest : (Instr.actuatorTestStatus 0#8 (List.replicate 60 0#8)).WellFormed = false := by
  decide
theorem test_refuses_register_address : (Instr.hostMemoryWrite 0x3FF8#14 .both 0#16).WellFormed = false := by decide
theorem test_accepts_edges : (Instr.frequencyEdge 44 5).WellFormed = true ∧
    (Instr.hostMemoryWrite 0x3FF7#14 .both 0#16).WellFormed = true ∧
    (Instr.unknownService 14#8 0#8 (List.replicate 60 0#8)).WellFormed = true := by decide

/-! ### Decoding: the table gives no row bits -/

theorem test_no_word_spells_a_command : decodeTableWord 8 1 = none := by decide

/-! ### Small states -/

/-- The state after reset in a run state, with no CONFIG idle timer. -/
def inState (x : RunState) : State :=
  { State.reset with run := { State.reset.run with state := x, configIdleTimer := none } }

/-- In RUN. -/
def running : State := inState .run

/-- A sense channel 0 that is due a sample at 0, of a kind. -/
def sensing (u : SenseSetup) (x : SenseChannel) : State :=
  { running with
    setup := { State.reset.setup with sense := State.reset.setup.sense.set 0 u }
    sense := { State.reset.sense with
      channels := State.reset.sense.channels.set 0 { x with sampleTimer := some 0 } } }

/-- The body line in a phase, with a transaction. -/
def lining (p : LinePhase) (x : Option Transaction) : State :=
  { running with line := { State.reset.line with phase := p, transaction := x, minorNext := some 5000 } }

/-- A transaction that fetches nothing from station 1, with one retry left. -/
def fetchNothing : Transaction :=
  { purpose := .entry 0, station := 1, block := 0, dir := .fetch, length := 0, words := [], retries := 1,
    retryChannel := .same, made := [] }

/-- An attempt of it on channel A, begun at 0, with some characters received. -/
def attempt (received : List Byte) : Attempt :=
  { channel := .a, start := 0, poll := pollFrame 1 0 .fetch 0 [], received, lastEnd := 176 }

/-- A session at a level in RUN with motion STOPPED. -/
def shopping (x : Session) : State :=
  { running with
    shop := { State.reset.shop with session := x, idleTimer := some 5000000 }
    doors := { State.reset.doors with motion := .stopped } }

/-- A SERVICE session whose conditions hold: signal 126 is the parking brake, and 127 the primary speed, not usable. -/
def inService : State :=
  { shopping .service with
    setup := { State.reset.setup with
      general := { primarySpeed := 127, fallbackSpeed := 255, parkingBrake := 126, moveThreshold := 50, stopThreshold := 50 } }
    signals := State.reset.signals.set 126 { value := 1#16, status := .valid, staleDeadline := some 9 } }

/-- Gauge 0 as given, with its update due at 20,000 µs. -/
def gauging (g : Gauge) (u : GaugeSetup) : State :=
  { running with
    setup := { State.reset.setup with gauges := State.reset.setup.gauges.set 0 u }
    signals := State.reset.signals.set 0 { status := .valid }
    gauges := State.reset.gauges.set 0 { g with updateTimer := some 20000 } }

/-- Lamp 0 as given. -/
def lamping (x : Lamp) : State :=
  { running with
    setup := { State.reset.setup with lamps := State.reset.setup.lamps.set 0 { proofEnabled := true } }
    comp := { State.reset.comp with lamps := State.reset.comp.lamps.set 0 x } }

/-- Warning 0 as given. -/
def warned (x : Warning) : State := { running with warnings := State.reset.warnings.set 0 x }

/-- Slot 3 at a state byte and a kind byte. -/
def slotted (x k : Nat) (s : State) : State :=
  { s with mem := Memory.write (Memory.write s.mem (slotBase 3) (byteOf x)) (slotBase 3 + 1) (byteOf k) }

/-- What an outcome leaves. -/
def after : Answer → State
  | .next t => t
  | _ => State.reset

/-! ### Single steps, with results from the spec -/

/-- R182: the notice of power-on is the first in the ring, and FAULT_MEMORY_LOST is code 10. -/
theorem test_power_on_notice : (State.reset.port.ring.get 0).kind = .faultMemoryLost ∧
    NoticeKind.faultMemoryLost.code = 10 ∧ State.reset.unread = 1#7 := by decide

/-- R177: a write to TIME_MS (word address 0x3FFF) is refused under its own address. -/
theorem test_time_refused :
    (after (exec (.portRegisterWrite .timeMs .both 5#16) State.reset)).port.refusedAddress = 0x3FFF#14 := by decide

/-- R31: nine samples leave the ignition state, and the tenth changes it. -/
theorem test_ignition_ninth : (after (exec (.ignitionStateChange true 9) State.reset)).run.ignition = false := by
  decide
theorem test_ignition_tenth : (after (exec (.ignitionStateChange true 10) State.reset)).run.ignition = true := by
  decide

/-- R197: ignition ON in CONFIG cancels the CONFIG idle timer. -/
theorem test_ignition_cancels_idle :
    (after (exec (.ignitionStateChange true 10) State.reset)).run.configIdleTimer = none := by decide

/-- R29: 16,000 mV starts no low timer, 15,999 mV does. -/
theorem test_supply_low_edge :
    (after (exec (.supplyMeasurement 16000#16) State.reset)).sense.lowTimer = none ∧
      (after (exec (.supplyMeasurement 15999#16) State.reset)).sense.lowTimer = some 105000 := by decide

/-- R18: reading 1,536 is band 6 of a switch to ground, a hold band; 1,535 is CLOSED. -/
theorem test_switch_bands : switchSample .switchToGround none 1536 = .void ∧
    switchSample .switchToGround none 1535 = .contact .closed ∧
    switchSample .switchToGround none 255 = .fault .shortToGround := by decide

/-- R138: a signal value midway of a curve, and the two clamps. -/
theorem test_curve : targetOf [(0, 0), (100, 1000)] 50 = 500 ∧ targetOf [(0, 0), (100, 1000)] (-5) = 0 ∧
    targetOf [(0, 0), (100, 1000)] 101 = 1000 := by decide

/-- R163: the check character of IDENTIFY with tag 7: 4 + 1 + 7 is 12, so the check is 244. -/
theorem test_identify_frame : requestFrame 1#8 7#8 [] = [4#8, 1#8, 7#8, 244#8] := by decide

/-- R38, R39, R193: the poll frame of a FETCH of 2 words of block 5 from station 3, the header mark in its first
character alone. -/
theorem test_poll_frame : pollFrame 3 5 .fetch 2 [] =
    [{ data := 3#8, headerMark := true }, { data := 5#8, headerMark := false }, { data := 2#8, headerMark := false },
     { data := 246#8, headerMark := false }] := by decide

/-- R185, R80: the codes of the door states follow the table of R80. -/
theorem test_door_codes : [DoorState.unknown, .released, .closedUnlocked, .closedLocked, .opening, .reversing, .closing,
    .opened].map DoorState.code = [0, 1, 2, 3, 4, 5, 6, 7] := by decide

/-- R96, R134, R202: every byte of the door records, the motion record and the composition record reads 0 at power-on.
-/
theorem test_records_zero : (List.range 64).map (fun k => State.reset.hostByte (0x2720 + 2 * k)) =
    List.replicate 64 0#8 := by decide

/-- R123: the 1 Hz timebase is 500 ms on. -/
theorem test_flash :
    (after (exec (.flashPhaseChange .hz1) { running with
      comp := { State.reset.comp with flash1 := { on := false, timer := some 500000 } } })).comp.flash1 =
        { on := true, timer := some 1000000 } := by decide

/-- R186: PORT_STATUS after power-on is CONFIG with NOTICES_PENDING. -/
theorem test_port_status : State.reset.portStatus = 5#16 := by decide

/-- An empty queue: the clock passes by 1 µs, and in STANDBY it stands (assumption 8). -/
theorem test_idle_tick : (after (step State.reset)).now = 1 ∧ (after (step (inState .standby))).now = 0 := by decide

/-! ### States and operands that meet the hypotheses of the statements -/

theorem witness_StepTakesTheFrontCommand : (State.reset.setPending [.powerOn]).pending = .powerOn :: [] := by decide

theorem witness_StepsKeepMemorySound : State.reset.memorySound ∧ ∃ t, step State.reset = .next t :=
  ⟨rfl, _, rfl⟩

theorem witness_StepsKeepBrakeHeld :
    (State.reset.brakeHeld ∧ (inState .shutdown).brakeHeld ∧ (inState .shutdown).run.state ≠ .run ∧
      ∃ t, step State.reset = .next t) ∧
    (let s := { running with doors := { State.reset.doors with interlock := .released } }
     s.brakeProven ∧ s.run.state = .run ∧ s.stopBrakeDemand = false ∧ ∃ t, step s = .next t) :=
  ⟨⟨fun _ => by decide, fun _ => by decide, by decide, _, rfl⟩, by unfold State.brakeProven; decide, by decide,
    by decide, _, rfl⟩

theorem witness_StepsKeepRunTimersSound : State.reset.runSound ∧ ∃ t, step State.reset = .next t :=
  ⟨by unfold State.runSound; decide, _, rfl⟩

theorem witness_StepsKeepAcknowledgementsAndLimits :
    (let s := { warned { state := .active, acked := true } with
       shop := { State.reset.shop with forced := [0, 1, 2, 3, 4, 5, 6, 127] } }
     s.acksSound ∧ s.forcedSound ∧ s.shop.forced.length = 8 ∧ s.line.oneShots.length ≤ 4 ∧ ∃ t, step s = .next t) :=
  ⟨by unfold State.acksSound; decide, by unfold State.forcedSound; decide, by decide, by decide, _, rfl⟩

/-- A SERVICE session under its conditions, before the idle timer's expiry that ends it and the going stale of its
parking brake that demotes it. -/
theorem witness_StepsKeepAcknowledgementsAndLimits_service :
    inService.runSound ∧ inService.serviceSound ∧ inService.shop.session = .service ∧
      (∃ t, step (inService.setPending [.sessionIdleTimerExpiry]) = .next t) ∧
      (after (step (inService.setPending [.staleExpiry 126]))).shop.session = .read :=
  ⟨by unfold State.runSound; decide, by unfold State.serviceSound; decide, rfl, ⟨_, rfl⟩, rfl⟩

theorem witness_RunStateMovesByItsEvents :
    ((inState .shutdown).runSound ∧ (inState .shutdown).run.state ≠ .run ∧
      ∃ t, exec (.ignitionStateChange true 10) (inState .shutdown) = .next t ∧ t.run.state = .run) ∧
    ((inState .standby).runSound ∧ (inState .standby).run.state = .standby ∧
      ∃ t, exec .workshopLineWake (inState .standby) = .next t ∧ t.run.state ≠ .standby) := by
  refine ⟨⟨by unfold State.runSound; decide, by decide, _, rfl, ?_⟩,
    by unfold State.runSound; decide, by decide, _, rfl, ?_⟩
  · have h : (inState .shutdown).run.state = .shutdown := rfl
    have hi : (inState .shutdown).run.ignition = false := rfl
    have ht : ((inState .shutdown).run.ignitionTally + 10 < 10) = False := by simp
    simp [ignitionSampled, ignitionChanged, h, hi, enterRun, startRunOn, changeRunState, ht]
  · decide

/-- Each region at its first and last word address. -/
theorem witness_HostWritesAreJudgedByTheirRegion :
    (State.reset.run.state ≠ .standby ∧ State.reset.run.state = .config ∧ State.reset.run.applySlot = none ∧
      running.run.state ≠ .standby ∧ ¬(running.run.state = .config ∧ running.run.applySlot = none)) ∧
    ((0x0000#14).toNat < 0x0080 ∧ (0x007F#14).toNat < 0x0080 ∧ 0x0280 ≤ (0x0280#14).toNat ∧
      (0x047F#14).toNat < 0x0480 ∧ 0x0F80 ≤ (0x0F80#14).toNat ∧ (0x237F#14).toNat < 0x2380 ∧
      0x0480 ≤ (0x0480#14).toNat ∧ (0x0F7F#14).toNat < 0x0F80 ∧ 0x2380 ≤ (0x2380#14).toNat ∧
      (0x3FF7#14).toNat < 0x3FF8) ∧
    (State.reset.memorySound ∧
      (∀ b ∈ enabledBytes 0x0080#14 .both 1#16, State.reset.byteWritable b.1 b.2 = true) ∧
      (∀ b ∈ enabledBytes 0x3FF7#14 .both 0xFFFF#16, State.reset.byteWritable b.1 b.2 = true)) ∧
    (inState .standby).run.state = .standby := by
  refine ⟨by decide, by decide, ⟨rfl, by decide, by decide⟩, by decide⟩

/-- The first and the last word of the slots, and the two kinds of word of a slot in each state of R180. -/
theorem witness_HostWritesAreJudgedByTheirRegion_slots :
    (0x0080 ≤ (0x0080#14).toNat ∧ (0x027F#14).toNat < 0x0280 ∧ ((0x027F#14).toNat - 0x0080) / 32 = 15 ∧
      ((0x00E0#14).toNat - 0x0080) / 32 = 3 ∧ (0x00E0#14).toNat % 32 = 0 ∧ (0x00E1#14).toNat % 32 ≠ 0 ∧
      (1#16).toNat % 256 = 1 ∧ (0x0100#16).toNat % 256 = 0) ∧
    ((slotted 0 4 State.reset).memorySound ∧ (slotted 0 4 State.reset).slotState 3 = .empty) ∧
    ((slotted 1 4 State.reset).memorySound ∧ (slotted 1 4 State.reset).slotState 3 = .posted) ∧
    ((slotted 2 4 State.reset).memorySound ∧ (slotted 2 4 State.reset).slotState 3 = .taken) ∧
    ((slotted 3 4 State.reset).memorySound ∧ (slotted 3 4 State.reset).slotState 3 = .done) ∧
    ((slotted 4 4 State.reset).memorySound ∧ (slotted 4 4 State.reset).slotState 3 = .failed) :=
  ⟨by decide, ⟨rfl, by decide⟩, ⟨rfl, by decide⟩, ⟨rfl, by decide⟩, ⟨rfl, by decide⟩, ⟨rfl, by decide⟩⟩

theorem witness_SlotCommandsMoveTheirSlot :
    (State.reset.run.state ≠ .standby ∧ State.reset.memorySound ∧ State.reset.slotState 0 = .empty ∧
      State.reset.slotState 15 = .empty) ∧
    ((slotted 1 4 State.reset).memorySound ∧ (slotted 1 4 State.reset).slotState 3 = .posted) ∧
    (slotted 2 4 State.reset).slotState 3 = .taken ∧ (slotted 3 4 State.reset).slotState 3 = .done ∧
    (slotted 4 4 State.reset).slotState 3 = .failed :=
  ⟨⟨by decide, rfl, by decide, by decide⟩, ⟨rfl, by decide⟩, by decide, by decide, by decide⟩

theorem witness_PortRegistersTakeTheirWrites : State.reset.run.state ≠ .standby := by decide

theorem witness_SoftResetEntersConfig :
    (running.run.state ≠ .standby ∧ running.memorySound) ∧
    (State.reset.run.state ≠ .run ∧ State.reset.shop.session = .detached ∧
      ∀ i, i < 16 → State.reset.slotState i ≠ .taken) ∧
    (slotted 2 7 running).slotState 3 = .taken ∧
    (let s := (slotted 2 1 State.reset).setRun { State.reset.run with applySlot := some 3 }
     s.run.state ≠ .standby ∧ s.memorySound ∧ s.run.applySlot.isSome = true) ∧ running.run.applySlot = none :=
  ⟨⟨by decide, rfl⟩, ⟨by decide, by decide, by decide⟩, by decide, ⟨by decide, rfl, by decide⟩, by decide⟩

theorem witness_SweepsStartAndAreHeld :
    (running.run.state ≠ .standby ∧ running.port.displayLost = false ∧ running.port.sweepPlace = none ∧
      (∀ i, i < 16 → running.slotState i ≠ .posted) ∧ running.port.sweepTimer = none) ∧
    ((running.setPort { running.port with sweepTimer := some 100000 }).port.sweepTimer = some 100000) ∧
    (let s := running.setPort { running.port with sweepPlace := some 15, sweepHeld := true }
     s.port.sweepPlace.isSome ∧ s.port.sweepHeld = true ∧ s.port.sweepPlace = some 15 ∧ 15 < 16 ∧
       ∀ i, i < 16 → s.slotState i ≠ .posted) := by decide

theorem witness_NoticeReadsAndTheLivenessTimer :
    (running.run.state ≠ .standby ∧ ((1#16).setWidth 7 - running.port.noticeRead).toNat ≤ running.unread.toNat ∧
      running.unread.toNat < ((2#16).setWidth 7 - running.port.noticeRead).toNat) ∧
    (let s := running.setPort { running.port with livenessTimer := some 100000 }
     s.port.livenessTimer = some 100000 ∧ s.port.displayLost = false) ∧
    (let s := running.setSetup { running.setup with general := { livenessWindow := 100 } }
     s.run.state = .run ∧ s.setup.general.livenessWindow ≠ 0) := by decide

theorem witness_RequestsOutOfPlaceFail :
    (let s := (slotted 1 11 State.reset).setPort { State.reset.port with sweepPlace := some 3 }
     s.memorySound ∧ s.port.sweepPlace = some 3 ∧ s.slotState 3 = .posted ∧
       10 < (Memory.read s.mem (slotBase 3 + 1)).toNat) ∧
    (let s := (slotted 1 10 State.reset).setPort { State.reset.port with sweepPlace := some 3 }
     s.slotState 3 = .posted ∧ (Memory.read s.mem (slotBase 3 + 1)).toNat = 10 ∧ s.run.state ≠ .run) ∧
    (let s := (slotted 1 1 State.reset).setPort { State.reset.port with sweepPlace := some 3 }
     s.slotState 3 = .posted ∧ (Memory.read s.mem (slotBase 3 + 1)).toNat = 1 ∧ s.run.state = .config ∧
       s.run.applySlot = none) := by
  refine ⟨⟨rfl, ?_⟩, ?_⟩ <;> decide

/-- Slot 3 POSTED with a kind and a body, under the sweep. -/
def asked (kind : Nat) (body : List Nat) (s : State) : State :=
  let p := (slotted 1 kind s).setPort { s.port with sweepPlace := some 3 }
  p.setMem (body.zipIdx.foldl (fun m b => Memory.write m (slotBase 3 + 8 + b.2) (byteOf b.1)) p.mem)

set_option maxRecDepth 20000 in
/-- Slots 3 and 15 at the place of a sweep, POSTED or not, with a sweep held. -/
theorem witness_SweepsStartAndAreHeld_visits :
    (let s := (asked 11 [] running).setPort { running.port with sweepPlace := some 3, sweepHeld := true }
     s.memorySound ∧ s.port.sweepPlace = some 3 ∧ s.slotState 3 = .posted ∧ s.port.sweepHeld = true) ∧
    (let s := (asked 11 [] running).setPort { running.port with sweepPlace := some 15 }
     s.port.sweepPlace = some 15 ∧ s.slotState 15 ≠ .posted) ∧
    (let s := (asked 11 [] running).setPort { running.port with sweepTimer := some 100000 }
     s.run.state ≠ .standby ∧ s.port.sweepPlace = none ∧ s.port.sweepTimer = some 100000 ∧
       s.slotState 3 = .posted) ∧
    (let s := (asked 11 [] running).setPort { running.port with sweepHeld := true }
     s.memorySound ∧ s.port.sweepHeld = true ∧ s.port.sweepPlace = none) ∧
    (let s := (asked 11 [] running).setPort { running.port with sweepPlace := some 3, sweepHeld := true }
     (visitSlots 16 s).port.sweepHeld = true) ∧
    (let s := (asked 3 [] running).setPort { running.port with sweepPlace := some 3, sweepHeld := true }
     s.memorySound ∧ (visitSlots 16 s).port.sweepHeld = false) :=
  ⟨⟨rfl, by decide⟩, by decide, by decide, ⟨rfl, by decide⟩, rfl, rfl, rfl⟩

/-- An APPLY_SETUP POSTED out of CONFIG, and one POSTED beside another that is TAKEN. -/
theorem witness_RequestsOutOfPlaceFail_applySetup :
    (let s := asked 1 [] running
     s.memorySound ∧ s.port.sweepPlace = some 3 ∧ s.slotState 3 = .posted ∧
       (Memory.read s.mem (slotBase 3 + 1)).toNat = 1 ∧ s.run.state ≠ .config) ∧
    (let s := asked 1 [] { State.reset with run := { State.reset.run with applySlot := some 5 } }
     s.memorySound ∧ s.slotState 3 = .posted ∧ s.run.state = .config ∧ s.run.applySlot ≠ none) :=
  ⟨⟨rfl, by decide⟩, rfl, by decide⟩

/-- In RUN with motion STOPPED and warning 95 in a state, acknowledged or not. -/
def acking (x : WarningState) (acked : Bool) : State :=
  { shopping .read with
    setup := { State.reset.setup with
      warnings := State.reset.setup.warnings.set 95 { kind := .signalTest, ackMode := .silence } }
    warnings := State.reset.warnings.set 95 { state := x, acked } }

/-- With no work under way, every slot is free. -/
theorem slotFree_of_idle {s : State} (k : Nat) (h : ∀ c, c < 48 → (s.sense.channels.get c).check = none)
    (g : ∀ i, i < 6 → (s.gauges.get i).sweep = none) (e : s.comp.check = none) (o : s.line.oneShots = []) :
    s.slotFree k :=
  ⟨fun c hc w hw => by simp [h c hc] at hw, fun i hi w j set hw => by simp [g i hi] at hw, fun j hj => by simp [e] at hj,
    fun j a b d l ws hm => by simp [o] at hm⟩

theorem witness_RequestsInRunAreServed :
    (let s := asked 6 [95] (acking .latched false)
     s.memorySound ∧ s.port.sweepPlace = some 3 ∧ s.slotState 3 = .posted ∧ s.run.state = .run ∧
       (Memory.read s.mem (slotBase 3 + 1)).toNat = 6 ∧ (Memory.read s.mem (slotBase 3 + 8)).toNat = 95 ∧
       (s.setup.warnings.get 95).kind ≠ .unused ∧ (s.setup.warnings.get 95).ackMode ≠ .none ∧
       (s.warnings.get 95).state = .latched) ∧
    (let s := asked 6 [96] (acking .active false)
     (Memory.read s.mem (slotBase 3 + 8)).toNat = 96 ∧ (s.warnings.get 95).state = .active ∧
       (s.warnings.get 95).acked = false) ∧
    (let s := asked 6 [255] (acking .active true)
     (Memory.read s.mem (slotBase 3 + 8)).toNat = 255 ∧ s.comp.record.top.kind ≠ .warning ∧
       (s.warnings.get 95).acked = true ∧ (s.setup.warnings.get 0).kind = .unused) ∧
    (let s := asked 10 [] (shopping .read)
     (Memory.read s.mem (slotBase 3 + 1)).toNat = 10 ∧ s.doors.motion = .stopped ∧ s.shop.session ≠ .service ∧
       (shopping .service).shop.session = .service ∧ running.doors.motion ≠ .stopped) ∧
    (let s := asked 2 [] running
     (Memory.read s.mem (slotBase 3 + 1)).toNat = 2 ∧ s.slotFree 3) ∧
    (let s := asked 3 [] running
     (Memory.read s.mem (slotBase 3 + 1)).toNat = 3 ∧ s.run.ignition = false ∧ s.slotFree 3 ∧
       (∀ g, g < 6 → (s.gauges.get g).state = .parked) ∧ s.line.phase = .idle) :=
  ⟨⟨rfl, by decide⟩, by decide, by decide, by decide,
    ⟨by decide, slotFree_of_idle 3 (by decide) (by decide) rfl rfl⟩,
    by decide, by decide, slotFree_of_idle 3 (by decide) (by decide) rfl rfl, by decide, by decide⟩

theorem witness_RequestsInRunStartTheirWork :
    (let s := asked 5 [15, 31, 1, 16] running
     s.memorySound ∧ s.port.sweepPlace = some 3 ∧ s.slotState 3 = .posted ∧ s.run.state = .run ∧
       (Memory.read s.mem (slotBase 3 + 1)).toNat = 5 ∧ (Memory.read s.mem (slotBase 3 + 8)).toNat = 15 ∧
       (Memory.read s.mem (slotBase 3 + 9)).toNat ≤ 31 ∧ (Memory.read s.mem (slotBase 3 + 10)).toNat ≤ 1 ∧
       (Memory.read s.mem (slotBase 3 + 11)).toNat ≤ 16 ∧ s.line.oneShots.length < 4) ∧
    (let s := asked 7 [32] { shopping .read with
       setup := { State.reset.setup with gauges := State.reset.setup.gauges.set 5 { inUse := true } } }
     (Memory.read s.mem (slotBase 3 + 1)).toNat = 7 ∧ Memory.read s.mem (slotBase 3 + 8) = 32#8 ∧
       (32#8).getLsbD 5 = true ∧ (s.setup.gauges.get 5).inUse = true ∧ (s.gauges.get 5).state = .parked ∧
       s.doors.motion = .stopped) ∧
    (let s := asked 8 [] (shopping .read)
     (Memory.read s.mem (slotBase 3 + 1)).toNat = 8 ∧ s.doors.motion = .stopped ∧ s.comp.check = none) ∧
    (let s := asked 9 [47] running
     (Memory.read s.mem (slotBase 3 + 1)).toNat = 9 ∧ (Memory.read s.mem (slotBase 3 + 8)).toNat = 47 ∧
       (s.setup.sense.get 47).kind ≠ .frequency ∧ (s.sense.channels.get 47).check = none ∧
       s.sense.supplyLow = false) :=
  ⟨⟨rfl, by decide⟩, by decide, by decide, by decide⟩

/-- A taken APPLY_SETUP in slot 3. -/
def applying (m : Memory) : State :=
  { State.reset with mem := m, run := { State.reset.run with applySlot := some 3, configIdleTimer := none } }

/-- The few bytes of a setup that passes: a minor cycle of 10 ms, a supplied signal 0 that is the primary speed, its
two thresholds, and 255 in the optional fields of general setup. -/
def smallSetup : Memory :=
  [(0x0902, 10#8), (0x0E00, 3#8), (0x1EA1, 255#8), (0x1EA2, 5#8), (0x1EA4, 5#8), (0x1EA6, 255#8), (0x1EA7, 255#8),
   (0x1EA8, 255#8), (0x1EA9, 255#8), (0x1EAA, 255#8), (0x1EB2, 255#8)]

/-- A zero setup fails at the minor cycle length of the line settings (R75, R55), and the small one passes. -/
theorem witness_ValidationsEnd :
    ((applying []).memorySound ∧ (applying []).run.applySlot = some 3 ∧
      (Setup.ofMemory (applying []).mem).firstFailure = some (1, 0, 2)) ∧
    ((applying smallSetup).memorySound ∧ (applying smallSetup).run.applySlot = some 3 ∧
      (Setup.ofMemory (applying smallSetup).mem).firstFailure = none ∧ (applying smallSetup).line.oneShots = []) :=
  ⟨⟨rfl, by decide, by decide⟩, by unfold State.memorySound; decide, by decide, by decide, by decide⟩

theorem witness_StaleExpiryMakesASignalStale :
    (let s := { running with signals := State.reset.signals.set 127 { status := .valid, staleDeadline := some 9 } }
     s.run.state = .run ∧ (s.signals.get 127).staleDeadline = some 9 ∧ (s.signals.get 127).status ≠ .forced) ∧
    (let s := { running with signals := State.reset.signals.set 0 { status := .forced, staleDeadline := some 9 } }
     (s.signals.get 0).staleDeadline = some 9 ∧ (s.signals.get 0).status = .forced) := by decide

/-- An attempt of `fetchNothing` whose reply lacks its check alone. -/
theorem completes_fetchNothing (x : Transaction) (h : x.dir = .fetch ∧ x.length = 0) :
    (lining (.reply (attempt [1#8, 0#8])) (some x)).completes (attempt [1#8, 0#8]) x 0 255#8 :=
  ⟨rfl, rfl, Nat.zero_le 176, List.cons_ne_nil _ _, Nat.zero_le 88,
    by
      show 176 + 0 + 44 ≤ 0 + attemptWindow running.setup.settings.timeoutCode x.length
      rw [h.2]
      decide, by rw [h.1, h.2]; decide⟩

theorem witness_DeliveriesAreJudged :
    (let s := asked 4 [1, 127, 0, 0, 5] { running with
       setup := { State.reset.setup with signals := State.reset.setup.signals.set 127 { kind := .supplied } } }
     s.memorySound ∧ s.port.sweepPlace = some 3 ∧ s.slotState 3 = .posted ∧ s.run.state = .run ∧
       (Memory.read s.mem (slotBase 3 + 1)).toNat = 4 ∧ (Memory.read s.mem (slotBase 3 + 8)).toNat = 1 ∧
       (Memory.read s.mem (slotBase 3 + 9)).toNat = 127 ∧ (s.setup.signals.get 127).kind = .supplied ∧
       (Memory.read s.mem (slotBase 3 + 10)).toNat = 0) ∧
    ((Memory.read (asked 4 [14] running).mem (slotBase 3 + 8)).toNat = 14 ∧
      (Memory.read (asked 4 [2, 128] running).mem (slotBase 3 + 9)).toNat = 128) ∧
    (let s := { sensing { kind := .voltage, high := 40000 } {} with
       setup := { (sensing { kind := .voltage, high := 40000 } {}).setup with
         signals := State.reset.setup.signals.set 5 { kind := .sense, index := 0 } } }
     s.run.state = .run ∧ (s.sense.channels.get 0).check = none ∧ (s.sense.channels.get 0).sampleTimer = some 0 ∧
       s.signalOfChannel 0 = some 5) ∧
    ((lining (.reply (attempt [1#8, 0#8])) (some fetchNothing)).completes (attempt [1#8, 0#8]) fetchNothing 0 255#8 ∧
      fetchNothing.purpose = .entry 0 ∧ fetchNothing.dir = .fetch ∧ judgeReply 1 [1#8, 0#8, 255#8] = .ok ∧
      (running.setup.schedule.get 0).count ≤ 0) :=
  ⟨⟨rfl, by decide⟩, by decide, by decide, completes_fetchNothing _ ⟨rfl, rfl⟩, by decide⟩

theorem witness_SenseSampleIsTaken :
    (let s := sensing { kind := .voltage, high := 40000 } {}
     s.run.state = .run ∧ (s.sense.channels.get 0).check = none ∧ (s.sense.channels.get 0).sampleTimer = some 0 ∧
       (s.setup.sense.get 0).kind ≠ .frequency) ∧
    (({ running with sense := { State.reset.sense with supplyLow := true } } : State).sense.supplyLow = true) := by
  decide

theorem witness_InLimitSampleBecomesTheValue :
    (let s := sensing { kind := .resistiveSender, low := 7, high := 7 } {}
     s.sense.supplyLow = false ∧ (s.sense.channels.get 0).faultClass = .none ∧
       (s.setup.sense.get 0).kind = .resistiveSender ∧ (s.setup.sense.get 0).low ≤ (7#12).toNat ∧
       (7#12).toNat ≤ (s.setup.sense.get 0).high) ∧
    (let s := sensing { kind := .voltage, low := 32760, high := 32760 } {}
     (s.setup.sense.get 0).kind = .voltage ∧ (s.setup.sense.get 0).low ≤ 8 * (4095#12).toNat ∧
       8 * (4095#12).toNat ≤ (s.setup.sense.get 0).high) ∧
    (sensing { kind := .frequency } {}).setup.sense.get 0 = { kind := .frequency } ∧
    (let s := { running with
       setup := { State.reset.setup with sense := State.reset.setup.sense.set 44 { kind := .frequency } } }
     s.run.state = .run ∧ (s.setup.sense.get 44).kind = .frequency) := by decide

theorem witness_DebounceChangesASwitch :
    (let s := sensing { kind := .switchToGround, debounce := 2 } { settled := true, debounce := 1 }
     (s.setup.sense.get 0).kind.isSwitch = true ∧
       switchSample (s.setup.sense.get 0).kind (s.sense.channels.get 0).contact (256#12).toNat = .contact .closed ∧
       max (s.setup.sense.get 0).debounce 1 ≤ (s.sense.channels.get 0).debounce + 1 ∧
       (s.sense.channels.get 0).settled = true ∧
       contactValue (s.setup.sense.get 0).invert .closed ≠ (s.sense.channels.get 0).logical) ∧
    (let s := sensing { kind := .switchToSupply } { contact := some .opened }
     switchSample (s.setup.sense.get 0).kind (s.sense.channels.get 0).contact (512#12).toNat = .contact .opened ∧
       max (s.setup.sense.get 0).debounce 1 ≤ (s.sense.channels.get 0).debounce + 1 ∧
       (s.sense.channels.get 0).settled = false ∧ (s.sense.channels.get 0).contact = some .opened) := by decide

theorem witness_FaultRunsEnterAndHeal :
    (let s := sensing { kind := .switchToGround } { faultRun := 3 }
     s.sense.supplyLow = false ∧ (s.sense.channels.get 0).faultClass = .none ∧
       (s.sense.channels.get 0).faultRun = 3 ∧
       classify (s.setup.sense.get 0) (s.sense.channels.get 0) (255#12).toNat (max s.now 0) =
         .fault .shortToGround) ∧
    (((sensing {} { faultClass := .wiring, healthyRun := 7 }).sense.channels.get 0).faultClass = .wiring) ∧
    (let s := sensing { kind := .switchToGround } { faultClass := .openCircuit, healthyRun := 7 }
     (s.sense.channels.get 0).faultClass ≠ .none ∧ (s.sense.channels.get 0).faultClass ≠ .wiring ∧
       (s.sense.channels.get 0).healthyRun = 7 ∧
       classify (s.setup.sense.get 0) (s.sense.channels.get 0) (256#12).toNat (max s.now 0) =
         .contact .closed) := by decide

theorem witness_WiringCheckMeasuresAndJudges :
    (let s := sensing { kind := .voltage } { check := some { slot := 3, bands := [15] } }
     (s.sense.channels.get 0).check = some { slot := 3, bands := [15] } ∧
       (s.sense.channels.get 0).sampleTimer = some 0 ∧ [15].length < 2) ∧
    (let s := sensing { kind := .voltage } { check := some { slot := 3, bands := [14, 1] } }
     (s.sense.channels.get 0).check = some { slot := 3, bands := [14, 1] } ∧
       (s.sense.channels.get 0).sampleTimer = some 0 ∧ s.signalOfChannel 0 = none) ∧
    (sensing { kind := .voltage } { check := some { slot := 3, bands := [14, 1] } }).memorySound :=
  ⟨by decide, by decide, rfl⟩

theorem witness_SupplyLowFollowsTheSupply :
    State.reset.run.state ≠ .standby ∧ State.reset.sense.supplyTimer = some 5000 ∧
      ({ running with sense := { State.reset.sense with lowTimer := some 100000 } } : State).sense.lowTimer =
        some 100000 := by decide

theorem witness_IgnitionChangesAtTheTenthSample :
    (0 < 9 ∧ false = State.reset.run.ignition ∧ true ≠ State.reset.run.ignition ∧
      State.reset.run.ignitionTally + 9 < 10) ∧
    (10 ≤ State.reset.run.ignitionTally + 10 ∧ (inState .standby).run.state = .standby ∧
      State.reset.run.state = .config ∧ running.run.state = .run ∧ (inState .shutdown).run.state = .shutdown) ∧
    (let s := running.setRun { running.run with ignition := true, applySlot := none }
     false ≠ s.run.ignition ∧ 10 ≤ s.run.ignitionTally + 10 ∧ s.setup.general.runOnTime = 0 ∧
       (s.setSetup { s.setup with general := { runOnTime := 600 } }).setup.general.runOnTime ≠ 0) := by decide

/-- In SHUTDOWN, with door 3 and station 15 enabled, a test of NOT_VALID and a value test, and gauges that track, park
at once, home, or are not in use. -/
def returning : State :=
  { inState .shutdown with
    setup := { State.reset.setup with
      settings := { cycleLength := 5 }
      doors := State.reset.setup.doors.set 3 { enabled := true }
      stations := State.reset.setup.stations.set 15 { enabled := true }
      warnings := (State.reset.setup.warnings.set 0 { kind := .signalTest, operator := .notValid }).set 95
        { kind := .signalTest, operator := .notValid, onDelay := 7 }
      gauges := ((State.reset.setup.gauges.set 0 { inUse := true, staleHold := 100 }).set 1
        { inUse := true, staleHold := 0 }).set 5 { inUse := true } }
    gauges := State.reset.gauges.set 5 { state := .homing, homingLeft := 90, updateTimer := some 20000 } }

/-- The return of ignition with a door to guard and with none, and each kind of gauge and of warning. -/
theorem witness_IgnitionChangesAtTheTenthSample_return :
    (returning.run.state = .shutdown ∧ true ≠ returning.run.ignition ∧ 10 ≤ returning.run.ignitionTally + 10) ∧
    ((3 < 4 ∧ (returning.setup.doors.get 3).enabled = true) ∧
      ¬∃ d, d < 4 ∧ ((inState .shutdown).setup.doors.get d).enabled = true) ∧
    ((returning.setup.gauges.get 0).inUse = true ∧ (returning.gauges.get 0).state ≠ .homing ∧
      (returning.setup.gauges.get 0).staleHold ≠ 0 ∧ (returning.setup.gauges.get 1).staleHold = 0 ∧
      (returning.setup.gauges.get 5).inUse = true ∧ (returning.gauges.get 5).state = .homing ∧
      (returning.setup.gauges.get 2).inUse = false) ∧
    ((returning.setup.warnings.get 0).kind = .signalTest ∧ (returning.setup.warnings.get 0).onDelay = 0 ∧
      (returning.setup.warnings.get 95).onDelay ≠ 0 ∧ (returning.setup.warnings.get 1).kind = .unused) := by decide

/-- The line idle at 9,000 µs with 1,000 µs of a minor cycle left: entry 0, of 16 words, does not fit, and entry 63 does,
where it has none. -/
def walking (u : PollEntry) (l : List OneShot) : State :=
  { lining .idle none with
    now := 9000
    setup := { State.reset.setup with
      settings := { cycleLength := 5 }
      schedule := (State.reset.setup.schedule.set 0 { station := 1, length := 16, mask := 2#8 }).set 63
        { u with mask := 2#8 } }
    line := { (lining .idle none).line with oneShots := l } }

theorem witness_MinorCycleStartsItsWalk :
    (let s := walking { station := 1 } []
     s.run.state = .run ∧ s.line.phase = .idle ∧ s.line.minorNext = some 5000 ∧ (s.line.minor + 1) % 8 = 1 ∧
       s.setup.dueIn 1 = [0] ++ 63 :: [] ∧
       10000 < 9000 + ((7 + 2 * (s.setup.schedule.get 0).length) * 44 +
         Config.responseTimeout s.setup.settings.timeoutCode + 60) ∧
       9000 + ((7 + 2 * (s.setup.schedule.get 63).length) * 44 +
         Config.responseTimeout s.setup.settings.timeoutCode + 60) ≤ 10000) ∧
    (let s := { walking { station := 0 } [.service 1, .service 2] with
       line := { (walking { station := 0 } [.service 1, .service 2]).line with minor := 0 } }
     s.setup.dueIn 1 = [0] ∧ s.line.oneShots = .service 1 :: [.service 2] ∧ s.wordsOfOneShot (.service 1) = 0) ∧
    (let s := walking { station := 0 } [.transfer 3 1 0 .fetch 16 []]
     10000 < 9000 + ((7 + 2 * s.wordsOfOneShot (.transfer 3 1 0 .fetch 16 [])) * 44 +
       Config.responseTimeout s.setup.settings.timeoutCode + 60)) ∧
    (walking { station := 0 } []).line.oneShots = [] := by decide

/-- A DELIVER of 3 words with a span of 2, of which signal 1 is usable and signal 2 is not; and a SUMMARY. -/
theorem witness_MinorCycleStartsItsWalk_words :
    (let u : PollEntry := { station := 1, direction := some .deliver, length := 3, first := 1, count := 2 }
     let s := { walking u [] with signals := State.reset.signals.set 1 { value := 5#16, status := .valid } }
     u.dataKind = .signals ∧ (s.setup.stations.get 1).deliverSource = .asShown ∧ (s.signals.get 1).status = .valid ∧
       (s.signals.get 2).status ≠ .valid ∧ (s.signals.get 2).status ≠ .forced ∧ u.count ≤ 2 ∧
       s.entryWords u = [5#16, 0#16, 0#16] ∧
       ({ s with setup := { s.setup with
         stations := s.setup.stations.set 1 { deliverSource := .usableOnly } } } : State).entryWords u =
         [5#16, 0x8000#16, 0#16]) ∧
    (let u : PollEntry := { station := 1, direction := some .deliver, length := 4, dataKind := .summary }
     u.dataKind = .summary ∧
       ({ walking u [] with doors := { State.reset.doors with
         doors := State.reset.doors.doors.set 3 { state := .closedLocked }, motion := .moving, interlock := .released } }
           : State).entryWords u = [0x3000#16, 2#16, 2#16, 0#16]) := by decide

theorem witness_ReplyCharactersAreJudged :
    ((lining (.reply (attempt [])) none).line.phase = .reply (attempt []) ∧ Channel.b ≠ (attempt []).channel ∧
      (-1 : Int) < 0 ∧ (lining (.turnaround 300) none).line.phase = .turnaround 300) ∧
    (let s := lining (.reply (attempt [])) (some fetchNothing)
     s.line.phase = .reply (attempt []) ∧ s.line.transaction = some fetchNothing ∧ s.now ≤ (attempt []).lastEnd ∧
       (attempt []).lastEnd + 0 ≤ s.replyBy (attempt []) ∧
       (attempt []).lastEnd + 0 + 44 ≤ s.windowClose (attempt []) ∧
       replyComplete .fetch 0 ((attempt []).received ++ [1#8]) = false) ∧
    (let a := attempt [1#8, 0#8]
     let s := lining (.reply a) (some fetchNothing)
     s.line.phase = .reply a ∧ (a.received ≠ [] → 0 ≤ 88) ∧ a.lastEnd + 0 + 44 ≤ s.windowClose a ∧
       replyComplete .fetch 0 (a.received ++ [0#8]) = true ∧
       (judgeReply 1 (a.received ++ [0#8])).good = false ∧ fetchNothing.made.length < fetchNothing.retries) ∧
    ([1#8, 0#8, 7#8, 0#8, 248#8].getD 1 0#8).getLsbD 0 = false ∧
    ([1#8, 0#8, 7#8, 0#8, 248#8].getD 1 0#8).getLsbD 3 = false ∧ ([1#8, 1#8].getD 1 0#8).getLsbD 0 = true := by
  decide

/-- A reply of each outcome from station 1, with no words: header, flags, check. -/
theorem witness_CompleteRepliesAreJudgedInOrder :
    judgeReply 1 [1#8, 0#8, 0#8] = .checkError ∧ judgeReply 1 [2#8, 0#8, 254#8] = .wrongAddress ∧
      judgeReply 1 [1#8, 9#8, 246#8] = .refused ∧ judgeReply 1 [1#8, 1#8, 254#8] = .busy ∧
      judgeReply 1 [1#8, 0#8, 255#8] = .ok ∧ judgeReply 1 [1#8, 0#8, 7#8, 2#8, 246#8] = .ok ∧
      replyComplete .fetch 1 [1#8, 0#8, 7#8, 2#8, 246#8] = true ∧
      (replyHandover { fetchNothing with length := 1 } .ok [1#8, 0#8, 7#8, 2#8, 246#8]).2 = [0x0207#16] := by decide

theorem witness_TimedOutAttemptsTurnAround :
    (let s := lining (.reply (attempt [])) (some fetchNothing)
     s.line.phase = .reply (attempt []) ∧ (attempt []).received = [] ∧ s.run.state = .run ∧
       fetchNothing.made.length < fetchNothing.retries) ∧
    (let s := lining (.holding (attempt [1#8]) .characterError) (some fetchNothing)
     s.line.phase = .holding (attempt [1#8]) .characterError ∧ LineOutcome.characterError.good = false) ∧
    (let s := lining (.reply (attempt [1#8])) (some fetchNothing)
     s.line.phase = .reply (attempt [1#8]) ∧ (attempt [1#8]).received ≠ [] ∧
       (attempt [1#8]).lastEnd + 88 ≤ s.windowClose (attempt [1#8])) ∧
    (let x : Transaction := { fetchNothing with made := [(.a, .noResponse)] }
     let s := lining (.turnaround 300) (some x)
     s.line.phase = .turnaround 300 ∧ s.line.transaction = some x ∧ s.line.minorNext = some 5000 ∧
       max s.now 300 + attemptBudget s.setup.settings.timeoutCode x.length ≤ 5000) ∧
    (let s := lining (.turnaround 300) none
     s.line.transaction = none ∧ s.line.probeNext = none ∧ s.line.walk = [] ∧ s.line.oneShots = []) ∧
    (let s := { lining (.turnaround 300) none with
       line := { (lining (.turnaround 300) none).line with walk := [63], oneShots := [.service 1] } }
     s.run.state = .run ∧ s.line.transaction = none ∧ s.line.minorNext = some 5000 ∧ s.line.probeNext = none ∧
       s.line.walk = [] ++ 63 :: [] ∧ s.line.oneShots = .service 1 :: []) ∧
    (let p : Transaction := { fetchNothing with purpose := .probe 0, made := [(.a, .ok)] }
     let s := { lining (.turnaround 4900) none with
       line := { (lining (.turnaround 4900) none).line with probeNext := some p } }
     s.line.probeNext = some p ∧
       5000 < max s.now 4900 + attemptBudget s.setup.settings.timeoutCode p.length) := by decide

theorem witness_ChannelHealthFollowsTheOutcomes :
    ((lining (.reply (attempt [1#8, 0#8])) (some fetchNothing)).completes (attempt [1#8, 0#8]) fetchNothing 0 255#8 ∧
      (∀ e, fetchNothing.purpose ≠ .probe e) ∧ (judgeReply 1 [1#8, 0#8, 255#8]).good = true) ∧
    (let x := { fetchNothing with purpose := .probe 3 }
     (lining (.reply (attempt [1#8, 0#8])) (some x)).completes (attempt [1#8, 0#8]) x 0 255#8 ∧ x.purpose = .probe 3) ∧
    (let s := lining (.reply (attempt [])) (some fetchNothing)
     s.line.phase = .reply (attempt []) ∧ (attempt []).received = [] ∧ s.line.transaction = some fetchNothing ∧
       ∃ t, exec .responseTimeout s = .next t) ∧
    (let p := { fetchNothing with purpose := .probe 3, made := [(.a, .ok)] }
     let s := lining (.turnaround 300) none
     let r := s.setLine { s.line with probeNext := some p }
     r.line.phase = .turnaround 300 ∧ r.line.transaction = none ∧ r.line.probeNext = some p ∧
       p.made = (.a, .ok) :: []) :=
  ⟨⟨completes_fetchNothing _ ⟨rfl, rfl⟩, fun _ => Purpose.noConfusion, by decide⟩,
    ⟨completes_fetchNothing _ ⟨rfl, rfl⟩, rfl⟩, ⟨rfl, rfl, rfl, _, rfl⟩, rfl, rfl, rfl, rfl⟩

/-- Station 1 enabled, its SERVICE fetch at the head of the list. -/
theorem witness_StationRecordsFollowTheOutcomes :
    (let s := { lining (.reply (attempt [1#8, 0#8])) (some fetchNothing) with
       setup := { State.reset.setup with stations := State.reset.setup.stations.set 1 { enabled := true } } }
     s.completes (attempt [1#8, 0#8]) fetchNothing 0 255#8 ∧ (s.setup.stations.get fetchNothing.station).enabled = true ∧
       s.run.state = .run ∧ fetchNothing.purpose ≠ .oneShot) ∧
    (let x := { fetchNothing with purpose := .oneShot, retries := 0 }
     let l := lining (.reply (attempt [1#8, 0#8])) (some x)
     let s := { l with
       setup := { State.reset.setup with stations := State.reset.setup.stations.set 1 { enabled := true } }
       line := { l.line with oneShots := [.service 1] } }
     s.completes (attempt [1#8, 0#8]) x 0 255#8 ∧ x.purpose = .oneShot ∧ s.line.oneShots = .service x.station :: [] ∧
       (∀ b, b < 16 → (s.line.stations.get b).deferred = false) ∧ x.retries ≤ x.made.length) :=
  ⟨⟨completes_fetchNothing fetchNothing ⟨rfl, rfl⟩, by decide⟩,
    ⟨rfl, rfl, by decide, by decide, by decide, by decide, by decide⟩, by decide⟩

/-- Station 1 alone enabled, SILENT or one failure short of it, in search mode or not: its good reply ends search mode,
and its last response timeout begins it. -/
theorem witness_StationRecordsFollowTheOutcomes_search :
    (let line := fun (p : LinePhase) (x : Transaction) (y : Station) (search : Option Channel) =>
       let l := lining p (some x)
       { l with
         setup := { State.reset.setup with
           settings := { State.reset.setup.settings with preferred := some .a }
           stations := State.reset.setup.stations.set 1 { enabled := true, silentLimit := 3 } }
         line := { l.line with stations := State.reset.line.stations.set 1 y, search } }
     let last := { fetchNothing with retries := 0 }
     let s := line (.reply (attempt [1#8, 0#8])) fetchNothing { state := .silent } (some .b)
     let r := line (.reply (attempt [])) last { state := .online, failures := 2 } none
     let t := after (exec ((attempt [1#8, 0#8]).lastCharacter 0 255#8) s)
     let v := after (exec .responseTimeout r)
     (s.completes (attempt [1#8, 0#8]) fetchNothing 0 255#8 ∧ (t.line.stations.get 1).state ≠ .silent ∧
       t.line.search = none) ∧
     (r.line.phase = .reply (attempt []) ∧ (attempt []).received = [] ∧ r.line.transaction = some last ∧
       (∀ e, last.purpose ≠ .probe e) ∧ last.retries ≤ last.made.length ∧
       (v.line.stations.get 1).state = .silent ∧ v.line.search = some .a ∧ v.line.summary = .down)) :=
  ⟨⟨⟨rfl, rfl, by decide, by decide, by decide, by decide, by decide⟩, by decide⟩,
    rfl, rfl, rfl, fun _ => Purpose.noConfusion, by decide⟩

theorem witness_EndsAreLoggedAndAnswered :
    ((lining (.reply (attempt [1#8, 0#8])) (some fetchNothing)).completes (attempt [1#8, 0#8]) fetchNothing 0 255#8 ∧
      (running.setup.schedule.get 0).logPolicy = .always ∧ fetchNothing.purpose = .entry 0) ∧
    (let x := { fetchNothing with purpose := .oneShot }
     let l := lining (.reply (attempt [1#8, 0#8])) (some x)
     let s := { l with line := { l.line with oneShots := [.transfer 15 1 0 .fetch 0 []], logHead := 255#8 } }
     s.completes (attempt [1#8, 0#8]) x 0 255#8 ∧ s.line.oneShots = .transfer 15 1 0 .fetch 0 [] :: [] ∧
       s.memorySound ∧ s.line.logHead = 255#8 ∧ x.purpose = .oneShot) ∧
    (let s := { lining .idle none with
       setup := { State.reset.setup with
         settings := { cycleLength := 1 }
         schedule := State.reset.setup.schedule.set 63 { station := 1, mask := 2#8, length := 16 } } }
     s.run.state = .run ∧ s.line.phase = .idle ∧ s.line.minorNext = some 5000 ∧
       s.setup.dueIn ((s.line.minor + 1) % 8) = [63] ∧ s.line.oneShots = [] ∧
       5000 + 1000 * s.setup.settings.cycleLength <
         max s.now 5000 + attemptBudget s.setup.settings.timeoutCode (s.setup.schedule.get 63).length) ∧
    (let x : Transaction := { fetchNothing with made := [(.a, .noResponse)] }
     let s := (lining (.turnaround 4999) (some x))
     s.run.state = .run ∧ s.line.phase = .turnaround 4999 ∧ s.line.transaction = some x ∧ x.purpose = .entry 0 ∧
       x.made = (.a, .noResponse) :: [] ∧ LineOutcome.noResponse.good = false ∧ s.line.minorNext = some 5000 ∧
       s.line.walk = [] ∧ s.line.oneShots = [] ∧
       5000 < max s.now 4999 + attemptBudget s.setup.settings.timeoutCode x.length) :=
  ⟨⟨completes_fetchNothing _ ⟨rfl, rfl⟩, by decide⟩,
    ⟨⟨rfl, rfl, by decide, by decide, by decide, by decide, by decide⟩, rfl, rfl, rfl, rfl⟩, by decide, by decide⟩

theorem witness_AgreeTimerMovesTheLatch :
    (let s := { running with doors := { State.reset.doors with
       doors := State.reset.doors.doors.set 3 { agreeTimer := some 100000, opened := true } } }
     (s.doors.doors.get 3).agreeTimer = some 100000 ∧ (s.doors.doors.get 3).opened = true ∧
       (s.doors.doors.get 3).cycles < 4294967295) := by decide

theorem witness_ObstructionsAreCounted :
    (let x : Door := { state := .closing, obstructions := 65535 }
     x.state = .closing ∧ x.obstructions ≤ 65535) ∧ (∃ t, exec .powerOn running = .next t) :=
  ⟨by decide, _, rfl⟩

/-- Door 0 enabled, and not proven closed. -/
def doorOpen : State :=
  { running with setup := { State.reset.setup with doors := State.reset.setup.doors.set 0 { enabled := true } } }

theorem witness_DoorStatesAreDerived :
    doorOpen.run.state = .run ∧ (doorOpen.setup.doors.get 0).enabled = true ∧ (doorOpen.doorView 0).unread = true ∧
    (let u : DoorSetup := { enabled := true, leaves := 1, leaf1 := 47, leaf2 := 255, lock := 255, ramp := 255,
                            obstruction := 255, release := 46, phaseSignal := 255, obstructionSignal := 255 }
     let s := { running with
       setup := { State.reset.setup with doors := State.reset.setup.doors.set 3 u }
       sense := { State.reset.sense with channels :=
         (State.reset.sense.channels.set 47 { settled := true, logical := 1#16 }).set 46 { settled := true } } }
     (s.setup.doors.get 3).enabled = true ∧ (s.doorView 3).unread = false ∧ (s.doorView 3).pulled = false ∧
       (s.doorView 3).phase = none) := by decide

/-- Channel 47, a voltage channel not settled, is a leaf channel of door 3; its first sample in limits settles it. -/
theorem witness_DoorStatesAreDerived_sample :
    (let u : DoorSetup := { enabled := true, leaves := 1, leaf1 := 47, leaf2 := 255, lock := 255, ramp := 255,
                            obstruction := 255, release := 46, phaseSignal := 255, obstructionSignal := 255 }
     let s := { running with
       setup := { State.reset.setup with
         doors := State.reset.setup.doors.set 3 u
         sense := State.reset.setup.sense.set 47 { kind := .voltage, high := 40000 } }
       sense := { State.reset.sense with channels := State.reset.sense.channels.set 47 { sampleTimer := some 0 } } }
     s.run.state = .run ∧ (s.sense.channels.get 47).check = none ∧
       (s.sense.channels.get 47).sampleTimer = some 0 ∧ (s.setup.doors.get 3).enabled = true ∧
       47 ∈ (s.setup.doors.get 3).channels ∧ s.signalOfChannel 47 = none ∧
       (s.sense.channels.get 47).settled = false ∧ ((s.sampleOf 47 9).1).settled = true) := by decide

/-- Signal 127 gives door 0 its phase, and goes stale. -/
theorem witness_DoorStatesAreDerived_stale :
    (let s := { running with
       setup := { State.reset.setup with
         doors := State.reset.setup.doors.set 0 { enabled := true, phaseSignal := 127, obstructionSignal := 255 }
         general := { primarySpeed := 255, fallbackSpeed := 255, parkingBrake := 255 } }
       signals := State.reset.signals.set 127 { status := .valid, staleDeadline := some 9 } }
     s.run.state = .run ∧ (s.signals.get 127).staleDeadline = some 9 ∧ (s.signals.get 127).status ≠ .forced ∧
       (s.signals.get 127).status ≠ .stale ∧ (s.setup.doors.get 0).enabled = true ∧
       (s.setup.doors.get 0).phaseSignal = 127 ∧ 127 ≠ s.setup.general.primarySpeed ∧
       127 ≠ s.setup.general.fallbackSpeed ∧ 127 ≠ s.setup.general.parkingBrake) := by decide

theorem witness_InterlockFollowsTheConditions :
    (doorOpen.demandConditions = true ∧ doorOpen.overrideActive = false) ∧
    (let s := { doorOpen with
       setup := { doorOpen.setup with
         general := { override := 47 }, sense := State.reset.setup.sense.set 47 { kind := .switchToGround } }
       sense := { State.reset.sense with
         channels := State.reset.sense.channels.set 47 { settled := true, logical := 1#16 } } }
     s.demandConditions = true ∧ s.overrideActive = true) ∧
    (running.demandConditions = false ∧ running.doors.interlock = .demand ∧ running.doors.releaseDelay = 0) ∧
    (let s := { running with doors := { State.reset.doors with releaseDelay := 2000, interlock := .releasing } }
     s.demandConditions = false ∧ s.doors.releaseDelay ≠ 0 ∧ s.doors.interlock = .releasing) ∧
    (let s := { running with
       doors := { State.reset.doors with interlock := .releasing, releaseTimer := some 100000 } }
     s.doors.releaseTimer = some 100000 ∧ s.doors.interlock = .releasing) := by decide

/-- Readings of R78 at each kind of entry: door 0 released in doubt by channel 1, its ramp channel 47 in fault, and a
phase signal of value 4; door 3 with a second leaf on channel 3, which shows 1. -/
theorem witness_DoorStatesAreDerived_readings :
    (let u : DoorSetup := { enabled := true, leaves := 1, leaf1 := 0, leaf2 := 255, lock := 2, ramp := 47,
                            obstruction := 255, release := 1, phaseSignal := 127, obstructionSignal := 255 }
     let entries := (((State.reset.sense.channels.set 0 { settled := true, logical := 1#16 }).set 1
       { settled := true, check := some { slot := 3, bands := [] } }).set 2 { settled := true }).set 47
       { settled := true, logical := 1#16, faultClass := .wiring }
     let s := { running with
       setup := { State.reset.setup with
         doors := (State.reset.setup.doors.set 0 u).set 3 { u with leaves := 2, leaf2 := 3, release := 2 } }
       signals := State.reset.signals.set 127 { value := 4#16, status := .valid }
       sense := { State.reset.sense with channels := entries.set 3 { settled := true, logical := 1#16 } } }
     (s.doorView 0).unread = false ∧ (s.doorView 0).pulled = true ∧ (s.doorView 0).closed = true ∧
       (s.doorView 0).unlocked = true ∧ (s.doorView 0).obstructed = false ∧
       (s.doorView 0).phase = some .reversing ∧ s.rampOut 0 = true ∧ (s.doorView 3).closed = true ∧
       (s.doorView 3).pulled = false ∧ (s.setup.doors.get 3).leaves = 2 ∧
       (takeInterlock s).doors.reasons = { door := true, ramp := true, release := false }) := by decide

/-- Channel 0, the override, is due a sample that settles it. -/
theorem witness_InterlockFollowsTheConditions_sample :
    (let u : SenseSetup := { kind := .voltage, high := 40000 }
     let s := { sensing u {} with
       setup := { (sensing u {}).setup with general := { override := 0 } } }
     s.run.state = .run ∧ (s.sense.channels.get 0).check = none ∧ (s.sense.channels.get 0).sampleTimer = some 0 ∧
       s.setup.general.override = 0 ∧ s.signalOfChannel 0 = none ∧
       (s.sense.channels.get 0).settled = false ∧ ((s.sampleOf 0 9).1).settled = true) := by decide

theorem witness_MotionFollowsTheSpeed :
    (let s := { running with
       setup := { State.reset.setup with
         general := { primarySpeed := 127, fallbackSpeed := 255, moveThreshold := 50, stopThreshold := 50 } }
       signals := State.reset.signals.set 127 { value := 0xFFCE#16, status := .valid } }
     (∀ n ∈ s.shop.forced, n ≠ s.setup.general.primarySpeed ∧ n ≠ s.setup.general.fallbackSpeed) ∧
       (s.signals.get s.setup.general.primarySpeed).status = .valid ∧
       (s.signals.get s.setup.general.primarySpeed).value.toInt.natAbs = 50) ∧
    (let s := { running with doors := { State.reset.doors with motion := .moving, stopTimer := some 500000 } }
     s.doors.stopTimer = some 500000 ∧ s.doors.motion ≠ .stopped) := by decide

/-- Channel 0 feeds signal 127, the primary speed, which has no data yet. -/
theorem witness_MotionFollowsTheSpeed_sample :
    (let u : SenseSetup := { kind := .voltage, high := 40000 }
     let s := { sensing u {} with
       setup := { (sensing u {}).setup with
         signals := State.reset.setup.signals.set 127 { kind := .sense, index := 0 }
         general := { primarySpeed := 127, fallbackSpeed := 255 } } }
     (∀ k ∈ s.shop.forced, k ≠ s.setup.general.primarySpeed ∧ k ≠ s.setup.general.fallbackSpeed) ∧
       s.run.state = .run ∧ (s.sense.channels.get 0).check = none ∧
       (s.sense.channels.get 0).sampleTimer = some 0 ∧ s.signalOfChannel 0 = some 127 ∧
       127 = s.setup.general.primarySpeed ∧ ((s.sampleOf 0 9).1).settled = true) := by decide

/-- Motion STOPPED with no speed signal usable: a sweep of slot 15 on gauge 5, a workshop sweep on gauge 0, a workshop
lamp check and a force of signal 3, in a SERVICE session. -/
theorem witness_MotionFollowsTheSpeed_leavesStopped :
    (let w : Sweep := { resume := .tracking, returnPoint := 3, back := true, owner := .workshop 1#8 }
     let s := { inService with
       setup := { inService.setup with gauges := State.reset.setup.gauges.set 0 { inUse := true, signal := 5 } }
       gauges := (State.reset.gauges.set 0 { state := .sweeping, sweep := some w }).set 5
         { state := .sweeping, sweep := some { w with owner := .request 15 32#8 } }
       comp := { State.reset.comp with check := some .workshop }
       shop := { inService.shop with forced := [3], tests := { sweepState := .running, lampState := .running } } }
     (∀ n ∈ s.shop.forced, n ≠ s.setup.general.primarySpeed ∧ n ≠ s.setup.general.fallbackSpeed) ∧
       s.memorySound ∧ s.run.state = .run ∧ s.doors.motion = .stopped ∧ s.shop.session = .service ∧
       (takeSpeed demoteSession s).doors.motion ≠ .stopped) ∧
    (let s := { inService with
       signals := inService.signals.set 127 { value := 49#16, status := .valid }
       comp := { State.reset.comp with check := some (.request 15) } }
     s.memorySound ∧ (takeSpeed demoteSession s).doors.motion = .stopped) ∧
    (let s := { doorOpen with
       setup := { doorOpen.setup with general := inService.setup.general }
       signals := State.reset.signals.set 127 { value := 50#16, status := .valid }
       doors := { State.reset.doors with motion := .stopped } }
     s.memorySound ∧ s.shop.session ≠ .service ∧ (takeSpeed demoteSession s).doors.motion = .moving ∧
       (s.setup.doors.get 0).enabled = true ∧ (s.doors.doors.get 0).proven = false) :=
  ⟨⟨by decide, rfl, by decide⟩, ⟨rfl, rfl⟩, rfl, by decide⟩

theorem witness_DelaysMoveAWarning :
    (let s := warned { state := .arming, delay := some 1000 }
     (s.warnings.get 0).state = .arming ∧ (s.warnings.get 0).delay = some 1000 ∧
       (s.setup.warnings.get 0).faultCode = 0) ∧
    (let s := warned { state := .clearing, delay := some 1000 }
     (s.warnings.get 0).state = .clearing ∧ (s.warnings.get 0).delay = some 1000 ∧
       (s.warnings.get 0).stored = false) := by decide

/-- Warning 0 on DISPLAY_LOST, in a state, with a fault code and delays. -/
def losing (x : Warning) (lost : Bool) (on off : Nat) : State :=
  let u : WarningSetup :=
    { kind := .internal, source := .displayLost, faultCode := 7, onDelay := on, offDelay := off, latch := true }
  { warned x with
    setup := { State.reset.setup with warnings := State.reset.setup.warnings.set 0 u }
    port := { State.reset.port with displayLost := lost, livenessTimer := some 100000 } }

/-- A change of the condition in each state of R104, with and without a delay. -/
theorem witness_DelaysMoveAWarning_conditions :
    ((losing {} true 0 0).conditionOf 0 = true ∧ ((losing {} true 0 0).warnings.get 0).condition = false ∧
      ((losing {} true 0 0).warnings.get 0).state = .inactive ∧ (losing {} true 0 0).testsForced 0 = false) ∧
    ((losing { state := .latched } true 0 0).conditionOf 0 = true) ∧
    ((losing { state := .clearing } true 5 5).conditionOf 0 = true) ∧
    (let s := losing { state := .active, condition := true, stored := true } false 0 0
     s.conditionOf 0 = false ∧ (s.warnings.get 0).condition = true ∧ (s.warnings.get 0).stored = true ∧
       (s.setup.warnings.get 0).offDelay = 0) ∧
    ((losing { state := .active, condition := true } false 5 5).conditionOf 0 = false ∧
      ((losing {} true 5 5).setup.warnings.get 0).onDelay ≠ 0) ∧
    ((losing { state := .arming, condition := true } false 5 5).conditionOf 0 = false) ∧
    (let s := losing {} false 0 0
     s.run.state = .run ∧ s.port.livenessTimer = some 100000 ∧ s.port.displayLost = false ∧
       (s.setup.warnings.get 0).kind = .internal ∧ (s.setup.warnings.get 0).source = .displayLost ∧
       (s.setup.warnings.get 1).kind = .unused) ∧
    (let s := losing {} true 0 0
     Source.displayLost ≠ .undefined ∧ (s.setup.warnings.get 0).source ≠ .supplyLow ∧
       ((takeSource .displayLost 0 s).warnings.get 0).state = .active ∧
       ((takeSource .supplyLow 0 s).warnings.get 0).state = .inactive) ∧
    (let s := losing { state := .arming, delay := some 1000 } true 5 5
     (s.warnings.get 0).state = .arming ∧ (s.setup.warnings.get 0).faultCode ≠ 0 ∧ s.testsForced 0 = false) ∧
    ((losing { state := .clearing, delay := some 1000, stored := true } false 5 5).warnings.get 0).stored = true := by
  decide

/-- Warning 0 tests signal 0 by an operator, threshold 1,000 and hysteresis 20, with a value and a present condition. -/
def testing (o : Operator) (v : Word) (present : Bool) : State :=
  let u : WarningSetup := { kind := .signalTest, operator := o, threshold := 1000, hysteresis := 20 }
  { running with
    setup := { State.reset.setup with warnings := State.reset.setup.warnings.set 0 u }
    signals := State.reset.signals.set 0 { value := v, status := .valid }
    warnings := State.reset.warnings.set 0 { condition := present } }

/-- The worked figures of R101: 990 to 1,000 keep either condition, 980 ends a true one, 1,001 begins a false one; and
the other operators and the statuses of R102. -/
theorem witness_ConditionsFollowSignalsAndSources :
    (testing .above 1000#16 false).conditionOf 0 = false ∧ (testing .above 990#16 true).conditionOf 0 = true ∧
      (testing .above 1001#16 false).conditionOf 0 = true ∧ (testing .above 980#16 true).conditionOf 0 = false ∧
      (testing .below 999#16 false).conditionOf 0 = true ∧ (testing .below 1020#16 true).conditionOf 0 = false ∧
      (testing .equal 1000#16 false).conditionOf 0 = true ∧ (testing .notEqual 1000#16 true).conditionOf 0 = false ∧
      (testing .bitsAny 0x0408#16 false).conditionOf 0 = true ∧ (testing .bitsAny 0xFC17#16 true).conditionOf 0 = false ∧
      (testing .notValid 0#16 true).conditionOf 0 = false ∧
      ((testing .above 1000#16 false).setup.warnings.get 0).kind = .signalTest ∧
      ((testing .above 1000#16 false).signals.get 0).status = .valid ∧
    (let shown := fun (o : Operator) (x : SignalStatus) =>
       { testing o 1000#16 true with signals := State.reset.signals.set 0 { value := 1000#16, status := x } }
     (shown .equal .stale).conditionOf 0 = true ∧ (shown .equal .fault).conditionOf 0 = false ∧
       (shown .notValid .stale).conditionOf 0 = true ∧ (shown .equal .forced).conditionOf 0 = true) := by decide

/-- Internal sources at the ends of their ranges, and with 255. -/
theorem witness_ConditionsFollowSignalsAndSources_internal :
    (let reads := fun (src : Source) (i : Nat) (s : State) =>
       { s with setup := { s.setup with
           warnings := State.reset.setup.warnings.set 95 { kind := .internal, source := src, index := i } } }
     let silent := { running with line := { State.reset.line with
       stations := State.reset.line.stations.set 15 { state := .silent } } }
     let faulty := { running with sense := { State.reset.sense with
       channels := State.reset.sense.channels.set 47 { faultClass := .wiring } } }
     (reads .stationSilent 15 silent).conditionOf 95 = true ∧ (reads .stationSilent 255 silent).conditionOf 95 = true ∧
       (reads .stationSilent 1 silent).conditionOf 95 = false ∧ (reads .senseFault 47 faulty).conditionOf 95 = true ∧
       (reads .senseFault 255 running).conditionOf 95 = false ∧
       (reads .doorNotClosed 0 doorOpen).conditionOf 95 = true ∧
       (reads .doorNotClosed 3 doorOpen).conditionOf 95 = false ∧
       (reads .supplyLow 0 running).conditionOf 95 = false ∧
       ((reads .supplyLow 0 running).setup.warnings.get 95).kind = .internal) := by decide

/-- Two eligible warnings and door 0 not proven: the first ranked in TOP, the banner in SECOND (R118, R119). -/
theorem witness_SlotsHoldTheFirstRanked :
    (let u : WarningSetup := { kind := .signalTest, cls := .stop, banner := true }
     let s := { doorOpen with
       setup := { doorOpen.setup with warnings := State.reset.setup.warnings.set 95 u }
       warnings := (State.reset.warnings.set 95 { state := .active, priority := 9 }).set 0
         { state := .active, priority := 3 } }
     s.eligible 95 = true ∧ s.eligible 0 = true ∧ s.composition.top.kind = .warning ∧
       s.composition.top.index = 95 ∧ s.composition.second.kind = .banner ∧
       s.composition.third.kind = .warning ∧ s.composition.third.index = 0) := by decide

/-- The worked figures of R117: a base of 8 with the motion bit reads 9 while motion is UNKNOWN. -/
theorem witness_SlotsHoldTheFirstRanked_inputs :
    (let s := { running with setup := { State.reset.setup with
       warnings := State.reset.setup.warnings.set 95 { kind := .internal, base := 8, motionMode := true, lamp := 255 } } }
     (s.setup.warnings.get 95).kind ≠ .unused ∧ ((takePriority 95 s).warnings.get 95).priority = 9 ∧
       (s.setup.warnings.get 0).kind = .unused) ∧
    (let s := { running with
       setup := { State.reset.setup with
         warnings := State.reset.setup.warnings.set 0 { kind := .internal, base := 15, lamp := 31, boost := 3 } }
       comp := { State.reset.comp with lamps := State.reset.comp.lamps.set 31 { proof := .shorted } } }
     (s.setup.warnings.get 0).lamp ≠ 255 ∧ (s.comp.lamps.get 31).proof = .shorted ∧
       ((takePriority 0 s).warnings.get 0).priority = 15 ∧ ((takePriority 0 s).warnings.get 0).boosted = true) ∧
    ((State.reset.setup.warnings.get 0).cls ≠ .undefined) ∧
    (let s := { running with
       warnings := (State.reset.warnings.set 0 { state := .arming, delay := some 1 }).set 1
         { state := .clearing, delay := some 1 }
       port := { State.reset.port with livenessTimer := some 1 }
       comp := { State.reset.comp with check := some .workshop, checkTimer := some 1 } }
     s.run.state = .run ∧ (s.warnings.get 0).delay = some 1 ∧ (s.warnings.get 0).state = .arming ∧
       (s.warnings.get 1).delay = some 1 ∧ (s.warnings.get 1).state = .clearing ∧
       s.port.livenessTimer = some 1 ∧ s.port.displayLost = false ∧ s.comp.checkTimer = some 1 ∧
       s.comp.check ≠ none) ∧
    (let s := { doorOpen with doors := { State.reset.doors with
       doors := State.reset.doors.doors.set 0 { proven := true } } }
     (s.setup.doors.get 0).enabled = true ∧ (s.doors.doors.get 0).proven = true ∧
       ((s.doorTaken 0)).proven = false) := by decide

theorem witness_LampsAndSounderAreCommanded :
    (let s := { running with comp := { State.reset.comp with
       flash1 := { timer := some 500000 }, flash3 := { on := true, timer := some 167000 },
       phaseTimer := some 300000, chimeTimer := some 300000, testTimer := some 300000,
       record := { State.reset.comp.record with pattern := .slow } } }
     s.comp.flash1.timer = some 500000 ∧ s.comp.flash3.timer = some 167000 ∧ s.comp.phaseTimer = some 300000 ∧
       s.comp.record.pattern = .slow ∧ s.comp.chimeTimer = some 300000 ∧ s.comp.testTimer = some 300000) ∧
    (let s := { running with comp := { State.reset.comp with
       phaseTimer := some 150000, record := { State.reset.comp.record with pattern := .fast } } }
     s.comp.phaseTimer = some 150000 ∧ s.comp.record.pattern = .fast) := by decide

/-- DISPLAY_LOST with an unacknowledged STOP warning of no pattern and an acknowledged CAUTION warning in force; lamp 31
is the master red lamp, lamp 30 the master amber one, and lamp 29 the STOP warning's. -/
theorem witness_LampsAndSounderAreCommanded_choices :
    (let s := { running with
       setup := { State.reset.setup with
         general := { masterRed := 31, masterAmber := 30 }
         warnings := (State.reset.setup.warnings.set 95 { cls := .stop, flash := true, lamp := 29 }).set 0
           { cls := .caution, pattern := .fast, lamp := 28 } }
       warnings := (State.reset.warnings.set 95 { state := .latched }).set 0 { state := .clearing, acked := true }
       port := { State.reset.port with displayLost := true } }
     s.comp.check = none ∧ s.port.displayLost = true ∧ s.setup.general.masterRed = 31 ∧
       (s.commandedLamps.get 31).command = .flash ∧ (s.commandedLamps.get 30).command = .on ∧
       (s.commandedLamps.get 29).command = .flash ∧ (s.commandedLamps.get 28).command = .on ∧
       (s.commandedLamps.get 0).command = .off ∧ s.patternChoice = .slow ∧ s.run.state = .run ∧
       s.patternChoice ≠ s.comp.record.pattern) ∧
    ({ running with comp := { State.reset.comp with check := some .workshop } } : State).comp.check ≠ none := by decide

/-- Signal 127, fed by channel 0, is the dimmer: usable at 32 and above, usable below 0, and going stale. -/
theorem witness_LampsAndSounderAreCommanded_duties :
    (let dimmed := fun (v : Word) =>
       let u := sensing { kind := .voltage, high := 40000 } {}
       { u with
         setup := { u.setup with
           signals := State.reset.setup.signals.set 127 { kind := .sense, index := 0 }
           lamps := State.reset.setup.lamps.set 31 { day := 255, night := 8 }
           general := { dimmer := 127 } }
         signals := State.reset.signals.set 127 { value := v, status := .valid, staleDeadline := some 9 } }
     let s := dimmed 32#16
     (s.run.state = .run ∧ (s.sense.channels.get 0).check = none ∧ (s.sense.channels.get 0).sampleTimer = some 0 ∧
       s.signalOfChannel 0 = some 127 ∧ 127 = s.setup.general.dimmer ∧ ((s.sampleOf 0 9).1).settled = true ∧
       (s.signals.get 127).staleDeadline = some 9 ∧ (s.signals.get 127).status ≠ .forced ∧
       (s.signals.get 127).status ≠ .stale) ∧
     ((takeDuties s).comp.lamps.get 31).duty = 32 ∧ ((takeDuties (dimmed 0xFFFF#16)).comp.lamps.get 31).duty = 1020 ∧
       ((takeDuties (dimmed 16#16)).comp.lamps.get 31).duty = 526) := by decide

theorem witness_LampsAreProvenAndProtected :
    (let s := lamping { command := .on, proofTimer := some 100000, openCount := 2 }
     s.run.state = .run ∧ (s.comp.lamps.get 0).proofTimer = some 100000 ∧ s.lampOn 0 = true ∧
       (s.setup.lamps.get 0).proofEnabled = true ∧ s.sense.supplyLow = false ∧
       (s.comp.lamps.get 0).proof = .untested ∧ (s.comp.lamps.get 0).openCount = 2) ∧
    (let s := lamping { command := .on, proofTimer := some 100000, proof := .openLoad, healCount := 2 }
     s.lampOn 0 = true ∧ (s.comp.lamps.get 0).proof = .openLoad ∧ (s.comp.lamps.get 0).healCount = 2) ∧
    (let s := lamping { proofTimer := some 100000 }
     s.lampOn 0 = false ∧ (s.comp.lamps.get 0).proofTimer = some 100000) ∧
    (let s := lamping { command := .on, trips := 1 }
     s.run.state = .run ∧ s.lampOn 0 = true ∧ (s.comp.lamps.get 0).trips + 1 < 3) ∧
    (let s := lamping { command := .on, trips := 2 }
     s.lampOn 0 = true ∧ 3 ≤ (s.comp.lamps.get 0).trips + 1) ∧
    ((lamping { retryTimer := some 1000000 }).comp.lamps.get 0).retryTimer = some 1000000 := by decide

theorem witness_LampCheckEndsWithTheProofs :
    (let s := { running with comp := { State.reset.comp with
       checkTimer := some 2000000, check := some (.request 15) } }
     s.comp.checkTimer = some 2000000 ∧ s.comp.check = some (.request 15)) ∧
    (let s := { running with comp := { State.reset.comp with checkTimer := some 2000000, check := some .workshop } }
     s.comp.check = some .workshop) ∧ running.memorySound :=
  ⟨by decide, by decide, rfl⟩

theorem witness_GaugesDampMoveAndPark :
    (let s := gauging { state := .tracking } { inUse := true, points := [(0, 0), (100, 1000)] }
     (s.gauges.get 0).updateTimer = some 20000 ∧ (s.gauges.get 0).state = .tracking ∧
       (s.setup.gauges.get 0).damping ≤ 255 ∧ (s.signals.get (s.setup.gauges.get 0).signal).status = .valid) ∧
    (let s := gauging { state := .parking, needle := 2 } { inUse := true }
     (s.gauges.get 0).state = .parking ∧ max (s.setup.gauges.get 0).rateLimit 1 < (s.gauges.get 0).needle) ∧
    (let s := { gauging { state := .parking, needle := 1 } { inUse := true } with
       gauges := (State.reset.gauges.set 0 { state := .parking, needle := 1, updateTimer := some 20000 }).set 5
         { state := .homing } }
     (s.gauges.get 0).state = .parking ∧ (s.gauges.get 0).needle ≤ max (s.setup.gauges.get 0).rateLimit 1 ∧
       (s.gauges.get 5).state ≠ .parked) ∧
    ((gauging { state := .holding, holdTimer := some (.stale, 7) } {}).gauges.get 0).holdTimer = some (.stale, 7) := by
  decide

/-- A gauge in each state of R141's table, and one whose signal goes stale. -/
theorem witness_GaugesDampMoveAndPark_statuses :
    (let s := gauging { state := .tracking } { inUse := true, signal := 0 }
     s.run.state = .run ∧ (s.setup.gauges.get 0).inUse = true ∧ (s.gauges.get 0).state = .tracking) ∧
    ((gauging { state := .parked, needle := 300 } { inUse := true }).gauges.get 0).state = .parked ∧
    (gauging {} {}).setup.gauges.get 0 = {} ∧
    (let s := { gauging { state := .tracking } { inUse := true, signal := 127, staleHold := 2 } with
       signals := State.reset.signals.set 127 { status := .valid, staleDeadline := some 9 } }
     (s.signals.get 127).staleDeadline = some 9 ∧ (s.signals.get 127).status ≠ .forced ∧
       (s.signals.get 127).status ≠ .stale ∧ 127 ≠ s.setup.general.primarySpeed ∧
       127 ≠ s.setup.general.fallbackSpeed ∧ 127 ≠ s.setup.general.parkingBrake ∧
       (s.setup.gauges.get 0).inUse = true ∧ (s.setup.gauges.get 0).signal = 127 ∧
       (s.setup.gauges.get 1).inUse = false) ∧
    (let s := gauging { state := .parking, needle := 1 } { inUse := true }
     s.run.state = .run ∧ (s.gauges.get 0).state = .parking ∧
       (s.gauges.get 0).needle ≤ max (s.setup.gauges.get 0).rateLimit 1) := by decide

/-- The last gauge parks in SHUTDOWN, and in CONFIG with STANDBY pending. -/
theorem witness_GaugesDampMoveAndPark_standby :
    (let s := { gauging { state := .parking, needle := 1 } { inUse := true } with run := (inState .shutdown).run }
     (s.gauges.get 0).state = .parking ∧ (s.gauges.get 0).updateTimer = some 20000 ∧
       (s.gauges.get 0).needle ≤ max (s.setup.gauges.get 0).rateLimit 1 ∧ s.run.state = .shutdown ∧
       s.line.phase = .idle ∧ ∀ j, j < 6 → j ≠ 0 → (s.gauges.get j).state = .parked) ∧
    (let s := { gauging { state := .parking, needle := 1 } { inUse := true } with
       run := { (inState .config).run with standbyPending := true } }
     s.run.state = .config ∧ s.run.standbyPending = true ∧ s.line.phase = .idle) := by decide

theorem witness_GaugeUpdateHomesAndSweeps :
    (let s := gauging { state := .homing, homingLeft := 4752 } { inUse := true, rateLimit := 240 }
     (s.gauges.get 0).updateTimer = some 20000 ∧ (s.gauges.get 0).state = .homing ∧
       max (s.setup.gauges.get 0).rateLimit 1 < (s.gauges.get 0).homingLeft) ∧
    (let s := gauging { state := .homing, homingLeft := 240 } { inUse := true, rateLimit := 240 }
     (s.gauges.get 0).homingLeft ≤ max (s.setup.gauges.get 0).rateLimit 1 ∧ s.run.state = .run ∧
       (s.setup.gauges.get 0).inUse = true ∧ (s.signals.get (s.setup.gauges.get 0).signal).status = .valid) ∧
    (let w : Sweep := { resume := .tracking, returnPoint := 3, back := true, owner := .workshop 1#8 }
     let s := gauging { state := .sweeping, needle := 5, sweep := some w } { inUse := true, sweepRate := 1 }
     (s.gauges.get 0).state = .sweeping ∧ (s.gauges.get 0).sweep = some w ∧
       moveToward (s.gauges.get 0).needle w.returnPoint (max (s.setup.gauges.get 0).sweepRate 1) ≠ w.returnPoint) ∧
    (let w : Sweep := { resume := .tracking, returnPoint := 3, back := true, owner := .workshop 1#8 }
     let s := gauging { state := .sweeping, needle := 4, sweep := some w } { inUse := true, sweepRate := 1 }
     moveToward (s.gauges.get 0).needle w.returnPoint (max (s.setup.gauges.get 0).sweepRate 1) = w.returnPoint ∧
       w.resume = .tracking ∧ s.run.state = .run) ∧
    (let w : Sweep := { resume := .tracking, returnPoint := 3, back := false, owner := .workshop 1#8 }
     (gauging { state := .sweeping, sweep := some w } { inUse := true }).gauges.get 0 =
       { state := .sweeping, sweep := some w, updateTimer := some 20000 }) := by decide

/-- Homing ends with no data, out of RUN and in RUN; a request sweep of slot 15 and a workshop sweep end with their last
gauge; the run-on timer runs with a gauge SWEEPING. -/
theorem witness_GaugeUpdateHomesAndSweeps_ends :
    (let s := { gauging { state := .homing } { inUse := true, staleHold := 2 } with
       signals := State.reset.signals.set 0 { status := .noData } }
     (s.gauges.get 0).homingLeft ≤ max (s.setup.gauges.get 0).rateLimit 1 ∧ s.run.state = .run ∧
       (s.signals.get (s.setup.gauges.get 0).signal).status = .noData ∧ (s.setup.gauges.get 0).staleHold ≠ 0) ∧
    (let s := { gauging { state := .homing } { inUse := true } with run := (inState .config).run }
     (s.gauges.get 0).state = .homing ∧ s.run.state ≠ .run) ∧
    (let w : Sweep := { resume := .parked, returnPoint := 0, back := true, owner := .request 15 1#8 }
     let s := gauging { state := .sweeping, needle := 1, sweep := some w } { inUse := true }
     (s.gauges.get 0).sweep = some w ∧ w.returnPoint = (s.setup.gauges.get 0).park ∧ s.memorySound ∧
       ∀ j, j < 6 → j ≠ 0 → (s.gauges.get j).state ≠ .sweeping) ∧
    (let w : Sweep := { resume := .parked, returnPoint := 3, back := true, owner := .workshop 1#8 }
     let s := { gauging { state := .sweeping, needle := 3, sweep := some w } { inUse := true } with
       shop := { State.reset.shop with tests := { sweepState := .running, sweepSet := 1#8 } } }
     w.returnPoint ≠ (s.setup.gauges.get 0).park ∧ s.shop.tests.sweepState = .running ∧
       s.shop.tests.sweepSet = 1#8) ∧
    (let w : Sweep := { resume := .tracking, returnPoint := 3, back := true, owner := .workshop 1#8 }
     let s := { gauging { state := .sweeping, sweep := some w } { inUse := true } with
       run := { running.run with runOnTimer := some 600000 } }
     s.run.runOnTimer = some 600000 ∧ s.run.state = .run ∧ (s.gauges.get 0).state = .sweeping ∧
       (s.gauges.get 0).sweep ≠ none ∧ (s.gauges.get 1).state = .parked) :=
  ⟨by decide, by decide, ⟨rfl, by decide, rfl, by decide⟩, by decide, by decide⟩

theorem witness_TargetInterpolatesTheCurve :
    (([] ++ (0, 0) :: (4, 2) :: [] : List (Int × Nat)).Pairwise fun a b => a.1 < b.1) ∧
      ((0 : Int) ≤ 1 ∧ (1 : Int) < 4) ∧
      (2 * (((1 : Int) - 0) * ((2 : Nat) - (0 : Nat) : Int) - 1 * (4 - 0))).natAbs ≤ ((4 : Int) - 0).natAbs ∧
      targetOf [(0, 0), (4, 2)] 1 = 1 := by decide

/-- Record 5 PASSIVE with code 7 and origin 2, record 6 ACTIVE with code 8, every other record ACTIVE with code 9. -/
def remembering : State :=
  { running with faults := { records :=
      ((Table.replicate 48 { status := .active, code := 9 } : Table 48 FaultRecord).set 5
        { status := .passive, code := 7, origin := 2 }).set 6 { status := .active, code := 8 } } }

theorem witness_ReplacementTakesTheOldestPassive :
    remembering.passiveChoice = some 5 ∧ State.reset.passiveChoice = none ∧
      remembering.findRecord 1 0 = none ∧ remembering.emptyRecord = none := by decide

theorem witness_OccurrencesAreStored :
    remembering.findRecord 7 2 = some 5 ∧ remembering.findRecord 8 0 = some 6 ∧
      (remembering.faults.records.get 6).status = .active ∧
      (State.reset.findRecord 1 0 = none ∧ State.reset.emptyRecord = some 0) ∧
      (let s := { running with faults := { records := Table.replicate 48 { status := .active, code := 9 } } }
       s.findRecord 1 0 = none ∧ s.emptyRecord = none ∧ s.passiveChoice = none) ∧
      (remembering.findRecord 1 0 = none ∧ remembering.emptyRecord = none ∧ remembering.passiveChoice = some 5 ∧
        (remembering.faults.records.get 5).status = .passive) ∧
      (remembering.setSetup { remembering.setup with general := { agingLimit := 1 } }).setup.general.agingLimit ≤
        min ((remembering.faults.records.get 5).aging + 1) 255 := by decide

theorem witness_ReadingServicesAnswer :
    (shopping .read).run.state ≠ .standby ∧ (shopping .read).shop.receiver = .idle ∧
      (shopping .read).shop.session ≠ .detached ∧ (∀ b ∈ [0#8, 127#8], b.toNat < 128) ∧ (11#8).toNat ≤ 11 ∧
      (47#8).toNat ≤ 47 ∧ (85#8).toNat ≤ 85 := by decide

theorem witness_SessionsOpenAndEnd :
    ((shopping .detached).run.state ≠ .standby ∧ (shopping .detached).shop.receiver = .idle ∧ (1#8).toNat ≤ 1 ∧
      (shopping .detached).shop.session = .detached ∧ (shopping .detached).serviceConditions = false) ∧
    (let s := { shopping .read with
       signals := State.reset.signals.set 0 { value := 1#16, status := .valid } }
     s.serviceConditions = true ∧ s.shop.session ≠ .service) ∧
    (shopping .service).shop.session ≠ .detached ∧ (shopping .service).run.state ≠ .standby ∧
      (shopping .service).shop.receiver = .idle ∧ (shopping .service).shop.idleTimer = some 5000000 := by decide

/-- READ asked of a SERVICE session that forces signal 127 and runs a workshop sweep and a lamp check; a level and a
rate outside R166. -/
theorem witness_SessionsOpenAndEnd_demotion :
    (let w : Sweep := { resume := .tracking, returnPoint := 3, back := true, owner := .workshop 1#8 }
     let s := { shopping .service with
       gauges := State.reset.gauges.set 0 { state := .sweeping, sweep := some w }
       comp := { State.reset.comp with check := some .workshop }
       shop := { (shopping .service).shop with
         forced := [127], tests := { sweepState := .running, sweepSet := 1#8, lampState := .running } } }
     s.shop.session = .service ∧ s.shop.receiver = .idle ∧ s.run.state ≠ .standby ∧
       (∀ n ∈ s.shop.forced, s.setup.signalProtectedSignal n = false) ∧ (s.gauges.get 0).state = .sweeping ∧
       (s.gauges.get 0).sweep = some w ∧ w.owner.isWorkshop = true ∧ s.shop.tests.sweepState = .running ∧
       s.comp.check = some .workshop) ∧
    ((shopping .service).shop.forced = [] ∧ (∀ i, i < 6 → ((shopping .service).gauges.get i).sweep = none) ∧
      (shopping .service).comp.check ≠ some .workshop) ∧
    ((shopping .read).shop.session = .read ∧ (0#8).toNat ≤ 1) ∧
    ((3#8 ≠ 1#8 ∧ 3#8 ≠ 2#8) ∧ 1 < (2#8).toNat ∧ (0#8 ≠ 1#8 ∧ 0#8 ≠ 2#8)) := by decide

/-- The parking brake's entry written 0, written not usable, and going stale, with a workshop lamp check and a force. -/
theorem witness_SessionsOpenAndEnd_brake :
    (let s := { inService with
       comp := { State.reset.comp with check := some .workshop }
       shop := { inService.shop with forced := [3] } }
     let y := s.signals.get 126
     s.run.state = .run ∧ s.shop.session = .service ∧ s.setup.general.parkingBrake = 126 ∧
       s.serviceConditions = true ∧ y.staleDeadline = some 9 ∧ y.status ≠ .forced ∧ y.status ≠ .stale ∧
       ({ y with value := 0#16 } : Signal).value ≠ y.value ∧ ({ y with status := .fault } : Signal).status ≠ y.status ∧
       s.comp.check = some .workshop ∧
       (∀ k ∈ 126 :: s.shop.forced, k ≠ s.setup.general.primarySpeed ∧ k ≠ s.setup.general.fallbackSpeed)) := by decide

/-- Signal 127 is supplied, and no door is enabled. -/
theorem witness_ForcesAreSetAndReleased :
    (let s := { shopping .service with
       setup := { State.reset.setup with signals := State.reset.setup.signals.set 127 { kind := .supplied } } }
     s.shop.session = .service ∧ (127#8).toNat < 128 ∧ s.setup.signalProtectedSignal (127#8).toNat = false ∧
       (s.setup.signals.get (127#8).toNat).kind ≠ .none ∧ s.shop.forced.length < 8) ∧
    (let s := { shopping .service with shop := { (shopping .service).shop with forced := [127] } }
     (127#8).toNat ∈ s.shop.forced) := by decide

/-- An index of 128, a signal without a source, the primary speed signal, and a ninth signal beside 8 forced ones. -/
theorem witness_ForcesAreSetAndReleased_refusals :
    (let s := { shopping .service with
       setup := { State.reset.setup with
         general := { primarySpeed := 5 }
         signals := (State.reset.setup.signals.set 127 { kind := .supplied }).set 5 { kind := .station } }
       shop := { (shopping .service).shop with forced := [20, 21, 22, 23, 24, 25, 26, 27] } }
     s.run.state ≠ .standby ∧ s.shop.receiver = .idle ∧ s.shop.session = .service ∧ ¬(128#8).toNat ≤ 127 ∧
       (s.setup.signals.get (6#8).toNat).kind = .none ∧ (5#8).toNat = s.setup.general.primarySpeed ∧
       (s.setup.signals.get (5#8).toNat).kind ≠ .none ∧ (s.setup.signals.get (127#8).toNat).kind ≠ .none ∧
       s.setup.signalProtectedSignal (127#8).toNat = false ∧ (127#8).toNat ∉ s.shop.forced ∧
       8 ≤ s.shop.forced.length ∧ 127 < (254#8).toNat ∧ 254#8 ≠ 255#8 ∧
       (∀ n ∈ s.shop.forced, s.setup.signalProtectedSignal n = false)) := by decide

theorem witness_ActuatorTestsStart :
    (let s := { shopping .service with
       setup := { State.reset.setup with gauges := State.reset.setup.gauges.set 5 { inUse := true } } }
     s.doors.motion = .stopped ∧ s.setup.badSet 32#8 = false ∧ s.setBusy 32#8 = false ∧ s.comp.check = none) ∧
    (let s := { running with
       shop := { State.reset.shop with session := .service }
       setup := { State.reset.setup with gauges := State.reset.setup.gauges.set 5 { inUse := true } } }
     s.doors.motion ≠ .stopped ∧ s.setup.badSet 32#8 = false ∧ s.shop.session = .service ∧
       s.shop.receiver = .idle) := by decide

/-- A bad set, a busy gauge and a running lamp check in a SERVICE session with motion STOPPED. -/
theorem witness_ActuatorTestsStart_refusals :
    (let s := { shopping .service with
       setup := { State.reset.setup with gauges := State.reset.setup.gauges.set 5 { inUse := true } }
       gauges := State.reset.gauges.set 5 { state := .homing }
       comp := { State.reset.comp with check := some (.request 3) } }
     s.shop.session = .service ∧ s.doors.motion = .stopped ∧ s.setup.badSet 64#8 = true ∧
       s.setup.badSet 0#8 = true ∧ s.setup.badSet 1#8 = true ∧ s.setup.badSet 32#8 = false ∧
       s.setBusy 32#8 = true ∧ s.comp.check ≠ none ∧ 4 ≤ (4#8).toNat) := by decide

theorem witness_RetainedRecordsAreCleared :
    (shopping .service).run.state ≠ .standby ∧ (shopping .service).shop.receiver = .idle ∧
      (shopping .service).shop.session = .service ∧ ((0#8 ++ 1#8 : Word) ≠ 0#16) ∧ (3#8).toNat ≤ 3 ∧
      (remembering.faults.records.get 5).status = .passive ∧ (remembering.faults.records.get 6).status = .active := by
  decide

theorem witness_RefusedRequestsChangeNothing :
    (shopping .read).run.state ≠ .standby ∧ (shopping .read).shop.receiver = .idle ∧
      (List.replicate 60 (0#8 : Byte)).length ≤ 60 ∧ 13 < (14#8).toNat ∧ (shopping .read).shop.session = .read ∧
      (shopping .detached).shop.session = .detached ∧ (shopping .service).shop.session = .service ∧
      ¬(List.replicate 17 (0#8 : Byte)).length ≤ 16 ∧ (List.replicate 59 (0#8 : Byte)).length ≤ 59 ∧
      (List.replicate 59 (0#8 : Byte)).length ≠ 1 := by decide

/-- The first value outside each range of R169, R170 and R172. -/
theorem witness_RefusedRequestsChangeNothing_ranges :
    (shopping .read).shop.session ≠ .detached ∧ (shopping .service).shop.session = .service ∧
      (∃ b ∈ [127#8, 128#8], 128 ≤ b.toNat) ∧ 12 ≤ (12#8).toNat ∧ 48 ≤ (48#8).toNat ∧ 86 ≤ (86#8).toNat ∧
      2 ≤ (2#8).toNat ∧ 4 ≤ (4#8).toNat := by decide

theorem witness_ReceiverFollowsTheLine :
    (4 ≤ (64#8).toNat ∧ (64#8).toNat ≤ 64 ∧ (3#8).toNat < 4) ∧
    (let s := { running with shop := { State.reset.shop with receiver := .receiving [5#8], gapTimer := some 1719 } }
     s.shop.receiver = .receiving [5#8] ∧ [5#8].length + 1 < ([5#8].getD 0 0#8).toNat ∧
       s.shop.gapTimer = some 1719) ∧
    ([4#8, 1#8, 7#8].length + 1 = ([4#8, 1#8, 7#8].getD 0 0#8).toNat ∧
      ([4#8, 1#8, 7#8] ++ [245#8]).foldl (· + ·) 0#8 ≠ 0#8) ∧
    (let s := { running with shop := { State.reset.shop with receiver := .resync, gapTimer := some 1719 } }
     s.shop.receiver = .resync ∧ s.shop.gapTimer = some 1719) := by decide

/-- Door 3 enabled, its release channel 47 a switch to ground: band 1 reads pulled. -/
theorem witness_WakesEnterConfig :
    (let s := { inState .standby with
       setup := { State.reset.setup with
         doors := State.reset.setup.doors.set 3 { enabled := true, release := 47 }
         sense := State.reset.setup.sense.set 47 { kind := .switchToGround } }
       run := { (inState .standby).run with releaseTallies := State.reset.run.releaseTallies.set 3 9 } }
     s.run.state = .standby ∧ (s.setup.doors.get 3).enabled = true ∧
       releaseCounts (s.setup.sense.get (s.setup.doors.get 3).release) (256#12).toNat = true ∧
       releaseCounts (s.setup.sense.get (s.setup.doors.get 3).release) (2048#12).toNat = false ∧
       10 ≤ s.run.releaseTallies.get 3 + 1 ∧ s.run.releaseTallies.get 0 + 9 < 10) := by decide

theorem witness_ShutdownAndStandbyAreEntered :
    (let s := { running with run := { running.run with runOnTimer := some 1000000 } }
     s.run.runOnTimer = some 1000000 ∧ s.run.state = .run ∧ s.line.phase = .idle ∧
       ∀ g, g < 6 → (s.gauges.get g).state = .parked) ∧
    (lining (.reply (attempt [])) none).line.phase ≠ .idle ∧
    State.reset.run.configIdleTimer = some 60000000 ∧
    ((inState .shutdown).run.state = .shutdown ∧ (inState .shutdown).line.phase = .idle) ∧
    (let s := { State.reset with run := { State.reset.run with standbyPending := true } }
     s.run.state = .config ∧ s.run.standbyPending = true) ∧
    ((gauging { state := .parking } {}).gauges.get 0).state ≠ .parked := by decide

end Sys2Proof.Tests
end

section
/-! PROOFS. Shared by the proofs: how a change of some parts is shown, inductions over the combinators, and what an
ended request leaves in the exchange memory. -/

namespace Sys2Proof.Machine

/-! ### Changes of some parts only -/

/-- A change stays inside a list of parts when each field of a part outside the list is as it was. -/
theorem State.changesOnly_of (s t : State) (l : List Part)
    (h : (.queue ∉ l → t.pending = s.pending) ∧ (.clock ∉ l → t.now = s.now) ∧ (.runLogic ∉ l → t.run = s.run) ∧
      (.notices ∉ l → t.port.ring = s.port.ring ∧ t.port.noticeWrite = s.port.noticeWrite ∧
        t.port.noticeOverflow = s.port.noticeOverflow) ∧
      (.statusBlock ∉ l → t.port.statusUpd = s.port.statusUpd) ∧
      (.registers ∉ l → t.port.noticeRead = s.port.noticeRead ∧ t.port.writeRefused = s.port.writeRefused ∧
        t.port.refusedAddress = s.port.refusedAddress ∧ t.port.intEnable = s.port.intEnable ∧
        t.port.displayLost = s.port.displayLost ∧ t.port.livenessTimer = s.port.livenessTimer ∧
        t.port.sweepTimer = s.port.sweepTimer ∧ t.port.sweepPlace = s.port.sweepPlace ∧
        t.port.sweepHeld = s.port.sweepHeld ∧ t.port.sweepCount = s.port.sweepCount) ∧
      (.slots ∉ l → t.mem = s.mem) ∧ (.freeBytes ∉ l → t.outside = s.outside) ∧ (.setup ∉ l → t.setup = s.setup) ∧
      (.signals ∉ l → t.signals = s.signals) ∧ (.sense ∉ l → t.sense = s.sense) ∧ (.line ∉ l → t.line = s.line) ∧
      (.doors ∉ l → t.doors = s.doors) ∧ (.warnings ∉ l → t.warnings = s.warnings) ∧
      (.composition ∉ l → t.comp = s.comp) ∧ (.gauges ∉ l → t.gauges = s.gauges) ∧
      (.faults ∉ l → t.faults = s.faults) ∧
      (.session ∉ l → t.shop.session = s.shop.session ∧ t.shop.forced = s.shop.forced ∧
        t.shop.tests = s.shop.tests) ∧
      (.receiver ∉ l → t.shop.receiver = s.shop.receiver ∧ t.shop.rate = s.shop.rate ∧
        t.shop.nextRate = s.shop.nextRate ∧ t.shop.gapTimer = s.shop.gapTimer ∧
        t.shop.idleTimer = s.shop.idleTimer)) : s.changesOnly t l := by
  obtain ⟨hq, hc, hr, hn, hb, hg, hm, ho, hu, hs, he, hl, hd, hw, hp, ha, hf, hx, hv⟩ := h
  intro p hp'
  cases p with
  | queue => exact hq hp'
  | clock => exact hc hp'
  | runLogic => exact hr hp'
  | notices => exact hn hp'
  | statusBlock => exact hb hp'
  | registers =>
    obtain ⟨h1, h2, h3, h4, h5, h6, h7, h8, h9, h10⟩ := hg hp'
    exact Part.same_registers s t h1 h2 h3 h4 h5 h6 h7 h8 h9 h10
  | slots => exact (Part.same_mem s t (hm hp')).1
  | freeBytes => exact Part.same_freeBytes s t (ho hp')
  | setup => exact hu hp'
  | signals => exact hs hp'
  | sense => exact he hp'
  | line => exact hl hp'
  | doors => exact hd hp'
  | warnings => exact hw hp'
  | composition => exact hp hp'
  | gauges => exact ha hp'
  | faults => exact hf hp'
  | session => exact hx hp'
  | receiver => exact hv hp'

/-! ### Inductions over the combinators -/

/-- A loop keeps a property that each of its rounds keeps. -/
theorem forEach_induct (P : State → Prop) (l : List Nat) (f : Nat → State → State) (s : State)
    (h : ∀ i ∈ l, ∀ t, P t → P (f i t)) (hs : P s) : P (forEach l f s) := by
  induction l generalizing s with
  | nil => exact hs
  | cons i l ih =>
    exact ih _ (fun j hj => h j (List.mem_cons_of_mem _ hj)) (h i (List.mem_cons_self ..) s hs)

/-- A condition keeps a property that its branch keeps. -/
theorem when_induct (P : State → Prop) (c : Bool) (f : State → State) (s : State)
    (h : c = true → P s → P (f s)) (hs : P s) : P (when c f s) := by
  cases c with
  | false => exact hs
  | true => exact h rfl hs

/-- A fold keeps a property that each of its steps keeps. -/
theorem foldl_induct {α : Type} (P : State → Prop) (l : List α) (f : State → α → State) (s : State)
    (h : ∀ b ∈ l, ∀ t, P t → P (f t b)) (hs : P s) : P (l.foldl f s) := by
  induction l generalizing s with
  | nil => exact hs
  | cons b l ih => exact ih _ (fun c hc => h c (List.mem_cons_of_mem _ hc)) (h b (List.mem_cons_self ..) s hs)

/-- A round of a loop, which finds what stood before it, sets down a property that every other round keeps. -/
theorem forEach_reaches (P Q : State → Prop) (l : List Nat) (f : Nat → State → State) (s : State) (d : Nat)
    (hd : d ∈ l) (hl : l.Nodup) (hs : P s) (hP : ∀ i ∈ l, i ≠ d → ∀ t, P t → P (f i t)) (hf : ∀ t, P t → Q (f d t))
    (hQ : ∀ i ∈ l, i ≠ d → ∀ t, Q t → Q (f i t)) : Q (forEach l f s) := by
  induction l generalizing s with
  | nil => simp at hd
  | cons i l ih =>
    rw [forEach_cons]
    obtain ⟨hi, hl⟩ := List.nodup_cons.1 hl
    by_cases he : i = d
    · subst he
      exact forEach_induct Q l f _
        (fun j hj t ht => hQ j (List.mem_cons_of_mem _ hj) (fun e => hi (e ▸ hj)) t ht) (hf s hs)
    · have hd : d ∈ l := by simpa [Ne.symm he] using hd
      exact ih _ hd hl (hP i (List.mem_cons_self ..) he s hs) (fun j hj => hP j (List.mem_cons_of_mem _ hj))
        (fun j hj => hQ j (List.mem_cons_of_mem _ hj))

/-! ### The exchange memory of a request that ends -/

/-- Bytes written at successive offsets are read back, and every other byte is as it was. -/
theorem Memory.read_writeBytes (l : List Byte) (m : Memory) (a x : Nat) (h : Memory.wf m = true) :
    Memory.read (Memory.writeBytes m a l) x =
      if a ≤ x ∧ x < a + l.length then l.getD (x - a) 0#8 else Memory.read m x := by
  induction l generalizing m a with
  | nil => rw [if_neg (by simp)]; rfl
  | cons b l ih =>
    rw [Memory.writeBytes, ih _ _ (Memory.wf_write m a b h), Memory.read_write _ _ _ _ h]
    simp only [List.length_cons]
    by_cases hx : x = a
    · subst hx
      simp
    · by_cases hr : a + 1 ≤ x ∧ x < a + 1 + l.length
      · obtain ⟨k, rfl⟩ := Nat.exists_eq_add_of_le hr.1
        rw [if_pos hr, if_pos (by omega), show a + 1 + k - a = k + 1 by omega, show a + 1 + k - (a + 1) = k by omega,
          List.getD_cons_succ]
      · rw [if_neg hr, if_neg hx, if_neg (by omega)]

theorem SlotState.ofCode_code (x : SlotState) : SlotState.ofCode (byteOf x.code).toNat = x := by
  cases x <;> rfl

/-- The bytes of a request slot after its request has ended (R181, R187): state, result code, detail and body. -/
theorem finishSlot_read (i : Nat) (x : SlotState) (code : ResultCode) (detail : Nat) (body : List Byte) (s : State)
    (h : s.memorySound) (o : Nat) (ho : o < 64) :
    Memory.read (finishSlot i x code detail body s).mem (slotBase i + o) =
      if o = 0 then byteOf x.code
      else if 8 ≤ o then (padTo 56 body).getD (o - 8) 0#8
      else if 6 ≤ o then (wordOf detail).getD (o - 6) 0#8
      else if o = 3 then byteOf code.code
      else Memory.read s.mem (slotBase i + o) := by
  have h1 := Memory.wf_write s.mem (slotBase i + 3) (byteOf code.code) h
  have h2 := Memory.wf_writeBytes (wordOf detail) _ (slotBase i + 6) h1
  have h3 := Memory.wf_writeBytes (padTo 56 body) _ (slotBase i + 8) h2
  simp only [finishSlot, setSlotState, State.setMem_mem]
  rw [Memory.read_write _ _ _ _ h3, Memory.read_writeBytes _ _ _ _ h2, Memory.read_writeBytes _ _ _ _ h1,
    Memory.read_write _ _ _ _ h]
  simp only [padTo_length, wordOf_length, Nat.add_assoc, Nat.add_eq_left, Nat.add_le_add_iff_left,
    Nat.add_lt_add_iff_left, Nat.add_sub_add_left, Nat.add_left_cancel_iff]
  split_ifs <;> first | rfl | omega

/-- A request that ends writes its own slot alone. -/
theorem finishSlot_read_other (i : Nat) (x : SlotState) (code : ResultCode) (detail : Nat) (body : List Byte)
    (s : State) (a : Nat) (ha : a < slotBase i ∨ slotBase i + 64 ≤ a) :
    Memory.read (finishSlot i x code detail body s).mem a = Memory.read s.mem a := by
  simp only [finishSlot, setSlotState, State.setMem_mem]
  rw [Memory.read_write_other _ _ _ _ (by omega), Memory.read_writeBytes_other _ _ _ _ (by simp; omega),
    Memory.read_writeBytes_other _ _ _ _ (by simp; omega), Memory.read_write_other _ _ _ _ (by omega)]

/-- A notice changes no byte of the exchange memory. -/
@[simp] theorem slotFailed_mem (i : Nat) (code : ResultCode) (detail : Nat) (body : List Byte) (s : State) :
    (slotFailed i code detail body s).mem = (finishSlot i .failed code detail body s).mem := by
  simp [slotFailed]

@[simp] theorem slotDone_mem (i : Nat) (body : List Byte) (s : State) :
    (slotDone i body s).mem = (finishSlot i .done .ok 0 body s).mem := by
  simp [slotDone]

theorem slotState_of_mem (s t : State) (i : Nat) (h : t.mem = s.mem) : t.slotState i = s.slotState i := by
  simp only [State.slotState, h]

theorem finishSlot_slotState (i : Nat) (x : SlotState) (code : ResultCode) (detail : Nat) (body : List Byte)
    (s : State) (h : s.memorySound) : (finishSlot i x code detail body s).slotState i = x := by
  have := finishSlot_read i x code detail body s h 0 (by decide)
  simp only [Nat.add_zero, if_pos] at this
  simp only [State.slotState, Memory.u8, this, SlotState.ofCode_code]

theorem slotFailed_slotState (i : Nat) (code : ResultCode) (detail : Nat) (body : List Byte) (s : State)
    (h : s.memorySound) : (slotFailed i code detail body s).slotState i = .failed := by
  rw [slotState_of_mem _ _ i (slotFailed_mem i code detail body s)]
  exact finishSlot_slotState i .failed code detail body s h

theorem slotDone_slotState (i : Nat) (body : List Byte) (s : State) (h : s.memorySound) :
    (slotDone i body s).slotState i = .done := by
  rw [slotState_of_mem _ _ i (slotDone_mem i body s)]
  exact finishSlot_slotState i .done .ok 0 body s h

/-- The result code that a failed request shows. -/
theorem slotFailed_read_code (i : Nat) (code : ResultCode) (detail : Nat) (body : List Byte) (s : State)
    (h : s.memorySound) : Memory.read (slotFailed i code detail body s).mem (slotBase i + 3) = byteOf code.code := by
  rw [slotFailed_mem, finishSlot_read _ _ _ _ _ _ h 3 (by decide)]
  rfl

/-- Slots of different places do not meet. -/
theorem slotBase_apart (i j : Nat) (h : i % 16 ≠ j % 16) (o : Nat) (ho : o < 64) :
    slotBase j + o < slotBase i ∨ slotBase i + 64 ≤ slotBase j + o := by
  unfold slotBase
  omega

theorem slotFailed_read_other (i j : Nat) (code : ResultCode) (detail : Nat) (body : List Byte) (s : State)
    (h : i % 16 ≠ j % 16) (o : Nat) (ho : o < 64) :
    Memory.read (slotFailed i code detail body s).mem (slotBase j + o) = Memory.read s.mem (slotBase j + o) := by
  rw [slotFailed_mem, finishSlot_read_other _ _ _ _ _ _ _ (slotBase_apart i j h o ho)]

theorem slotFailed_slotState_other (i j : Nat) (code : ResultCode) (detail : Nat) (body : List Byte) (s : State)
    (h : i % 16 ≠ j % 16) : (slotFailed i code detail body s).slotState j = s.slotState j := by
  have := slotFailed_read_other i j code detail body s h 0 (by decide)
  simp only [Nat.add_zero] at this
  simp only [State.slotState, Memory.u8, this]

theorem slotFailed_memorySound (i : Nat) (code : ResultCode) (detail : Nat) (body : List Byte) (s : State)
    (h : s.memorySound) : (slotFailed i code detail body s).memorySound := by
  simpa [State.memorySound] using finishSlot_memorySound i .failed code detail body s h

theorem slotDone_memorySound (i : Nat) (body : List Byte) (s : State) (h : s.memorySound) :
    (slotDone i body s).memorySound := by
  simpa [State.memorySound] using finishSlot_memorySound i .done .ok 0 body s h

theorem memorySound_of_mem (s t : State) (h : t.mem = s.mem) (hs : s.memorySound) : t.memorySound := by
  unfold State.memorySound at hs ⊢
  rwa [h]

/-- A word of a result stands low byte first (R185). -/
theorem wordOf_getD (n : Nat) (h : n < 256) : (wordOf n).getD 0 0#8 = byteOf n ∧ (wordOf n).getD 1 0#8 = 0#8 := by
  constructor
  · simp [wordOf, wordBytes, byteOf, BitVec.setWidth_ofNat_of_le]
  · apply BitVec.eq_of_toNat_eq
    simp [wordOf, wordBytes, Nat.shiftRight_eq_div_pow]
    omega

/-- The low byte of a word of a result (R185). -/
theorem wordOf_getD_low (n : Nat) : (wordOf n).getD 0 0#8 = byteOf n := by
  simp [wordOf, wordBytes, byteOf, BitVec.setWidth_ofNat_of_le]

end Sys2Proof.Machine
end

section
/-! PROOFS. O16: the requests that are refused at their taking, or start a validation. -/

namespace Sys2Proof.Machine

/-- The visit of a POSTED slot takes its request, and the sweep goes on. -/
theorem visitSlot_posted (k : Nat) (s : State) (hp : s.port.sweepPlace = some k) (h : s.slotState k = .posted) :
    visitSlot s = sweepOn k (takeSlot k s) := by
  simp [visitSlot, hp, h]

/-- A slot whose kind names a request goes to the block that owns it (R187). -/
theorem takeSlot_of_kind (k : Nat) (s : State) (x : RequestKind)
    (h : RequestKind.ofCode (Memory.read s.mem (slotBase k + 1)).toNat = some x) : takeSlot k s = x.route k s := by
  simp [takeSlot, Memory.u8, h]

/-- A kind outside 1 to 10 names no request (R187). -/
theorem RequestKind.ofCode_eq_none (n : Nat) (h : n = 0 ∨ 10 < n) : RequestKind.ofCode n = none := by
  unfold RequestKind.ofCode
  split <;> first | rfl | omega

/-- The visit of a POSTED slot whose request is refused at its taking ends it there (R181). -/
theorem visitSlot_refused (k : Nat) (s : State) (r : ResultCode) (detail : Nat) (hm : s.memorySound)
    (hp : s.port.sweepPlace = some k) (h : s.slotState k = .posted) (ht : takeSlot k s = refuseRequest k r detail s) :
    (visitSlot s).slotState k = .failed ∧ Memory.read (visitSlot s).mem (slotBase k + 3) = byteOf r.code ∧
      Memory.read (visitSlot s).mem (slotBase k + 6) = byteOf detail ∧
      Memory.read (visitSlot s).mem (slotBase k + 7) = (wordOf detail).getD 1 0#8 ∧
      s.changesOnly (visitSlot s) [.notices, .statusBlock, .registers, .slots] := by
  have hmem : (visitSlot s).mem = (slotFailed k r detail [] s).mem := by
    rw [visitSlot_posted k s hp h, ht]; simp [refuseRequest]
  refine ⟨?_, ?_, ?_, ?_, State.changesOnly_of _ _ _ ?_⟩
  · rw [slotState_of_mem _ _ k hmem, slotFailed_slotState _ _ _ _ _ hm]
  · rw [hmem, slotFailed_read_code _ _ _ _ _ hm]
  · rw [hmem, slotFailed_mem, finishSlot_read _ _ _ _ _ _ hm 6 (by decide)]
    exact wordOf_getD_low detail
  · rw [hmem, slotFailed_mem, finishSlot_read _ _ _ _ _ _ hm 7 (by decide)]
    rfl
  · rw [visitSlot_posted k s hp h, ht]
    simp

/-- Outside RUN every request but APPLY_SETUP is refused at its taking. -/
theorem RequestKind.route_outOfRun (x : RequestKind) (k : Nat) (s : State) (hx : x ≠ .applySetup)
    (hr : s.run.state ≠ .run) : x.route k s = refuseRequest k .wrongState 0 s := by
  have hin : s.inRun = false := by simpa [State.inRun] using hr
  cases x with
  | applySetup => exact absurd rfl hx
  | enterConfig => simp [RequestKind.route, requestEnterConfig, hin]
  | standbyPermit => simp [RequestKind.route, requestStandbyPermit, hin]
  | supplySignal => simp [RequestKind.route, requestSupplySignal, hin]
  | stationTransfer => simp [RequestKind.route, requestStationTransfer, hin]
  | acknowledge => simp [RequestKind.route, requestAcknowledge, hin]
  | gaugeSweep => simp [RequestKind.route, requestGaugeSweep, hin]
  | lampCheck => simp [RequestKind.route, requestLampCheck, hin]
  | wiringCheck => simp [RequestKind.route, requestWiringCheck, hin]
  | clearFaults => simp [RequestKind.route, requestClearFaults, hin]

/-- The kinds 2 to 10 name requests other than APPLY_SETUP (R187). -/
theorem RequestKind.ofCode_other (n : Nat) (h2 : 2 ≤ n) (h10 : n ≤ 10) :
    ∃ x, RequestKind.ofCode n = some x ∧ x ≠ .applySetup := by
  interval_cases n <;> exact ⟨_, rfl, by decide⟩

/-- An APPLY_SETUP that is not taken is refused with the result that R198 names first. -/
theorem requestApplySetup_refused (k : Nat) (s : State)
    (h : s.run.state ≠ .config ∨ s.run.applySlot ≠ none) :
    requestApplySetup k s = refuseApplySetup k (if s.run.state ≠ .config then .wrongState else .busy) s := by
  unfold requestApplySetup
  by_cases hc : s.run.state = .config
  · have hs : s.run.applySlot.isSome = true := by
      simpa [Option.isSome_iff_ne_none] using h.resolve_left (fun e => e hc)
    simp [hc, hs]
  · simp [hc]

/-- An APPLY_SETUP in CONFIG with none under way is taken. -/
theorem requestApplySetup_taken (k : Nat) (s : State) (hc : s.run.state = .config) (ha : s.run.applySlot = none) :
    requestApplySetup k s = (setSlotState k .taken s).setRun { s.run with
      applySlot := some k, configIdleTimer := none, standbyPending := false } := by
  simp [requestApplySetup, hc, ha]

/-- The state byte that a slot is given is the one it then shows. -/
theorem setSlotState_slotState (k : Nat) (x : SlotState) (s : State) (h : s.memorySound) :
    (setSlotState k x s).slotState k = x := by
  simp only [State.slotState, setSlotState, State.setMem_mem, Memory.u8]
  rw [Memory.read_write _ _ _ _ h, if_pos rfl, SlotState.ofCode_code]

/-- Settles O16: each case is the taking of one slot, and the rest of the visit is the sweep's own. -/
theorem requestsOutOfPlaceFail : Obligations.RequestsOutOfPlaceFail := by
  intro k s hm _ hp hs
  refine ⟨fun h => ?unknown, fun h2 h10 hr => ?outOfRun, fun h1 hc ha => ?taken, fun h1 h => ?refused⟩
  case unknown =>
    have ht : takeSlot k s = refuseRequest k .badParameter 0 s := by
      simp [takeSlot, Memory.u8, RequestKind.ofCode_eq_none _ h]
    obtain ⟨hstate, hcode, _⟩ := visitSlot_refused k s _ 0 hm hp hs ht
    exact ⟨hstate, hcode⟩
  case outOfRun =>
    obtain ⟨x, hx, hne⟩ := RequestKind.ofCode_other _ h2 h10
    have ht := (takeSlot_of_kind k s x hx).trans (x.route_outOfRun k s hne hr)
    obtain ⟨hstate, hcode, _, _, hframe⟩ := visitSlot_refused k s _ 0 hm hp hs ht
    exact ⟨hstate, hcode, hframe⟩
  case taken =>
    have ht : takeSlot k s = requestApplySetup k s := takeSlot_of_kind k s .applySetup (by rw [h1]; rfl)
    rw [visitSlot_posted k s hp hs, ht, requestApplySetup_taken k s hc ha]
    refine ⟨?_, by simp, by simp⟩
    exact (slotState_of_mem (setSlotState k .taken s) _ k (by simp)).trans (setSlotState_slotState _ _ _ hm)
  case refused =>
    have ht : takeSlot k s = requestApplySetup k s := takeSlot_of_kind k s .applySetup (by rw [h1]; rfl)
    rw [visitSlot_posted k s hp hs, ht, requestApplySetup_refused k s h]
    have hmem (r : ResultCode) :
        (sweepOn k (refuseApplySetup k r s)).mem = (slotFailed k r 0 [] s).mem := by
      simp [refuseApplySetup, noteApplyResult, refuseRequest]
    refine ⟨?_, ?_, ?_, State.changesOnly_of _ _ _ (by simp)⟩
    · rw [slotState_of_mem _ _ k (hmem _), slotFailed_slotState _ _ _ _ _ hm]
    · rw [hmem, slotFailed_read_code _ _ _ _ _ hm]
      split <;> rfl
    · simp

end Sys2Proof.Machine
end

section
/-! PROOFS. Writes of signals and the workshop session: what a released entry shows, what a demotion does, and that a
write of a signal keeps the session and the other entries or demotes. -/

namespace Sys2Proof.Machine

/-! ### Released entries (R9) -/

/-- From `s` to `t` the entries of a list of signals show their source's view, and no other entry changes. -/
def State.releases (s t : State) (l : List Nat) : Prop :=
  (∀ m ∈ l, m < 128 → ∃ u, t.signals.get m = { (s.signals.get m).released with upd := u }) ∧
    ∀ m, m ∉ l → t.signals.get m = s.signals.get m

@[simp] theorem putSignal_signals (n : Nat) (x : Signal) (s : State) :
    (putSignal n x s).signals = s.signals.set n { x with upd := bump (s.signals.get n).upd } := rfl

theorem State.releases_shown (s t : State) (l : List Nat) (h : s.releases t l) (m : Nat) (hm : m ∈ l) (hn : m < 128) :
    (t.signals.get m).value = (s.signals.get m).sourceValue ∧
      (t.signals.get m).status = (s.signals.get m).sourceStatus := by
  obtain ⟨u, hu⟩ := h.1 m hm hn
  simp [hu, Signal.released]

/-- Only the signals and the list count for what is released. -/
theorem State.releases_of_signals (s t s' t' : State) (l : List Nat) (h : s.releases t l)
    (hs : s'.signals = s.signals) (ht : t'.signals = t.signals) : s'.releases t' l := by
  simpa [State.releases, hs, ht] using h

theorem releaseEntries_releases (l : List Nat) (s : State) : s.releases (releaseEntries l s) l := by
  induction l generalizing s with
  | nil => exact ⟨by simp, fun m _ => rfl⟩
  | cons n l ih =>
    let t := putSignal n (s.signals.get n).released s
    obtain ⟨hin, hout⟩ : t.releases (releaseEntries l t) l := ih t
    have other (m : Nat) (h : m ≠ n) : t.signals.get m = s.signals.get m := Table.get_set_other _ _ _ _ h
    have same (h : n < 128) : ∃ u, t.signals.get n = { (s.signals.get n).released with upd := u } :=
      ⟨_, Table.get_set_same _ _ _ h⟩
    refine ⟨fun m hm h128 => ?_, fun m hm => ?_⟩
    · change ∃ u, (releaseEntries l t).signals.get m = _
      by_cases hl : m ∈ l
      · obtain ⟨u, hu⟩ := hin m hl h128
        refine ⟨u, hu.trans ?_⟩
        by_cases he : m = n
        · obtain ⟨v, hv⟩ := same (he ▸ h128)
          rw [he, hv]
          rfl
        · rw [other m he]
      · obtain rfl : m = n := by simpa [hl] using hm
        rw [hout m hl]
        exact same h128
    · simp only [List.mem_cons, not_or] at hm
      exact (hout m hm.2).trans (other m hm.1)

@[simp] theorem releaseRead_signals (shown : Table 128 Signal) (n : Nat) (s : State) :
    (releaseRead shown n s).signals = s.signals := by
  simp [releaseRead]

@[simp] theorem releaseTogether_signals (l : List Nat) (s : State) :
    (releaseTogether l s).signals = (releaseEntries l s).signals := by
  simp [releaseTogether]

/-! ### The session lowered (R168) -/

@[simp] theorem lowerSession_session (level : Session) (cause : EndCause) (s : State) :
    (lowerSession level cause s).shop.session = level ∧ (lowerSession level cause s).shop.forced = [] := by
  simp [lowerSession]

/-- A session that is lowered releases its forces (R9, R168). -/
theorem lowerSession_releases (level : Session) (cause : EndCause) (s : State) :
    s.releases (lowerSession level cause s) s.shop.forced :=
  State.releases_of_signals _ _ _ _ _
    (releaseEntries_releases s.shop.forced (s.setShop { s.shop with session := level })) rfl (by simp [lowerSession])

/-- From `s` to `t` the session, its forces and the signals are kept, or a SERVICE session is demoted. -/
def State.keptOrDemoted (s t : State) : Prop :=
  (t.shop.session = s.shop.session ∧ t.shop.forced = s.shop.forced ∧ t.signals = s.signals) ∨
    (s.shop.session = .service ∧ t.shop.session = .read ∧ t.shop.forced = [] ∧ s.releases t s.shop.forced)

theorem State.keptOrDemoted_of_kept (s t : State) (h1 : t.shop.session = s.shop.session)
    (h2 : t.shop.forced = s.shop.forced) (h3 : t.signals = s.signals) : s.keptOrDemoted t := Or.inl ⟨h1, h2, h3⟩

/-- A session is demoted once at most. -/
theorem State.keptOrDemoted_trans (s t u : State) (h : s.keptOrDemoted t) (k : t.keptOrDemoted u) :
    s.keptOrDemoted u := by
  obtain ⟨hs, hf, hg⟩ | ⟨hs, hr, hf, hg⟩ := h
  · obtain ⟨ks, kf, kg⟩ | ⟨ks, kr, kf, kg⟩ := k
    · exact .inl ⟨ks.trans hs, kf.trans hf, kg.trans hg⟩
    · exact .inr ⟨hs ▸ ks, kr, kf, State.releases_of_signals _ _ _ _ _ (hf ▸ kg) hg.symm rfl⟩
  · obtain ⟨ks, kf, kg⟩ | ⟨ks, -⟩ := k
    · exact .inr ⟨hs, ks.trans hr, kf.trans hf, State.releases_of_signals _ _ _ _ _ hg rfl kg⟩
    · simp [hr] at ks

theorem demoteSession_keptOrDemoted (s : State) : s.keptOrDemoted (demoteSession s) := by
  by_cases h : s.shop.session = .service
  · refine .inr ⟨h, ?_⟩
    have : demoteSession s = lowerSession .read .session s := by simp [demoteSession, demoteFor, h]
    rw [this]
    exact ⟨(lowerSession_session ..).1, (lowerSession_session ..).2, lowerSession_releases ..⟩
  · exact .inl (by simp [demoteSession, demoteFor, h])

/-- A SERVICE session that is demoted is lowered to READ. -/
theorem demoteSession_of_service (s : State) (h : s.shop.session = .service) :
    demoteSession s = lowerSession .read .session s := by
  simp [demoteSession, demoteFor, h]

theorem leaveStopped_keptOrDemoted (s : State) : s.keptOrDemoted (leaveStopped demoteSession s) :=
  State.keptOrDemoted_trans _ _ _ (State.keptOrDemoted_of_kept _ _ (by simp) (by simp) (by simp))
    (demoteSession_keptOrDemoted _)

/-- A condition keeps or demotes where its branch does. -/
theorem when_keptOrDemoted (c : Bool) (f : State → State) (s : State) (h : ∀ t : State, t.keptOrDemoted (f t)) :
    s.keptOrDemoted (when c f s) :=
  when_induct (s.keptOrDemoted ·) c f s (fun _ _ => h s) (State.keptOrDemoted_of_kept s s rfl rfl rfl)

theorem handMotion_keptOrDemoted (old : Motion) (s : State) : s.keptOrDemoted (handMotion demoteSession old s) :=
  State.keptOrDemoted_trans _ _ _ (State.keptOrDemoted_of_kept _ _ (by simp) (by simp) (by simp))
    (when_keptOrDemoted _ _ _ leaveStopped_keptOrDemoted)

theorem changeMotion_keptOrDemoted (x : DoorUnit) (s : State) : s.keptOrDemoted (changeMotion demoteSession x s) :=
  State.keptOrDemoted_trans _ _ _ (State.keptOrDemoted_of_kept _ _ (by simp) (by simp) (by simp))
    (when_keptOrDemoted _ _ _ (handMotion_keptOrDemoted _))

theorem takeSpeed_keptOrDemoted (s : State) : s.keptOrDemoted (takeSpeed demoteSession s) :=
  changeMotion_keptOrDemoted _ s

/-! ### The readers of a signal -/

/-- What the readers of a signal do before the speed is taken: the lamp duties, the gauges and the doors. -/
def readBefore (n : Nat) (statusChanged : Bool) (s : State) : State :=
  forEach (s.doorsOfSignal n) takeDoor
    (when statusChanged (takeUpStatus n) (when (n = s.setup.general.dimmer) takeDuties s))

theorem signalRead_eq (demote : State → State) (n : Nat) (statusChanged : Bool) (s : State) :
    signalRead demote n statusChanged s =
      takeTests n
        (when (n = s.setup.general.parkingBrake && !s.brakeSet) demote
          (when (s.setup.general.isSpeed n) (takeSpeed demote) (readBefore n statusChanged s))) := rfl

@[simp] theorem readBefore_frame (n : Nat) (statusChanged : Bool) (s : State) :
    (readBefore n statusChanged s).pending = s.pending ∧ (readBefore n statusChanged s).now = s.now ∧
    (readBefore n statusChanged s).run = s.run ∧ (readBefore n statusChanged s).mem = s.mem ∧
    (readBefore n statusChanged s).setup = s.setup ∧
    (readBefore n statusChanged s).signals = s.signals ∧ (readBefore n statusChanged s).sense = s.sense ∧
    (readBefore n statusChanged s).line = s.line ∧ (readBefore n statusChanged s).shop = s.shop := by
  simp [readBefore]

theorem signalRead_keptOrDemoted (n : Nat) (statusChanged : Bool) (s : State) :
    s.keptOrDemoted (signalRead demoteSession n statusChanged s) := by
  rw [signalRead_eq]
  refine State.keptOrDemoted_trans _ (readBefore n statusChanged s) _ (State.keptOrDemoted_of_kept _ _ ?_ ?_ ?_) ?_
  · simp
  · simp
  · simp
  have speed := when_keptOrDemoted (s.setup.general.isSpeed n) _ (readBefore n statusChanged s)
    takeSpeed_keptOrDemoted
  have brake := when_keptOrDemoted (n = s.setup.general.parkingBrake && !s.brakeSet) _
    (when (s.setup.general.isSpeed n) (takeSpeed demoteSession) (readBefore n statusChanged s))
    demoteSession_keptOrDemoted
  exact State.keptOrDemoted_trans _ _ _ (State.keptOrDemoted_trans _ _ _ speed brake)
    (State.keptOrDemoted_of_kept _ _ (by simp) (by simp) (by simp))

/-- A write of a signal puts its entry, and then keeps the session or demotes it. -/
theorem writeSignal_keptOrDemoted (n : Nat) (x : Signal) (s : State) :
    (putSignal n x s).keptOrDemoted (writeSignal demoteSession n x s) :=
  when_keptOrDemoted _ _ _ fun t => signalRead_keptOrDemoted n _ t

/-- A write that leaves the value and the status has no readers. -/
theorem writeSignal_unchanged (demote : State → State) (n : Nat) (x : Signal) (s : State)
    (hv : x.value = (s.signals.get n).value) (hs : x.status = (s.signals.get n).status) :
    writeSignal demote n x s = putSignal n x s := by
  simp [writeSignal, hv, hs]

/-! ### Signals that move neither the speed nor the session -/

/-- Signal `n` is none of the speed signals and not the parking brake. -/
def GeneralSetup.quiet (g : GeneralSetup) (n : Nat) : Prop := g.isSpeed n = false ∧ n ≠ g.parkingBrake

theorem GeneralSetup.quiet_iff (g : GeneralSetup) (n : Nat) :
    g.quiet n ↔ n ≠ g.primarySpeed ∧ n ≠ g.fallbackSpeed ∧ n ≠ g.parkingBrake := by
  simp [GeneralSetup.quiet, GeneralSetup.isSpeed, and_assoc]

/-- The readers of a quiet signal demote nothing, and take no speed. -/
theorem signalRead_quiet (demote : State → State) (n : Nat) (statusChanged : Bool) (s : State)
    (h : s.setup.general.quiet n) :
    signalRead demote n statusChanged s = takeTests n (readBefore n statusChanged s) := by
  rw [signalRead_eq, h.1]
  simp [h.2]

/-- A write of a quiet signal's entry changes no other entry, no byte of the memory and nothing of the workshop. -/
theorem writeSignal_quiet (demote : State → State) (n : Nat) (x : Signal) (s : State)
    (h : s.setup.general.quiet n) :
    (writeSignal demote n x s).signals = (putSignal n x s).signals ∧
      (writeSignal demote n x s).shop = s.shop ∧ (writeSignal demote n x s).mem = s.mem := by
  have hr (b : Bool) : signalRead demote n b (putSignal n x s) = takeTests n (readBefore n b (putSignal n x s)) :=
    signalRead_quiet demote n b _ (by simpa using h)
  simp only [writeSignal]
  cases s.inRun && (x.value ≠ (s.signals.get n).value || x.status ≠ (s.signals.get n).status) with
  | false => simp
  | true => simp [hr]

end Sys2Proof.Machine
end

section
/-! PROOFS. O20: a stale deadline, and what a write of a signal leaves in the entries. -/

namespace Sys2Proof.Machine

/-- What the entry of a signal shows after its write: what was written, or with a demotion that follows a change of the
value or the status, and that releases it, its source's view. -/
theorem writeSignal_entry (n : Nat) (x : Signal) (s : State) (hn : n < 128) :
    ∃ u, (writeSignal demoteSession n x s).signals.get n = { x with upd := u } ∨
      ((writeSignal demoteSession n x s).signals.get n = { x.released with upd := u } ∧
        (x.value ≠ (s.signals.get n).value ∨ x.status ≠ (s.signals.get n).status)) := by
  have hput : (putSignal n x s).signals.get n = { x with upd := bump (s.signals.get n).upd } :=
    Table.get_set_same _ _ _ hn
  obtain ⟨-, -, hg⟩ | ⟨-, -, -, hin, hout⟩ := writeSignal_keptOrDemoted n x s
  · exact ⟨_, .inl (by rw [hg, hput])⟩
  · by_cases hf : n ∈ (putSignal n x s).shop.forced
    · obtain ⟨u, hu⟩ := hin n hf hn
      by_cases hc : x.value ≠ (s.signals.get n).value ∨ x.status ≠ (s.signals.get n).status
      · exact ⟨u, .inr ⟨by rw [hu, hput]; rfl, hc⟩⟩
      · simp only [not_or, not_not] at hc
        rw [writeSignal_unchanged _ _ _ _ hc.1 hc.2]
        exact ⟨_, .inl hput⟩
    · exact ⟨_, .inl (by rw [hout n hf, hput])⟩

/-- A write of a signal leaves every other entry that is not in the forced set. -/
theorem writeSignal_entry_other (n m : Nat) (x : Signal) (s : State) (hm : m ≠ n) (hf : m ∉ s.shop.forced) :
    (writeSignal demoteSession n x s).signals.get m = s.signals.get m := by
  have hput : (putSignal n x s).signals.get m = s.signals.get m := Table.get_set_other _ _ _ _ hm
  obtain ⟨-, -, hg⟩ | ⟨-, -, -, -, hout⟩ := writeSignal_keptOrDemoted n x s
  · rw [hg, hput]
  · rw [hout m (by simpa [putSignal] using hf), hput]

/-- An entry that shows its source's view is its own released entry. -/
theorem Signal.released_eq (x : Signal) (h : x.value = x.sourceValue) (k : x.status = x.sourceStatus) :
    x.released = x := by
  cases x
  simp_all [Signal.released]

theorem Signal.released_released (x : Signal) : x.released.released = x.released := rfl

/-- A write of an entry that shows its source's view is what the entry then shows. -/
theorem writeSignal_entry_following (n : Nat) (x : Signal) (s : State) (hn : n < 128) (hx : x.released = x) :
    ∃ u, (writeSignal demoteSession n x s).signals.get n = { x with upd := u } := by
  obtain ⟨u, h | ⟨h, -⟩⟩ := writeSignal_entry n x s hn
  · exact ⟨u, h⟩
  · exact ⟨u, hx ▸ h⟩

/-- An entry whose source has gone stale (R7). -/
def Signal.gone (x : Signal) : Signal := { x with sourceStatus := .stale, staleDeadline := none }

theorem goStale_forced (n : Nat) (s : State) (h : (s.signals.get n).status = .forced) :
    goStale n s = s.setSignals (s.signals.set n (s.signals.get n).gone) := by
  simp [goStale, h, Signal.gone]

theorem goStale_unforced (n : Nat) (s : State) (h : (s.signals.get n).status ≠ .forced) :
    goStale n s = writeSignal demoteSession n (s.signals.get n).gone.released s := by
  simp [goStale, h, Signal.gone, Signal.following]

/-- In RUN a stale deadline has its effect at its instant (R7, R13). -/
theorem staleExpires_inRun (n : Nat) (s : State) (due : Nat) (hr : s.run.state = .run)
    (hd : (s.signals.get n).staleDeadline = some due) : staleExpires n s = goStale n (s.reach (1000 * due)) := by
  simp [staleExpires, State.staleDue, State.inRun, hr, hd]

/-- Settles O20: a forced entry is not written, and an unforced one shows its source's view even through a demotion. -/
theorem staleExpiryMakesASignalStale : Obligations.StaleExpiryMakesASignalStale := by
  intro n s due hr hd
  refine ⟨staleExpires n s, rfl, ?_⟩
  rw [staleExpires_inRun n s due hr hd]
  have hframe : s.changesOnly (goStale n (s.reach (1000 * due))) signalParts :=
    State.changesOnly_of _ _ _ (by simp [signalParts])
  by_cases hf : (s.signals.get n).status = .forced
  · rw [goStale_forced n (s.reach (1000 * due)) hf] at hframe ⊢
    refine ⟨rfl, ?_, ?_, ?_, ?_, fun h => absurd hf h,
      fun _ => ⟨?_, ?_, fun m hm => Table.get_set_other _ _ _ _ hm, State.changesOnly_of _ _ _ (by simp)⟩, hframe⟩
    all_goals simp [Signal.gone, hf]
  · rw [goStale_unforced n (s.reach (1000 * due)) hf] at hframe ⊢
    obtain ⟨u, hu⟩ := writeSignal_entry_following n (s.signals.get n).gone.released (s.reach (1000 * due)) n.isLt rfl
    refine ⟨by simp [State.reach], ?_, ?_, ?_, ?_, fun _ => ⟨?_, ?_⟩, fun h => absurd h hf, hframe⟩
    all_goals
      simp only [State.reach_signals] at hu ⊢
      rw [hu]
      rfl

end Sys2Proof.Machine
end

section
/-! PROOFS. O54: a service request that is taken, and the forces of a SERVICE session. -/

namespace Sys2Proof.Machine

/-! ### A request that is served (R163, R165) -/

/-- The state in which a request frame that an idle receiver has taken is judged. -/
def State.asked (s : State) (v : Service) (tag : Byte) (data : List Byte) : State :=
  restartIdle (receiveAs (.receiving ([byteOf (data.length + 4), byteOf v.code, tag] ++ data)) s)

/-- The state once a service has answered. -/
def answered (v : Service) (tag : Byte) (r : Served) : State :=
  r.2.2.setShop { r.2.2.shop with
    receiver := .answering (answerFrame (byteOf v.code) tag (byteOf r.1.code) r.2.1), gapTimer := none }

/-- Taking a request changes the receiver and its timers alone. -/
@[simp] theorem State.asked_frame (s : State) (v : Service) (tag : Byte) (data : List Byte) :
    (s.asked v tag data).pending = s.pending ∧ (s.asked v tag data).now = s.now ∧
    (s.asked v tag data).run = s.run ∧ (s.asked v tag data).port = s.port ∧ (s.asked v tag data).mem = s.mem ∧
    (s.asked v tag data).outside = s.outside ∧ (s.asked v tag data).setup = s.setup ∧
    (s.asked v tag data).signals = s.signals ∧ (s.asked v tag data).sense = s.sense ∧
    (s.asked v tag data).line = s.line ∧ (s.asked v tag data).doors = s.doors ∧
    (s.asked v tag data).warnings = s.warnings ∧ (s.asked v tag data).comp = s.comp ∧
    (s.asked v tag data).gauges = s.gauges ∧ (s.asked v tag data).faults = s.faults ∧
    (s.asked v tag data).shop.session = s.shop.session ∧ (s.asked v tag data).shop.forced = s.shop.forced ∧
    (s.asked v tag data).shop.tests = s.shop.tests ∧ (s.asked v tag data).shop.rate = s.shop.rate ∧
    (s.asked v tag data).shop.nextRate = s.shop.nextRate := by
  simp [State.asked, restartIdle, when]
  split <;> simp [receiveAs]

@[simp] theorem answered_frame (v : Service) (tag : Byte) (r : Served) :
    (answered v tag r).pending = r.2.2.pending ∧ (answered v tag r).now = r.2.2.now ∧
    (answered v tag r).run = r.2.2.run ∧ (answered v tag r).port = r.2.2.port ∧
    (answered v tag r).mem = r.2.2.mem ∧ (answered v tag r).outside = r.2.2.outside ∧
    (answered v tag r).setup = r.2.2.setup ∧ (answered v tag r).signals = r.2.2.signals ∧
    (answered v tag r).sense = r.2.2.sense ∧ (answered v tag r).line = r.2.2.line ∧
    (answered v tag r).doors = r.2.2.doors ∧ (answered v tag r).warnings = r.2.2.warnings ∧
    (answered v tag r).comp = r.2.2.comp ∧ (answered v tag r).gauges = r.2.2.gauges ∧
    (answered v tag r).faults = r.2.2.faults ∧ (answered v tag r).shop.session = r.2.2.shop.session ∧
    (answered v tag r).shop.forced = r.2.2.shop.forced ∧ (answered v tag r).shop.tests = r.2.2.shop.tests ∧
    (answered v tag r).shop.rate = r.2.2.shop.rate ∧ (answered v tag r).shop.nextRate = r.2.2.shop.nextRate ∧
    (answered v tag r).shop.idleTimer = r.2.2.shop.idleTimer := by
  simp [answered]

theorem answered_receiver (v : Service) (tag : Byte) (r : Served) :
    (answered v tag r).shop.receiver = .answering (answerFrame (byteOf v.code) tag (byteOf r.1.code) r.2.1) := rfl

/-- The code of a service names it (R194). -/
theorem Service.ofCode_code (v : Service) : Service.ofCode (byteOf v.code).toNat = some v := by
  cases v <;> rfl

/-- An idle receiver takes the frame of a service that the tests of R165 let through, and serves it. -/
theorem receiveFrame_served (v : Service) (tag : Byte) (data : List Byte) (s : State) (hr : s.run.state ≠ .standby)
    (hi : s.shop.receiver = .idle) (hl : data.length ≤ 60) (h : v.refusal s.shop.session data = none) :
    receiveFrame (serviceFrame v tag data) s = answered v tag (v.serve data (s.asked v tag data)) := by
  rw [serviceFrame, receiveFrame_requestFrame _ _ _ _ (by simpa [State.awake] using hr) hi hl]
  change answered v tag (serveRequest (byteOf v.code) data (s.asked v tag data)) = _
  have : v.refusal (s.asked v tag data).shop.session data = none := by simpa using h
  simp only [serveRequest, Service.ofCode_code, this]

/-- What a service answers that its own conditions decline (R165). -/
theorem answered_declined (v : Service) (tag : Byte) (data : List Byte) (s : State) (r : ShopResult) :
    (answered v tag (declined r (s.asked v tag data))).shop.receiver =
        .answering (answerFrame (byteOf v.code) tag (byteOf r.code) []) ∧
      (answered v tag (declined r (s.asked v tag data))).shop.rate = s.shop.rate ∧
      (answered v tag (declined r (s.asked v tag data))).shop.nextRate = s.shop.nextRate ∧
      s.changesOnly (answered v tag (declined r (s.asked v tag data))) [.receiver] :=
  ⟨rfl, by simp, by simp, State.changesOnly_of _ _ _ (by simp [declined])⟩

/-! ### Forces (R171) -/

/-- The protected signals, as R171 lists them. -/
theorem Setup.signalProtectedSignal_iff (u : Setup) (n : Nat) :
    u.signalProtectedSignal n = true ↔
      n = u.general.primarySpeed ∨ n = u.general.fallbackSpeed ∨ n = u.general.parkingBrake ∨
        ∃ d, d < 4 ∧ (u.doors.get d).enabled = true ∧
          ((u.doors.get d).phaseSignal = n ∨ (u.doors.get d).obstructionSignal = n) := by
  simp only [Setup.signalProtectedSignal, Setup.enabledDoors, GeneralSetup.isSpeed, Bool.or_eq_true, decide_eq_true_eq,
    List.any_eq_true, List.mem_filter, List.mem_range, and_assoc]
  rw [or_assoc, or_assoc, or_comm, or_assoc, or_assoc]

theorem Setup.quiet_of_unprotected (u : Setup) (n : Nat) (h : u.signalProtectedSignal n = false) :
    u.general.quiet n := by
  rw [GeneralSetup.quiet_iff]
  have := mt (u.signalProtectedSignal_iff n).2 (by simp [h])
  tauto

theorem mem_joinForced (n k : Nat) (l : List Nat) : k ∈ joinForced n l ↔ k = n ∨ k ∈ l := by
  induction l with
  | nil => simp [joinForced]
  | cons a l ih =>
    unfold joinForced
    split
    · simp
    · split
      · simp_all
      · simp only [List.mem_cons, ih]
        tauto

/-- A force on a signal that is not protected shows its value, and demotes nothing (R8, R171). -/
theorem forceAccepted_of_quiet (n : Nat) (w : Word) (s : State) (h : s.setup.general.quiet n) :
    (forceAccepted n w s).signals = (putSignal n { s.signals.get n with value := w, status := .forced } s).signals ∧
      (forceAccepted n w s).shop = { s.shop with forced := joinForced n s.shop.forced } := by
  obtain ⟨hsig, hshop, -⟩ := writeSignal_quiet demoteSession n { s.signals.get n with value := w, status := .forced }
    (s.setShop { s.shop with forced := joinForced n s.shop.forced }) h
  exact ⟨hsig, hshop⟩

/-- Releases of signals that are not protected show their sources, and demote nothing (R9, R171). -/
theorem forEach_releaseForce_of_quiet (l : List Nat) (s : State) (h : ∀ n ∈ l, s.setup.general.quiet n) :
    (forEach l (releaseForce demoteSession) s).signals = (releaseEntries l s).signals ∧
      (forEach l (releaseForce demoteSession) s).shop = s.shop := by
  have step (n : Nat) (t : State) (hn : t.setup.general.quiet n) :
      (releaseForce demoteSession n t).signals = (putSignal n (t.signals.get n).released t).signals ∧
        (releaseForce demoteSession n t).shop = t.shop ∧ (releaseForce demoteSession n t).setup = t.setup := by
    obtain ⟨hsig, hshop, -⟩ := writeSignal_quiet demoteSession n (t.signals.get n).released t hn
    exact ⟨hsig, hshop, by simp⟩
  have congr (l : List Nat) (t u : State) (htu : t.signals = u.signals) :
      (releaseEntries l t).signals = (releaseEntries l u).signals := by
    induction l generalizing t u with
    | nil => exact htu
    | cons n l ih => exact ih _ _ (by simp [htu])
  induction l generalizing s with
  | nil => exact ⟨rfl, rfl⟩
  | cons n l ih =>
    obtain ⟨hsig, hshop, hset⟩ := step n s (h n (List.mem_cons_self ..))
    obtain ⟨hl, hls⟩ := ih (releaseForce demoteSession n s)
      (fun m hm => hset ▸ h m (List.mem_cons_of_mem _ hm))
    exact ⟨hl.trans (congr l _ _ hsig), hls.trans hshop⟩

theorem releaseForces_of_quiet (gone : List Nat) (s : State) (h : ∀ n ∈ gone, s.setup.general.quiet n) :
    s.releases (releaseForces gone s) gone ∧
      (releaseForces gone s).shop =
        { s.shop with forced := s.shop.forced.filter fun n => !gone.contains n } := by
  let u := s.setShop { s.shop with forced := s.shop.forced.filter fun n => !gone.contains n }
  obtain ⟨hsig, hshop⟩ := forEach_releaseForce_of_quiet gone u h
  exact ⟨State.releases_of_signals u (releaseEntries gone u) _ _ _ (releaseEntries_releases gone u) rfl hsig, hshop⟩

/-- In a SERVICE session FORCE_SIGNAL and RELEASE_SIGNAL pass the tests of R165. -/
theorem Service.refusal_force (session : Session) (n low high : Byte) (h : session = .service) :
    Service.forceSignal.refusal session [n, low, high] = none := by
  subst h; rfl

theorem Service.refusal_release (session : Session) (n : Byte) (h : session = .service) :
    Service.releaseSignal.refusal session [n] = none := by
  subst h; rfl

/-- FORCE_SIGNAL in the order of its conditions (R171). -/
theorem serveForceSignal_eq (n low high : Byte) (s : State) :
    serveForceSignal [n, low, high] s =
      if 127 < n.toNat ∨ (s.setup.signals.get n.toNat).kind = .none then declined .outOfRange s
      else if s.setup.signalProtectedSignal n.toNat = true then declined .signalProtected s
      else if n.toNat ∉ s.shop.forced ∧ 8 ≤ s.shop.forced.length then declined .limitReached s
      else (.accepted, [byteOf (joinForced n.toNat s.shop.forced).length],
        forceAccepted n.toNat (wordOfBytes low high) s) := by
  simp [serveForceSignal, dataAt]

/-- RELEASE_SIGNAL in the order of its conditions (R171). -/
theorem serveReleaseSignal_eq (n : Byte) (s : State) :
    serveReleaseSignal [n] s =
      if 127 < n.toNat ∧ n.toNat ≠ 255 then declined .outOfRange s
      else (.accepted, [byteOf (s.shop.forced.length - (s.shop.named n.toNat).length)],
        if (s.shop.named n.toNat).isEmpty then s else releaseForces (s.shop.named n.toNat) s) := by
  simp [serveReleaseSignal, dataAt]

theorem mem_named (w : Workshop) (n k : Nat) (h : n ≠ 255) : k ∈ w.named n ↔ k = n ∧ k ∈ w.forced := by
  simp [Workshop.named, h, and_comm]

/-- The set without the forces that a release names. -/
theorem filter_named (w : Workshop) (n : Nat) (h : n ≠ 255) :
    (w.forced.filter fun k => !(w.named n).contains k) = w.forced.filter fun k => k ≠ n := by
  refine List.filter_congr fun k hk => ?_
  simp [mem_named w n k h, hk]

theorem length_filter_named (w : Workshop) (n : Nat) (h : n ≠ 255) :
    w.forced.length - (w.named n).length = (w.forced.filter fun k => k ≠ n).length := by
  have := List.length_eq_length_filter_add (l := w.forced) (fun k => decide (k = n))
  simp [Workshop.named, h] at this ⊢
  omega

/-- A force on an unprotected signal, where the set has room. -/
theorem forceSignal_accepted (tag n low high : Byte) (s : State) (hr : s.run.state ≠ .standby)
    (hi : s.shop.receiver = .idle) (hs : s.shop.session = .service) (hn : n.toNat < 128)
    (hp : s.setup.signalProtectedSignal n.toNat = false) (hk : (s.setup.signals.get n.toNat).kind ≠ .none)
    (hf : n.toNat ∈ s.shop.forced ∨ s.shop.forced.length < 8) :
    receiveFrame (serviceFrame .forceSignal tag [n, low, high]) s =
      answered .forceSignal tag (.accepted, [byteOf (joinForced n.toNat s.shop.forced).length],
        forceAccepted n.toNat (high ++ low) (s.asked .forceSignal tag [n, low, high])) := by
  rw [receiveFrame_served .forceSignal tag _ s hr hi (by simp) (Service.refusal_force _ _ _ _ hs)]
  congr 1
  change serveForceSignal _ _ = _
  rw [serveForceSignal_eq]
  simp only [State.asked_frame]
  rw [if_neg (by simp [hk]; omega), if_neg (by simp [hp]), if_neg (by simp; tauto)]
  rfl

/-- FORCE_SIGNAL declined by one of its conditions is answered with it, and changes nothing else. -/
theorem forceSignal_declined (tag n low high : Byte) (s : State) (r : ShopResult) (hr : s.run.state ≠ .standby)
    (hi : s.shop.receiver = .idle) (hs : s.shop.session = .service)
    (h : ∀ q : State, q.setup = s.setup → q.shop.forced = s.shop.forced →
      serveForceSignal [n, low, high] q = declined r q) :
    ∃ t, exec (.forceSignal tag [n, low, high]) s = .next t ∧
      t.shop.receiver = .answering (answerFrame 8#8 tag (byteOf r.code) []) ∧ s.changesOnly t [.receiver] := by
  refine ⟨_, rfl, ?_⟩
  rw [receiveFrame_served .forceSignal tag _ s hr hi (by simp) (Service.refusal_force _ _ _ _ hs)]
  change (answered _ _ (serveForceSignal _ _)).shop.receiver = _ ∧ s.changesOnly (answered _ _ (serveForceSignal _ _)) _
  rw [h _ (by simp) (by simp)]
  obtain ⟨hrec, -, -, hframe⟩ := answered_declined .forceSignal tag [n, low, high] s r
  exact ⟨hrec, hframe⟩

/-- RELEASE_SIGNAL of an index, or of 255, releases the forces it names. -/
theorem releaseSignal_accepted (tag n : Byte) (s : State) (hr : s.run.state ≠ .standby)
    (hi : s.shop.receiver = .idle) (hs : s.shop.session = .service) (hn : n.toNat < 128 ∨ n.toNat = 255) :
    receiveFrame (serviceFrame .releaseSignal tag [n]) s =
      answered .releaseSignal tag
        (.accepted, [byteOf (s.shop.forced.length - (s.shop.named n.toNat).length)],
          if (s.shop.named n.toNat).isEmpty then s.asked .releaseSignal tag [n]
          else releaseForces (s.shop.named n.toNat) (s.asked .releaseSignal tag [n])) := by
  have hnamed : (s.asked .releaseSignal tag [n]).shop.named n.toNat = s.shop.named n.toNat := by
    simp [Workshop.named]
  rw [receiveFrame_served .releaseSignal tag _ s hr hi (by simp) (Service.refusal_release _ _ hs)]
  congr 1
  change serveReleaseSignal _ _ = _
  rw [serveReleaseSignal_eq, if_neg (by omega), hnamed]
  simp only [State.asked_frame]

/-- Settles O54: an unprotected signal's write moves no speed and no session, so only its own entry changes. -/
theorem forcesAreSetAndReleased : Obligations.ForcesAreSetAndReleased := by
  refine ⟨fun tag n low high s hr hi hs hn hp => ⟨fun hk hf => ?force, fun hf => ?release⟩,
    fun tag n low high s hr hi hs => ⟨s.setup.signalProtectedSignal_iff _, ?unknown, ?guarded, ?full, ?beyond, ?absent⟩,
    fun tag s hr hi hs hp => ?releaseAll⟩
  case force =>
    refine ⟨_, rfl, ?_⟩
    rw [forceSignal_accepted tag n low high s hr hi hs hn hp hk hf]
    obtain ⟨hsig, hshop⟩ := forceAccepted_of_quiet n.toNat (high ++ low) (s.asked .forceSignal tag [n, low, high])
      (by simpa using s.setup.quiet_of_unprotected _ hp)
    simp only [State.asked_frame, putSignal_signals] at hsig
    simp only [answered_frame, hsig, Table.get_set_same _ _ _ hn, hshop, State.asked_frame, answered_receiver]
    refine ⟨trivial, trivial, trivial, trivial, trivial, fun k => mem_joinForced _ _ _,
      fun m hm => Table.get_set_other _ _ _ _ hm, hs, rfl, State.changesOnly_of _ _ _ (by simp [signalParts])⟩
  case release =>
    have h255 : n.toNat ≠ 255 := by omega
    have hne : (s.shop.named n.toNat).isEmpty = false :=
      List.isEmpty_eq_false_iff.2 (List.ne_nil_of_mem ((mem_named _ _ _ h255).2 ⟨rfl, hf⟩))
    obtain ⟨hrel, hshop⟩ := releaseForces_of_quiet (s.shop.named n.toNat) (s.asked .releaseSignal tag [n])
      (fun m hm => by
        rw [(mem_named _ _ _ h255).1 hm |>.1]
        simpa using s.setup.quiet_of_unprotected _ hp)
    refine ⟨_, rfl, ?_⟩
    rw [releaseSignal_accepted tag n s hr hi hs (.inl hn), hne]
    simp only [Bool.false_eq_true, if_false, answered_frame, hshop, State.asked_frame, answered_receiver,
      filter_named _ _ h255, length_filter_named _ _ h255]
    obtain ⟨hvalue, hstatus⟩ := State.releases_shown _ _ _ hrel n.toNat ((mem_named _ _ _ h255).2 ⟨rfl, hf⟩) hn
    simp only [State.asked_frame] at hvalue hstatus
    refine ⟨hvalue, hstatus, fun k => by simp [and_comm], fun m hm => ?_, hs, rfl,
      State.changesOnly_of _ _ _ (by simp [signalParts])⟩
    simpa using hrel.2 m fun h => hm ((mem_named _ _ _ h255).1 h).1
  case unknown =>
    intro h
    refine forceSignal_declined tag n low high s .outOfRange hr hi hs fun q hq _ => ?_
    rw [serveForceSignal_eq, if_pos]
    rw [hq]
    by_cases hn : 127 < n.toNat
    · exact .inl hn
    · exact .inr (not_not.1 fun hk => h ⟨by omega, hk⟩)
  case guarded =>
    intro ⟨hn, hk⟩ hg
    refine forceSignal_declined tag n low high s .signalProtected hr hi hs fun q hq _ => ?_
    rw [serveForceSignal_eq, hq, if_neg (by simp [hk]; omega), if_pos ((s.setup.signalProtectedSignal_iff _).2 hg)]
  case full =>
    intro ⟨hn, hk⟩ hg hfull
    refine forceSignal_declined tag n low high s .limitReached hr hi hs fun q hq hqf => ?_
    rw [serveForceSignal_eq, hq, hqf, if_neg (by simp [hk]; omega),
      if_neg (mt (s.setup.signalProtectedSignal_iff _).1 hg), if_pos hfull]
  case beyond =>
    intro hn h255
    have hne : n.toNat ≠ 255 := fun e => h255 (BitVec.eq_of_toNat_eq e)
    refine ⟨_, rfl, ?_⟩
    rw [receiveFrame_served .releaseSignal tag _ s hr hi (by simp) (Service.refusal_release _ _ hs)]
    simp only [Service.serve]
    rw [serveReleaseSignal_eq, if_pos ⟨hn, hne⟩]
    obtain ⟨hrec, -, -, hframe⟩ := answered_declined .releaseSignal tag [n] s .outOfRange
    exact ⟨hrec, hframe⟩
  case absent =>
    intro hn hf
    have hnamed : s.shop.named n.toNat = [] :=
      List.eq_nil_iff_forall_not_mem.2 fun k hk => by
        obtain ⟨rfl, hk⟩ := (mem_named s.shop n.toNat k (by omega)).1 hk
        exact hf hk
    refine ⟨_, rfl, ?_⟩
    rw [releaseSignal_accepted tag n s hr hi hs (.inl hn), hnamed]
    exact ⟨rfl, State.changesOnly_of _ _ _ (by simp)⟩
  case releaseAll =>
    have hnamed : s.shop.named 255 = s.shop.forced := rfl
    refine ⟨_, rfl, ?_⟩
    rw [releaseSignal_accepted tag 255#8 s hr hi hs (.inr rfl)]
    simp only [show (255#8).toNat = 255 from rfl, hnamed, Nat.sub_self]
    cases hf : s.shop.forced with
    | nil =>
      exact ⟨by simp [hf], by simp [hs], by simp, fun m _ => by simp, rfl,
        fun _ => State.changesOnly_of _ _ _ (by simp), State.changesOnly_of _ _ _ (by simp)⟩
    | cons k l =>
      obtain ⟨hrel, hshop⟩ := releaseForces_of_quiet s.shop.forced (s.asked .releaseSignal tag [255#8])
        (fun m hm => by simpa using s.setup.quiet_of_unprotected _ (hp m hm))
      rw [← hf]
      have hne : s.shop.forced.isEmpty = false := by simp [hf]
      simp only [hne, Bool.false_eq_true, if_false, answered_frame, hshop, State.asked_frame, answered_receiver]
      refine ⟨by simp, hs, fun m hm h128 => ?_, fun m hm => ?_, rfl, fun h => by simp [h] at hne,
        State.changesOnly_of _ _ _ (by simp [signalParts])⟩
      · simpa using State.releases_shown _ _ _ hrel m hm h128
      · simpa using hrel.2 m hm

end Sys2Proof.Machine
end

section
/-! PROOFS. O53: how a workshop session opens, is demoted and ends, with the workshop tests it ends. -/

namespace Sys2Proof.Machine

/-! ### The lamp check that runs -/

@[simp] theorem compose_check (announce : Bool) (s : State) : (compose announce s).comp.check = s.comp.check := by
  unfold compose
  split
  · simp [State.composedUnit, CompositionUnit.sound]
  · split <;> simp

@[simp] theorem takePriorities_check (l : List Nat) (s : State) :
    (takePriorities l s).comp.check = s.comp.check := by
  simp [takePriorities]

@[simp] theorem commitWarning_check (w : Nat) (m : WarningMove) (s : State) :
    (commitWarning w m s).comp.check = s.comp.check := by
  simp [commitWarning]

@[simp] theorem takeCondition_check (w : Nat) (s : State) : (takeCondition w s).comp.check = s.comp.check := by
  unfold takeCondition
  split <;> simp

@[simp] theorem takeTests_check (n : Nat) (s : State) : (takeTests n s).comp.check = s.comp.check := by
  simp [takeTests]

@[simp] theorem takeSource_check (src : Source) (i : Nat) (s : State) :
    (takeSource src i s).comp.check = s.comp.check := by
  simp [takeSource]

@[simp] theorem takeInterlock_check (s : State) : (takeInterlock s).comp.check = s.comp.check := by
  simp [takeInterlock]

@[simp] theorem takeDoorSources_check (d : Nat) (s : State) :
    (takeDoorSources d s).comp.check = s.comp.check := by
  simp [takeDoorSources]

@[simp] theorem doorWritten_check (d : Nat) (old new : Door) (s : State) :
    (doorWritten d old new s).comp.check = s.comp.check := by
  simp [doorWritten]

@[simp] theorem takeDoor_check (d : Nat) (s : State) : (takeDoor d s).comp.check = s.comp.check := by
  simp [takeDoor]

@[simp] theorem readBefore_check (n : Nat) (statusChanged : Bool) (s : State) :
    (readBefore n statusChanged s).comp.check = s.comp.check := by
  simp [readBefore]

/-! ### Gauges that sweep -/

theorem putGauge_get_other (i j : Nat) (g : Gauge) (s : State) (h : j ≠ i) :
    (putGauge i g s).gauges.get j = s.gauges.get j := Table.get_set_other _ _ _ _ h

theorem putGauge_get_same (i : Nat) (g : Gauge) (s : State) (h : i < 6) :
    ∃ u, (putGauge i g s).gauges.get i = { g with upd := u } := ⟨_, Table.get_set_same _ _ _ h⟩

/-- In RUN a gauge in use takes its signal's status up by the table of R141. -/
theorem takeUpGauge_eq (i : Nat) (s : State) :
    takeUpGauge i s =
      if s.inRun && (s.setup.gauges.get i).inUse then
        putGauge i ((s.gauges.get i).takeUp (s.setup.gauges.get i)
          (s.signals.get (s.setup.gauges.get i).signal).status s.now) s
      else s := rfl

theorem takeUpGauge_get_other (i j : Nat) (s : State) (h : j ≠ i) :
    (takeUpGauge i s).gauges.get j = s.gauges.get j := by
  rw [takeUpGauge_eq]
  split
  · exact putGauge_get_other i j _ s h
  · rfl

theorem takeUpGauge_get_same (i : Nat) (s : State) (h : i < 6) :
    ∃ u, (takeUpGauge i s).gauges.get i =
      if s.inRun && (s.setup.gauges.get i).inUse then
        { (s.gauges.get i).takeUp (s.setup.gauges.get i)
            (s.signals.get (s.setup.gauges.get i).signal).status s.now with upd := u }
      else s.gauges.get i := by
  rw [takeUpGauge_eq]
  split
  · exact putGauge_get_same i _ s h
  · exact ⟨0#8, rfl⟩

/-- A gauge that does not sweep takes up no sweep. -/
theorem Gauge.takeUp_state (g : Gauge) (u : GaugeSetup) (status : SignalStatus) (now : Nat)
    (h : g.state ≠ .sweeping) : (g.takeUp u status now).state ≠ .sweeping := by
  unfold Gauge.takeUp Gauge.startHold Gauge.toTracking Gauge.toParking
  split <;> repeat' split
  all_goals simp_all

theorem takeUpGauge_sweeping (i : Nat) (s : State) (hi : i < 6) (h : (s.gauges.get i).state = .sweeping) :
    (takeUpGauge i s).gauges.get i = s.gauges.get i := by
  rw [takeUpGauge_eq]
  split
  · simp only [Gauge.takeUp, h]
    exact (Table.get_set_same _ _ _ hi).trans (by simp)
  · rfl

/-- A gauge that sweeps does not take up a status (R141). -/
theorem takeUpStatus_sweeping (n j : Nat) (s : State) (hj : j < 6) (h : (s.gauges.get j).state = .sweeping) :
    (takeUpStatus n s).gauges.get j = s.gauges.get j := by
  refine forEach_induct (fun t => t.gauges.get j = s.gauges.get j) _ _ s (fun i _ t ht => ?_) rfl
  by_cases he : i = j
  · subst he
    exact (takeUpGauge_sweeping i t hj (ht ▸ h)).trans ht
  · exact (takeUpGauge_get_other i j t (Ne.symm he)).trans ht

/-! ### Releases that move no speed -/

/-- The readers of a signal that is no speed signal, with the session lowered. -/
theorem signalRead_id (n : Nat) (statusChanged : Bool) (s : State) (h : s.setup.general.isSpeed n = false) :
    signalRead id n statusChanged s = takeTests n (readBefore n statusChanged s) := by
  rw [signalRead_eq, h]
  cases decide (n = s.setup.general.parkingBrake) && !s.brakeSet <;> rfl

theorem readBefore_sweeping (n j : Nat) (statusChanged : Bool) (s : State) (hj : j < 6)
    (h : (s.gauges.get j).state = .sweeping) :
    (readBefore n statusChanged s).gauges.get j = s.gauges.get j := by
  cases statusChanged with
  | false => simp [readBefore]
  | true =>
    simp only [readBefore, when_true, takeDoor_frame, forEach_gauges, implies_true]
    rw [takeUpStatus_sweeping _ _ _ hj] <;> simp [h]

/-- A list of signals, none of them a speed signal, is released and taken up with no test, no lamp check and no sweep
ended. -/
theorem releaseTogether_noSpeed (l : List Nat) (s : State) (h : ∀ n ∈ l, s.setup.general.isSpeed n = false) :
    (releaseTogether l s).shop = s.shop ∧ (releaseTogether l s).comp.check = s.comp.check ∧
      ∀ j, j < 6 → (s.gauges.get j).state = .sweeping → (releaseTogether l s).gauges.get j = s.gauges.get j := by
  let P (t : State) : Prop := t.setup = s.setup ∧ t.shop = s.shop ∧ t.comp.check = s.comp.check ∧
    ∀ j, j < 6 → (s.gauges.get j).state = .sweeping → t.gauges.get j = s.gauges.get j
  have hP : P (releaseTogether l s) := by
    refine forEach_induct P l _ _ (fun n hn t ⟨hset, hshop, hcheck, hg⟩ => ?_) (by simp [P])
    refine when_induct P _ _ t (fun _ _ => ?_) ⟨hset, hshop, hcheck, hg⟩
    rw [signalRead_id _ _ _ (hset ▸ h n hn)]
    refine ⟨by simp [hset], by simp [hshop], by simp [hcheck], fun j hj hs => ?_⟩
    simp only [takeTests_frame]
    exact (readBefore_sweeping _ _ _ _ hj (hg j hj hs ▸ hs)).trans (hg j hj hs)
  exact hP.2

/-! ### Sweeps that end early (R147) -/

theorem State.sweepsFor_iff (s : State) (mine : SweepOwner → Bool) (i : Nat) :
    s.sweepsFor mine i = true ↔
      ∃ w, (s.gauges.get i).sweep = some w ∧ (s.gauges.get i).state = .sweeping ∧ mine w.owner = true := by
  unfold State.sweepsFor
  cases (s.gauges.get i).sweep <;> simp

/-- With no sweep of the kind under way nothing ends. -/
theorem endSweeps_none (mine : SweepOwner → Bool) (leave : Nat → State → State) (code : ResultCode) (cause : EndCause)
    (s : State) (h : ∀ i, i < 6 → s.sweepsFor mine i = false) : endSweeps mine leave code cause s = s := by
  have hand (f : SweepOwner → Bool) (i : Nat) (hi : i < 6) : s.sweepsFor (fun o => mine o && f o) i = false := by
    have := h i hi
    rw [← Bool.not_eq_true, State.sweepsFor_iff] at this ⊢
    rintro ⟨w, hw, hs, hm⟩
    exact this ⟨w, hw, hs, (Bool.and_eq_true _ _ ▸ hm).1⟩
  have hany (f : SweepOwner → Bool) : (List.range 6).any (s.sweepsFor fun o => mine o && f o) = false := by
    simpa using fun i hi => hand f i hi
  have hslots : s.sweepSlots mine = [] := by
    unfold State.sweepSlots
    rw [List.filter_eq_nil_iff]
    intro k _
    rw [hany]
    simp
  have hfilter : (List.range 6).filter (s.sweepsFor mine) = [] := by
    rw [List.filter_eq_nil_iff]
    intro i hi
    simp [h i (List.mem_range.1 hi)]
  simp only [endSweeps, hany, hslots, hfilter, Bool.false_and]
  rfl

theorem returnGauge_get_other (i j : Nat) (s : State) (h : j ≠ i) :
    (returnGauge i s).gauges.get j = s.gauges.get j :=
  (takeUpGauge_get_other i j _ h).trans (putGauge_get_other i j _ s h)

/-- A gauge that leaves its sweep sweeps no more, unless its resume state is a sweep. -/
theorem Gauge.resumed_state (g : Gauge) (u : GaugeSetup) (w : Sweep) (hw : g.sweep = some w)
    (h : w.resume ≠ .sweeping) : (g.resumed u).state ≠ .sweeping := by
  simp only [Gauge.resumed, hw, Gauge.toParking]
  split
  · split <;> simp
  · exact h

theorem returnGauge_state (i : Nat) (s : State) (w : Sweep) (hi : i < 6) (hw : (s.gauges.get i).sweep = some w)
    (h : w.resume ≠ .sweeping) : ((returnGauge i s).gauges.get i).state ≠ .sweeping := by
  obtain ⟨v, hv⟩ := putGauge_get_same i ((s.gauges.get i).resumed (s.setup.gauges.get i)) s hi
  obtain ⟨u, hu⟩ := takeUpGauge_get_same i (putGauge i ((s.gauges.get i).resumed (s.setup.gauges.get i)) s) hi
  have hres := Gauge.resumed_state _ (s.setup.gauges.get i) w hw h
  rw [returnGauge, hu, hv]
  split
  · exact Gauge.takeUp_state _ _ _ _ hres
  · exact hres

/-- A workshop sweep of gauge `j` ends with its session. -/
theorem endWorkshopSweeps_state (cause : EndCause) (s : State) (j : Nat) (w : Sweep) (hj : j < 6)
    (hs : (s.gauges.get j).state = .sweeping) (hw : (s.gauges.get j).sweep = some w)
    (ho : w.owner.isWorkshop = true) (h : w.resume ≠ .sweeping) :
    ((endWorkshopSweeps cause s).gauges.get j).state ≠ .sweeping := by
  have hmem : j ∈ (List.range 6).filter (s.sweepsFor SweepOwner.isWorkshop) := by
    simp only [List.mem_filter, List.mem_range, State.sweepsFor_iff]
    exact ⟨hj, w, hw, hs, ho⟩
  have hgauges : (endWorkshopSweeps cause s).gauges =
      (forEach ((List.range 6).filter (s.sweepsFor SweepOwner.isWorkshop)) returnGauge s).gauges := by
    simp [endWorkshopSweeps, endSweeps]
  rw [hgauges]
  refine forEach_reaches (fun t => (t.gauges.get j).sweep = some w) (fun t => (t.gauges.get j).state ≠ .sweeping) _ _ s j
    hmem (List.Nodup.filter _ List.nodup_range) hw (fun i _ hi t ht => ?_) (fun t ht => returnGauge_state j t w hj ht h)
    (fun i _ hi t ht => ?_)
  · exact (returnGauge_get_other i j t (Ne.symm hi)) ▸ ht
  · exact (returnGauge_get_other i j t (Ne.symm hi)) ▸ ht

/-- The test record shows a workshop sweep that ends early with its cause. -/
theorem endWorkshopSweeps_tests (cause : EndCause) (s : State) (i : Nat) (hi : i < 6)
    (h : s.sweepsFor SweepOwner.isWorkshop i = true) (hr : s.shop.tests.sweepState = .running) :
    (endWorkshopSweeps cause s).shop.tests.sweepState = .endedEarly ∧
      (endWorkshopSweeps cause s).shop.tests.sweepCause = cause := by
  have hany : (List.range 6).any (s.sweepsFor fun o => o.isWorkshop) = true :=
    List.any_eq_true.2 ⟨i, List.mem_range.2 hi, h⟩
  simp [endWorkshopSweeps, endSweeps, hany, hr, setSweepTest]

/-! ### The lamp check of a workshop session (R129) -/

theorem endWorkshopLampCheck_none (cause : EndCause) (s : State) (h : s.comp.check ≠ some .workshop) :
    endWorkshopLampCheck cause s = s := by
  simp [endWorkshopLampCheck, h]

theorem endWorkshopLampCheck_ends (cause : EndCause) (s : State) (h : s.comp.check = some .workshop) :
    (endWorkshopLampCheck cause s).comp.check = none ∧
      (endWorkshopLampCheck cause s).shop.tests.lampState = .endedEarly ∧
      (endWorkshopLampCheck cause s).shop.tests.lampCause = cause := by
  simp [endWorkshopLampCheck, h, setLampTest, stopLampCheck]

@[simp] theorem endWorkshopLampCheck_sweepTest (cause : EndCause) (s : State) :
    (endWorkshopLampCheck cause s).shop.tests.sweepState = s.shop.tests.sweepState ∧
      (endWorkshopLampCheck cause s).shop.tests.sweepCause = s.shop.tests.sweepCause := by
  unfold endWorkshopLampCheck
  split <;> simp [setLampTest]

/-! ### A session that is lowered -/

/-- The state with the session lowered and its forces released and forgotten: steps 1 and 2 of R168. -/
def emptied (level : Session) (s : State) : State :=
  let t := releaseTogether s.shop.forced (s.setShop { s.shop with session := level })
  t.setShop { t.shop with forced := [] }

theorem lowerSession_eq (level : Session) (cause : EndCause) (s : State) :
    lowerSession level cause s =
      postLevel (writeStatus (endWorkshopLampCheck cause (endWorkshopSweeps cause (emptied level s)))) := rfl

/-- No speed signal is forced, so that a demotion's releases end no test by themselves. -/
def State.forcesNoSpeed (s : State) : Prop := ∀ n ∈ s.shop.forced, s.setup.general.isSpeed n = false

theorem emptied_noSpeed (level : Session) (s : State) (h : s.forcesNoSpeed) :
    (emptied level s).shop.tests = s.shop.tests ∧ (emptied level s).comp.check = s.comp.check ∧
      ∀ j, j < 6 → (s.gauges.get j).state = .sweeping → (emptied level s).gauges.get j = s.gauges.get j := by
  obtain ⟨hshop, hcheck, hg⟩ := releaseTogether_noSpeed s.shop.forced (s.setShop { s.shop with session := level }) h
  exact ⟨by simp [emptied, hshop], hcheck, hg⟩

/-- The workshop lamp check ends with its session (R129). -/
theorem lowerSession_check (level : Session) (cause : EndCause) (s : State) (h : s.forcesNoSpeed)
    (hc : s.comp.check = some .workshop) :
    (lowerSession level cause s).comp.check = none ∧ (lowerSession level cause s).shop.tests.lampState = .endedEarly ∧
      (lowerSession level cause s).shop.tests.lampCause = cause := by
  obtain ⟨-, hcheck, -⟩ := emptied_noSpeed level s h
  have := endWorkshopLampCheck_ends cause (endWorkshopSweeps cause (emptied level s))
    (by simpa [endWorkshopSweeps, hcheck] using hc)
  simpa [lowerSession_eq] using this

/-- The workshop sweep ends with its session (R147, R173). -/
theorem lowerSession_sweepTest (level : Session) (cause : EndCause) (s : State) (h : s.forcesNoSpeed) (i : Nat)
    (w : Sweep) (hi : i < 6) (hs : (s.gauges.get i).state = .sweeping) (hw : (s.gauges.get i).sweep = some w)
    (ho : w.owner.isWorkshop = true) (hr : s.shop.tests.sweepState = .running) :
    (lowerSession level cause s).shop.tests.sweepState = .endedEarly ∧
      (lowerSession level cause s).shop.tests.sweepCause = cause := by
  obtain ⟨htests, -, hg⟩ := emptied_noSpeed level s h
  have := endWorkshopSweeps_tests cause (emptied level s) i hi
    ((State.sweepsFor_iff ..).2 ⟨w, by simp [hg i hi hs, hw, hs, ho]⟩) (htests ▸ hr)
  simpa [lowerSession_eq] using this

theorem lowerSession_gauge (level : Session) (cause : EndCause) (s : State) (h : s.forcesNoSpeed) (i : Nat)
    (w : Sweep) (hi : i < 6) (hs : (s.gauges.get i).state = .sweeping) (hw : (s.gauges.get i).sweep = some w)
    (ho : w.owner.isWorkshop = true) :
    ((lowerSession level cause s).gauges.get i).state ≠ .sweeping ∨ w.resume = .sweeping := by
  obtain ⟨-, -, hg⟩ := emptied_noSpeed level s h
  by_cases hres : w.resume = .sweeping
  · exact .inr hres
  · have := endWorkshopSweeps_state cause (emptied level s) i w hi (by simp [hg i hi hs, hs])
      (by simp [hg i hi hs, hw]) ho hres
    exact .inl (by simpa [lowerSession_eq] using this)

/-- A lowered session with no force, no sweep and no lamp check of its own posts its notice alone. -/
theorem lowerSession_quiet (level : Session) (cause : EndCause) (s : State) (hf : s.shop.forced = [])
    (hg : ∀ i, i < 6 → (s.gauges.get i).sweep = none) (hc : s.comp.check ≠ some .workshop) :
    lowerSession level cause s = postLevel (writeStatus (s.setShop { s.shop with session := level, forced := [] })) := by
  have he : emptied level s = s.setShop { s.shop with session := level, forced := [] } := by
    simp only [emptied, hf, releaseTogether, releaseEntries, forEach_nil]
    rfl
  rw [lowerSession_eq, he, endWorkshopSweeps, endSweeps_none, endWorkshopLampCheck_none _ _ (by simpa using hc)]
  intro i hi
  simp [State.sweepsFor, hg i hi]

/-! ### Notices -/

/-- A posted notice is the one notice between two states that agree on the ring and the time (R182). -/
theorem postsOne_post (s t : State) (kind : NoticeKind) (index detail : Nat)
    (h : t.port.ring = s.port.ring ∧ t.port.noticeWrite = s.port.noticeWrite ∧ t.port.noticeRead = s.port.noticeRead ∧
      t.port.noticeOverflow = s.port.noticeOverflow ∧ t.now = s.now) :
    s.postsOne (post kind index detail t)
      { kind, index := byteOf index, detail := BitVec.ofNat 16 detail, time := s.time } := by
  obtain ⟨hring, hwrite, hread, hover, hnow⟩ := h
  have htime : t.time = s.time := by simp [State.time, State.ms, hnow]
  simp only [State.postsOne, State.unread, post, Port.posted, State.setPort_port, hring, hwrite, hread, hover, htime]
  split
  · simp
  · simp

/-- What a notice posts depends on the port unit alone. -/
theorem postsOne_of_port (s t u : State) (n : Notice) (h : s.postsOne t n) (hp : u.port = t.port) :
    s.postsOne u n := by
  simpa [State.postsOne, hp] using h

theorem postLevel_postsOne (s t : State)
    (h : t.port.ring = s.port.ring ∧ t.port.noticeWrite = s.port.noticeWrite ∧ t.port.noticeRead = s.port.noticeRead ∧
      t.port.noticeOverflow = s.port.noticeOverflow ∧ t.now = s.now) :
    s.postsOne (postLevel t)
      { kind := .workshopChange, index := 0#8, detail := BitVec.ofNat 16 t.shop.session.code, time := s.time } :=
  postsOne_post s t .workshopChange 0 t.shop.session.code h

/-! ### OPEN_SESSION (R166) -/

theorem Service.refusal_open (session : Session) (level rate : Byte) :
    Service.openSession.refusal session [level, rate] = none := by
  cases session <;> rfl

/-- The conditions of a SERVICE session, as R166 lists them. -/
theorem State.serviceConditions_iff (s : State) :
    s.serviceConditions = true ↔
      s.run.state = .run ∧ s.doors.motion = .stopped ∧ s.setup.general.parkingBrake ≠ 255 ∧
        ((s.signals.get s.setup.general.parkingBrake).status = .valid ∨
          (s.signals.get s.setup.general.parkingBrake).status = .forced) ∧
        (s.signals.get s.setup.general.parkingBrake).value ≠ 0#16 := by
  simp only [State.serviceConditions, State.inRun, State.brakeSet, State.usableSignal, Bool.and_eq_true,
    decide_eq_true_eq, ne_eq, decide_not, Bool.not_eq_true', decide_eq_false_iff_not, and_assoc]
  cases (s.signals.get s.setup.general.parkingBrake).status <;> simp [SignalStatus.usable]

@[simp] theorem State.asked_serviceConditions (s : State) (v : Service) (tag : Byte) (data : List Byte) :
    (s.asked v tag data).serviceConditions = s.serviceConditions := by
  simp [State.serviceConditions, State.inRun, State.brakeSet, State.usableSignal]

/-- OPEN_SESSION in the order of its conditions (R166). -/
theorem serveOpenSession_eq (level rate : Byte) (s : State) :
    serveOpenSession [level, rate] s =
      if (level ≠ 1#8 ∧ level ≠ 2#8) ∨ 1 < rate.toNat then declined .outOfRange s
      else if level = 2#8 ∧ s.serviceConditions = false then declined .conditionsNotMet s
      else (.accepted, [level], sessionGranted (if rate = 0#8 then .slow else .fast)
        (grantSession (if level = 2#8 then .service else .read) s)) := by
  have hof (b : Byte) (k : Nat) (hk : k < 256) : b.toNat = k ↔ b = BitVec.ofNat 8 k := by
    rw [← BitVec.toNat_inj, BitVec.toNat_ofNat, Nat.mod_eq_of_lt hk]
  have hlevel : byteOf level.toNat = level := by simp [byteOf]
  simp [serveOpenSession, dataAt, rateOfCode, hof level 1 (by decide), hof level 2 (by decide),
    hof rate 0 (by decide), hlevel]

/-- A granted OPEN_SESSION. -/
theorem openSession_granted (tag level rate : Byte) (s : State) (hr : s.run.state ≠ .standby)
    (hi : s.shop.receiver = .idle) (hrate : rate.toNat ≤ 1) (hl : level = 1#8 ∨ level = 2#8)
    (hc : level = 2#8 → s.serviceConditions = true) :
    receiveFrame (serviceFrame .openSession tag [level, rate]) s =
      answered .openSession tag (.accepted, [level], sessionGranted (if rate = 0#8 then .slow else .fast)
        (grantSession (if level = 2#8 then .service else .read) (s.asked .openSession tag [level, rate]))) := by
  rw [receiveFrame_served .openSession tag _ s hr hi (by simp) (Service.refusal_open ..)]
  simp only [Service.serve]
  rw [serveOpenSession_eq, if_neg (by rintro (⟨h1, h2⟩ | h); exacts [hl.elim h1 h2, by omega]), if_neg]
  rintro ⟨h2, hf⟩
  simp [hc h2] at hf

/-- An OPEN_SESSION that its conditions decline. -/
theorem openSession_declined (tag level rate : Byte) (s : State) (r : ShopResult) (hr : s.run.state ≠ .standby)
    (hi : s.shop.receiver = .idle)
    (h : serveOpenSession [level, rate] (s.asked .openSession tag [level, rate]) =
      declined r (s.asked .openSession tag [level, rate])) :
    ∃ t, exec (.openSession tag [level, rate]) s = .next t ∧
      t.shop.receiver = .answering (answerFrame 2#8 tag (byteOf r.code) []) ∧ t.shop.rate = s.shop.rate ∧
      t.shop.nextRate = s.shop.nextRate ∧ s.changesOnly t [.receiver] := by
  refine ⟨_, rfl, ?_⟩
  rw [receiveFrame_served .openSession tag _ s hr hi (by simp) (Service.refusal_open ..)]
  simp only [Service.serve, h]
  exact answered_declined ..

/-- What every grant leaves beside the session (R166). -/
theorem sessionGranted_shop (rate : LineRate) (s : State) :
    (sessionGranted rate s).shop.idleTimer = some (s.now + 5000000) ∧
      (sessionGranted rate s).shop.nextRate = some rate ∧ (sessionGranted rate s).shop.tests = s.shop.tests := by
  simp [sessionGranted, State.inMs, Config.sessionIdle]

/-- A session that opens or is promoted. -/
theorem grantSession_raises (level : Session) (s : State) (h : s.shop.session ≠ level)
    (hs : s.shop.session ≠ .service) : grantSession level s = raiseSession level s := by
  simp [grantSession, h, hs]

theorem grantSession_stays (level : Session) (s : State) (h : s.shop.session = level) : grantSession level s = s := by
  simp [grantSession, h]

theorem grantSession_demotes (s : State) (h : s.shop.session = .service) :
    grantSession .read s = lowerSession .read .session s := by
  simp [grantSession, h, demoteSession_of_service]

end Sys2Proof.Machine
end

section
/-! PROOFS. O53: the clauses on OPEN_SESSION, on the end of a session, and on the parking brake. -/

namespace Sys2Proof.Machine

/-! ### What each grant leaves -/

/-- The level that a level code names (R166). -/
def levelOf (level : Byte) : Session := if level = 2#8 then .service else .read

/-- What stands after every granted OPEN_SESSION, whatever becomes of the session (R166). -/
theorem openSession_grant (tag level : Byte) (next : LineRate) (s u : State)
    (h : u.now = s.now ∧ u.shop.rate = s.shop.rate) :
    let t := answered .openSession tag (.accepted, [level], sessionGranted next u)
    t.shop.idleTimer = some (s.now + 5000000) ∧ t.shop.rate = s.shop.rate ∧ t.shop.nextRate = some next ∧
      t.shop.receiver = .answering (answerFrame 2#8 tag 0#8 [level]) := by
  obtain ⟨hidle, hnext, -⟩ := sessionGranted_shop next u
  refine ⟨?_, ?_, ?_, rfl⟩
  · simp [hidle, h.1]
  · simp [h.2]
  · simp [hnext]

/-- A session that opens, or is promoted (R166, R168). -/
theorem openSession_raises (tag level rate : Byte) (s : State) (hr : s.run.state ≠ .standby)
    (hi : s.shop.receiver = .idle) (hrate : rate.toNat ≤ 1) (hl : level = 1#8 ∨ level = 2#8)
    (hc : level = 2#8 → s.serviceConditions = true) (hn : s.shop.session ≠ levelOf level)
    (hs : s.shop.session ≠ .service) :
    ∃ t, exec (.openSession tag [level, rate]) s = .next t ∧ t.shop.session = levelOf level ∧
      t.shop.forced = s.shop.forced ∧
      t.shop.tests = (if s.shop.session = .detached then {} else s.shop.tests) ∧
      t.shop.idleTimer = some (s.now + 5000000) ∧ t.shop.rate = s.shop.rate ∧
      t.shop.nextRate = some (if rate = 0#8 then LineRate.slow else .fast) ∧
      t.shop.receiver = .answering (answerFrame 2#8 tag 0#8 [level]) ∧
      s.postsOne t { kind := .workshopChange, index := 0#8, detail := BitVec.ofNat 16 (levelOf level).code
                     time := s.time } ∧
      s.changesOnly t [.notices, .statusBlock, .session, .receiver] := by
  have hg := grantSession_raises (levelOf level) (s.asked .openSession tag [level, rate]) (by simpa using hn)
    (by simpa using hs)
  have hmove := openSession_granted tag level rate s hr hi hrate hl hc
  rw [show (if level = 2#8 then Session.service else .read) = levelOf level from rfl, hg] at hmove
  obtain ⟨hidle, hrates⟩ := openSession_grant tag level (if rate = 0#8 then .slow else .fast) s
    (raiseSession (levelOf level) (s.asked .openSession tag [level, rate])) (by simp)
  refine ⟨_, rfl, ?_⟩
  rw [hmove]
  obtain ⟨hrate', hnext, hrec⟩ := hrates
  refine ⟨by simp [raiseSession], by simp, ?_, hidle, hrate', hnext, hrec, ?_, State.changesOnly_of _ _ _ (by simp)⟩
  · simp [(sessionGranted_shop ..).2.2, raiseSession]
  · exact postsOne_of_port _ _ _ _ (postLevel_postsOne s (writeStatus
      ((s.asked .openSession tag [level, rate]).setShop { (s.asked .openSession tag [level, rate]).shop with
        session := levelOf level
        tests := if (s.asked .openSession tag [level, rate]).shop.session = .detached then {}
          else (s.asked .openSession tag [level, rate]).shop.tests })) (by simp [writeStatus])) (by simp [raiseSession])

/-- A level that the session has already is granted with no notice. -/
theorem openSession_stays (tag level rate : Byte) (s : State) (hr : s.run.state ≠ .standby)
    (hi : s.shop.receiver = .idle) (hrate : rate.toNat ≤ 1) (hl : level = 1#8 ∨ level = 2#8)
    (hc : level = 2#8 → s.serviceConditions = true) (hs : s.shop.session = levelOf level) :
    ∃ t, exec (.openSession tag [level, rate]) s = .next t ∧ t.shop.session = s.shop.session ∧
      t.shop.idleTimer = some (s.now + 5000000) ∧ t.shop.rate = s.shop.rate ∧
      t.shop.nextRate = some (if rate = 0#8 then LineRate.slow else .fast) ∧
      t.shop.receiver = .answering (answerFrame 2#8 tag 0#8 [level]) ∧ s.changesOnly t [.receiver] := by
  have hg := grantSession_stays (levelOf level) (s.asked .openSession tag [level, rate]) (by simpa using hs)
  have hmove := openSession_granted tag level rate s hr hi hrate hl hc
  rw [show (if level = 2#8 then Session.service else .read) = levelOf level from rfl, hg] at hmove
  obtain ⟨hidle, hrate', hnext, hrec⟩ := openSession_grant tag level (if rate = 0#8 then .slow else .fast) s
    (s.asked .openSession tag [level, rate]) (by simp)
  refine ⟨_, rfl, ?_⟩
  rw [hmove]
  refine ⟨by simp, hidle, hrate', hnext, hrec, State.changesOnly_of _ _ _ ?_⟩
  simp [(sessionGranted_shop ..).2.2]

theorem State.forcesNoSpeed_of_unprotected (s : State)
    (h : ∀ n ∈ s.shop.forced, s.setup.signalProtectedSignal n = false) : s.forcesNoSpeed :=
  fun n hn => (s.setup.quiet_of_unprotected n (h n hn)).1

/-- READ asked of a SERVICE session demotes it (R168). -/
theorem openSession_demotes (tag rate : Byte) (s : State) (hr : s.run.state ≠ .standby)
    (hi : s.shop.receiver = .idle) (hrate : rate.toNat ≤ 1) (hs : s.shop.session = .service) :
    receiveFrame (serviceFrame .openSession tag [1#8, rate]) s =
      answered .openSession tag (.accepted, [1#8], sessionGranted (if rate = 0#8 then .slow else .fast)
        (lowerSession .read .session (s.asked .openSession tag [1#8, rate]))) := by
  have h12 : ¬(1#8 : Byte) = 2#8 := by decide
  rw [openSession_granted tag 1#8 rate s hr hi hrate (.inl rfl) (fun h => absurd h h12), if_neg h12,
    grantSession_demotes _ (by simpa using hs)]

/-- What READ asked of a SERVICE session leaves (R9, R168, R173). -/
theorem openSession_demoted (tag rate : Byte) (s : State) (hr : s.run.state ≠ .standby)
    (hi : s.shop.receiver = .idle) (hrate : rate.toNat ≤ 1) (hs : s.shop.session = .service)
    (hp : ∀ n ∈ s.shop.forced, s.setup.signalProtectedSignal n = false) :
    ∃ t, exec (.openSession tag [1#8, rate]) s = .next t ∧ t.shop.session = .read ∧ t.shop.forced = [] ∧
      (∀ n ∈ s.shop.forced, n < 128 → (t.signals.get n).value = (s.signals.get n).sourceValue ∧
        (t.signals.get n).status = (s.signals.get n).sourceStatus) ∧
      (∀ m, m ∉ s.shop.forced → t.signals.get m = s.signals.get m) ∧
      ((∃ i, i < 6 ∧ (s.gauges.get i).state = .sweeping ∧
          ∃ w, (s.gauges.get i).sweep = some w ∧ w.owner.isWorkshop = true) →
        s.shop.tests.sweepState = .running →
        t.shop.tests.sweepState = .endedEarly ∧ t.shop.tests.sweepCause = .session) ∧
      (∀ i, i < 6 → (s.gauges.get i).state = .sweeping → ∀ w, (s.gauges.get i).sweep = some w →
        w.owner.isWorkshop = true → (t.gauges.get i).state ≠ .sweeping ∨ w.resume = .sweeping) ∧
      (s.comp.check = some .workshop → t.comp.check = none ∧ t.shop.tests.lampState = .endedEarly ∧
        t.shop.tests.lampCause = .session) ∧
      t.shop.idleTimer = some (s.now + 5000000) ∧ t.shop.rate = s.shop.rate ∧
      t.shop.nextRate = some (if rate = 0#8 then LineRate.slow else .fast) ∧
      t.shop.receiver = .answering (answerFrame 2#8 tag 0#8 [1#8]) ∧
      (s.shop.forced = [] → (∀ i, i < 6 → (s.gauges.get i).sweep = none) → s.comp.check ≠ some .workshop →
        s.postsOne t { kind := .workshopChange, index := 0#8, detail := 1#16, time := s.time } ∧
        s.changesOnly t [.notices, .statusBlock, .session, .receiver]) ∧
      s.changesOnly t (.receiver :: signalParts) := by
  let q := s.asked .openSession tag [1#8, rate]
  have hframe : q.shop.forced = s.shop.forced ∧ q.setup = s.setup ∧ q.gauges = s.gauges ∧ q.comp = s.comp ∧
      q.shop.tests = s.shop.tests ∧ q.signals = s.signals ∧ q.now = s.now ∧ q.port = s.port := by simp [q]
  obtain ⟨hforced, hsetup, hgauges, hcomp, htests, hsignals, hnow, hport⟩ := hframe
  have hquiet : q.forcesNoSpeed := by
    simpa [State.forcesNoSpeed, hforced, hsetup] using s.forcesNoSpeed_of_unprotected hp
  have hrel : s.releases (lowerSession .read .session q) s.shop.forced :=
    hforced ▸ State.releases_of_signals _ _ s _ _ (lowerSession_releases .read .session q) hsignals.symm rfl
  obtain ⟨hidle, hrate', hnext, hrec⟩ := openSession_grant tag 1#8 (if rate = 0#8 then .slow else .fast) s
    (lowerSession .read .session q) (by simp [q])
  refine ⟨_, rfl, ?_⟩
  rw [openSession_demotes tag rate s hr hi hrate hs]
  refine ⟨by simp, by simp, fun n hn h128 => ?_, fun m hm => ?_, fun hsweep hrun => ?_, fun i hi6 hsw w hw ho => ?_,
    fun hcheck => ?_, hidle, hrate', hnext, hrec, fun hempty hnone hcheck => ⟨?_, State.changesOnly_of _ _ _ ?_⟩,
    State.changesOnly_of _ _ _ (by simp [signalParts])⟩
  · simpa using State.releases_shown _ _ _ hrel n hn h128
  · simpa using hrel.2 m hm
  · obtain ⟨i, hi6, hsw, w, hw, ho⟩ := hsweep
    simpa [(sessionGranted_shop ..).2.2] using lowerSession_sweepTest .read .session q hquiet i w hi6
      (by rw [hgauges, hsw]) (by rw [hgauges, hw]) ho (htests ▸ hrun)
  · simpa using lowerSession_gauge .read .session q hquiet i w hi6 (by rw [hgauges, hsw]) (by rw [hgauges, hw]) ho
  · simpa [(sessionGranted_shop ..).2.2] using lowerSession_check .read .session q hquiet (hcomp ▸ hcheck)
  all_goals
    have hposts := lowerSession_quiet .read .session q (hforced ▸ hempty) (hgauges ▸ hnone) (hcomp ▸ hcheck)
  · exact postsOne_of_port _ (lowerSession .read .session q) _ _
      (hposts ▸ postLevel_postsOne s (writeStatus (q.setShop { q.shop with session := .read, forced := [] }))
        (by simp [writeStatus, hport, hnow])) (by simp [q])
  · change _ ∧ _
    simp [(sessionGranted_shop ..).2.2, hposts, q]

/-! ### The end of a session (R168) -/

/-- An open session ends: its forces are released, and the rate goes back. -/
theorem endSession_open (cause : EndCause) (byClose : Bool) (s : State) (h : s.shop.session ≠ .detached) :
    endSession cause byClose s = lowerSession .detached cause
      (s.setShop { s.shop with
        idleTimer := none
        rate := if byClose then s.shop.rate else .slow
        nextRate := if byClose then some .slow else none }) := by
  simp [endSession, h]

theorem endSession_ends (cause : EndCause) (byClose : Bool) (s : State) (h : s.shop.session ≠ .detached) :
    (endSession cause byClose s).shop.session = .detached ∧ (endSession cause byClose s).shop.forced = [] ∧
      s.releases (endSession cause byClose s) s.shop.forced ∧ (endSession cause byClose s).shop.idleTimer = none ∧
      (endSession cause byClose s).shop.rate = (if byClose then s.shop.rate else .slow) ∧
      (endSession cause byClose s).shop.nextRate = (if byClose then some .slow else none) := by
  rw [endSession_open cause byClose s h]
  refine ⟨by simp, by simp, ?_, by simp, by simp, by simp⟩
  exact State.releases_of_signals _ _ _ _ _ (lowerSession_releases .detached cause
    (s.setShop { s.shop with
      idleTimer := none
      rate := if byClose then s.shop.rate else .slow
      nextRate := if byClose then some .slow else none })) rfl rfl

/-! ### The parking brake (R167) -/

/-- A write of the parking brake's entry that leaves it not set demotes a SERVICE session. -/
theorem writeSignal_brake_demotes (n : Nat) (x : Signal) (s : State) (hn : n < 128) (hr : s.run.state = .run)
    (hb : n = s.setup.general.parkingBrake)
    (hc : x.value ≠ (s.signals.get n).value ∨ x.status ≠ (s.signals.get n).status)
    (hx : (x.status ≠ .valid ∧ x.status ≠ .forced) ∨ x.value = 0#16) :
    ∃ t, (putSignal n x s).keptOrDemoted t ∧
      (t = (if s.setup.general.isSpeed n then
          takeSpeed demoteSession (readBefore n (x.status ≠ (s.signals.get n).status) (putSignal n x s))
        else readBefore n (x.status ≠ (s.signals.get n).status) (putSignal n x s))) ∧
      writeSignal demoteSession n x s = takeTests n (demoteSession t) := by
  have hput : (putSignal n x s).signals.get n = { x with upd := bump (s.signals.get n).upd } :=
    Table.get_set_same _ _ _ hn
  have hset : (putSignal n x s).brakeSet = false := by
    simp only [State.brakeSet, State.usableSignal, putSignal_frame, ← hb, hput]
    obtain ⟨h1, h2⟩ | h := hx
    · have : x.status.usable = false := by
        cases hst : x.status with
        | valid => exact absurd hst h1
        | forced => exact absurd hst h2
        | _ => rfl
      simp [this]
    · simp [h]
  have hread : (s.inRun && (x.value ≠ (s.signals.get n).value || x.status ≠ (s.signals.get n).status)) = true := by
    simpa [State.inRun, hr] using hc
  have hwrite : writeSignal demoteSession n x s =
      signalRead demoteSession n (x.status ≠ (s.signals.get n).status) (putSignal n x s) := by
    simp only [writeSignal, hread, when_true]
  refine ⟨_, ?_, rfl, ?_⟩
  · have hbefore := State.keptOrDemoted_of_kept (putSignal n x s)
      (readBefore n (x.status ≠ (s.signals.get n).status) (putSignal n x s)) (by simp) (by simp) (by simp)
    split
    · exact State.keptOrDemoted_trans _ _ _ hbefore (takeSpeed_keptOrDemoted _)
    · exact hbefore
  · rw [hwrite, signalRead_eq, hset]
    simp [hb, when]

/-- After a demotion a session is no longer SERVICE, and a SERVICE session has lost its forces. -/
theorem demoteSession_of_keptOrDemoted (s t : State) (h : s.keptOrDemoted t) (hs : s.shop.session = .service) :
    (demoteSession t).shop.session = .read ∧ (demoteSession t).shop.forced = [] := by
  obtain ⟨hk, -⟩ | ⟨-, hr, hf, -⟩ := h
  · rw [demoteSession_of_service t (hk.trans hs)]
    exact lowerSession_session ..
  · have : demoteSession t = t := by simp [demoteSession, demoteFor, hr]
    rw [this]
    exact ⟨hr, hf⟩

theorem writeSignal_brake_session (n : Nat) (x : Signal) (s : State) (hn : n < 128) (hr : s.run.state = .run)
    (hs : s.shop.session = .service) (hb : n = s.setup.general.parkingBrake)
    (hc : x.value ≠ (s.signals.get n).value ∨ x.status ≠ (s.signals.get n).status)
    (hx : (x.status ≠ .valid ∧ x.status ≠ .forced) ∨ x.value = 0#16) :
    (writeSignal demoteSession n x s).shop.session = .read ∧ (writeSignal demoteSession n x s).shop.forced = [] := by
  obtain ⟨t, hk, -, hw⟩ := writeSignal_brake_demotes n x s hn hr hb hc hx
  rw [hw]
  simpa using demoteSession_of_keptOrDemoted _ t hk (by simpa using hs)

theorem readBefore_takeTests_demoted (n : Nat) (statusChanged : Bool) (s : State) (hs : s.shop.session = .service)
    (hf : s.forcesNoSpeed) (hc : s.comp.check = some .workshop) :
    let t := takeTests n (demoteSession (readBefore n statusChanged s))
    t.comp.check = none ∧ t.shop.tests.lampState = .endedEarly ∧ t.shop.tests.lampCause = .session := by
  intro t
  have := lowerSession_check .read .session (readBefore n statusChanged s) (by simpa [State.forcesNoSpeed] using hf)
    (by simpa using hc)
  simpa [t, demoteSession_of_service (readBefore n statusChanged s) (by simpa using hs)] using this

/-- The parking brake goes stale in a SERVICE session (R7, R129, R167). -/
theorem goStale_brake (n : Nat) (s : State) (hn : n < 128) (hr : s.run.state = .run) (hs : s.shop.session = .service)
    (hb : n = s.setup.general.parkingBrake) (hforced : (s.signals.get n).status ≠ .forced)
    (hstale : (s.signals.get n).status ≠ .stale) :
    (goStale n s).shop.session = .read ∧ (goStale n s).shop.forced = [] ∧
      (∀ k ∈ s.shop.forced, k < 128 → k ≠ n → ((goStale n s).signals.get k).value = (s.signals.get k).sourceValue ∧
        ((goStale n s).signals.get k).status = (s.signals.get k).sourceStatus) ∧
      (∀ m, m ∉ s.shop.forced → m ≠ n → (goStale n s).signals.get m = s.signals.get m) ∧
      ((∀ k, k = n ∨ k ∈ s.shop.forced → s.setup.general.isSpeed k = false) → s.comp.check = some .workshop →
        (goStale n s).comp.check = none ∧ (goStale n s).shop.tests.lampState = .endedEarly ∧
          (goStale n s).shop.tests.lampCause = .session) := by
  let x := (s.signals.get n).gone.released
  have hx : (x.status ≠ .valid ∧ x.status ≠ .forced) ∨ x.value = 0#16 :=
    .inl ⟨by simp [x, Signal.released, Signal.gone], by simp [x, Signal.released, Signal.gone]⟩
  have hc : x.value ≠ (s.signals.get n).value ∨ x.status ≠ (s.signals.get n).status := .inr (Ne.symm hstale)
  rw [goStale_unforced n s hforced]
  obtain ⟨hsession, hempty⟩ := writeSignal_brake_session n x s hn hr hs hb hc hx
  have other (m : Nat) (hm : m ≠ n) : (putSignal n x s).signals.get m = s.signals.get m :=
    Table.get_set_other _ _ _ _ hm
  refine ⟨hsession, hempty, fun k hk h128 hkn => ?_, fun m hm hmn => writeSignal_entry_other n m x s hmn hm,
    fun hspeed hcheck => ?_⟩
  · obtain ⟨hkept, -⟩ | ⟨-, -, -, hrel⟩ := writeSignal_keptOrDemoted n x s
    · simp [hsession, hs] at hkept
    · have := State.releases_shown _ _ _ hrel k (by simpa using hk) h128
      rwa [other k hkn] at this
  · obtain ⟨t, -, ht, hw⟩ := writeSignal_brake_demotes n x s hn hr hb hc hx
    rw [hspeed n (.inl rfl)] at ht
    rw [hw, ht]
    exact readBefore_takeTests_demoted n _ (putSignal n x s) (by simpa using hs)
      (fun k hk => by simpa using hspeed k (.inr (by simpa using hk))) (by simpa using hcheck)

/-- CLOSE_SESSION passes the tests of R165 in an open session. -/
theorem Service.refusal_close (session : Session) (h : session ≠ .detached) :
    Service.closeSession.refusal session [] = none := by
  cases session with
  | detached => exact absurd rfl h
  | read => rfl
  | service => rfl

/-- Settles O53: a session is raised, kept, demoted or ended, and a demotion releases the forces before the workshop
tests end. -/
theorem sessionsOpenAndEnd : Obligations.SessionsOpenAndEnd := by
  refine ⟨fun tag rate s hr hi hrate => ⟨fun hs => ?opens, fun hc hs => ?promotes, fun hs => ?stays,
      fun hs hp => openSession_demoted tag rate s hr hi hrate hs hp, fun hc => ?unmet⟩,
    fun tag level rate s hr hi h => ?beyond, fun tag s hs => ⟨fun hr hi => ?close, fun due hd => ?expires⟩,
    State.serviceConditions_iff, fun n x s hr hs hb hc hx => writeSignal_brake_session n x s n.isLt hr hs hb hc hx,
    fun n s ms hr hs hb hd hforced hstale => ?stale⟩
  case opens =>
    obtain ⟨t, ht, hsession, hforced, htests, hrest⟩ := openSession_raises tag 1#8 rate s hr hi hrate (.inl rfl)
      (fun h => absurd h (by decide)) (by simp [hs, levelOf]) (by simp [hs])
    rw [if_pos hs] at htests
    exact ⟨t, ht, hsession, hforced, by rw [htests], by rw [htests], hrest⟩
  case promotes =>
    obtain ⟨t, ht, hsession, hforced, -, hrest⟩ := openSession_raises tag 2#8 rate s hr hi hrate (.inr rfl)
      (fun _ => hc) (by simpa [levelOf] using hs) hs
    exact ⟨t, ht, hsession, hforced, hrest⟩
  case stays =>
    refine openSession_stays tag _ rate s hr hi hrate ?_ ?_ ?_
    all_goals rcases hs with hs | ⟨hs, hc⟩
    all_goals simp [hs, levelOf]
    exact hc
  case unmet =>
    refine openSession_declined tag 2#8 rate s .conditionsNotMet hr hi ?_
    rw [serveOpenSession_eq, if_neg (by simp; omega), if_pos (by simpa using hc)]
  case beyond =>
    refine openSession_declined tag level rate s .outOfRange hr hi ?_
    rw [serveOpenSession_eq, if_pos h]
  case close =>
    have hserve := receiveFrame_served .closeSession tag [] s hr hi (by simp) (Service.refusal_close _ hs)
    obtain ⟨hsession, hforced, hrel, hidle, hrate, hnext⟩ := endSession_ends .session true (s.asked .closeSession tag [])
      (by simpa using hs)
    refine ⟨_, rfl, ?_⟩
    rw [hserve]
    simp only [Service.serve, serveCloseSession, answered_frame, hsession, hforced, hidle, hrate, hnext]
    refine ⟨trivial, trivial, fun n hn h128 => ?_, trivial, by simp, rfl, rfl,
      State.changesOnly_of _ _ _ (by simp [signalParts])⟩
    simpa using State.releases_shown _ _ _ hrel n (by simpa using hn) h128
  case expires =>
    obtain ⟨hsession, hforced, hrel, hidle, hrate, hnext⟩ := endSession_ends .session false (s.reach due) hs
    refine ⟨_, rfl, ?_⟩
    rw [sessionExpires, hd, onTimer_some]
    exact ⟨by simp [State.reach], hsession, hforced, State.releases_shown _ _ _ hrel, hidle, hrate, hnext, by simp,
      State.changesOnly_of _ _ _ (by simp [signalParts])⟩
  case stale =>
    refine ⟨_, rfl, ?_⟩
    rw [staleExpires_inRun n s ms hr hd]
    obtain ⟨hsession, hforced, hrel, hother, hcheck⟩ := goStale_brake n (s.reach (1000 * ms)) n.isLt hr hs hb hforced
      hstale
    refine ⟨hsession, hforced, hrel, hother, fun h hc => hcheck (fun k hk => ?_) hc,
      State.changesOnly_of _ _ _ (by simp [signalParts])⟩
    simpa [GeneralSetup.isSpeed] using h k hk

end Sys2Proof.Machine
end

section
/-! PROOFS. Deliveries: the exchange memory stays canonical through the readers of a signal, and what one delivery, and
a row of deliveries to different signals, leaves in an entry. -/

namespace Sys2Proof.Machine

/-! ### The canonical form of the exchange memory -/

theorem endSweeps_memorySound (mine : SweepOwner → Bool) (leave : Nat → State → State) (code : ResultCode)
    (cause : EndCause) (s : State) (hl : ∀ i t, (leave i t).mem = t.mem) (h : s.memorySound) :
    (endSweeps mine leave code cause s).memorySound := by
  refine when_induct State.memorySound _ _ _ (fun _ ht => memorySound_of_mem _ _ (by simp [setSweepTest]) ht) ?_
  refine forEach_induct State.memorySound _ _ _ (fun k _ t ht => slotFailed_memorySound k code 0 [] t ht) ?_
  exact forEach_induct State.memorySound _ _ _ (fun i _ t ht => memorySound_of_mem _ _ (hl i t) ht) h

theorem endLampCheck_memorySound (code : ResultCode) (cause : EndCause) (s : State) (h : s.memorySound) :
    (endLampCheck code cause s).memorySound := by
  unfold endLampCheck
  split
  · exact slotFailed_memorySound _ _ _ _ _ (memorySound_of_mem _ _ (by simp) h)
  · exact memorySound_of_mem _ _ (by simp) h
  · exact h

section Demotions

variable (demote : State → State) (hd : ∀ t : State, t.memorySound → (demote t).memorySound)
include hd

theorem leaveStopped_memorySound (s : State) (h : s.memorySound) : (leaveStopped demote s).memorySound :=
  hd _ (endLampCheck_memorySound _ _ _ (endSweeps_memorySound _ _ _ _ s (by simp) h))

theorem changeMotion_memorySound (x : DoorUnit) (s : State) (h : s.memorySound) :
    (changeMotion demote x s).memorySound := by
  refine when_induct State.memorySound _ _ _ (fun _ ht => ?_) (memorySound_of_mem _ _ (by simp) h)
  exact when_induct State.memorySound _ _ _ (fun _ hu => leaveStopped_memorySound demote hd _ hu)
    (memorySound_of_mem _ _ (by simp) ht)

theorem signalRead_memorySound (n : Nat) (statusChanged : Bool) (s : State) (h : s.memorySound) :
    (signalRead demote n statusChanged s).memorySound := by
  rw [signalRead_eq]
  have speed := when_induct State.memorySound (s.setup.general.isSpeed n) (takeSpeed demote)
    (readBefore n statusChanged s) (fun _ => changeMotion_memorySound demote hd _ _)
    (memorySound_of_mem _ _ (by simp) h)
  have brake := when_induct State.memorySound (n = s.setup.general.parkingBrake && !s.brakeSet) demote _
    (fun _ => hd _) speed
  exact memorySound_of_mem _ _ (by simp) brake

theorem writeSignal_memorySound (n : Nat) (x : Signal) (s : State) (h : s.memorySound) :
    (writeSignal demote n x s).memorySound :=
  when_induct State.memorySound _ _ _ (fun _ => signalRead_memorySound demote hd _ _ _)
    (memorySound_of_mem _ _ (by simp) h)

end Demotions

theorem lowerSession_memorySound (level : Session) (cause : EndCause) (s : State) (h : s.memorySound) :
    (lowerSession level cause s).memorySound := by
  have hr : (releaseTogether s.shop.forced (s.setShop { s.shop with session := level })).memorySound := by
    refine forEach_induct State.memorySound _ _ _ (fun n _ t ht => ?_) ?_
    · exact when_induct State.memorySound _ _ _ (fun _ => signalRead_memorySound id (fun _ => id) _ _ _) ht
    · exact forEach_induct State.memorySound _ _ _ (fun n _ t ht => memorySound_of_mem _ _ (by simp) ht) h
  have hends : (endWorkshopSweeps cause (emptied level s)).memorySound :=
    endSweeps_memorySound _ _ _ _ _ (by simp) hr
  rw [lowerSession_eq]
  exact memorySound_of_mem _ _ (by simp) hends

theorem demoteSession_memorySound (s : State) (h : s.memorySound) : (demoteSession s).memorySound :=
  when_induct State.memorySound _ _ _ (fun _ => lowerSession_memorySound _ _ _) h

theorem applyItem_memorySound (x : SupplyItem) (s : State) (h : s.memorySound) : (applyItem x s).memorySound := by
  unfold applyItem
  split
  · exact writeSignal_memorySound _ demoteSession_memorySound _ _ _ h
  · exact writeSignal_memorySound _ demoteSession_memorySound _ _ _ h

theorem applyItems_memorySound (l : List SupplyItem) (s : State) (h : s.memorySound) :
    (applyItems l s).1.memorySound := by
  induction l generalizing s with
  | nil => exact h
  | cons x l ih => exact ih _ (applyItem_memorySound x s h)

/-! ### One delivery -/

/-- A delivery touches the source's view alone, and what an unforced entry then shows follows it: the entry is what was
written, whatever a demotion releases. -/
theorem writeSignal_entry_delivered (n : Nat) (y : Signal) (s : State) (hn : n < 128)
    (hv : y.value = (s.signals.get n).value) (hs : y.status = (s.signals.get n).status) :
    ∃ u, (writeSignal demoteSession n y.following s).signals.get n = { y.following with upd := u } := by
  by_cases hf : y.status = .forced
  · have hy : y.following = y := by simp [Signal.following, hf]
    rw [hy, writeSignal_unchanged _ _ _ _ hv hs]
    exact ⟨_, Table.get_set_same _ _ _ hn⟩
  · have hy : y.following = y.released := by simp [Signal.following, hf]
    rw [hy]
    exact writeSignal_entry_following n y.released s hn rfl

/-- An entry after a delivery that touched the source's view alone. -/
theorem Signal.shownAfter_following (x y z : Signal) (u : Byte) (hv : y.value = x.value) (hs : y.status = x.status)
    (hz : z = { y.following with upd := u }) : x.shownAfter z := by
  subst hz
  unfold Signal.shownAfter Signal.following
  rw [← hs, ← hv]
  by_cases hf : y.status = .forced
  · simp [hf]
  · simp [hf, Signal.released]

@[simp] theorem Signal.following_source (y : Signal) :
    y.following.underlying = y.underlying ∧ y.following.lastUpdate = y.lastUpdate ∧
      y.following.sourceValue = y.sourceValue ∧ y.following.sourceStatus = y.sourceStatus ∧
      y.following.staleDeadline = y.staleDeadline := by
  unfold Signal.following
  split <;> simp [Signal.released]

/-- A value delivery, as R5 judges it. -/
theorem deliverValue_entry (n : Nat) (v : Word) (s : State) (hn : n < 128) :
    (s.signals.get n).tookValue ((deliverValue n v s).signals.get n) (s.setup.signals.get n) v s.ms ∧
      (s.signals.get n).shownAfter ((deliverValue n v s).signals.get n) := by
  let x := s.signals.get n
  let u := s.setup.signals.get n
  let inRange := decide (u.rangeMin ≤ v.toInt ∧ v.toInt ≤ u.rangeMax)
  let y : Signal := { x.delivered u.staleLimit s.ms with
    underlying := v
    sourceValue := if inRange then v else x.sourceValue
    sourceStatus := if inRange then .valid else .fault }
  obtain ⟨b, hb⟩ := writeSignal_entry_delivered n y s hn rfl rfl
  refine ⟨?_, Signal.shownAfter_following x y _ b rfl rfl hb⟩
  change x.tookValue ((writeSignal demoteSession n y.following s).signals.get n) u v s.ms
  rw [hb]
  refine ⟨by simp [y], by simp [y, Signal.delivered], by simp [y, Signal.delivered], fun h1 h2 => ?_, fun h => ?_⟩
  · simp [y, inRange, h1, h2]
  · have : ¬(u.rangeMin ≤ v.toInt ∧ v.toInt ≤ u.rangeMax) := by omega
    simp [y, inRange, this]

/-- A fault declaration, as R6 judges it. -/
theorem declareFault_entry (n : Nat) (substitute : Option Word) (s : State) (hn : n < 128) :
    (s.signals.get n).tookFault ((declareFault n substitute s).signals.get n) (s.setup.signals.get n) substitute s.ms ∧
      (s.signals.get n).shownAfter ((declareFault n substitute s).signals.get n) := by
  let x := s.signals.get n
  let u := s.setup.signals.get n
  let y : Signal := { x.delivered u.staleLimit s.ms with
    underlying := substitute.getD x.underlying
    sourceValue := substitute.getD x.sourceValue
    sourceStatus := .fault }
  obtain ⟨b, hb⟩ := writeSignal_entry_delivered n y s hn rfl rfl
  refine ⟨?_, Signal.shownAfter_following x y _ b rfl rfl hb⟩
  change x.tookFault ((writeSignal demoteSession n y.following s).signals.get n) u substitute s.ms
  rw [hb]
  refine ⟨by simp [y], by simp [y, Signal.delivered], by simp [y, Signal.delivered], fun v hv => ?_, fun h => ?_⟩
  · simp [y, hv]
  · simp [y, h]

/-! ### Deliveries to other signals -/

/-- The source's view of a signal is the same. -/
def Signal.sameSource (x y : Signal) : Prop :=
  y.underlying = x.underlying ∧ y.lastUpdate = x.lastUpdate ∧ y.sourceValue = x.sourceValue ∧
    y.sourceStatus = x.sourceStatus ∧ y.staleDeadline = x.staleDeadline

/-- From `s` to `t` the source's view of signal `n` stays, and outside the forced set its entry too. -/
def State.spares (s t : State) (n : Nat) : Prop :=
  t.now = s.now ∧ t.run = s.run ∧ t.setup = s.setup ∧ (∀ k ∈ t.shop.forced, k ∈ s.shop.forced) ∧
    (s.signals.get n).sameSource (t.signals.get n) ∧ (n ∉ s.shop.forced → t.signals.get n = s.signals.get n)

theorem State.spares_refl (s : State) (n : Nat) : s.spares s n :=
  ⟨rfl, rfl, rfl, fun _ h => h, ⟨rfl, rfl, rfl, rfl, rfl⟩, fun _ => rfl⟩

theorem State.spares_trans (s t u : State) (n : Nat) (h : s.spares t n) (k : t.spares u n) : s.spares u n := by
  obtain ⟨h1, h2, h3, hf, ⟨a1, a2, a3, a4, a5⟩, hg⟩ := h
  obtain ⟨k1, k2, k3, kf, ⟨b1, b2, b3, b4, b5⟩, kg⟩ := k
  exact ⟨k1.trans h1, k2.trans h2, k3.trans h3, fun m hm => hf m (kf m hm),
    ⟨b1.trans a1, b2.trans a2, b3.trans a3, b4.trans a4, b5.trans a5⟩,
    fun hn => (kg fun hk => hn (hf n hk)).trans (hg hn)⟩

/-- The forced set only shrinks in a write of a signal. -/
theorem writeSignal_forced (n : Nat) (x : Signal) (s : State) :
    ∀ k ∈ (writeSignal demoteSession n x s).shop.forced, k ∈ s.shop.forced := by
  intro k hk
  obtain ⟨-, hf, -⟩ | ⟨-, -, hf, -⟩ := writeSignal_keptOrDemoted n x s
  · rw [hf] at hk
    simpa using hk
  · simp [hf] at hk

/-- A write of another signal's entry spares an entry. -/
theorem writeSignal_spares (m n : Nat) (x : Signal) (s : State) (hn : n < 128) (h : n ≠ m) :
    s.spares (writeSignal demoteSession m x s) n := by
  refine ⟨by simp, by simp, by simp, writeSignal_forced m x s, ?_, writeSignal_entry_other m n x s h⟩
  have hput : (putSignal m x s).signals.get n = s.signals.get n := Table.get_set_other _ _ _ _ h
  obtain ⟨-, -, hg⟩ | ⟨-, -, -, hin, hout⟩ := writeSignal_keptOrDemoted m x s
  · rw [hg, hput]
    exact ⟨rfl, rfl, rfl, rfl, rfl⟩
  · by_cases hf : n ∈ (putSignal m x s).shop.forced
    · obtain ⟨u, hu⟩ := hin n hf hn
      rw [hu, hput]
      exact ⟨rfl, rfl, rfl, rfl, rfl⟩
    · rw [hout n hf, hput]
      exact ⟨rfl, rfl, rfl, rfl, rfl⟩

/-- What a delivery to a signal took from its source stands through deliveries to others, before it and after it. -/
theorem Signal.tookValue_of_sameSource (x x' y' y : Signal) (u : SignalSetup) (v : Word) (ms : Nat)
    (hx : x.sameSource x') (h : x'.tookValue y' u v ms) (hy : y'.sameSource y) : x.tookValue y u v ms := by
  obtain ⟨-, -, hsv, -, -⟩ := hx
  obtain ⟨b1, b2, b3, b4, b5⟩ := hy
  obtain ⟨t1, t2, t3, t4, t5⟩ := h
  exact ⟨b1.trans t1, b2.trans t2, b5.trans t3,
    fun h1 h2 => ⟨b3.trans (t4 h1 h2).1, b4.trans (t4 h1 h2).2⟩,
    fun h => ⟨(b3.trans (t5 h).1).trans hsv, b4.trans (t5 h).2⟩⟩

theorem Signal.tookFault_of_sameSource (x x' y' y : Signal) (u : SignalSetup) (substitute : Option Word) (ms : Nat)
    (hx : x.sameSource x') (h : x'.tookFault y' u substitute ms) (hy : y'.sameSource y) :
    x.tookFault y u substitute ms := by
  obtain ⟨hu, -, hsv, -, -⟩ := hx
  obtain ⟨b1, b2, b3, b4, b5⟩ := hy
  obtain ⟨t1, t2, t3, t4, t5⟩ := h
  exact ⟨b4.trans t1, b2.trans t2, b5.trans t3,
    fun v hv => ⟨b3.trans (t4 v hv).1, b1.trans (t4 v hv).2⟩,
    fun h => ⟨(b3.trans (t5 h).1).trans hsv, (b1.trans (t5 h).2).trans hu⟩⟩

/-- A delivery in a row of deliveries to other signals, `t` before it and `w` after it. -/
theorem tookValue_among (n : Nat) (v : Word) (s t w : State) (hn : n < 128) (hs : s.spares t n)
    (hw : (deliverValue n v t).spares w n) :
    (s.signals.get n).tookValue (w.signals.get n) (s.setup.signals.get n) v s.ms ∧
      (n ∉ s.shop.forced → (s.signals.get n).shownAfter (w.signals.get n)) := by
  obtain ⟨hnow, -, hset, hf, hsrc, hget⟩ := hs
  obtain ⟨-, -, -, -, hsrc', hget'⟩ := hw
  obtain ⟨htook, hshown⟩ := deliverValue_entry n v t hn
  have hms : t.ms = s.ms := by simp [State.ms, hnow]
  rw [hset, hms] at htook
  refine ⟨Signal.tookValue_of_sameSource _ _ _ _ _ _ _ hsrc htook hsrc', fun hnf => ?_⟩
  rw [hget hnf] at hshown
  rw [hget' fun h => hnf (hf n (writeSignal_forced _ _ _ n h))]
  exact hshown

theorem tookFault_among (n : Nat) (substitute : Option Word) (s t w : State) (hn : n < 128) (hs : s.spares t n)
    (hw : (declareFault n substitute t).spares w n) :
    (s.signals.get n).tookFault (w.signals.get n) (s.setup.signals.get n) substitute s.ms ∧
      (n ∉ s.shop.forced → (s.signals.get n).shownAfter (w.signals.get n)) := by
  obtain ⟨hnow, -, hset, hf, hsrc, hget⟩ := hs
  obtain ⟨-, -, -, -, hsrc', hget'⟩ := hw
  obtain ⟨htook, hshown⟩ := declareFault_entry n substitute t hn
  have hms : t.ms = s.ms := by simp [State.ms, hnow]
  rw [hset, hms] at htook
  refine ⟨Signal.tookFault_of_sameSource _ _ _ _ _ _ _ hsrc htook hsrc', fun hnf => ?_⟩
  rw [hget hnf] at hshown
  rw [hget' fun h => hnf (hf n (writeSignal_forced _ _ _ n h))]
  exact hshown

end Sys2Proof.Machine
end

section
/-! PROOFS. O21: the deliveries of SUPPLY_SIGNAL, of a sample and of a fetch. -/

namespace Sys2Proof.Machine

/-! ### The items of SUPPLY_SIGNAL (R10, R11) -/

/-- A two-byte field is its two bytes, low byte first (R185). -/
theorem wordOfBytes_eq (low high : Byte) : BitVec.ofNat 16 (low.toNat + 256 * high.toNat) = wordOfBytes low high := by
  apply BitVec.eq_of_toNat_eq
  have := low.isLt
  have := high.isLt
  rw [wordOfBytes, BitVec.toNat_append, ← Nat.shiftLeft_add_eq_or_of_lt low.isLt, BitVec.toNat_ofNat,
    Nat.shiftLeft_eq]
  omega

theorem State.supplyItem_eq (s : State) (k j : Nat) :
    s.supplyItem k j =
      { signal := (Memory.read s.mem (slotBase k + 9 + 4 * j + 0)).toNat
        mode := (Memory.read s.mem (slotBase k + 9 + 4 * j + 1)).toNat
        value := wordOfBytes (Memory.read s.mem (slotBase k + 9 + 4 * j + 2))
          (Memory.read s.mem (slotBase k + 9 + 4 * j + 3)) } := by
  have h0 : slotBase k + 8 + (1 + 4 * j) = slotBase k + 9 + 4 * j + 0 := by omega
  have h1 : slotBase k + 8 + (2 + 4 * j) = slotBase k + 9 + 4 * j + 1 := by omega
  have h2 : slotBase k + 8 + (3 + 4 * j) = slotBase k + 9 + 4 * j + 2 := by omega
  simp only [State.supplyItem, State.slotByte, State.slotWord, Memory.u16, Memory.u8, h0, h1, h2, wordOfBytes_eq]

theorem applyItems_append (a b : List SupplyItem) (s : State) :
    applyItems (a ++ b) s =
      ((applyItems b (applyItems a s).1).1, (applyItems a s).2 ++ (applyItems b (applyItems a s).1).2) := by
  induction a generalizing s with
  | nil => rfl
  | cons x a ih => simp [applyItems, ih]

@[simp] theorem applyItems_length (l : List SupplyItem) (s : State) : (applyItems l s).2.length = l.length := by
  induction l generalizing s with
  | nil => rfl
  | cons x l ih => simp [applyItems, ih]

theorem applyItem_spares (x : SupplyItem) (s : State) (n : Nat) (hn : n < 128) (h : n ≠ x.signal) :
    s.spares (applyItem x s) n := by
  unfold applyItem
  split
  · exact writeSignal_spares _ n _ s hn h
  · exact writeSignal_spares _ n _ s hn h

theorem applyItems_spares (l : List SupplyItem) (s : State) (n : Nat) (hn : n < 128)
    (h : ∀ x ∈ l, x.signal ≠ n) : s.spares (applyItems l s).1 n := by
  induction l generalizing s with
  | nil => exact s.spares_refl n
  | cons x l ih =>
    exact State.spares_trans _ _ _ n (applyItem_spares x s n hn (Ne.symm (h x (List.mem_cons_self ..))))
      (ih _ fun y hy => h y (List.mem_cons_of_mem _ hy))

/-- Items leave what stands outside the forced set and is not named. -/
theorem applyItems_entry_other (l : List SupplyItem) (s : State) (n : Nat) (hf : n ∉ s.shop.forced)
    (h : ∀ x ∈ l, x.signal ≠ n) : (applyItems l s).1.signals.get n = s.signals.get n := by
  induction l generalizing s with
  | nil => rfl
  | cons x l ih =>
    have hne : n ≠ x.signal := Ne.symm (h x (List.mem_cons_self ..))
    have step : (applyItem x s).signals.get n = s.signals.get n ∧ n ∉ (applyItem x s).shop.forced := by
      unfold applyItem
      split
      · exact ⟨writeSignal_entry_other _ n _ s hne hf, fun hk => hf (writeSignal_forced _ _ s n hk)⟩
      · exact ⟨writeSignal_entry_other _ n _ s hne hf, fun hk => hf (writeSignal_forced _ _ s n hk)⟩
    exact (ih _ step.2 fun y hy => h y (List.mem_cons_of_mem _ hy)).trans step.1

/-- The source status that an item leaves (R11). -/
theorem applyItem_status (x : SupplyItem) (s : State) (hn : x.signal < 128) :
    ((applyItem x s).signals.get x.signal).sourceStatus =
      if x.mode = 0 ∧ (s.setup.signals.get x.signal).rangeMin ≤ x.value.toInt ∧
        x.value.toInt ≤ (s.setup.signals.get x.signal).rangeMax then .valid else .fault := by
  unfold applyItem
  by_cases hm : x.mode = 0
  · obtain ⟨-, -, -, hin, hout⟩ := (deliverValue_entry x.signal x.value s hn).1
    rw [if_pos hm]
    split
    · next h => exact (hin h.2.1 h.2.2).2
    · next h => exact (hout (by simp only [hm, true_and, not_and] at h; omega)).2
  · rw [if_neg hm, if_neg fun h => hm h.1]
    exact (declareFault_entry x.signal none s hn).1.1

/-- An item in a row of items. -/
structure SupplyRow (l : List SupplyItem) (j : Nat) (x : SupplyItem) (before after : List SupplyItem) : Prop where
  split : l = before ++ x :: after
  place : before.length = j

theorem supplyRow_of_lt (s : State) (k count j : Nat) (h : j < count) :
    ∃ before after, SupplyRow ((List.range count).map (s.supplyItem k)) j (s.supplyItem k j) before after ∧
      (∀ y ∈ before ++ after, ∃ i, i < count ∧ i ≠ j ∧ y = s.supplyItem k i) := by
  refine ⟨(List.range j).map (s.supplyItem k),
    ((List.range (count - j - 1)).map fun i => s.supplyItem k (j + 1 + i)), ⟨?_, by simp⟩, ?_⟩
  · have hrange : List.range count = List.range j ++ j :: (List.range (count - j - 1)).map (j + 1 + ·) := by
      conv => lhs; rw [show count = j + (1 + (count - j - 1)) by omega, List.range_add, List.range_add]
      simp [Function.comp_def, Nat.add_assoc]
    rw [hrange]
    simp
  · intro y hy
    simp only [List.mem_append, List.mem_map, List.mem_range] at hy
    rcases hy with ⟨i, hi, rfl⟩ | ⟨i, hi, rfl⟩
    · exact ⟨i, by omega, by omega, rfl⟩
    · exact ⟨j + 1 + i, by omega, by omega, rfl⟩

/-- What item `j` of a row answers and leaves. -/
theorem applyItems_row (l before after : List SupplyItem) (x : SupplyItem) (j : Nat) (s : State)
    (h : SupplyRow l j x before after) (hn : x.signal < 128) :
    (applyItems l s).2.getD j 0#8 =
        (if x.mode = 0 ∧ (s.setup.signals.get x.signal).rangeMin ≤ x.value.toInt ∧
          x.value.toInt ≤ (s.setup.signals.get x.signal).rangeMax then 2#8 else 4#8) ∧
      ((∀ y ∈ before ++ after, y.signal ≠ x.signal) →
        (x.mode = 0 → (s.signals.get x.signal).tookValue ((applyItems l s).1.signals.get x.signal)
          (s.setup.signals.get x.signal) x.value s.ms) ∧
        (x.mode ≠ 0 → (s.signals.get x.signal).tookFault ((applyItems l s).1.signals.get x.signal)
          (s.setup.signals.get x.signal) none s.ms) ∧
        (x.signal ∉ s.shop.forced →
          (s.signals.get x.signal).shownAfter ((applyItems l s).1.signals.get x.signal))) := by
  obtain ⟨rfl, rfl⟩ := h
  let t := (applyItems before s).1
  rw [applyItems_append]
  constructor
  · have hbody : ((applyItems before s).2 ++ (applyItems (x :: after) t).2).getD before.length 0#8 =
        byteOf ((applyItem x t).signals.get x.signal).sourceStatus.code := by
      simp [applyItems, List.getD_eq_getElem?_getD]
    have hset : t.setup = s.setup := by simp [t]
    change ((applyItems before s).2 ++ (applyItems (x :: after) t).2).getD before.length 0#8 = _
    rw [hbody, applyItem_status x t hn, hset]
    split <;> rfl
  · intro hother
    have hs : s.spares t x.signal :=
      applyItems_spares before s _ hn fun y hy => hother y (List.mem_append_left _ hy)
    have hw : (applyItem x t).spares (applyItems (x :: after) t).1 x.signal :=
      applyItems_spares after _ _ hn fun y hy => hother y (List.mem_append_right _ hy)
    by_cases hm : x.mode = 0
    · rw [applyItem, if_pos hm] at hw
      obtain ⟨htook, hshown⟩ := tookValue_among x.signal x.value s t _ hn hs hw
      exact ⟨fun _ => htook, fun h => absurd hm h, hshown⟩
    · rw [applyItem, if_neg hm] at hw
      obtain ⟨htook, hshown⟩ := tookFault_among x.signal none s t _ hn hs hw
      exact ⟨fun h => absurd h hm, fun _ => htook, hshown⟩

/-- In RUN a SUPPLY_SIGNAL request with a bad count is refused (R10). -/
theorem requestSupplySignal_badCount (k : Nat) (s : State) (hr : s.run.state = .run)
    (h : s.slotByte k 0 < 1 ∨ 13 < s.slotByte k 0) : requestSupplySignal k s = refuseRequest k .badParameter 0 s := by
  unfold requestSupplySignal
  rw [if_neg (by simp [State.inRun, hr]), if_pos (by simpa using h)]

theorem requestSupplySignal_badItem (k j : Nat) (s : State) (hr : s.run.state = .run)
    (h : ¬(s.slotByte k 0 < 1 ∨ 13 < s.slotByte k 0)) (hj : (s.supplyItems k).findIdx? s.setup.badItem = some j) :
    requestSupplySignal k s = refuseRequest k .badParameter (j + 1) s := by
  unfold requestSupplySignal
  rw [if_neg (by simp [State.inRun, hr]), if_neg (by simpa using h), hj]

theorem requestSupplySignal_accepted (k : Nat) (s : State) (hr : s.run.state = .run)
    (h : ¬(s.slotByte k 0 < 1 ∨ 13 < s.slotByte k 0)) (hj : (s.supplyItems k).findIdx? s.setup.badItem = none) :
    requestSupplySignal k s =
      slotDone k (applyItems (s.supplyItems k) s).2 (applyItems (s.supplyItems k) s).1 := by
  unfold requestSupplySignal
  rw [if_neg (by simp [State.inRun, hr]), if_neg (by simpa using h), hj]

/-- The bytes of a body after padding. -/
theorem padTo_getD (n j : Nat) (l : List Byte) (hj : j < l.length) (hn : l.length ≤ n) :
    (padTo n l).getD j 0#8 = l.getD j 0#8 := by
  rw [padTo, List.getD_eq_getElem?_getD, List.getElem?_take_of_lt (by omega), List.getElem?_append_left hj,
    List.getD_eq_getElem?_getD]

/-- R10's bad items. -/
theorem Setup.badItem_iff (u : Setup) (x : SupplyItem) :
    u.badItem x = true ↔ 127 < x.signal ∨ (u.signals.get x.signal).kind ≠ .supplied ∨ 1 < x.mode := by
  simp [Setup.badItem, or_assoc]

/-- The first bad item of a row of items. -/
theorem findIdx?_supplyItems (s : State) (k count j : Nat) (hj : j < count)
    (hbad : s.setup.badItem (s.supplyItem k j) = true)
    (hfirst : ∀ i, i < j → s.setup.badItem (s.supplyItem k i) = false) :
    ((List.range count).map (s.supplyItem k)).findIdx? s.setup.badItem = some j := by
  rw [List.findIdx?_eq_some_iff_getElem]
  refine ⟨by simpa using hj, by simpa using hbad, fun i hi => ?_⟩
  simpa using hfirst i hi

theorem findIdx?_supplyItems_none (s : State) (k count : Nat)
    (h : ∀ j, j < count → s.setup.badItem (s.supplyItem k j) = false) :
    ((List.range count).map (s.supplyItem k)).findIdx? s.setup.badItem = none := by
  rw [List.findIdx?_eq_none_iff]
  intro x hx
  simp only [List.mem_map, List.mem_range] at hx
  obtain ⟨j, hj, rfl⟩ := hx
  exact h j hj

/-! ### The delivery of a sample (R26) -/

theorem sample_eq (c reading : Nat) (s : State) (due : Nat) (hr : s.run.state = .run)
    (hc : (s.sense.channels.get c).check = none) (hd : (s.sense.channels.get c).sampleTimer = some due) :
    sample c reading s = sampleTaken c ((advanceSample c due (s.reach due)).sampleOf c reading)
      (advanceSample c due (s.reach due)) := by
  have hdue : s.sampleDue c = some due := by simp [State.sampleDue, State.inRun, hr, hc, hd]
  rw [sample, hdue, onTimer_some]

/-- What a sample leaves in the signals and in its channel is what its delivery leaves. -/
theorem sampleTaken_signals (c : Nat) (r : SenseChannel × Bool) (s : State) :
    (sampleTaken c r s).signals = (deliverChannel c r.1 (writeChannel c r.1 s)).signals ∧
      (sampleTaken c r s).sense = (writeChannel c r.1 s).sense := by
  simp [sampleTaken]

theorem writeChannel_entry (c : Nat) (x : SenseChannel) (s : State) (hc : c < 48) :
    ∃ u, (writeChannel c x s).sense.channels.get c = { x with upd := u } := by
  refine ⟨bump (s.sense.channels.get c).upd, ?_⟩
  have : (writeChannel c x s).sense = (putChannel c x s).sense := by simp [writeChannel]
  rw [this]
  exact Table.get_set_same _ _ _ hc

theorem signalOfChannel_lt (s : State) (c n : Nat) (h : s.signalOfChannel c = some n) : n < 128 := by
  simpa using List.mem_of_find?_eq_some h

/-- A channel delivers its logical value, or in fault a fault declaration, once it has settled (R26). -/
theorem deliverChannel_entry (c : Nat) (x : SenseChannel) (s : State) :
    (∀ m, m ∉ s.shop.forced → s.signalOfChannel c ≠ some m →
      (deliverChannel c x s).signals.get m = s.signals.get m) ∧
    (∀ n, s.signalOfChannel c = some n →
      (x.settled = false → (deliverChannel c x s).signals = s.signals) ∧
      (x.settled = true → x.faultClass = .none →
        (s.signals.get n).tookValue ((deliverChannel c x s).signals.get n) (s.setup.signals.get n) x.logical s.ms ∧
          (s.signals.get n).shownAfter ((deliverChannel c x s).signals.get n)) ∧
      (x.settled = true → x.faultClass ≠ .none →
        (s.signals.get n).tookFault ((deliverChannel c x s).signals.get n) (s.setup.signals.get n)
            (s.setup.sense.get c).substitution.value s.ms ∧
          (s.signals.get n).shownAfter ((deliverChannel c x s).signals.get n))) := by
  cases hfeed : s.signalOfChannel c with
  | none =>
    have : deliverChannel c x s = s := by simp [deliverChannel, hfeed]
    rw [this]
    exact ⟨fun _ _ _ => rfl, fun _ h => by cases h⟩
  | some n =>
    have heq : deliverChannel c x s =
        if x.settled then
          (if x.faultClass = .none then deliverValue n x.logical s
           else declareFault n (s.setup.sense.get c).substitution.value s)
        else s := by simp [deliverChannel, hfeed]
    rw [heq]
    refine ⟨fun m hf hm => ?_, fun k hk => ?_⟩
    · have hne : m ≠ n := fun e => hm (e ▸ rfl)
      split
      · split
        · exact writeSignal_entry_other n m _ s hne hf
        · exact writeSignal_entry_other n m _ s hne hf
      · rfl
    · obtain rfl : n = k := Option.some.inj hk
      have hn := signalOfChannel_lt s c n hfeed
      refine ⟨fun h => by simp [h], fun h hc => ?_, fun h hc => ?_⟩
      · rw [if_pos h, if_pos hc]
        exact deliverValue_entry n x.logical s hn
      · rw [if_pos h, if_neg hc]
        exact declareFault_entry n _ s hn

/-! ### The words of a fetch (R40, R61) -/

/-- The words of a list of characters, low character first. -/
theorem wordsOf_getD (l : List Byte) (i : Nat) (h : 2 * i + 1 < l.length) :
    (wordsOf l).getD i 0#16 = wordOfBytes (l.getD (2 * i) 0#8) (l.getD (2 * i + 1) 0#8) := by
  induction i generalizing l with
  | zero =>
    match l, h with
    | low :: high :: rest, _ => rfl
  | succ i ih =>
    match l, h with
    | low :: high :: rest, h =>
      have := ih rest (by simp at h; omega)
      rw [show 2 * (i + 1) = 2 * i + 1 + 1 by omega]
      simpa [wordsOf] using this

theorem replyWords_getD (length i : Nat) (received : List Byte) (hi : i < length)
    (hl : received.length = 3 + 2 * length) :
    (replyWords length received).getD i 0#16 =
      wordOfBytes (received.getD (2 + 2 * i) 0#8) (received.getD (3 + 2 * i) 0#8) := by
  have hget (j : Nat) (hj : j < 2 * length) :
      ((received.drop 2).take (2 * length)).getD j 0#8 = received.getD (2 + j) 0#8 := by
    rw [List.getD_eq_getElem?_getD, List.getElem?_take_of_lt hj, List.getElem?_drop, List.getD_eq_getElem?_getD]
  rw [replyWords, wordsOf_getD _ _ (by simp [hl]; omega), hget _ (by omega), hget _ (by omega),
    show 2 + (2 * i + 1) = 3 + 2 * i by omega]

/-- Out of RUN no word is delivered (R13). -/
theorem deliverWords_outOfRun (e : Nat) (words : List Word) (s : State) (h : s.run.state ≠ .run) :
    deliverWords e words s = s := by
  refine forEach_induct (· = s) _ _ _ (fun i _ t ht => ?_) rfl
  simp [ht, State.inRun, h]

/-- The words of a fetch go to the entry's signals, one each (R61). -/
theorem deliverWords_entry (e i : Nat) (words : List Word) (s : State) (hr : s.run.state = .run)
    (hi : i < (s.setup.schedule.get e).count) (hn : (s.setup.schedule.get e).first + i < 128) :
    (s.signals.get ((s.setup.schedule.get e).first + i)).tookValue
        ((deliverWords e words s).signals.get ((s.setup.schedule.get e).first + i))
        (s.setup.signals.get ((s.setup.schedule.get e).first + i)) (words.getD i 0#16) s.ms ∧
      ((s.setup.schedule.get e).first + i ∉ s.shop.forced →
        (s.signals.get ((s.setup.schedule.get e).first + i)).shownAfter
          ((deliverWords e words s).signals.get ((s.setup.schedule.get e).first + i))) := by
  let first := (s.setup.schedule.get e).first
  let n := first + i
  let round (j : Nat) (t : State) : State := when t.inRun (deliverValue (first + j) (words.getD j 0#16)) t
  have hround (j : Nat) (hj : j ≠ i) (t : State) : t.spares (round j t) n := by
    unfold round
    cases t.inRun with
    | false => exact t.spares_refl n
    | true => exact writeSignal_spares (first + j) n _ t hn (by omega)
  let P (t : State) : Prop := s.spares t n
  let Q (w : State) : Prop := ∃ t, s.spares t n ∧ (deliverValue n (words.getD i 0#16) t).spares w n
  have hQ : Q (deliverWords e words s) := by
    refine forEach_reaches P Q (List.range (s.setup.schedule.get e).count) round s i (List.mem_range.2 hi)
      List.nodup_range (s.spares_refl n) (fun j _ hj t ht => s.spares_trans t _ n ht (hround j hj t))
      (fun t ht => ⟨t, ht, ?_⟩) (fun j _ hj w ⟨t, ht, hw⟩ => ⟨t, ht, State.spares_trans _ _ _ n hw (hround j hj w)⟩)
    have hin : t.inRun = true := by
      have hrun : t.run = s.run := ht.2.1
      simp [State.inRun, hrun, hr]
    simp only [round, hin, when_true]
    exact State.spares_refl _ n
  obtain ⟨t, ht, hw⟩ := hQ
  exact tookValue_among n (words.getD i 0#16) s t _ hn ht hw

/-! ### The end of an attempt (R44, R61) -/

/-- An end delivers only where it is that of an OK fetch of an entry, or an OK probe, in RUN (R4, R13, R61). -/
theorem deliverEnd_none (t : Transaction) (o : LineOutcome) (words : List Word) (s : State)
    (h : s.run.state ≠ .run ∨ t.purpose = .oneShot ∨ o ≠ .ok ∨ (t.dir = .deliver ∧ ∃ e, t.purpose = .entry e)) :
    deliverEnd t o words s = s := by
  unfold deliverEnd
  split
  · next e he =>
    refine when_induct (· = s) _ _ s (fun hc _ => deliverWords_outOfRun e words s ?_) rfl
    simp only [Bool.and_eq_true, decide_eq_true_eq] at hc
    simpa [he, hc.1, hc.2] using h
  · next e he =>
    refine when_induct (· = s) _ _ s (fun hc _ => deliverWords_outOfRun e words s ?_) rfl
    simp only [decide_eq_true_eq] at hc
    simpa [he, hc] using h
  · rfl

/-- The signals after an attempt that ends are those after its transaction's delivery, or with an outcome that is not
good perhaps those before it. -/
theorem attemptEnded_signals (t : Transaction) (c : Channel) (o : LineOutcome) (received : List Byte) (s : State) :
    ∃ u : State, u.signals = s.signals ∧ u.shop = s.shop ∧ u.run = s.run ∧ u.now = s.now ∧ u.setup = s.setup ∧
      ((o ≠ .ok ∧ (attemptEnded t c o received s).signals = s.signals) ∨
        (attemptEnded t c o received s).signals = (deliverEnd t o (replyHandover t o received).2 u).signals) := by
  have hgood : o = .ok → o.good = true := by rintro rfl; rfl
  cases hp : t.purpose with
  | probe e =>
    refine ⟨moveProbeHealth c o (s.setLine { s.line with transaction := none }), by simp, by simp, by simp, by simp,
      by simp, .inr ?_⟩
    simp [attemptEnded, hp, endProbe]
  | entry e =>
    refine ⟨moveHealth ((c, o) :: t.made) (s.setLine { s.line with transaction := none }), by simp, by simp, by simp,
      by simp, by simp, ?_⟩
    by_cases hend : (o.good || t.retries ≤ t.made.length || !s.inRun) = true
    · exact .inr (by simp [attemptEnded, hp, endTransaction, hend, deliverEnd])
    · exact .inl ⟨fun ho => hend (by simp [hgood ho]), by simp [attemptEnded, hp, hend]⟩
  | oneShot =>
    refine ⟨s, rfl, rfl, rfl, rfl, rfl, .inr ?_⟩
    rw [deliverEnd_none t o _ s (.inr (.inl hp))]
    by_cases hend : (o.good || t.retries ≤ t.made.length || !s.inRun) = true
    · simp [attemptEnded, hp, endTransaction, hend, deliverEnd]
    · simp [attemptEnded, hp, hend]

/-- The attempt as its last character leaves it. -/
def Attempt.completed (a : Attempt) (gap : Nat) (data : Byte) : Attempt :=
  { a with received := a.received ++ [data], lastEnd := a.lastEnd + gap + 44 }

/-- The last character of a reply ends the attempt with the judgement of R42. -/
theorem lastCharacter_exec (s : State) (a : Attempt) (x : Transaction) (gap : Nat) (data : Byte)
    (h : s.completes a x gap data) :
    exec (a.lastCharacter gap data) s =
      .next (endAttempt (a.completed gap data) (judgeReply x.station (a.received ++ [data]))
        (s.reach (a.lastEnd + gap + 44))) := by
  obtain ⟨hphase, htr, hnow, hrec, hgap, hwindow, hcomplete⟩ := h
  have hempty : a.received.isEmpty = false := List.isEmpty_eq_false_iff.2 hrec
  have hbegins : s.characterBegins a gap = a.lastEnd + gap := by
    unfold State.characterBegins
    omega
  have hlistens : a.listens a.channel gap = true := by simp [Attempt.listens]
  have harrives : replyCharacterArrives a.channel gap data false true s =
      judgeCharacter a (a.lastEnd + gap + 44) data false true s := by
    simp only [replyCharacterArrives, hphase, hlistens, Int.toNat_natCast, hbegins, hempty, Config.replyGap,
      Config.lineChar]
    rw [if_neg (by simp), if_neg (by simp), if_neg (by simp; omega), if_neg (by omega)]
  change Host.Outcome.next (replyCharacterArrives a.channel gap data false true s) = _
  rw [harrives]
  simp only [judgeCharacter, hempty, htr, hcomplete]
  rfl

/-- The reply that an OK fetch has completed (R40). -/
theorem replyComplete_length (station length : Nat) (received : List Byte)
    (h : replyComplete .fetch length received = true) (ho : judgeReply station received = .ok) :
    received.length = 3 + 2 * length := by
  have hflags : (StationFlags.ofByte (received.getD 1 0#8)).busy = false ∧
      (StationFlags.ofByte (received.getD 1 0#8)).blockRefused = false := by
    simp only [judgeReply] at ho
    split_ifs at ho with hsum haddress hrefused hbusy
    exact ⟨by simpa using hbusy, by simpa using hrefused⟩
  simp only [replyComplete, replyLength, hflags, Bool.and_eq_true, decide_eq_true_eq] at h
  simpa using h.2

/-- The signals after the last character of a reply. -/
theorem endAttempt_signals (b : Attempt) (o : LineOutcome) (x : Transaction) (s : State)
    (h : s.line.transaction = some x) :
    ∃ u : State, u.signals = s.signals ∧ u.shop = s.shop ∧ u.run = s.run ∧ u.now = s.now ∧ u.setup = s.setup ∧
      ((o ≠ .ok ∧ (endAttempt b o s).signals = s.signals) ∨
        (endAttempt b o s).signals = (deliverEnd x o (replyHandover x o b.received).2 u).signals) := by
  obtain ⟨u, hsig, hshop, hrun, hnow, hset, hend⟩ := attemptEnded_signals x b.channel o b.received
    (s.setLine { s.line with phase := .turnaround (s.now + Config.turnaround) })
  refine ⟨u, hsig, hshop, hrun, hnow, hset, ?_⟩
  have : (endAttempt b o s).signals = (attemptEnded x b.channel o b.received
      (s.setLine { s.line with phase := .turnaround (s.now + Config.turnaround) })).signals := by
    simp [endAttempt, h]
  rw [this]
  exact hend

/-- Settles O21: each delivery writes its signal's entry by R5 or R6, and what follows it spares the source's view. -/
theorem deliveriesAreJudged : Obligations.DeliveriesAreJudged := by
  refine ⟨fun k s hm _ hp hs hk hr => ?supply, fun c reading s due hr hc hd => ?sampled,
    fun s a x gap data h => ?fetched⟩
  case supply =>
    intro count item signal value bad t fails
    have hcount : s.slotByte k 0 = count := rfl
    have hitem (j : Nat) : s.supplyItem k j = ⟨signal j, (item j 1).toNat, value j⟩ := s.supplyItem_eq k j
    have hbad (j : Nat) : s.setup.badItem (s.supplyItem k j) = true ↔ bad j := by
      rw [Setup.badItem_iff, hitem]
    have htake : takeSlot k s = requestSupplySignal k s := takeSlot_of_kind k s .supplySignal (by rw [hk]; rfl)
    have hfails (detail : Nat) (hd : detail ≤ 14) (h : takeSlot k s = refuseRequest k .badParameter detail s) :
        fails detail := by
      obtain ⟨h1, h2, h3, h4, h5⟩ := visitSlot_refused k s _ detail hm hp hs h
      exact ⟨h1, h2, h3, h4.trans (wordOf_getD detail (by omega)).2, h5⟩
    refine ⟨fun h => hfails 0 (by omega) ?_, fun j h13 hj hb hfirst => hfails (j + 1) (by omega) ?_,
      fun h0 h13 hgood => ?_⟩
    · rw [htake, requestSupplySignal_badCount k s hr (by omega)]
    · have hfind := findIdx?_supplyItems s k count j hj ((hbad j).2 hb)
        fun i hi => by simpa using mt (hbad i).1 (hfirst i hi)
      rw [htake, requestSupplySignal_badItem k j s hr (by omega) hfind]
    · have hfind := findIdx?_supplyItems_none s k count fun j hj => by simpa using mt (hbad j).1 (hgood j hj)
      rw [requestSupplySignal_accepted k s hr (by omega) hfind] at htake
      let l := (List.range count).map (s.supplyItem k)
      have ht : t = sweepOn k (slotDone k (applyItems l s).2 (applyItems l s).1) :=
        (visitSlot_posted k s hp hs).trans (congrArg (sweepOn k) htake)
      have hsound : (applyItems l s).1.memorySound := applyItems_memorySound l s hm
      have hmem : t.mem = (finishSlot k .done .ok 0 (applyItems l s).2 (applyItems l s).1).mem := by simp [ht]
      have hsig : t.signals = (applyItems l s).1.signals := by simp [ht]
      refine ⟨?_, ?_, ?_, fun n hn hother => ?_, fun j hj => ?_⟩
      · rw [slotState_of_mem _ _ k hmem, finishSlot_slotState _ _ _ _ _ _ hsound]
      · rw [hmem, finishSlot_read _ _ _ _ _ _ hsound 3 (by decide)]
        rfl
      · rw [ht]
        exact State.changesOnly_of _ _ _ (by simp [signalParts])
      · rw [hsig]
        refine applyItems_entry_other l s n hn fun x hx => ?_
        simp only [l, List.mem_map, List.mem_range] at hx
        obtain ⟨j, hj, rfl⟩ := hx
        rw [hitem]
        exact hother j hj
      · obtain ⟨before, after, hrow, hrest⟩ := supplyRow_of_lt s k count j hj
        have hn : signal j < 128 := by
          have := hgood j hj
          simp only [bad, not_or] at this
          omega
        have hrow' := applyItems_row l before after (s.supplyItem k j) j s hrow (by rw [hitem]; exact hn)
        rw [hitem j] at hrow'
        obtain ⟨hstatus, htook⟩ := hrow'
        refine ⟨?_, fun hother => ?_⟩
        · rw [hmem, show slotBase k + 8 + j = slotBase k + (8 + j) by omega,
            finishSlot_read _ _ _ _ _ _ hsound (8 + j) (by omega), if_neg (by omega), if_pos (by omega),
            show 8 + j - 8 = j by omega, padTo_getD _ _ _ (by simpa [l] using hj) (by simp [l]; omega)]
          exact hstatus
        · obtain ⟨hvalue, hfault, hshown⟩ := htook fun y hy => by
            obtain ⟨i, hi, hij, rfl⟩ := hrest y hy
            rw [hitem]
            exact hother i hi hij
          rw [hsig]
          exact ⟨hvalue, fun h => hfault (by simp [h]), hshown⟩
  case sampled =>
    let q := advanceSample c due (s.reach due)
    let r := q.sampleOf c reading.toNat
    refine ⟨sampleTaken c r q, congrArg _ (sample_eq c reading.toNat s due hr hc hd), ?_⟩
    obtain ⟨hsig, hsense⟩ := sampleTaken_signals c r q
    obtain ⟨u, hu⟩ := writeChannel_entry c r.1 q c.isLt
    obtain ⟨hother, hfeed⟩ := deliverChannel_entry c r.1 (writeChannel c r.1 q)
    have hz : (sampleTaken c r q).sense.channels.get c = { r.1 with upd := u } := by rw [hsense, hu]
    have hms : (writeChannel c r.1 q).ms = max s.now due / 1000 := by simp [q, State.ms, State.reach]
    have hchannel : (writeChannel c r.1 q).signalOfChannel c = s.signalOfChannel c := by
      simp [State.signalOfChannel, q]
    have hframe : (writeChannel c r.1 q).signals = s.signals ∧ (writeChannel c r.1 q).setup = s.setup ∧
        (writeChannel c r.1 q).shop.forced = s.shop.forced := by simp [q]
    obtain ⟨hsignals, hset, hforced⟩ := hframe
    rw [hsignals, hforced, hchannel] at hother
    rw [hsignals, hset, hchannel, hms] at hfeed
    rw [hsig]
    refine ⟨hother, fun n hn => ?_⟩
    obtain ⟨hunsettled, hvalue, hfault⟩ := hfeed n hn
    simp only [hz]
    refine ⟨hunsettled, hvalue, fun h1 h2 => ?_⟩
    obtain ⟨htook, hshown⟩ := hfault h1 h2
    refine ⟨?_, hshown⟩
    cases hsub : (s.setup.sense.get c).substitution <;> rw [hsub] at htook <;> exact htook
  case fetched =>
    refine ⟨_, lastCharacter_exec s a x gap data h, ?_⟩
    obtain ⟨-, htr, -, -, -, -, hcomplete⟩ := h
    let ends := a.lastEnd + gap + 44
    obtain ⟨u, hsig, hshop, hrun, hnow, hset, hend⟩ := endAttempt_signals (a.completed gap data)
      (judgeReply x.station (a.received ++ [data])) x (s.reach ends) htr
    constructor
    · intro hnone
      obtain ⟨-, h⟩ | h := hend
      · exact h
      · rw [h, deliverEnd_none _ _ _ _ (by rw [hrun]; exact hnone), hsig]
        rfl
    · intro e i hr hpurpose hdir hok hcount hi hn
      obtain ⟨h, -⟩ | h := hend
      · exact absurd hok h
      have hlen := replyComplete_length x.station x.length _ (hdir ▸ hcomplete) hok
      have hdeliver : deliverEnd x .ok (replyHandover x .ok (a.completed gap data).received).2 u =
          deliverWords e (replyWords x.length (a.received ++ [data])) u := by
        obtain hp | hp := hpurpose
        · simp [deliverEnd, hp, hdir, replyHandover, Attempt.completed]
        · simp [deliverEnd, hp, hdir, replyHandover, Attempt.completed]
      rw [hok] at h ⊢
      rw [hdeliver] at h
      have hset' : u.setup = s.setup := hset
      have hentry := deliverWords_entry e i (replyWords x.length (a.received ++ [data])) u (by rw [hrun]; exact hr)
        (by rw [hset']; exact hi) (by rw [hset']; exact hn)
      have hms : u.ms = (endAttempt (a.completed gap data) .ok (s.reach ends)).now / 1000 := by
        simp [State.ms, hnow]
      have hsig' : u.signals = s.signals := hsig
      rw [hset', hsig', hshop, replyWords_getD _ _ _ (by omega) hlen, hms] at hentry
      rw [h]
      exact hentry

end Sys2Proof.Machine
end

section
/-! PROOFS. O36: what a door reads, what a taking of it derives, and which commands take it. -/

namespace Sys2Proof.Machine

/-! ### Readings (R78, R79) -/

theorem doorReading_eq_none (s : State) (c : Nat) (unsafeSense : Bool) :
    s.doorReading c unsafeSense = none ↔ (s.sense.channels.get c).settled = false := by
  unfold State.doorReading
  cases h : (s.sense.channels.get c).settled with
  | false => simp [h]
  | true => cases ht : (s.sense.channels.get c).trusted <;> simp [h, ht]

theorem SenseChannel.trusted_iff (x : SenseChannel) : x.trusted = true ↔ x.faultClass = .none ∧ x.check = none := by
  simp [SenseChannel.trusted]

/-- A settled channel reads its value while it is trusted, and the value of doubt while it is not. -/
theorem doorReading_eq_some (s : State) (c : Nat) (unsafeSense b : Bool) :
    s.doorReading c unsafeSense = some b ↔ (s.sense.channels.get c).settled = true ∧
      (if (s.sense.channels.get c).trusted then decide ((s.sense.channels.get c).logical = 1#16)
       else unsafeSense) = b := by
  unfold State.doorReading
  cases h : (s.sense.channels.get c).settled with
  | false => simp [h]
  | true => cases ht : (s.sense.channels.get c).trusted <;> simp [h, ht]

theorem SenseChannel.showsOne_iff (x : SenseChannel) :
    x.showsOne ↔ x.settled = true ∧ x.trusted = true ∧ x.logical = 1#16 := by
  rw [SenseChannel.showsOne, SenseChannel.trusted_iff, and_assoc]

theorem SenseChannel.doubtful_iff (x : SenseChannel) : x.doubtful ↔ x.settled = true ∧ x.trusted = false := by
  rw [SenseChannel.doubtful, ← Bool.not_eq_true, SenseChannel.trusted_iff, not_and_or]

/-- Where the value of doubt is 0, only a channel that shows 1 reads 1. -/
theorem doorReading_safe (s : State) (c : Nat) :
    s.doorReading c false = some true ↔ (s.sense.channels.get c).showsOne := by
  rw [doorReading_eq_some, SenseChannel.showsOne_iff]
  cases (s.sense.channels.get c).trusted <;> simp

/-- Where the value of doubt is 1, a doubtful channel reads 1 too. -/
theorem doorReading_unsafe (s : State) (c : Nat) :
    s.doorReading c true = some true ↔
      (s.sense.channels.get c).showsOne ∨ (s.sense.channels.get c).doubtful := by
  rw [doorReading_eq_some, SenseChannel.showsOne_iff, SenseChannel.doubtful_iff]
  cases (s.sense.channels.get c).trusted <;> simp

theorem doorReading_safe_zero (s : State) (c : Nat) :
    s.doorReading c false = some false ↔
      ¬(s.sense.channels.get c).settled = false ∧ ¬(s.sense.channels.get c).showsOne := by
  rw [doorReading_eq_some, SenseChannel.showsOne_iff]
  cases (s.sense.channels.get c).settled <;> cases (s.sense.channels.get c).trusted <;> simp

theorem optionalReading_eq_some (s : State) (c : Nat) (unsafeSense b : Bool) :
    s.optionalReading c unsafeSense = some b ↔ c ≠ 255 ∧ s.doorReading c unsafeSense = some b := by
  unfold State.optionalReading
  split <;> simp_all

theorem rampOut_iff (s : State) (d : Nat) :
    s.rampOut d = true ↔ (s.setup.doors.get d).ramp ≠ 255 ∧
      ¬(s.sense.channels.get (s.setup.doors.get d).ramp).showsOne := by
  rw [← doorReading_safe]
  simp [State.rampOut]

theorem usableSignal_iff (s : State) (n : Nat) :
    s.usableSignal n = true ↔ n ≠ 255 ∧ ((s.signals.get n).status = .valid ∨ (s.signals.get n).status = .forced) := by
  simp [State.usableSignal, SignalStatus.usable]

/-- The value of a phase signal that names a phase (R77). -/
def Phase.number : Phase → Int
  | .idleClosed => 0
  | .opening => 1
  | .opened => 2
  | .closing => 3
  | .reversing => 4

theorem phaseOfValue_eq_some (v : Int) (p : Phase) : phaseOfValue v = some p ↔ v = p.number := by
  unfold phaseOfValue
  split_ifs <;> cases p <;> simp_all [Phase.number]

theorem phaseView_eq_some (s : State) (d : Nat) (p : Phase) :
    s.phaseView d = some p ↔ s.usableSignal (s.setup.doors.get d).phaseSignal = true ∧
      (s.signals.get (s.setup.doors.get d).phaseSignal).value.toInt = p.number := by
  rw [← phaseOfValue_eq_some]
  unfold State.phaseView
  dsimp only
  split <;> simp_all

theorem mem_channels (u : DoorSetup) (c : Nat) :
    c ∈ u.channels ↔ c = u.leaf1 ∨ (u.leaves = 2 ∧ c = u.leaf2) ∨ c = u.release ∨
      (u.lock ≠ 255 ∧ c = u.lock) ∨ (u.obstruction ≠ 255 ∧ c = u.obstruction) ∨ (u.ramp ≠ 255 ∧ c = u.ramp) := by
  by_cases h : u.leaves = 2 <;> simp [DoorSetup.channels, h, List.mem_filter]
  all_goals grind

theorem doorUnread_iff (s : State) (d : Nat) :
    s.doorUnread d = true ↔ ∃ c ∈ (s.setup.doors.get d).channels, (s.sense.channels.get c).settled = false := by
  simp [State.doorUnread, DoorSetup.configuredChannels]

theorem leavesClosed_iff (s : State) (d : Nat) :
    s.leavesClosed d = true ↔ (s.sense.channels.get (s.setup.doors.get d).leaf1).showsOne ∧
      ((s.setup.doors.get d).leaves = 2 → (s.sense.channels.get (s.setup.doors.get d).leaf2).showsOne) := by
  simp only [← doorReading_safe, State.leavesClosed, State.leafReadings]
  by_cases h : (s.setup.doors.get d).leaves = 2 <;> simp [h]

theorem obstructionActive_iff (s : State) (d : Nat) :
    s.obstructionActive d = true ↔
      ((s.setup.doors.get d).obstruction ≠ 255 ∧
        s.doorReading (s.setup.doors.get d).obstruction true = some true) ∨
      (s.usableSignal (s.setup.doors.get d).obstructionSignal = true ∧
        (s.signals.get (s.setup.doors.get d).obstructionSignal).value ≠ 0#16) := by
  simp [State.obstructionActive, State.stationObstruction, optionalReading_eq_some]

/-- A door's view is what R78 and R79 read. -/
theorem doorView_readsFrom (s : State) (d : Nat) :
    (s.doorView d).readsFrom (s.setup.doors.get d) s.sense.channels.get s.signals.get := by
  refine ⟨?_, ?_, leavesClosed_iff s d, ?_, ?_, ?_⟩
  · simp only [State.doorView, doorUnread_iff, mem_channels]
    grind
  · simp [State.doorView, doorReading_unsafe]
  · simp only [State.doorView, decide_eq_true_eq, optionalReading_eq_some, doorReading_safe_zero]
  · simp only [State.doorView, obstructionActive_iff, doorReading_unsafe, usableSignal_iff]
  · simp only [State.doorView, phaseView_eq_some, usableSignal_iff, Phase.number, and_self]

/-! ### What a taking derives (R80 to R87) -/

@[simp] theorem Door.compared_frame (x : Door) (v : DoorView) (due : Nat) :
    (x.compared v due).state = x.state ∧ (x.compared v due).proven = x.proven ∧
    (x.compared v due).viewLost = x.viewLost ∧ (x.compared v due).obstructed = x.obstructed ∧
    (x.compared v due).leaf1 = x.leaf1 ∧ (x.compared v due).leaf2 = x.leaf2 ∧ (x.compared v due).phase = x.phase ∧
    (x.compared v due).obstructions = x.obstructions ∧ (x.compared v due).lastChange = x.lastChange := by
  unfold Door.compared
  split <;> simp

theorem Door.compared_noPhase (x : Door) (v : DoorView) (due : Nat) (h : v.phase = none) :
    (x.compared v due).disagree = false ∧ (x.compared v due).agreeTimer = none := by
  simp [Door.compared, h]

theorem Door.compared_phase (x : Door) (v : DoorView) (due : Nat) (h : v.phase ≠ none) :
    (x.compared v due).disagree = x.disagree := by
  simp [Door.compared, Option.isSome_iff_ne_none.2 h]

@[simp] theorem Door.moved_frame (x : Door) (new : DoorState) (time : Time) :
    (x.moved new time).state = new ∧ (x.moved new time).disagree = x.disagree ∧
    (x.moved new time).agreeTimer = x.agreeTimer ∧
    (x.moved new time).viewLost = x.viewLost ∧ (x.moved new time).obstructed = x.obstructed ∧
    (x.moved new time).leaf1 = x.leaf1 ∧ (x.moved new time).leaf2 = x.leaf2 ∧
    (x.moved new time).phase = x.phase := by
  unfold Door.moved
  split <;> simp_all

theorem Door.moved_other (x : Door) (new : DoorState) (time : Time) (h : new ≠ x.state) :
    (x.moved new time).lastChange = time ∧
      (x.moved new time).obstructions =
        (if x.state = .closing ∧ new = .reversing then min (x.obstructions + 1) 65535 else x.obstructions) := by
  simp [Door.moved, h, saturate]

theorem Door.moved_same (x : Door) (time : Time) : x.moved x.state time = x := by simp [Door.moved]

/-- Taking proof afresh and the MOVING_OPEN latch leave the state, the comparison and all that the views give. -/
@[simp] theorem Door.reproven_frame (x : Door) (rampOut : Bool) :
    (x.reproven rampOut).proven = x.proof rampOut ∧ (x.reproven rampOut).state = x.state ∧
    (x.reproven rampOut).disagree = x.disagree ∧ (x.reproven rampOut).agreeTimer = x.agreeTimer ∧
    (x.reproven rampOut).viewLost = x.viewLost ∧ (x.reproven rampOut).obstructed = x.obstructed ∧
    (x.reproven rampOut).leaf1 = x.leaf1 ∧ (x.reproven rampOut).leaf2 = x.leaf2 ∧
    (x.reproven rampOut).phase = x.phase ∧ (x.reproven rampOut).obstructions = x.obstructions ∧
    (x.reproven rampOut).lastChange = x.lastChange := by
  unfold Door.reproven
  dsimp only
  split <;> simp_all

@[simp] theorem Door.latched_frame (x : Door) (m : Motion) :
    (x.latched m).proven = x.proven ∧ (x.latched m).state = x.state ∧ (x.latched m).disagree = x.disagree ∧
    (x.latched m).agreeTimer = x.agreeTimer ∧ (x.latched m).viewLost = x.viewLost ∧
    (x.latched m).obstructed = x.obstructed ∧ (x.latched m).leaf1 = x.leaf1 ∧ (x.latched m).leaf2 = x.leaf2 ∧
    (x.latched m).phase = x.phase ∧ (x.latched m).obstructions = x.obstructions ∧
    (x.latched m).lastChange = x.lastChange := by
  unfold Door.latched
  split <;> [skip; split] <;> simp

/-- The door as its views, its comparison and its state leave it, before proof is taken. -/
def State.doorMoved (s : State) (d : Nat) : Door :=
  (((s.doors.doors.get d).shown s d).compared (s.doorView d) (s.inMs (s.setup.doors.get d).agreeTime)).moved
    (s.doorView d).state s.time

theorem doorMoved_views (s : State) (d : Nat) :
    (s.doorMoved d).state = (s.doorView d).state ∧ (s.doorMoved d).phase = s.phaseView d ∧
    (s.doorMoved d).obstructed = s.obstructionActive d ∧ (s.doorMoved d).viewLost = s.viewLost d ∧
    (s.doorMoved d).leaf1 = s.doorReading (s.setup.doors.get d).leaf1 false ∧
    (s.doorMoved d).leaf2 =
      (if (s.setup.doors.get d).leaves = 2 then s.doorReading (s.setup.doors.get d).leaf2 false else none) := by
  simp [State.doorMoved, Door.shown]

/-- The DISAGREE latch stands while there is a phase view, and clears with it (R85). -/
theorem doorMoved_compared (s : State) (d : Nat) :
    (s.phaseView d = none → (s.doorMoved d).disagree = false ∧ (s.doorMoved d).agreeTimer = none) ∧
      (s.phaseView d ≠ none → (s.doorMoved d).disagree = (s.doors.doors.get d).disagree) := by
  constructor
  · intro h
    obtain ⟨h1, h2⟩ := Door.compared_noPhase ((s.doors.doors.get d).shown s d) (s.doorView d)
      (s.inMs (s.setup.doors.get d).agreeTime) h
    simp [State.doorMoved, h1, h2]
  · intro h
    have h1 := Door.compared_phase ((s.doors.doors.get d).shown s d) (s.doorView d)
      (s.inMs (s.setup.doors.get d).agreeTime) h
    simp only [State.doorMoved, Door.moved_frame, h1]
    rfl

theorem doorMoved_changed (s : State) (d : Nat) (h : (s.doorMoved d).state ≠ (s.doors.doors.get d).state) :
    (s.doorMoved d).lastChange = s.time ∧ (s.doorMoved d).obstructions =
      (if (s.doors.doors.get d).state = .closing ∧ (s.doorMoved d).state = .reversing then
        min ((s.doors.doors.get d).obstructions + 1) 65535 else (s.doors.doors.get d).obstructions) := by
  let x := ((s.doors.doors.get d).shown s d).compared (s.doorView d) (s.inMs (s.setup.doors.get d).agreeTime)
  have hx : x.state = (s.doors.doors.get d).state ∧ x.obstructions = (s.doors.doors.get d).obstructions := by
    simp [x, Door.shown]
  obtain ⟨hstate, hcount⟩ := hx
  obtain ⟨hview, -⟩ := doorMoved_views s d
  rw [hview] at h ⊢
  rw [← hstate] at h
  rw [← hstate, ← hcount]
  exact Door.moved_other x _ s.time h

theorem doorMoved_unchanged (s : State) (d : Nat) (h : (s.doorMoved d).state = (s.doors.doors.get d).state) :
    (s.doorMoved d).lastChange = (s.doors.doors.get d).lastChange ∧
      (s.doorMoved d).obstructions = (s.doors.doors.get d).obstructions := by
  obtain ⟨hview, -⟩ := doorMoved_views s d
  have hsame : (s.doorView d).state = (((s.doors.doors.get d).shown s d).compared (s.doorView d)
      (s.inMs (s.setup.doors.get d).agreeTime)).state := by
    rw [← hview, h]
    simp [Door.shown]
  rw [State.doorMoved, hsame, Door.moved_same]
  simp [Door.shown]

theorem viewLost_iff (s : State) (d : Nat) :
    s.viewLost d = true ↔ (s.setup.doors.get d).phaseSignal ≠ 255 ∧ s.phaseView d = none := by
  simp [State.viewLost]

/-- A taken door is the moved one in all but the latch, the counts of proof and the flag of R83. -/
theorem doorTaken_moved (s : State) (d : Nat) :
    (s.doorTaken d).proven = (s.doorMoved d).proof (s.rampOut d) ∧ (s.doorTaken d).state = (s.doorMoved d).state ∧
    (s.doorTaken d).disagree = (s.doorMoved d).disagree ∧ (s.doorTaken d).agreeTimer = (s.doorMoved d).agreeTimer ∧
    (s.doorTaken d).viewLost = (s.doorMoved d).viewLost ∧ (s.doorTaken d).obstructed = (s.doorMoved d).obstructed ∧
    (s.doorTaken d).leaf1 = (s.doorMoved d).leaf1 ∧ (s.doorTaken d).leaf2 = (s.doorMoved d).leaf2 ∧
    (s.doorTaken d).phase = (s.doorMoved d).phase ∧ (s.doorTaken d).obstructions = (s.doorMoved d).obstructions ∧
    (s.doorTaken d).lastChange = (s.doorMoved d).lastChange := by
  unfold State.doorTaken State.doorMoved
  dsimp only
  split <;> simp

/-- The nine lines of R80, with the proof of R83. -/
theorem Door.derivedFrom_of (x : Door) (v : DoorView) (rampOut : Bool) (hs : x.state = v.state)
    (hp : x.proven = x.proof rampOut) : x.derivedFrom v rampOut := by
  refine ⟨?_, fun hu => ⟨?_, fun hr => ⟨?_, ?_, fun hc => ⟨?_, ?_, ?_, ?_, ?_⟩⟩⟩, ?_⟩
  case refine_9 => rintro (h | h | h) <;> simp [DoorView.state, *]
  case refine_10 => rw [hp]; simp [Door.proof, and_assoc]
  all_goals
    intros
    simp [DoorView.state, *]

theorem doorTaken_derivedFrom (s : State) (d : Nat) : (s.doorTaken d).derivedFrom (s.doorView d) (s.rampOut d) := by
  obtain ⟨hproven, hstate, hdisagree, -⟩ := doorTaken_moved s d
  refine Door.derivedFrom_of _ _ _ (by rw [hstate]; simp [State.doorMoved]) ?_
  rw [hproven, Door.proof, Door.proof, hstate, hdisagree]

/-! ### The door's entry after takings -/

theorem putDoor_get_other (d e : Nat) (x : Door) (s : State) (h : e ≠ d) :
    (putDoor d x s).doors.doors.get e = s.doors.doors.get e := Table.get_set_other _ _ _ _ h

theorem putDoor_get_same (d : Nat) (x : Door) (s : State) (h : d < 4) :
    ∃ w u, (putDoor d x s).doors.doors.get d = { x with written := w, upd := u } :=
  ⟨_, _, Table.get_set_same _ _ _ h⟩

@[simp] theorem takeInterlock_doors_doors (s : State) : (takeInterlock s).doors.doors = s.doors.doors := by
  rw [takeInterlock]
  refine (congrArg DoorUnit.doors (when_doors _ _ _ (by simp))).trans ?_
  simp [putMotion, State.interlockTaken]

@[simp] theorem doorWritten_doors_doors (d : Nat) (old new : Door) (s : State) :
    (doorWritten d old new s).doors.doors = s.doors.doors := by
  rw [doorWritten]
  refine (congrArg DoorUnit.doors (when_doors _ _ _ (by simp))).trans ?_
  simp

theorem takeDoor_idle (d : Nat) (s : State) (h : s.run.state ≠ .run ∨ (s.setup.doors.get d).enabled = false) :
    takeDoor d s = s := by
  obtain h | h := h <;> simp [takeDoor, State.inRun, h]

theorem takeDoor_get_other (d e : Nat) (s : State) (h : e ≠ d) :
    (takeDoor d s).doors.doors.get e = s.doors.doors.get e := by
  refine when_induct (fun t => t.doors.doors.get e = s.doors.doors.get e) _ _ s (fun _ _ => ?_) rfl
  rw [doorWritten_doors_doors, putDoor_get_other _ _ _ _ h]

theorem takeDoor_get_same (d : Nat) (s : State) (hd : d < 4) (hr : s.run.state = .run)
    (he : (s.setup.doors.get d).enabled = true) :
    ∃ w u, (takeDoor d s).doors.doors.get d = { s.doorTaken d with written := w, upd := u } := by
  have h : takeDoor d s = doorWritten d (s.doors.doors.get d) (s.doorTaken d) (putDoor d (s.doorTaken d) s) := by
    simp [takeDoor, State.inRun, hr, he]
  rw [h, doorWritten_doors_doors]
  exact putDoor_get_same d _ s hd

/-- What stands of a door: its record is derived from its view, and without a phase view nothing is compared. -/
def State.doorStands (s : State) (d : Nat) : Prop :=
  (s.doors.doors.get d).derivedFrom (s.doorView d) (s.rampOut d) ∧
    (s.phaseView d = none → (s.doors.doors.get d).disagree = false ∧ (s.doors.doors.get d).agreeTimer = none)

/-- What a door reads follows the setup, the sense entries and its two signals. -/
theorem doorView_congr (s t : State) (d : Nat) (hset : t.setup = s.setup) (hsense : t.sense = s.sense)
    (hphase : t.signals.get (s.setup.doors.get d).phaseSignal = s.signals.get (s.setup.doors.get d).phaseSignal)
    (hobs : t.signals.get (s.setup.doors.get d).obstructionSignal =
      s.signals.get (s.setup.doors.get d).obstructionSignal) :
    t.doorView d = s.doorView d ∧ t.rampOut d = s.rampOut d ∧ t.phaseView d = s.phaseView d := by
  have hr : t.doorReading = s.doorReading := by
    funext c b
    simp [State.doorReading, hsense]
  have hp : t.phaseView d = s.phaseView d := by
    unfold State.phaseView State.usableSignal
    rw [hset]
    dsimp only
    rw [hphase]
  refine ⟨?_, by simp only [State.rampOut, hset, hr], hp⟩
  simp only [State.doorView, State.doorUnread, State.leavesClosed, State.leafReadings, State.optionalReading,
    State.obstructionActive, State.stationObstruction, State.usableSignal, hset, hsense, hr, hp, hobs]
  rfl

theorem doorStands_congr (s t : State) (d : Nat) (hdoor : t.doors.doors.get d = s.doors.doors.get d)
    (hset : t.setup = s.setup) (hsense : t.sense = s.sense)
    (hphase : t.signals.get (s.setup.doors.get d).phaseSignal = s.signals.get (s.setup.doors.get d).phaseSignal)
    (hobs : t.signals.get (s.setup.doors.get d).obstructionSignal =
      s.signals.get (s.setup.doors.get d).obstructionSignal) (h : s.doorStands d) : t.doorStands d := by
  obtain ⟨hview, hramp, hphase⟩ := doorView_congr s t d hset hsense hphase hobs
  rw [State.doorStands, hdoor, hview, hramp, hphase]
  exact h

theorem doorStands_kept (s t : State) (d : Nat) (hdoor : t.doors.doors.get d = s.doors.doors.get d)
    (hset : t.setup = s.setup) (hsense : t.sense = s.sense) (hsig : t.signals = s.signals) (h : s.doorStands d) :
    t.doorStands d :=
  doorStands_congr s t d hdoor hset hsense (by rw [hsig]) (by rw [hsig]) h

/-- A taking of an enabled door in RUN leaves it as its view has it. -/
theorem takeDoor_stands (d : Nat) (s : State) (hd : d < 4) (hr : s.run.state = .run)
    (he : (s.setup.doors.get d).enabled = true) : (takeDoor d s).doorStands d := by
  obtain ⟨w, u, h⟩ := takeDoor_get_same d s hd hr he
  obtain ⟨hview, hramp, hphase⟩ := doorView_congr s (takeDoor d s) d (by simp) (by simp) (by simp) (by simp)
  obtain ⟨-, -, hdisagree, htimer, -⟩ := doorTaken_moved s d
  rw [State.doorStands, h, hview, hramp, hphase]
  refine ⟨doorTaken_derivedFrom s d, fun hp => ?_⟩
  obtain ⟨h1, h2⟩ := (doorMoved_compared s d).1 hp
  exact ⟨hdisagree.trans h1, htimer.trans h2⟩

theorem enabledDoors_nodup (u : Setup) : u.enabledDoors.Nodup := List.nodup_range.filter _

theorem mem_enabledDoors (u : Setup) (d : Nat) : d ∈ u.enabledDoors ↔ d < 4 ∧ (u.doors.get d).enabled = true := by
  simp [Setup.enabledDoors]

/-- A walk of takings that comes to an enabled door leaves it as its view has it. -/
theorem takeDoors_stands (l : List Nat) (d : Nat) (s : State) (hl : l.Nodup) (hdl : d ∈ l) (hd : d < 4)
    (hr : s.run.state = .run) (he : (s.setup.doors.get d).enabled = true) : (forEach l takeDoor s).doorStands d := by
  refine forEach_reaches (fun t => t.run = s.run ∧ t.setup = s.setup) (·.doorStands d) l takeDoor s d hdl hl
    ⟨rfl, rfl⟩ (fun i _ _ t ht => by simpa using ht) (fun t ht => ?_) (fun i _ hi t ht => ?_)
  · obtain ⟨hrun, hset⟩ := ht
    exact takeDoor_stands d t hd (by rw [hrun, hr]) (by rw [hset, he])
  · exact doorStands_kept t _ d (takeDoor_get_other i d t (Ne.symm hi)) (by simp) (by simp) (by simp) ht

/-! ### The commands that take a door -/

/-- A channel that a door names is handed to the door. -/
theorem takeChannel_stands (c d : Nat) (s : State) (hd : d < 4) (hr : s.run.state = .run)
    (he : (s.setup.doors.get d).enabled = true) (hc : c ∈ (s.setup.doors.get d).channels) :
    (takeChannel c s).doorStands d := by
  have h := takeDoors_stands (s.doorsOfChannel c) d s ((enabledDoors_nodup _).filter _)
    (by simp [State.doorsOfChannel, mem_enabledDoors, hd, he, hc]) hd hr he
  exact when_induct (·.doorStands d) _ _ _
    (fun _ h => doorStands_kept _ _ d (by simp) (by simp) (by simp) (by simp) h) h

/-- A write that changes what a channel gives the doors leaves each of its doors as its view has it. -/
theorem writeChannel_stands (c d : Nat) (x : SenseChannel) (s : State)
    (hx : x.doorItems ≠ (s.sense.channels.get c).doorItems) (hd : d < 4) (hr : s.run.state = .run)
    (he : (s.setup.doors.get d).enabled = true) (hc : c ∈ (s.setup.doors.get d).channels) :
    (writeChannel c x s).doorStands d := by
  rw [writeChannel, decide_eq_true hx]
  exact takeChannel_stands c d (putChannel c x s) hd hr he hc

theorem doorsOfSignal_readsNoDoor (s : State) (n : Nat) (h : s.setup.readsNoDoor n) : s.doorsOfSignal n = [] := by
  obtain ⟨hdoors, -⟩ := h
  simp only [State.doorsOfSignal, List.filter_eq_nil_iff, mem_enabledDoors, and_imp]
  intro e he _
  simp [hdoors e he]

theorem Setup.quiet_of_readsNoDoor (u : Setup) (n : Nat) (h : u.readsNoDoor n) : u.general.quiet n :=
  (u.general.quiet_iff n).2 h.2

theorem writeSignal_readsNoDoor_doors (n : Nat) (x : Signal) (s : State) (h : s.setup.readsNoDoor n) :
    (writeSignal demoteSession n x s).doors = s.doors := by
  refine when_induct (fun t => t.doors = s.doors) _ _ _ (fun _ _ => ?_) (by simp)
  rw [signalRead_quiet _ _ _ (putSignal n x s) (Setup.quiet_of_readsNoDoor _ _ h), readBefore,
    doorsOfSignal_readsNoDoor (putSignal n x s) n h]
  simp

/-- A write of a signal that no door reads leaves an enabled door as it stood. -/
theorem writeSignal_stands (n d : Nat) (x : Signal) (s : State) (h : s.setup.readsNoDoor n) (hd : d < 4)
    (hs : s.doorStands d) : (writeSignal demoteSession n x s).doorStands d := by
  obtain ⟨hsig, -⟩ := writeSignal_quiet demoteSession n x s (Setup.quiet_of_readsNoDoor _ _ h)
  obtain ⟨hphase, hobs⟩ := h.1 d hd
  refine doorStands_congr s _ d (by rw [writeSignal_readsNoDoor_doors n x s h]) (by simp) (by simp) ?_ ?_ hs
  · rw [hsig]
    exact Table.get_set_other _ _ _ _ hphase
  · rw [hsig]
    exact Table.get_set_other _ _ _ _ hobs

theorem deliverChannel_stands (c d : Nat) (x : SenseChannel) (s : State) (hd : d < 4)
    (h : ∀ n, s.signalOfChannel c = some n → s.setup.readsNoDoor n) (hs : s.doorStands d) :
    (deliverChannel c x s).doorStands d := by
  unfold deliverChannel
  split
  · next n hn =>
    split_ifs
    · exact writeSignal_stands n d _ s (h n hn) hd hs
    · exact writeSignal_stands n d _ s (h n hn) hd hs
    · exact hs
  · exact hs

/-- The rest of a sample leaves an enabled door as the write of the channel's entry left it. -/
theorem sampleTaken_stands (c d : Nat) (r : SenseChannel × Bool) (s : State) (hd : d < 4)
    (h : ∀ n, s.signalOfChannel c = some n → s.setup.readsNoDoor n) (hs : (writeChannel c r.1 s).doorStands d) :
    (sampleTaken c r s).doorStands d := by
  have hfeed : (writeChannel c r.1 s).signalOfChannel c = s.signalOfChannel c := by simp [State.signalOfChannel]
  refine when_induct (·.doorStands d) _ _ _ (fun _ => doorStands_kept _ _ d (by simp) (by simp) (by simp) (by simp)) ?_
  refine when_induct (·.doorStands d) _ _ _
    (fun _ => doorStands_kept _ _ d (by simp [faultChanged]) (by simp) (by simp) (by simp)) ?_
  exact deliverChannel_stands c d r.1 _ hd (by simpa [hfeed] using h) hs

/-- What changes the door's reading of a channel changes an item that its doors take up. -/
theorem SenseChannel.doorItems_of_movesDoors (y z : SenseChannel) (h : y.movesDoors z) : z.doorItems ≠ y.doorItems := by
  intro he
  simp only [SenseChannel.doorItems, Prod.mk.injEq, decide_eq_decide] at he
  obtain ⟨hlogical, hsettled, hfault, -⟩ := he
  obtain h | h | h := h
  · exact h hlogical
  · exact h hsettled
  · tauto

/-- A signal of a door that goes stale is handed to the door. -/
theorem goStale_stands (n d : Nat) (s : State) (hd : d < 4) (hr : s.run.state = .run)
    (hf : (s.signals.get n).status ≠ .forced) (hs : (s.signals.get n).status ≠ .stale)
    (he : (s.setup.doors.get d).enabled = true)
    (hn : (s.setup.doors.get d).phaseSignal = n ∨ (s.setup.doors.get d).obstructionSignal = n)
    (hq : s.setup.general.quiet n) : (goStale n s).doorStands d := by
  let p := putSignal n (s.signals.get n).gone.released s
  have hread : goStale n s = takeTests n (readBefore n true p) := by
    rw [goStale_unforced n s hf, ← signalRead_quiet demoteSession n true p hq]
    have : (s.signals.get n).gone.released.status ≠ (s.signals.get n).status := fun h => hs h.symm
    simp [writeSignal, State.inRun, hr, this, p]
  let q := takeUpStatus n (when (n = p.setup.general.dimmer) takeDuties p)
  have hbefore : readBefore n true p = forEach (p.doorsOfSignal n) takeDoor q := rfl
  have hmem : d ∈ p.doorsOfSignal n := by
    simp [State.doorsOfSignal, mem_enabledDoors, p, hd, he, hn]
  rw [hread, hbefore]
  exact doorStands_kept _ _ d (by simp) (by simp) (by simp) (by simp)
    (takeDoors_stands (p.doorsOfSignal n) d q ((enabledDoors_nodup _).filter _) hmem hd (by simp [q, p, hr])
      (by simp [q, p, he]))

/-- A door whose phase signal has just gone stale has no phase view (R79). -/
theorem goStale_phaseView (n d : Nat) (s : State) (hn : n < 128) (hf : (s.signals.get n).status ≠ .forced)
    (hp : (s.setup.doors.get d).phaseSignal = n) : (goStale n s).phaseView d = none := by
  obtain ⟨u, hu⟩ := writeSignal_entry_following n (s.signals.get n).gone.released s hn rfl
  rw [← goStale_unforced n s hf] at hu
  simp [State.phaseView, State.usableSignal, hp, hu, Signal.gone, Signal.released, SignalStatus.usable]

/-- Settles O36: a taking derives the record from its view, and nothing that follows it touches either. -/
theorem doorStatesAreDerived : Obligations.DoorStatesAreDerived := by
  refine ⟨fun d s => ?taking, fun d c reading s due hr hcheck hdue he hc hfeed => ?sampled,
    fun d n s ms hr hms hf hs he hn hp hb hk => ?stale⟩
  case taking =>
    intro old x u entry shows
    have hshows (c : Nat) : shows (s.doorReading c false) c :=
      ⟨doorReading_eq_none s c false, doorReading_safe s c⟩
    refine ⟨doorView_readsFrom s d, rampOut_iff s d, takeDoor_idle d s, fun hr he => ?_⟩
    obtain ⟨w, v, hx⟩ := takeDoor_get_same d s d.isLt hr he
    obtain ⟨-, hstate, hdisagree, htimer, hlost, hobs, hleaf1, hleaf2, hphase, hcount, hlast⟩ := doorTaken_moved s d
    have hx : x = { s.doorTaken d with written := w, upd := v } := hx
    rw [hx]
    refine ⟨doorTaken_derivedFrom s d, ?_⟩
    obtain ⟨-, vphase, vobs, vlost, vleaf1, vleaf2⟩ := doorMoved_views s d
    obtain ⟨hnone, hsome⟩ := doorMoved_compared s d
    simp only [hstate, hdisagree, htimer, hlost, hobs, hleaf1, hleaf2, hphase, hcount, hlast]
    refine ⟨vphase, vobs, ?_, ?_, fun h2 => ?_, fun h2 => ?_, hnone, hsome, doorMoved_changed s d,
      doorMoved_unchanged s d, fun e he => takeDoor_get_other d e s he,
      State.changesOnly_of _ _ _ (by simp [warningParts])⟩
    · rw [vlost, vphase, viewLost_iff]
    · rw [vleaf1]
      exact hshows u.leaf1
    · rw [vleaf2, if_pos h2]
      exact hshows u.leaf2
    · rw [vleaf2, if_neg h2]
  case sampled =>
    let q := advanceSample c due (s.reach due)
    let r := q.sampleOf c reading.toNat
    refine ⟨sampleTaken c r q, congrArg _ (sample_eq c reading.toNat s due hr hcheck hdue), by simp [q], fun hm => ?_⟩
    obtain ⟨u, hu⟩ := writeChannel_entry c r.1 q c.isLt
    have hsense : (sampleTaken c r q).sense.channels.get c = { r.1 with upd := u } := by
      rw [(sampleTaken_signals c r q).2, hu]
    have hitems : r.1.doorItems ≠ (q.sense.channels.get c).doorItems := by
      have hold : (q.sense.channels.get c).doorItems = (s.sense.channels.get c).doorItems := by
        simp [q, advanceSample, Table.get_set_same, SenseChannel.doorItems]
      rw [hold]
      rw [hsense] at hm
      exact SenseChannel.doorItems_of_movesDoors _ _ hm
    have hw : (writeChannel c r.1 q).doorStands d :=
      writeChannel_stands c d r.1 q hitems d.isLt (by simp [q, hr]) (by simp [q, he]) (by simpa [q] using hc)
    exact (sampleTaken_stands c d r q d.isLt (by simpa [q, State.signalOfChannel] using hfeed) hw).1
  case stale =>
    have hq : s.setup.general.quiet n := (s.setup.general.quiet_iff n).2 ⟨hp, hb, hk⟩
    refine ⟨goStale n (s.reach (1000 * ms)), congrArg _ (staleExpires_inRun n s ms hr hms), by simp, ?_⟩
    obtain ⟨hstands, hnone⟩ := goStale_stands n d (s.reach (1000 * ms)) d.isLt hr hf hs he hn hq
    refine ⟨hstands, fun h => ?_⟩
    have hview := goStale_phaseView n d (s.reach (1000 * ms)) n.isLt hf h
    exact ⟨hview, hnone hview⟩

end Sys2Proof.Machine
end

section
/-! PROOFS. O47: an update of a gauge, the statuses it takes up, and the entry into STANDBY that the last one brings. -/

namespace Sys2Proof.Machine

/-! ### Damping and movement (R139, R140) -/

/-- A 256th part of at most 256 times a difference, cut toward 0, is no larger than the difference. -/
theorem tdiv_natAbs_le (d : Int) (k : Nat) (hk : k ≤ 256) : ((d * k).tdiv 256).natAbs ≤ d.natAbs := by
  rw [Int.natAbs_tdiv, Int.natAbs_mul, Int.natAbs_natCast]
  calc d.natAbs * k / 256 ≤ d.natAbs * 256 / 256 := Nat.div_le_div_right (Nat.mul_le_mul_left _ hk)
    _ = d.natAbs := Nat.mul_div_cancel _ (by decide)

/-- The step of R139, at least 1 toward the target where there is a difference. -/
def dampMove (target filtered : Int) (damping : Nat) : Int :=
  if ((16 * target - filtered) * (damping + 1)).tdiv 256 = 0 then (16 * target - filtered).sign
  else ((16 * target - filtered) * (damping + 1)).tdiv 256

theorem dampMove_natAbs_le (target filtered : Int) (damping : Nat) (h : damping ≤ 255) :
    (dampMove target filtered damping).natAbs ≤ (16 * target - filtered).natAbs := by
  unfold dampMove
  split
  · rw [Int.natAbs_sign]
    split <;> omega
  · exact_mod_cast tdiv_natAbs_le (16 * target - filtered) (damping + 1) (by omega)

/-- A step cut to 0 is taken as 1 toward the target. -/
theorem unitStep_eq (step d : Int) :
    (if step = 0 ∧ d ≠ 0 then (if d < 0 then -1 else 1) else step) = if step = 0 then d.sign else step := by
  by_cases hs : step = 0
  · obtain hd | rfl | hd := lt_trichotomy d 0
    · simp [hs, hd, hd.ne, Int.sign_eq_neg_one_of_neg hd]
    · simp [hs]
    · simp [hs, hd.ne', not_lt.2 hd.le, Int.sign_eq_one_of_pos hd]
  · simp [hs]

/-- A step down is no larger than the filtered value, so the value stays a natural number. -/
theorem dampStep_eq (target filtered damping : Nat) (h : damping ≤ 255) :
    (dampStep target filtered damping : Int) = filtered + dampMove target filtered damping := by
  have hle := dampMove_natAbs_le target filtered damping h
  have hsign : (dampMove target filtered damping < 0 → 16 * (target : Int) - filtered < 0) := by
    unfold dampMove
    split
    · exact Int.sign_neg_iff.1
    · intro hneg
      by_contra hd
      exact absurd (Int.tdiv_nonneg (mul_nonneg (not_lt.1 hd) (by omega)) (by decide)) (not_le.2 hneg)
  have hnonneg : 0 ≤ (filtered : Int) + dampMove target filtered damping := by omega
  have hstep : dampStep target filtered damping = ((filtered : Int) + dampMove target filtered damping).toNat := by
    unfold dampStep dampMove
    rw [← unitStep_eq]
    push_cast
    rfl
  rw [hstep, Int.toNat_of_nonneg hnonneg]

theorem moveToward_eq (n c rate : Nat) :
    moveToward n c rate = if c ≤ n + rate ∧ n ≤ c + rate then c else if n < c then n + rate else n - rate := by
  unfold moveToward
  split_ifs <;> omega

theorem moveToward_reaches (n aim rate : Nat) (h : (if n ≤ aim then aim - n else n - aim) ≤ rate) :
    moveToward n aim rate = aim := by
  unfold moveToward
  split_ifs at h ⊢ <;> omega

theorem moveToward_falls_short (n aim rate : Nat) (h : rate < if n ≤ aim then aim - n else n - aim) :
    moveToward n aim rate = (if n ≤ aim then n + rate else n - rate) ∧ moveToward n aim rate ≠ aim := by
  unfold moveToward
  split_ifs at h ⊢ <;> omega

/-! ### The statuses of R141 -/

theorem Gauge.takeUp_deaf (g : Gauge) (u : GaugeSetup) (status : SignalStatus) (now : Nat)
    (h : g.state = .homing ∨ g.state = .sweeping) : g.takeUp u status now = g := by
  obtain h | h := h <;> simp [Gauge.takeUp, h]

/-- The table of R141, for an entry that is written with whatever update counter; an untouched gauge keeps its own. -/
theorem Gauge.takeUp_takesStatus (g : Gauge) (u : GaugeSetup) (status : SignalStatus) (now : Nat) (v : Byte)
    (hv : g.state = .homing ∨ g.state = .sweeping → v = g.upd) :
    g.takesStatus { g.takeUp u status now with upd := v } u status now := by
  cases hs : g.state with
  | homing | sweeping =>
    rw [Gauge.takeUp_deaf g u status now (by simp [hs]), hv (by simp [hs])]
    change g.takesStatus g u status now
    simp [Gauge.takesStatus, hs]
  | tracking =>
    cases status with
    | valid | forced => simp [Gauge.takesStatus, Gauge.takeUp, hs]
    | stale =>
      by_cases h : u.staleHold = 0
      all_goals simp [Gauge.takesStatus, Gauge.takeUp, Gauge.startHold, Gauge.toParking, hs, h]
    | fault =>
      by_cases h : u.faultAction = .hold
      all_goals simp [Gauge.takesStatus, Gauge.takeUp, Gauge.toParking, hs, h]
    | noData | notConfigured =>
      by_cases h : g.waitsForData = true
      all_goals simp [Gauge.takesStatus, Gauge.takeUp, Gauge.toParking, hs, h]
  | holding =>
    cases status with
    | valid | forced => simp [Gauge.takesStatus, Gauge.takeUp, hs]
    | stale =>
      cases ht : g.holdTimer with
      | some timer => simp [Gauge.takesStatus, Gauge.takeUp, hs, ht]
      | none =>
        by_cases h : u.staleHold = 0
        all_goals simp [Gauge.takesStatus, Gauge.takeUp, Gauge.startHold, Gauge.toParking, hs, ht, h]
    | fault =>
      by_cases h : u.faultAction = .hold
      all_goals simp [Gauge.takesStatus, Gauge.takeUp, Gauge.toParking, hs, h]
    | noData | notConfigured => simp [Gauge.takesStatus, Gauge.takeUp, Gauge.toParking, hs]
  | parking | parked =>
    cases status with
    | valid | forced =>
      simp [Gauge.takesStatus, Gauge.takeUp, Gauge.toTracking, SignalStatus.usable, hs, Config.gaugePeriod]
    | stale | fault | noData | notConfigured => simp [Gauge.takesStatus, Gauge.takeUp, SignalStatus.usable, hs]

/-- A gauge that homes or sweeps is not written by a status (R141). -/
theorem takeUpGauge_deaf (i : Nat) (s : State) (hi : i < 6)
    (h : (s.gauges.get i).state = .homing ∨ (s.gauges.get i).state = .sweeping) :
    (takeUpGauge i s).gauges.get i = s.gauges.get i := by
  rw [takeUpGauge_eq]
  split
  · rw [Gauge.takeUp_deaf _ _ _ _ h]
    exact (Table.get_set_same _ _ _ hi).trans (by simp)
  · rfl

/-- A gauge in use takes its signal's status up in RUN (R141). -/
theorem takeUpGauge_takesStatus (i : Nat) (s : State) (hi : i < 6) (hr : s.run.state = .run)
    (hu : (s.setup.gauges.get i).inUse = true) :
    (s.gauges.get i).takesStatus ((takeUpGauge i s).gauges.get i) (s.setup.gauges.get i)
      (s.signals.get (s.setup.gauges.get i).signal).status s.now := by
  obtain ⟨v, hv⟩ := takeUpGauge_get_same i s hi
  rw [if_pos (by simp [State.inRun, hr, hu])] at hv
  rw [hv]
  refine Gauge.takeUp_takesStatus _ _ _ _ v fun h => ?_
  rw [takeUpGauge_deaf i s hi h, Gauge.takeUp_deaf _ _ _ _ h] at hv
  exact (congrArg Gauge.upd hv).symm

theorem takeUpGauge_idle (i : Nat) (s : State)
    (h : s.run.state ≠ .run ∨ (s.setup.gauges.get i).inUse = false) : takeUpGauge i s = s := by
  obtain h | h := h <;> simp [takeUpGauge, State.inRun, h]

/-! ### A signal that goes stale (R7, R141) -/

theorem mem_gaugesOf (s : State) (n i : Nat) :
    i ∈ s.gaugesOf n ↔ i < 6 ∧ (s.setup.gauges.get i).inUse = true ∧ (s.setup.gauges.get i).signal = n := by
  simp [State.gaugesOf]

theorem takeUpStatus_other (n i : Nat) (s : State)
    (h : (s.setup.gauges.get i).inUse = false ∨ (s.setup.gauges.get i).signal ≠ n) :
    (takeUpStatus n s).gauges.get i = s.gauges.get i := by
  refine forEach_induct (fun t => t.gauges.get i = s.gauges.get i) _ _ s (fun j hj t ht => ?_) rfl
  have hij : i ≠ j := by
    rintro rfl
    obtain ⟨-, h1, h2⟩ := (mem_gaugesOf s n i).1 hj
    simp_all
  exact (takeUpGauge_get_other j i t hij).trans ht

/-- The gauges in use of a signal, each taken up once, take its status. -/
theorem takeUpStatus_takesStatus (n i : Nat) (s : State) (hi : i < 6) (hr : s.run.state = .run)
    (hu : (s.setup.gauges.get i).inUse = true) (hn : (s.setup.gauges.get i).signal = n) :
    (s.gauges.get i).takesStatus ((takeUpStatus n s).gauges.get i) (s.setup.gauges.get i)
      (s.signals.get n).status s.now := by
  refine forEach_reaches
    (fun t => t.gauges.get i = s.gauges.get i ∧ t.run = s.run ∧ t.setup = s.setup ∧ t.signals = s.signals ∧
      t.now = s.now)
    (fun t => (s.gauges.get i).takesStatus (t.gauges.get i) (s.setup.gauges.get i) (s.signals.get n).status s.now)
    (s.gaugesOf n) takeUpGauge s i ((mem_gaugesOf s n i).2 ⟨hi, hu, hn⟩) (List.nodup_range.filter _) (by simp)
    (fun j _ hj t ht => ?_) (fun t ht => ?_) (fun j _ hj t ht => ?_)
  · obtain ⟨hg, hrest⟩ := ht
    exact ⟨(takeUpGauge_get_other j i t (Ne.symm hj)).trans hg, by simpa using hrest⟩
  · obtain ⟨hg, hrun, hset, hsig, hnow⟩ := ht
    have h := takeUpGauge_takesStatus i t hi (by rw [hrun, hr]) (by rw [hset, hu])
    rwa [hg, hset, hsig, hnow, hn] at h
  · rwa [takeUpGauge_get_other j i t (Ne.symm hj)]

/-- The gauges after a quiet signal has gone stale are those that its readers leave. -/
theorem goStale_gauges (n : Nat) (s : State) (hr : s.run.state = .run) (hf : (s.signals.get n).status ≠ .forced)
    (hs : (s.signals.get n).status ≠ .stale) (hq : s.setup.general.quiet n) :
    (goStale n s).gauges =
      (takeUpStatus n (when (n = s.setup.general.dimmer) takeDuties
        (putSignal n (s.signals.get n).gone.released s))).gauges := by
  let p := putSignal n (s.signals.get n).gone.released s
  have hread : goStale n s = takeTests n (readBefore n true p) := by
    rw [goStale_unforced n s hf, ← signalRead_quiet demoteSession n true p hq]
    have : (s.signals.get n).gone.released.status ≠ (s.signals.get n).status := fun h => hs h.symm
    simp [writeSignal, State.inRun, hr, this, p]
  simp [hread, readBefore, p]

/-! ### An update (R137) -/

/-- Gauge `i` at an update that is due, its timer run on by 20 ms, before the update is taken. -/
def advanceGauge (i due : Nat) (s : State) : State :=
  putGauge i { s.gauges.get i with updateTimer := some (due + 20000) } (s.reach due)

theorem gaugeExpires_eq (i due : Nat) (s : State) (h : (s.gauges.get i).updateTimer = some due) :
    gaugeExpires i s = updateGauge i (advanceGauge i due s) := by
  simp [gaugeExpires, h, advanceGauge, Config.gaugePeriod]

theorem advanceGauge_get_same (i due : Nat) (s : State) (hi : i < 6) :
    ∃ v, (advanceGauge i due s).gauges.get i =
      { s.gauges.get i with updateTimer := some (due + 20000), upd := v } :=
  putGauge_get_same i _ (s.reach due) hi

theorem updateGauge_tracking (i : Nat) (s : State) (h : (s.gauges.get i).state = .tracking) :
    updateGauge i s =
      putGauge i (((s.gauges.get i).tracked (s.setup.gauges.get i)
        (s.signals.get (s.setup.gauges.get i).signal)).damped (s.setup.gauges.get i)) s := by
  simp [updateGauge, h]

theorem updateGauge_holding (i : Nat) (s : State) (h : (s.gauges.get i).state = .holding) :
    updateGauge i s = putGauge i ((s.gauges.get i).damped (s.setup.gauges.get i)) s := by
  simp [updateGauge, h]

/-- Damping and movement, in the terms of R139 and R140. -/
theorem Gauge.damped_moves (g : Gauge) (u : GaugeSetup) (h : u.damping ≤ 255) :
    ((g.damped u).filtered : Int) = g.filtered + dampMove g.target g.filtered u.damping ∧
      (g.damped u).command = ((g.damped u).filtered + 8) / 16 ∧
      (g.damped u).needle =
        (if (g.damped u).command ≤ g.needle + max u.rateLimit 1 ∧ g.needle ≤ (g.damped u).command + max u.rateLimit 1
         then (g.damped u).command
         else if g.needle < (g.damped u).command then g.needle + max u.rateLimit 1
         else g.needle - max u.rateLimit 1) :=
  ⟨dampStep_eq _ _ _ h, rfl, moveToward_eq _ _ _⟩

@[simp] theorem Gauge.tracked_frame (g : Gauge) (u : GaugeSetup) (sig : Signal) :
    (g.tracked u sig).state = g.state ∧ (g.tracked u sig).filtered = g.filtered ∧
      (g.tracked u sig).needle = g.needle ∧ (g.tracked u sig).updateTimer = g.updateTimer := by
  unfold Gauge.tracked
  split <;> simp

theorem Gauge.tracked_target (g : Gauge) (u : GaugeSetup) (sig : Signal) :
    (g.tracked u sig).target =
      if sig.status = .valid ∨ sig.status = .forced then targetOf u.points sig.value.toInt else g.target := by
  simp only [Gauge.tracked, SignalStatus.usable, Bool.or_eq_true, decide_eq_true_eq]
  split <;> rfl

/-- An update in TRACKING or HOLDING takes the target of a usable signal in TRACKING, and then damps and moves. -/
theorem updateGauge_damps (i due : Nat) (s : State) (hi : i < 6)
    (hs : (s.gauges.get i).state = .tracking ∨ (s.gauges.get i).state = .holding) :
    ∃ y : Gauge, updateGauge i (advanceGauge i due s) =
        putGauge i (y.damped (s.setup.gauges.get i)) (advanceGauge i due s) ∧
      y.state = (s.gauges.get i).state ∧ y.filtered = (s.gauges.get i).filtered ∧
      y.needle = (s.gauges.get i).needle ∧ y.updateTimer = some (due + 20000) ∧
      (y.state = .tracking → y.target = ((s.gauges.get i).tracked (s.setup.gauges.get i)
        (s.signals.get (s.setup.gauges.get i).signal)).target) ∧
      (y.state = .holding → y.target = (s.gauges.get i).target) := by
  obtain ⟨a, ha⟩ := advanceGauge_get_same i due s hi
  have hframe : (advanceGauge i due s).setup = s.setup ∧ (advanceGauge i due s).signals = s.signals := by
    simp [advanceGauge]
  obtain ⟨hset, hsig⟩ := hframe
  obtain hs | hs := hs
  · have h := updateGauge_tracking i (advanceGauge i due s) (by rw [ha]; exact hs)
    rw [hset, hsig] at h
    rw [ha] at h
    exact ⟨_, h, by simp, by simp, by simp, by simp, fun _ => by simp only [Gauge.tracked_target],
      fun hh => by simp [hs] at hh⟩
  · have h := updateGauge_holding i (advanceGauge i due s) (by rw [ha]; exact hs)
    rw [hset] at h
    exact ⟨_, h, by simp [ha], by simp [ha], by simp [ha], by simp [ha],
      fun hh => by simp [ha, hs] at hh, fun _ => by simp [ha]⟩

theorem updateGauge_parking (i : Nat) (s : State) (h : (s.gauges.get i).state = .parking) :
    updateGauge i s = putGauge i ((s.gauges.get i).parkStep (s.setup.gauges.get i)) s := by
  simp [updateGauge, h]

/-- An update that writes its gauge alone. -/
theorem gaugeExpires_put (i due : Nat) (s : State) (x : Gauge) (hi : i < 6)
    (hd : (s.gauges.get i).updateTimer = some due)
    (hx : updateGauge i (advanceGauge i due s) = putGauge i x (advanceGauge i due s)) :
    (∃ v, (gaugeExpires i s).gauges.get i = { x with upd := v }) ∧ (gaugeExpires i s).now = max s.now due ∧
      (∀ j, j ≠ i → (gaugeExpires i s).gauges.get j = s.gauges.get j) ∧
      s.changesOnly (gaugeExpires i s) [.clock, .gauges] := by
  rw [gaugeExpires_eq i due s hd, hx]
  refine ⟨putGauge_get_same i x _ hi, by simp [advanceGauge, State.reach], fun j hj => ?_,
    State.changesOnly_of _ _ _ (by simp [advanceGauge])⟩
  exact (putGauge_get_other i j x _ hj).trans (putGauge_get_other i j _ (s.reach due) hj)

theorem State.allParked_iff (s : State) : s.allParked = true ↔ ∀ j, j < 6 → (s.gauges.get j).state = .parked := by
  simp only [State.allParked, List.all_eq_true, decide_eq_true_eq, List.mem_iff_getElem, s.gauges.size,
    forall_exists_index]
  have hget (j : Nat) (hj : j < 6) : s.gauges.get j = s.gauges.cells[j]'(by rw [s.gauges.size]; exact hj) := by
    simp [Table.get, List.getD_eq_getElem?_getD, s.gauges.size, hj]
  constructor
  · exact fun h j hj => h _ j hj (hget j hj).symm
  · rintro h g j hj rfl
    rw [← hget j hj]
    exact h j hj

/-- An update after which its gauge is not PARKED brings no STANDBY. -/
theorem gaugeUpdate_moving (i : Fin 6) (s : State) (h : ((gaugeExpires i s).gauges.get i).state ≠ .parked) :
    exec (.gaugeUpdate i) s = .next (gaugeExpires i s) := by
  have hall : (gaugeExpires i s).allParked = false := by
    rw [← Bool.not_eq_true, State.allParked_iff]
    exact fun hall => h (hall i i.isLt)
  change Host.Outcome.next _ = _
  simp [hall]

/-- An update of a gauge that was not PARKED brings STANDBY where it is due. -/
theorem gaugeUpdate_parks (i : Fin 6) (s : State) (h : (s.gauges.get i).state ≠ .parked) :
    exec (.gaugeUpdate i) s = .next (when (gaugeExpires i s).standbyDue enterStandby (gaugeExpires i s)) := by
  have hold : s.allParked = false := by
    rw [← Bool.not_eq_true, State.allParked_iff]
    exact fun hall => h (hall i i.isLt)
  change Host.Outcome.next _ = _
  cases hall : (gaugeExpires i s).allParked with
  | false => simp [hall, State.standbyDue]
  | true => simp [hold, standbyIfDue]

/-! ### The entry into STANDBY (R197, R200) -/

/-- Outside RUN a release has no readers. -/
theorem releaseTogether_outOfRun (l : List Nat) (s : State) (hr : s.run.state ≠ .run) :
    releaseTogether l s = releaseEntries l s := by
  refine forEach_induct (· = releaseEntries l s) l _ _ (fun n _ t ht => ?_) rfl
  simp [releaseRead, State.inRun, ht, hr]

/-- Outside RUN, with no gauge that sweeps, the end of a session leaves the gauges. -/
theorem lowerSession_gauges_outOfRun (level : Session) (cause : EndCause) (s : State) (hr : s.run.state ≠ .run)
    (hg : ∀ i, i < 6 → (s.gauges.get i).state ≠ .sweeping) : (lowerSession level cause s).gauges = s.gauges := by
  have he : (emptied level s).gauges = s.gauges := by
    simp [emptied, releaseTogether_outOfRun _ (s.setShop { s.shop with session := level }) hr]
  have hsweeps : endWorkshopSweeps cause (emptied level s) = emptied level s := by
    refine endSweeps_none _ _ _ _ _ fun i hi => ?_
    rw [← Bool.not_eq_true, State.sweepsFor_iff, he]
    rintro ⟨w, -, hs, -⟩
    exact hg i hi hs
  simp [lowerSession_eq, hsweeps, he]

theorem endSession_gauges_outOfRun (cause : EndCause) (byClose : Bool) (s : State) (hr : s.run.state ≠ .run)
    (hg : ∀ i, i < 6 → (s.gauges.get i).state ≠ .sweeping) : (endSession cause byClose s).gauges = s.gauges :=
  when_induct (fun t => t.gauges = s.gauges) _ _ s
    (fun _ _ => lowerSession_gauges_outOfRun .detached cause
      (s.setShop { s.shop with
        idleTimer := none
        rate := if byClose then s.shop.rate else .slow
        nextRate := if byClose then some .slow else none }) hr hg) rfl

theorem endSession_detached (cause : EndCause) (byClose : Bool) (s : State) :
    (endSession cause byClose s).shop.session = .detached := by
  by_cases h : s.shop.session = .detached
  · simp [endSession, h]
  · exact (endSession_ends cause byClose s h).1

/-- What the entry into STANDBY leaves and sets (R197). -/
theorem enterStandby_enters (s : State) :
    (enterStandby s).run.state = .standby ∧ (enterStandby s).run.standbyPending = false ∧
      (enterStandby s).shop.session = .detached ∧ (enterStandby s).shop.rate = .slow ∧
      (enterStandby s).port.sweepTimer = none ∧ (enterStandby s).port.sweepPlace = none := by
  simp [enterStandby, quietShop, writeStatus, endSession_detached]

theorem enterStandby_gauges (s : State) (hr : s.run.state ≠ .run)
    (hg : ∀ i, i < 6 → (s.gauges.get i).state ≠ .sweeping) : (enterStandby s).gauges = s.gauges := by
  simp [enterStandby, quietShop, writeStatus, endSession_gauges_outOfRun _ _ s hr hg]

/-- What brings STANDBY after an update that parks gauge `i` (R197, R200). -/
def State.waitsForGauge (s : State) (i : Nat) : Prop :=
  (s.run.state = .shutdown ∨ (s.run.state = .config ∧ s.run.standbyPending = true)) ∧ s.line.phase = .idle ∧
    ∀ j, j < 6 → j ≠ i → (s.gauges.get j).state = .parked

theorem standbyDue_iff (s t : State) (i : Nat) (hrun : t.run = s.run) (hline : t.line = s.line)
    (hi : (t.gauges.get i).state = .parked) (hother : ∀ j, j ≠ i → t.gauges.get j = s.gauges.get j) :
    t.standbyDue = true ↔ s.waitsForGauge i := by
  have hall : t.allParked = true ↔ ∀ j, j < 6 → j ≠ i → (s.gauges.get j).state = .parked := by
    rw [State.allParked_iff]
    constructor
    · exact fun h j hj hji => hother j hji ▸ h j hj
    · intro h j hj
      by_cases hji : j = i
      · exact hji ▸ hi
      · exact (hother j hji).symm ▸ h j hj hji
  simp only [State.standbyDue, State.waitsForGauge, Bool.and_eq_true, Bool.or_eq_true, decide_eq_true_eq, hall, hrun,
    hline]
  tauto

/-- The last gauge parks, and where STANDBY waits for it the part enters it (R197, R200). -/
theorem gaugeUpdate_parked (i : Fin 6) (due : Nat) (s : State) (hd : (s.gauges.get i).updateTimer = some due)
    (hs : (s.gauges.get i).state = .parking)
    (hn : moveToward (s.gauges.get i).needle (s.setup.gauges.get i).park (rateOf (s.setup.gauges.get i).rateLimit) =
      (s.setup.gauges.get i).park) :
    ∃ t, exec (.gaugeUpdate i) s = .next t ∧ t.now = max s.now due ∧ (t.gauges.get i).state = .parked ∧
      (t.gauges.get i).updateTimer = none ∧ (t.gauges.get i).needle = (s.setup.gauges.get i).park ∧
      (t.gauges.get i).target = (s.setup.gauges.get i).park ∧ (t.gauges.get i).command = (s.setup.gauges.get i).park ∧
      (t.gauges.get i).filtered = 16 * (s.setup.gauges.get i).park ∧
      (∀ j, j ≠ i.val → t.gauges.get j = s.gauges.get j) ∧
      (¬s.waitsForGauge i → s.changesOnly t [.clock, .gauges]) ∧
      (s.waitsForGauge i → t.run.state = .standby ∧ t.run.standbyPending = false ∧ t.shop.session = .detached ∧
        t.shop.rate = .slow ∧ t.port.sweepTimer = none ∧ t.port.sweepPlace = none ∧ t.wakeOutput = false ∧
        t.interruptLine = false ∧ t.setup = s.setup ∧ s.changesOnly t runParts) := by
  obtain ⟨a, ha⟩ := advanceGauge_get_same i due s i.isLt
  let x := ({ s.gauges.get i with updateTimer := some (due + 20000), upd := a } : Gauge).parkStep (s.setup.gauges.get i)
  have hset : (advanceGauge i due s).setup = s.setup := by simp [advanceGauge]
  have hput := updateGauge_parking i (advanceGauge i due s) (by rw [ha]; exact hs)
  rw [hset] at hput
  rw [ha] at hput
  obtain ⟨⟨v, hv⟩, hnow, hother, honly⟩ := gaugeExpires_put i due s x i.isLt hd hput
  have hx : x.state = .parked ∧ x.updateTimer = none ∧ x.needle = (s.setup.gauges.get i).park ∧
      x.target = (s.setup.gauges.get i).park ∧ x.command = (s.setup.gauges.get i).park ∧
      x.filtered = 16 * (s.setup.gauges.get i).park := by
    simp [x, Gauge.parkStep, hn]
  obtain ⟨hstate, htimer, hneedle, htarget, hcommand, hfiltered⟩ := hx
  let q := gaugeExpires i s
  have hframe : q.run = s.run ∧ q.line = s.line ∧ q.setup = s.setup := by simp [q]
  obtain ⟨hrun, hline, hsetup⟩ := hframe
  have hdue := standbyDue_iff s q i hrun hline (by rw [hv, hstate]) hother
  have hexec := gaugeUpdate_parks i s (by rw [hs]; decide)
  by_cases hw : s.waitsForGauge i
  · rw [hdue.2 hw] at hexec
    obtain ⟨hwait, -, hparked⟩ := id hw
    have hgauges : (enterStandby q).gauges = q.gauges := by
      refine enterStandby_gauges q (fun h => ?_) fun j hj => ?_
      · rw [hrun] at h
        simp [h] at hwait
      · by_cases hji : j = i
        · rw [hji, hv]
          simp [hstate]
        · rw [hother j hji, hparked j hj hji]
          decide
    obtain ⟨hstandby, hpending, hsession, hrate, htimer', hplace⟩ := enterStandby_enters q
    refine ⟨enterStandby q, hexec, by simp [q, hnow], ?_⟩
    rw [hgauges, hv]
    exact ⟨hstate, htimer, hneedle, htarget, hcommand, hfiltered, hother, fun h => absurd hw h,
      fun _ => ⟨hstandby, hpending, hsession, hrate, htimer', hplace, by simp [State.wakeOutput, State.awake, hstandby],
        by simp [State.interruptLine, State.awake, hstandby], by simp [hsetup],
        State.changesOnly_of _ _ _ (by simp [runParts, q])⟩⟩
  · rw [Bool.eq_false_iff.2 (mt hdue.1 hw)] at hexec
    refine ⟨q, hexec, hnow, ?_⟩
    rw [hv]
    exact ⟨hstate, htimer, hneedle, htarget, hcommand, hfiltered, hother, fun _ => honly, fun h => absurd h hw⟩

/-- Settles O47: an update by the gauge's state, with the STANDBY that the last parking brings, and the two takings of a
status. -/
theorem gaugesDampMoveAndPark : Obligations.GaugesDampMoveAndPark := by
  refine ⟨fun i s due hd => ?update, fun i s use due hd => ?hold, fun i s => ?takes,
    fun i n s ms hr hms hf hs hp hb hk => ?stale⟩
  case update =>
    intro g u sig usable rate away damped moved
    refine ⟨fun hstate hdamp => ?_, fun hstate haway => ?_, fun hstate haway => ?_⟩
    · obtain ⟨y, hput, hy, hfiltered, hneedle, htimer, htrack, hhold⟩ := updateGauge_damps i due s i.isLt hstate
      obtain ⟨⟨v, hv⟩, hnow, hother, honly⟩ := gaugeExpires_put i due s _ i.isLt hd hput
      obtain ⟨mfiltered, mcommand, mneedle⟩ := Gauge.damped_moves y u hdamp
      have hyg : y.state = g.state := hy
      refine ⟨gaugeExpires i s, gaugeUpdate_moving i s ?_, hnow, ?_⟩
      · rw [hv]
        obtain h | h := hstate <;> simp [Gauge.damped, hyg, h]
      · rw [hv]
        rw [hfiltered] at mfiltered
        rw [hneedle] at mneedle
        refine ⟨hy, htimer, fun h => ?_, fun h => ?_, mfiltered, mcommand, mneedle, hother, honly⟩
        · exact (htrack (hyg.trans h.1)).trans ((Gauge.tracked_target ..).trans (if_pos h.2))
        · obtain hs | hs := hstate
          · exact (htrack (hyg.trans hs)).trans ((Gauge.tracked_target ..).trans (if_neg fun hu => h ⟨hs, hu⟩))
          · exact hhold (hyg.trans hs)
    · obtain ⟨hmove, hshort⟩ := moveToward_falls_short g.needle u.park rate haway
      obtain ⟨a, ha⟩ := advanceGauge_get_same i due s i.isLt
      have hput := updateGauge_parking i (advanceGauge i due s) (by rw [ha]; exact hstate)
      have hset : (advanceGauge i due s).setup = s.setup := by simp [advanceGauge]
      let y : Gauge := { g with updateTimer := some (due + 20000), upd := a }
      have hput : updateGauge i (advanceGauge i due s) = putGauge i (y.parkStep u) (advanceGauge i due s) := by
        rw [hput, ha, hset]
      have hy : y.parkStep u = { y with
          target := u.park, filtered := 16 * u.park, command := u.park
          needle := if g.needle ≤ u.park then g.needle + rate else g.needle - rate } := by
        rw [← hmove]
        exact if_neg hshort
      obtain ⟨⟨v, hv⟩, hnow, hother, honly⟩ := gaugeExpires_put i due s _ i.isLt hd hput
      rw [hy] at hv
      refine ⟨gaugeExpires i s, gaugeUpdate_moving i s ?_, hnow, ?_⟩
      · rw [hv]
        simp [y, hstate]
      · rw [hv]
        exact ⟨hstate, rfl, rfl, rfl, rfl, rfl, hother, honly⟩
    · exact gaugeUpdate_parked i due s hd hstate (moveToward_reaches _ _ _ haway)
  case hold =>
    have hexp : holdExpires i s = parkGauge i (s.reach due) := by simp [holdExpires, hd]
    obtain ⟨v, hv⟩ : ∃ v, (holdExpires i s).gauges.get i = { (s.gauges.get i).toParking with upd := v } := by
      rw [hexp]
      exact putGauge_get_same i (s.gauges.get i).toParking (s.reach due) i.isLt
    refine ⟨holdExpires i s, rfl, by simp [hexp, parkGauge, State.reach], ?_⟩
    rw [hv]
    refine ⟨rfl, rfl, rfl, rfl, fun j hj => ?_, State.changesOnly_of _ _ _ (by simp)⟩
    rw [hexp]
    exact putGauge_get_other i j _ (s.reach due) hj
  case takes =>
    refine ⟨takeUpGauge_idle i s, fun hr hu => ⟨takeUpGauge_takesStatus i s i.isLt hr hu, fun j hj =>
      takeUpGauge_get_other i j s hj, State.changesOnly_of _ _ _ (by simp)⟩⟩
  case stale =>
    refine ⟨goStale n (s.reach (1000 * ms)), congrArg _ (staleExpires_inRun n s ms hr hms), ?_⟩
    have hgauges := goStale_gauges n (s.reach (1000 * ms)) hr hf hs ((s.setup.general.quiet_iff n).2 ⟨hp, hb, hk⟩)
    let p := putSignal n (s.signals.get n).gone.released (s.reach (1000 * ms))
    let q := when (n = p.setup.general.dimmer) takeDuties p
    have hframe : q.run = s.run ∧ q.setup = s.setup ∧ q.gauges = s.gauges ∧ q.now = max s.now (1000 * ms) := by
      simp [q, p, State.reach]
    obtain ⟨hrun, hset, hgauge, hnow⟩ := hframe
    have hstatus : (q.signals.get n).status = .stale := by
      have hq : q.signals = p.signals := by simp [q]
      rw [hq]
      exact congrArg Signal.status (Table.get_set_same _ _ _ n.isLt)
    rw [hgauges]
    refine ⟨fun hu hn => ?_, fun h => ?_⟩
    · have htakes := takeUpStatus_takesStatus n i q i.isLt (by rw [hrun, hr]) (by rw [hset, hu]) (by rw [hset, hn])
      rwa [hgauge, hset, hstatus, hnow] at htakes
    · exact (takeUpStatus_other n i q (by rwa [hset])).trans (by rw [hgauge])

end Sys2Proof.Machine
end

section
/-! PROOFS. O13: soft reset, effect by effect in the order it takes them. -/

namespace Sys2Proof.Machine

/-! ### A session that ends outside RUN -/

/-- A workshop sweep holds no slot. -/
theorem sweepSlots_workshop (s : State) : s.sweepSlots SweepOwner.isWorkshop = [] := by
  unfold State.sweepSlots
  rw [List.filter_eq_nil_iff]
  intro k _
  simp only [List.any_eq_true, not_exists, not_and]
  intro i _ h
  obtain ⟨w, -, -, hw⟩ := (State.sweepsFor_iff _ _ _).1 h
  cases ho : w.owner <;> simp [ho, SweepOwner.isWorkshop] at hw

@[simp] theorem endWorkshopSweeps_mem (cause : EndCause) (s : State) : (endWorkshopSweeps cause s).mem = s.mem := by
  simp [endWorkshopSweeps, endSweeps, sweepSlots_workshop]

theorem Gauge.resumed_needle (g : Gauge) (u : GaugeSetup) : (g.resumed u).needle = g.needle := by
  unfold Gauge.resumed
  split
  · split
    · split <;> rfl
    · rfl
  · rfl

/-- Outside RUN a gauge that leaves its sweep stays where it stands. -/
theorem returnGauge_needle (i j : Nat) (s : State) (hj : j < 6) (hr : s.run.state ≠ .run) :
    ((returnGauge i s).gauges.get j).needle = (s.gauges.get j).needle := by
  by_cases h : j = i
  · subst h
    obtain ⟨u, hu⟩ := putGauge_get_same j ((s.gauges.get j).resumed (s.setup.gauges.get j)) s hj
    rw [returnGauge, takeUpGauge_idle _ _ (.inl (by simpa using hr)), hu]
    exact Gauge.resumed_needle _ _
  · rw [returnGauge_get_other i j s h]

theorem endWorkshopSweeps_needle (cause : EndCause) (j : Nat) (s : State) (hj : j < 6) (hr : s.run.state ≠ .run) :
    ((endWorkshopSweeps cause s).gauges.get j).needle = (s.gauges.get j).needle := by
  have hgauges : (endWorkshopSweeps cause s).gauges =
      (forEach ((List.range 6).filter (s.sweepsFor SweepOwner.isWorkshop)) returnGauge s).gauges := by
    simp [endWorkshopSweeps, endSweeps]
  rw [hgauges]
  refine (forEach_induct (fun t => t.run = s.run ∧ (t.gauges.get j).needle = (s.gauges.get j).needle) _ _ s
    (fun i _ t ht => ?_) ⟨rfl, rfl⟩).2
  obtain ⟨hrun, hneedle⟩ := ht
  exact ⟨by simp [hrun], (returnGauge_needle i j t hj (by rwa [hrun])).trans hneedle⟩

@[simp] theorem releaseEntries_mem (l : List Nat) (s : State) : (releaseEntries l s).mem = s.mem := by
  simp [releaseEntries]

/-- Outside RUN the end of a session releases its forces with no reader. -/
theorem lowerSession_outOfRun (level : Session) (cause : EndCause) (s : State) (hr : s.run.state ≠ .run) :
    (lowerSession level cause s).mem = s.mem ∧ (lowerSession level cause s).doors = s.doors ∧
      (lowerSession level cause s).faults = s.faults ∧
      ∀ j, j < 6 → ((lowerSession level cause s).gauges.get j).needle = (s.gauges.get j).needle := by
  have he : (emptied level s).run = s.run ∧ (emptied level s).mem = s.mem ∧ (emptied level s).doors = s.doors ∧
      (emptied level s).faults = s.faults ∧ (emptied level s).gauges = s.gauges := by
    simp [emptied, releaseTogether_outOfRun _ (s.setShop { s.shop with session := level }) hr]
  obtain ⟨hrun, hmem, hdoors, hfaults, hgauges⟩ := he
  refine ⟨by simp [lowerSession_eq, hmem], by simp [lowerSession_eq, hdoors], by simp [lowerSession_eq, hfaults],
    fun j hj => ?_⟩
  have := endWorkshopSweeps_needle cause j (emptied level s) hj (by rwa [hrun])
  simp [lowerSession_eq, this, hgauges]

theorem endSession_outOfRun (cause : EndCause) (byClose : Bool) (s : State) (hr : s.run.state ≠ .run) :
    (endSession cause byClose s).mem = s.mem ∧ (endSession cause byClose s).doors = s.doors ∧
      (endSession cause byClose s).faults = s.faults ∧
      ∀ j, j < 6 → ((endSession cause byClose s).gauges.get j).needle = (s.gauges.get j).needle := by
  refine when_induct (fun t => t.mem = s.mem ∧ t.doors = s.doors ∧ t.faults = s.faults ∧
    ∀ j, j < 6 → (t.gauges.get j).needle = (s.gauges.get j).needle) _ _ s (fun _ _ => ?_)
    ⟨rfl, rfl, rfl, fun _ _ => rfl⟩
  exact lowerSession_outOfRun .detached cause (s.setShop { s.shop with
    idleTimer := none
    rate := if byClose then s.shop.rate else .slow
    nextRate := if byClose then some .slow else none }) hr

/-! ### The TAKEN slots (R181) -/

/-- A TAKEN slot fails with ABORTED. -/
theorem abortTaken_taken (i : Nat) (s : State) (hi : i < 16) (hm : s.memorySound) (hs : s.slotState i = .taken) :
    (abortTaken s).slotState i = .failed ∧
      Memory.read (abortTaken s).mem (slotBase i + 3) = byteOf ResultCode.aborted.code := by
  refine (forEach_reaches (fun t => t.memorySound ∧ t.slotState i = .taken)
    (fun t => t.memorySound ∧ t.slotState i = .failed ∧
      Memory.read t.mem (slotBase i + 3) = byteOf ResultCode.aborted.code) (List.range 16) _ s i
    (List.mem_range.2 hi) List.nodup_range ⟨hm, hs⟩ (fun j hj hji t ht => ?_) (fun t ht => ?_)
    (fun j hj hji t ht => ?_)).2
  · refine when_induct (fun u => u.memorySound ∧ u.slotState i = .taken) _ _ t (fun _ _ => ?_) ht
    have hapart : j % 16 ≠ i % 16 := by rw [List.mem_range] at hj; omega
    exact ⟨slotFailed_memorySound _ _ _ _ _ ht.1, (slotFailed_slotState_other j i _ _ _ t hapart).trans ht.2⟩
  · obtain ⟨hsound, htaken⟩ := ht
    simp only [htaken, decide_true, when_true]
    exact ⟨slotFailed_memorySound _ _ _ _ _ hsound, slotFailed_slotState i _ _ _ t hsound,
      slotFailed_read_code i _ _ _ t hsound⟩
  · refine when_induct (fun u => u.memorySound ∧ u.slotState i = .failed ∧
      Memory.read u.mem (slotBase i + 3) = byteOf ResultCode.aborted.code) _ _ t (fun _ _ => ?_) ht
    have hapart : j % 16 ≠ i % 16 := by rw [List.mem_range] at hj; omega
    obtain ⟨hsound, hfailed, hcode⟩ := ht
    exact ⟨slotFailed_memorySound _ _ _ _ _ hsound, (slotFailed_slotState_other j i _ _ _ t hapart).trans hfailed,
      (slotFailed_read_other j i _ _ _ t hapart 3 (by decide)).trans hcode⟩

/-- A slot that is not TAKEN is left alone. -/
theorem abortTaken_other (i : Nat) (s : State) (hi : i < 16) (hs : s.slotState i ≠ .taken) :
    (abortTaken s).slotState i = s.slotState i := by
  refine forEach_induct (fun t => t.slotState i = s.slotState i) _ _ s (fun j hj t ht => ?_) rfl
  refine when_induct (fun u => u.slotState i = s.slotState i) _ _ t (fun hc _ => ?_) ht
  have hji : j ≠ i := by
    rintro rfl
    rw [decide_eq_true_eq, ht] at hc
    exact hs hc
  have hapart : j % 16 ≠ i % 16 := by rw [List.mem_range] at hj; omega
  exact (slotFailed_slotState_other j i _ _ _ t hapart).trans ht

theorem abortTaken_none (s : State) (h : ∀ i, i < 16 → s.slotState i ≠ .taken) : abortTaken s = s := by
  refine forEach_induct (· = s) _ _ s (fun i hi t ht => ?_) rfl
  rw [ht, decide_eq_false (h i (List.mem_range.1 hi))]
  rfl

/-! ### The blocks and the run-state logic -/

theorem softBlocks_values (s : State) :
    (softBlocks s).signals = s.signals.map Signal.blanked ∧
    (softBlocks s).doors = s.doors.blanked 0#32 s.doors.releaseDelay ∧
    (softBlocks s).warnings = s.warnings.map (fun x => x.blanked false) ∧
    (softBlocks s).gauges =
      Table.tabulate 6 (fun i => (s.gauges.get i).atSoftReset (s.setup.gauges.get i) s.now) ∧
    (softBlocks s).line.log = s.line.log ∧ (softBlocks s).line.logHead = s.line.logHead ∧
    (softBlocks s).line.logWrap = s.line.logWrap ∧ (softBlocks s).sense.supplyLow = s.sense.supplyLow ∧
    (softBlocks s).shop.forced = [] ∧ (softBlocks s).shop.receiver = .idle ∧ (softBlocks s).shop.rate = .slow ∧
    (softBlocks s).port = { s.port with statusUpd := bump s.port.statusUpd } := by
  simp [softBlocks, blankBlocks, quietShop, writeStatus, BodyLine.blanked]

theorem Gauge.atSoftReset_needle (g : Gauge) (u : GaugeSetup) (now : Nat) :
    (g.atSoftReset u now).needle = g.needle := by
  unfold Gauge.atSoftReset
  dsimp only
  split <;> rfl

theorem startConfigIdle_run (s : State) : ∃ x, (startConfigIdle s).run = { s.run with configIdleTimer := x } := by
  unfold startConfigIdle
  cases !s.run.ignition && s.run.applySlot.isNone
  · exact ⟨_, rfl⟩
  · exact ⟨_, rfl⟩

@[simp] theorem changeRunState_run (new : RunState) (s : State) :
    (changeRunState new s).run = { s.run with state := new } := by
  simp [changeRunState]

/-- The state in which a soft reset ends the session: CONFIG, with the ring emptied (R201). -/
def resetStarted (s : State) : State :=
  let a := s.setRun s.run.abandoned
  changeRunState .config (a.setPort (a.port.restarted (a.inMs Config.sweepPeriod)))

/-- The state in which a soft reset sets the blocks: the warnings stopped, and the session ended. -/
def resetEnded (s : State) : State := endSession .reset false (stopWarningsFrom s.run.state (resetStarted s))

theorem softReset_eq (s : State) :
    softReset s = startConfigIdle (abortTaken (softBlocks (resetEnded s))) := rfl

theorem resetStarted_kept (s : State) :
    (resetStarted s).mem = s.mem ∧ (resetStarted s).doors = s.doors ∧ (resetStarted s).faults = s.faults ∧
      (resetStarted s).gauges = s.gauges ∧ (resetStarted s).line = s.line ∧ (resetStarted s).sense = s.sense ∧
      (resetStarted s).shop = s.shop ∧ (resetStarted s).run = { s.run.abandoned with state := .config } := by
  simp [resetStarted]

/-- The one notice on the emptied ring is the change of run state. -/
theorem resetStarted_port (s : State) :
    (resetStarted s).port.noticeRead = 0#7 ∧ (resetStarted s).port.noticeWrite = 1#7 ∧
      ((resetStarted s).port.ring.get 0).kind = .stateChange ∧ (resetStarted s).port.writeRefused = false ∧
      (resetStarted s).port.intEnable = false ∧ (resetStarted s).port.displayLost = false := by
  simp [resetStarted, changeRunState, writeStatus, post, Port.posted, Port.restarted]

/-- What the stop of the warnings and the end of the session, both in CONFIG, leave as it was. -/
theorem resetEnded_kept (s : State) :
    (resetEnded s).mem = s.mem ∧ (resetEnded s).doors = s.doors ∧
      (s.run.state ≠ .run → (resetEnded s).faults = s.faults) ∧
      (∀ j, j < 6 → ((resetEnded s).gauges.get j).needle = (s.gauges.get j).needle) ∧
      (resetEnded s).line = s.line ∧ (resetEnded s).sense = s.sense ∧
      (resetEnded s).run = { s.run.abandoned with state := .config } := by
  obtain ⟨hmem, hdoors, hfaults, hgauges, hline, hsense, -, hrun⟩ := resetStarted_kept s
  obtain ⟨cmem, cdoors, cfaults, cneedle⟩ := endSession_outOfRun .reset false
    (stopWarningsFrom s.run.state (resetStarted s)) (by simp [hrun])
  refine ⟨by simp [resetEnded, cmem, hmem], by simp [resetEnded, cdoors, hdoors], fun hr => ?_,
    fun j hj => by simp [resetEnded, cneedle j hj, hgauges], by simp [resetEnded, hline], by simp [resetEnded, hsense],
    by simp [resetEnded, hrun]⟩
  rw [resetEnded, cfaults, stopWarningsFrom, decide_eq_false hr, when_false, hfaults]

/-- Out of RUN and with no session the ring holds the one notice. -/
theorem resetEnded_quiet (s : State) (hr : s.run.state ≠ .run) (hs : s.shop.session = .detached) :
    resetEnded s = resetStarted s := by
  have hd : (resetStarted s).shop.session = .detached := by simp [resetStarted, hs]
  simp [resetEnded, stopWarningsFrom, hr, endSession, hd]

theorem registerWrite_control (s : State) :
    registerWrite (registerAddress 2) .both 2#16 16 s = writePortControl 2#16 s := by
  unfold registerWrite
  simp [registerAddress]
  rfl

/-- Bit 1 of PORT_CONTROL is the soft reset, and bit 0 clears the interrupt enable (R177). -/
theorem writePortControl_reset (s : State) :
    writePortControl 2#16 s = softReset (s.setPort { s.port with intEnable := false }) := by
  have h1 : (2#16).getLsbD 1 = true := by decide
  have h0 : (2#16).getLsbD 0 = false := by decide
  rw [writePortControl, h1, h0, when_true]

theorem softReset_exec (s : State) (h : s.run.state ≠ .standby) :
    exec .softReset s = .next (softReset (s.setPort { s.port with intEnable := false })) := by
  have haddress : ¬(registerAddress 2).toNat < 0x3FF8 := by decide
  have htake : takeWrite (registerAddress 2) .both 2#16 16 s = writePortControl 2#16 s := by
    unfold takeWrite
    rw [if_neg haddress, registerWrite_control]
  change Host.Outcome.next (hostWrite (registerAddress 2) .both 2#16 16 s) = _
  simp [hostWrite, State.awake, h, htake, writePortControl_reset]

/-- Settles O13: the ring and the session first, then the blocks, then the TAKEN slots. -/
theorem softResetEntersConfig : Obligations.SoftResetEntersConfig := by
  intro s hr hm
  let p := s.setPort { s.port with intEnable := false }
  let c := resetEnded p
  let e := softBlocks c
  let t := startConfigIdle (abortTaken e)
  refine ⟨t, (softReset_exec s hr).trans (congrArg _ (softReset_eq p)), ?_⟩
  obtain ⟨hread, hwrite, hring, hrefused, hint, hlost⟩ := resetStarted_port p
  obtain ⟨cmem, cdoors, cfaults, cneedle, cline, csense, crun⟩ := resetEnded_kept p
  obtain ⟨esignals, edoors, ewarnings, egauges, elog, ehead, ewrap, esupply, eforced, ereceiver, erate, eport⟩ :=
    softBlocks_values c
  obtain ⟨x, hx⟩ := startConfigIdle_run (abortTaken e)
  have htrun : t.run = { s.run.abandoned with state := .config, configIdleTimer := x } := by
    simp [t, hx, e, c, crun, p]
  have hemem : e.mem = s.mem := by simp [e, c, cmem, p]
  have hesound : e.memorySound := memorySound_of_mem s e hemem hm
  have htmem : t.mem = (abortTaken e).mem := by simp [t]
  have hslot (i : Nat) : t.slotState i = (abortTaken e).slotState i := slotState_of_mem _ _ i htmem
  have htdoors : t.doors = s.doors.blanked 0#32 s.doors.releaseDelay := by simp [t, e, edoors, c, cdoors, p]
  have htaken (i : Nat) (hi : i < 16) (hs : s.slotState i = .taken) : t.slotState i = .failed ∧
      Memory.read t.mem (slotBase i + 3) = byteOf ResultCode.aborted.code := by
    rw [hslot, htmem]
    exact abortTaken_taken i e hi hesound ((slotState_of_mem s e i hemem).trans hs)
  have hfree (i : Nat) (hi : i < 16) (hs : s.slotState i ≠ .taken) : t.slotState i = s.slotState i := by
    have he := slotState_of_mem s e i hemem
    rw [hslot, abortTaken_other i e hi (he ▸ hs), he]
  have hquiet : s.run.state ≠ .run → s.shop.session = .detached → (∀ i, i < 16 → s.slotState i ≠ .taken) →
      t.port.noticeWrite = 1#7 ∧ (t.port.ring.get 0).kind = .stateChange := by
    intro hnr hdet hnone
    have hc : c = resetStarted p := resetEnded_quiet p hnr hdet
    have hnone' : abortTaken e = e := abortTaken_none e fun i hi => by
      rw [slotState_of_mem s e i hemem]
      exact hnone i hi
    have ht : t.port = { (resetStarted p).port with statusUpd := bump (resetStarted p).port.statusUpd } := by
      rw [← hc, ← eport, ← congrArg State.port hnone']
      simp [t]
    rw [ht]
    exact ⟨hwrite, hring⟩
  refine ⟨by simp [t, e, c, resetEnded, p, resetStarted], by simp [htrun], by simp [htrun, RunLogic.abandoned],
    by simp [htrun, RunLogic.abandoned], by simp [htrun, RunLogic.abandoned], by simp [htrun, RunLogic.abandoned],
    by simp [htrun, RunLogic.abandoned], by simp [t, e, c, resetEnded, hread], hquiet,
    by simp [t, e, c, resetEnded, hrefused], by simp [t, e, c, resetEnded, hint], by simp [t, e, c, resetEnded, hlost],
    by simp [t, e, c, resetEnded, endSession_detached], by simp [t, e, eforced], by simp [t, e, ereceiver],
    by simp [t, e, erate], htaken, hfree, by simp [htdoors, DoorUnit.blanked],
    by simp [State.stopBrakeDemand, htdoors, DoorUnit.blanked],
    fun n hn => by simp [t, e, esignals, hn, Signal.blanked],
    fun w hw => by simp [t, e, ewarnings, hw, Warning.blanked],
    fun d hd => by simp [htdoors, DoorUnit.blanked, Door.blanked, hd], by simp [t, e, elog, c, cline, p],
    by simp [t, e, ehead, c, cline, p], by simp [t, e, ewrap, c, cline, p],
    fun hnr => by simp [t, e, c, cfaults hnr, p], fun h => by simp [htrun, RunLogic.abandoned, h],
    fun h => by simp [htrun, RunLogic.abandoned, h],
    fun i hi => by simp [t, e, egauges, hi, Gauge.atSoftReset_needle, c, cneedle, p],
    by simp [t, e, esupply, c, csense, p], State.changesOnly_of _ _ _ ?_⟩
  simp [runParts, t, e, c, resetEnded, p, resetStarted]

end Sys2Proof.Machine
end

section
/-! PROOFS. O19: what RUN entry leaves, and the two ends of a validation. -/

namespace Sys2Proof.Machine

/-! ### Lamp duties (R122) -/

/-- A taking of the composition chooses the lamps' commands and leaves their duties. -/
@[simp] theorem compose_duty (announce : Bool) (l : Nat) (s : State) (hl : l < 32) :
    ((compose announce s).comp.lamps.get l).duty = (s.comp.lamps.get l).duty := by
  unfold compose
  split
  · refine when_induct (fun t => (t.comp.lamps.get l).duty = (s.comp.lamps.get l).duty) _ _ _
      (fun _ h => by simpa using h) ?_
    simp [State.composedUnit, State.commandedLamps, hl]
  · split <;> simp

@[simp] theorem commitWarning_duty (w : Nat) (m : WarningMove) (l : Nat) (s : State) (hl : l < 32) :
    ((commitWarning w m s).comp.lamps.get l).duty = (s.comp.lamps.get l).duty := by
  simp [commitWarning, hl]

@[simp] theorem takeCondition_duty (w l : Nat) (s : State) (hl : l < 32) :
    ((takeCondition w s).comp.lamps.get l).duty = (s.comp.lamps.get l).duty := by
  unfold takeCondition
  split <;> simp [hl]

theorem takeConditions_duty (ws : List Nat) (l : Nat) (s : State) (hl : l < 32) :
    ((forEach ws takeCondition s).comp.lamps.get l).duty = (s.comp.lamps.get l).duty :=
  forEach_induct (fun t => (t.comp.lamps.get l).duty = (s.comp.lamps.get l).duty) _ _ s
    (fun w _ t ht => by rw [takeCondition_duty w l t hl, ht]) rfl

theorem takeInterlock_duty (l : Nat) (s : State) (hl : l < 32) :
    ((takeInterlock s).comp.lamps.get l).duty = (s.comp.lamps.get l).duty := by
  refine when_induct (fun t => (t.comp.lamps.get l).duty = (s.comp.lamps.get l).duty) _ _ _ (fun _ h => ?_) (by simp)
  rw [takeSource, takeConditions_duty _ l _ hl]
  exact h

theorem firstComposition_duty (l : Nat) (s : State) (hl : l < 32) :
    ((firstComposition s).comp.lamps.get l).duty = (s.comp.lamps.get l).duty := by
  simp [firstComposition, State.commandedLamps, hl]

/-- With no usable dimmer signal every lamp has the duty of its day level (R122). -/
theorem takeDuties_day (l : Nat) (s : State) (hl : l < 32) (h : s.usableSignal s.setup.general.dimmer = false) :
    ((takeDuties s).comp.lamps.get l).duty = 4 * (s.setup.lamps.get l).day := by
  simp only [takeDuties, h, Bool.false_eq_true, if_false, State.setComp_comp, Table.get_tabulate _ l hl, dutyOf]
  omega

/-! ### RUN entry (R198, R200) -/

/-- The state in which RUN entry takes its blocks: each at its own RUN-entry value. -/
def blocksSet (byApply : Bool) (s : State) : State :=
  writeStatus (setBlocks byApply (changeRunState .run (abortLine s)))

theorem enterRun_eq (byApply : Bool) (s : State) :
    enterRun byApply s = startMinor 0 s.now (startRunOn (startLiveness (takeBlocks (blocksSet byApply s)))) := by
  simp [enterRun, blocksSet]

theorem enterRun_run (byApply : Bool) (s : State) :
    (enterRun byApply s).run = { s.run with
      state := .run
      runOnTimer := if s.run.ignition then none else some (s.inMs (1000 * s.setup.general.runOnTime))
      configIdleTimer := none
      standbyPending := false } := by
  simp [enterRun_eq, startRunOn, blocksSet, State.inMs]

/-- After the takings only the timers, the line and the notices move. -/
theorem enterRun_blocks (byApply : Bool) (s : State) :
    (enterRun byApply s).signals = (blocksSet byApply s).signals ∧
      (enterRun byApply s).gauges = (blocksSet byApply s).gauges ∧
      (enterRun byApply s).doors = (takeBlocks (blocksSet byApply s)).doors ∧
      (enterRun byApply s).warnings = (takeBlocks (blocksSet byApply s)).warnings ∧
      (enterRun byApply s).comp = (takeBlocks (blocksSet byApply s)).comp ∧
      (enterRun byApply s).mem = (abortLine s).mem ∧ (enterRun byApply s).shop = (blocksSet byApply s).shop := by
  simp [enterRun_eq, blocksSet]

theorem blocksSet_frame (byApply : Bool) (s : State) :
    (blocksSet byApply s).now = s.now ∧ (blocksSet byApply s).setup = s.setup ∧
      (blocksSet byApply s).run = { s.run with state := .run } := by
  simp [blocksSet]

theorem blocksSet_signals (byApply : Bool) (s : State) : (blocksSet byApply s).signals = s.freshSignals := by
  simp [blocksSet, setBlocks, State.freshSignals]

theorem blocksSet_gauges (byApply : Bool) (s : State) : (blocksSet byApply s).gauges = s.freshGauges byApply := by
  simp [blocksSet, setBlocks, State.freshGauges]

theorem blocksSet_doors (byApply : Bool) (s : State) :
    (blocksSet byApply s).doors = s.doors.blanked s.time s.setup.releaseDelay := by
  simp [blocksSet, setBlocks, State.time, State.ms]

/-- No signal is usable at RUN entry (R12). -/
theorem Signal.fresh_unusable (x : Signal) (kind : SourceKind) : (x.fresh kind).status.usable = false := by
  cases kind <;> rfl

theorem blocksSet_unusable (byApply : Bool) (n : Nat) (s : State) :
    ((blocksSet byApply s).signals.get n).status.usable = false := by
  rw [blocksSet_signals]
  by_cases hn : n < 128
  · rw [State.freshSignals, Table.get_tabulate _ n hn, Signal.fresh_unusable]
  · rw [Table.get_past _ _ (by omega)]
    rfl

/-- A taking of the interlock moves the interlock's own fields alone. -/
theorem takeInterlock_unit (s : State) : (takeInterlock s).doors = (putMotion s.interlockTaken s).doors := by
  rw [takeInterlock]
  exact when_doors _ _ _ (by simp)

theorem takeBlocks_doors (s : State) :
    (takeBlocks s).doors = (putMotion (firstComposition
      (forEach (List.range 96) takePriority (takeDuties s))).interlockTaken s).doors := by
  simp [takeBlocks, takeInterlock_unit, putMotion]

theorem takeBlocks_motion (s : State) :
    (takeBlocks s).doors.doors = s.doors.doors ∧ (takeBlocks s).doors.motion = s.doors.motion ∧
      (takeBlocks s).doors.speedSource = s.doors.speedSource ∧ (takeBlocks s).doors.speed = s.doors.speed ∧
      (takeBlocks s).doors.stopTimer = s.doors.stopTimer := by
  rw [takeBlocks_doors]
  simp [putMotion, State.interlockTaken]

theorem takeBlocks_day (l : Nat) (s : State) (hl : l < 32) (h : s.usableSignal s.setup.general.dimmer = false) :
    ((takeBlocks s).comp.lamps.get l).duty = 4 * (s.setup.lamps.get l).day := by
  rw [takeBlocks, takeConditions_duty _ l _ hl, takeInterlock_duty l _ hl, firstComposition_duty l _ hl,
    forEach_comp _ _ _ (by simp), takeDuties_day l s hl h]

/-- RUN entry aborts the transfers in flight, and leaves every other slot. -/
theorem abortLine_slotState (i : Nat) (s : State)
    (h : ∀ k a b d l ws, OneShot.transfer k a b d l ws ∈ s.line.oneShots → k % 16 ≠ i % 16) :
    (abortLine s).slotState i = s.slotState i := by
  have hmem : (abortLine s).mem = (s.line.oneShots.foldl (fun u o => abortOneShot o u) s).mem := by simp [abortLine]
  rw [slotState_of_mem _ _ i hmem]
  refine foldl_induct (fun t => t.slotState i = s.slotState i) _ _ s (fun o ho t ht => ?_) rfl
  cases o with
  | transfer k a b d l ws => exact (slotFailed_slotState_other k i _ _ _ t (h k a b d l ws ho)).trans ht
  | service a => exact ht

theorem startNext_line (s : State) :
    (startNext s).line.minor = s.line.minor ∧ (startNext s).line.minorNext = s.line.minorNext := by
  refine when_induct (fun t => t.line.minor = s.line.minor ∧ t.line.minorNext = s.line.minorNext) _ _ s
    (fun _ _ => ?_) ⟨rfl, rfl⟩
  obtain ⟨hminor, hnext, -⟩ := walkOn_line s.line.walk s
  exact ⟨hminor, hnext⟩

/-- A minor cycle has its number, and its end one cycle length on (R58). -/
theorem startMinor_line (m due : Nat) (s : State) :
    (startMinor m due s).line.minor = m ∧
      (startMinor m due s).line.minorNext = some (due + 1000 * s.setup.settings.cycleLength) := by
  obtain ⟨hminor, hnext⟩ := startNext_line (s.setLine { s.line with
    minor := m
    minorNext := some (due + 1000 * s.setup.settings.cycleLength)
    walk := s.setup.dueIn m
    search := if m = 0 then s.line.search.map otherChannel else s.line.search
    probeMade := s.line.probeMade && m ≠ 0 })
  exact ⟨hminor, hnext⟩

/-! ### The ends of a validation (R198) -/

theorem setupValidationEnd_fails (s : State) (i : Nat) (f : SetupFailure) (h : s.run.applySlot = some i)
    (hf : (Setup.ofMemory s.mem).firstFailure = some f) :
    exec .setupValidationEnd s = .next (validationFails i f s) := by
  change Host.Outcome.next (validationEnds s) = _
  simp [validationEnds, h, hf]

theorem setupValidationEnd_passes (s : State) (i : Nat) (h : s.run.applySlot = some i)
    (hf : (Setup.ofMemory s.mem).firstFailure = none) : exec .setupValidationEnd s = .next (validationPasses i s) := by
  change Host.Outcome.next (validationEnds s) = _
  simp [validationEnds, h, hf]

theorem validationFails_run (i : Nat) (f : SetupFailure) (s : State) :
    ∃ x, (validationFails i f s).run = { s.run with
      applySlot := none, lastResult := .setupInvalid, lastDetail := f.1, configIdleTimer := x } := by
  let u := slotFailed i .setupInvalid f.1 [byteOf f.1, byteOf f.2.1, byteOf f.2.2] s
  obtain ⟨x, hx⟩ := startConfigIdle_run (writeStatus (u.setRun { u.run with
    applySlot := none, lastResult := .setupInvalid, lastDetail := f.1 }))
  exact ⟨x, by rw [validationFails, hx]; simp [u]⟩

/-- The slot of a setup with a failed check: the result code, and the region, the index and the check (R198). -/
theorem validationFails_slot (i : Nat) (f : SetupFailure) (s : State) (hm : s.memorySound) :
    (validationFails i f s).slotState i = .failed ∧
      Memory.read (validationFails i f s).mem (slotBase i + 3) = byteOf ResultCode.setupInvalid.code ∧
      Memory.read (validationFails i f s).mem (slotBase i + 6) = byteOf f.1 ∧
      Memory.read (validationFails i f s).mem (slotBase i + 8) = byteOf f.1 ∧
      Memory.read (validationFails i f s).mem (slotBase i + 9) = byteOf f.2.1 ∧
      Memory.read (validationFails i f s).mem (slotBase i + 10) = byteOf f.2.2 := by
  let body := [byteOf f.1, byteOf f.2.1, byteOf f.2.2]
  have hmem : (validationFails i f s).mem = (finishSlot i .failed .setupInvalid f.1 body s).mem := by
    simp [validationFails, body]
  have hbody (j : Nat) (hj : j < 3) :
      Memory.read (validationFails i f s).mem (slotBase i + (8 + j)) = body.getD j 0#8 := by
    rw [hmem, finishSlot_read _ _ _ _ _ _ hm (8 + j) (by omega), if_neg (by omega), if_pos (by omega),
      Nat.add_sub_cancel_left, padTo_getD _ _ _ hj (by simp [body])]
  refine ⟨?_, ?_, ?_, hbody 0 (by decide), hbody 1 (by decide), hbody 2 (by decide)⟩
  · rw [slotState_of_mem _ _ i hmem, finishSlot_slotState _ _ _ _ _ _ hm]
  · rw [hmem, finishSlot_read _ _ _ _ _ _ hm 3 (by decide)]
    rfl
  · rw [hmem, finishSlot_read _ _ _ _ _ _ hm 6 (by decide)]
    exact wordOf_getD_low f.1

/-- The state in which a setup that passes enters RUN: applied, and its slot DONE (R198, steps 1 to 3). -/
def setupApplied (i : Nat) (s : State) : State :=
  (finishSlot i .done .ok 0 [] (writeStatus (s.setRun { s.run with
    applySlot := none, memoryLost := false, lastResult := .ok, lastDetail := 0 }))).setSetup (Setup.ofMemory s.mem)

theorem validationPasses_eq (i : Nat) (s : State) :
    validationPasses i s = notifyDone i .ok (enterRun true (setupApplied i s)) := rfl

theorem setupApplied_kept (i : Nat) (s : State) :
    (setupApplied i s).setup = Setup.ofMemory s.mem ∧ (setupApplied i s).line = s.line ∧
      (setupApplied i s).doors = s.doors ∧
      (setupApplied i s).run = { s.run with
        applySlot := none, memoryLost := false, lastResult := .ok, lastDetail := 0 } := by
  simp [setupApplied]

theorem setupApplied_slotState (i : Nat) (s : State) (hm : s.memorySound) :
    (setupApplied i s).slotState i = .done := by
  let t := writeStatus (s.setRun { s.run with
    applySlot := none, memoryLost := false, lastResult := .ok, lastDetail := 0 })
  have ht : t.memorySound := memorySound_of_mem s t (by simp [t]) hm
  have hmem : (setupApplied i s).mem = (finishSlot i .done .ok 0 [] t).mem := by simp [setupApplied, t]
  rw [slotState_of_mem _ _ i hmem, finishSlot_slotState i .done .ok 0 [] t ht]

/-- What RUN entry by a passed validation leaves of the blocks (R12, R96, R122, R150). -/
theorem enterRun_applied (s : State) :
    (enterRun true s).doors.motion = .unknown ∧
      (∀ d, d < 4 → ((enterRun true s).doors.doors.get d).cycles = (s.doors.doors.get d).cycles ∧
        ((enterRun true s).doors.doors.get d).obstructions = (s.doors.doors.get d).obstructions) ∧
      (∀ n, n < 128 → ((enterRun true s).signals.get n).status =
        if (s.setup.signals.get n).kind = .none then .notConfigured else .noData) ∧
      (∀ g, g < 6 → ((enterRun true s).gauges.get g).state =
        if (s.setup.gauges.get g).inUse then .homing else .parked) ∧
      ∀ l, l < 32 → ((enterRun true s).comp.lamps.get l).duty = 4 * (s.setup.lamps.get l).day := by
  obtain ⟨hsignals, hgauges, hdoors, -, hcomp, -⟩ := enterRun_blocks true s
  obtain ⟨-, hset, -⟩ := blocksSet_frame true s
  obtain ⟨tdoors, tmotion, -⟩ := takeBlocks_motion (blocksSet true s)
  refine ⟨?_, fun d hd => ?_, fun n hn => ?_, fun g hg => ?_, fun l hl => ?_⟩
  · simp [hdoors, tmotion, blocksSet_doors, DoorUnit.blanked]
  · simp [hdoors, tdoors, blocksSet_doors, DoorUnit.blanked, hd, Door.blanked]
  · rw [hsignals, blocksSet_signals, State.freshSignals, Table.get_tabulate _ n hn]
    rfl
  · rw [hgauges, blocksSet_gauges, State.freshGauges, Table.get_tabulate _ g hg]
    cases hu : (s.setup.gauges.get g).inUse <;> simp [Gauge.atApply, hu]
  · rw [hcomp, takeBlocks_day l _ hl (by simp [State.usableSignal, blocksSet_unusable]), hset]

/-- Settles O19: a failed check ends the request alone, and a passed validation is RUN entry with the new setup. -/
theorem validationsEnd : Obligations.ValidationsEnd := by
  refine ⟨fun s i f hm hi hf => ?fails, fun s i hm hi hf hline => ?passes⟩
  case fails =>
    obtain ⟨x, hrun⟩ := validationFails_run i f s
    obtain ⟨hstate, hcode, hdetail, hregion, hindex, hcheck⟩ := validationFails_slot i f s hm
    refine ⟨validationFails i f s, setupValidationEnd_fails s i f hi hf, by simp, by simp [hrun], by simp [hrun],
      by simp [hrun], by simp [hrun], hstate, hcode, hdetail, hregion, hindex, hcheck, fun hoff => ?_,
      State.changesOnly_of _ _ _ (by simp)⟩
    simp [validationFails, startConfigIdle, hoff, State.inMs, Config.configIdle]
  case passes =>
    obtain ⟨hset, huline, hudoors, hurun⟩ := setupApplied_kept i s
    have hudone := setupApplied_slotState i s hm
    have huframe : s.changesOnly (notifyDone i .ok (enterRun true (setupApplied i s))) (.setup :: runParts) :=
      State.changesOnly_of _ _ _ (by simp [runParts, setupApplied])
    have hpasses := validationPasses_eq i s
    generalize setupApplied i s = u at hset huline hudoors hurun hudone huframe hpasses
    obtain ⟨hmotion, hdoors, hsignals, hgauges, hlamps⟩ := enterRun_applied u
    obtain ⟨-, -, -, -, -, hmem, -⟩ := enterRun_blocks true u
    rw [hset] at hsignals hgauges hlamps
    rw [hudoors] at hdoors
    have hrun : (enterRun true u).run.state = .run ∧ (enterRun true u).run.applySlot = none ∧
        (enterRun true u).run.lastResult = .ok ∧ (enterRun true u).run.memoryLost = false := by
      simp [enterRun_run, hurun]
    obtain ⟨hstate, hslot, hresult, hlost⟩ := hrun
    have hdone : (enterRun true u).slotState i = .done := by
      rw [slotState_of_mem (abortLine u) _ i hmem, abortLine_slotState i u (by rwa [huline]), hudone]
    have hminor : (enterRun true u).line.minor = 0 := by
      rw [enterRun_eq]
      exact (startMinor_line 0 u.now _).1
    refine ⟨validationPasses i s, setupValidationEnd_passes s i hi hf, ?_⟩
    rw [hpasses, slotState_of_mem (enterRun true u) _ i (by simp)]
    simp only [notifyDone_frame]
    exact ⟨hstate, hslot, hresult, hlost, by simp [hset], hdone, hminor, hmotion, hdoors, hsignals, hgauges, hlamps,
      huframe⟩

end Sys2Proof.Machine
end

section
/-! PROOFS. O28: the ignition line, and the return to RUN that it brings in SHUTDOWN. -/

namespace Sys2Proof.Machine

/-! ### Signals, doors and gauges at the return (R12, R96, R149) -/

theorem Signal.fresh_startsAfresh (x : Signal) (u : SignalSetup) : x.startsAfresh (x.fresh u.kind) u := by
  simp [Signal.startsAfresh, Signal.fresh, bump]

theorem Door.blanked_startsAfresh (x : Door) (time : Time) : x.startsAfresh (x.blanked time) time := by
  simp [Door.startsAfresh, Door.blanked]

/-- A gauge at the return of ignition: what it keeps, and the three ways on from its state. -/
theorem Gauge.atReturn_returns (x : Gauge) (u : GaugeSetup) (now : Nat) : x.returns (x.atReturn u now) u now := by
  cases hu : u.inUse with
  | false => simp [Gauge.returns, Gauge.atReturn, hu]
  | true =>
    by_cases hs : x.state = .homing
    · simp [Gauge.returns, Gauge.atReturn, hu, hs]
    · by_cases hh : u.staleHold = 0
      · simp [Gauge.returns, Gauge.atReturn, Gauge.startHold, Gauge.toParking, hu, hs, hh, Config.gaugePeriod]
      · simp [Gauge.returns, Gauge.atReturn, Gauge.startHold, hu, hs, hh, Config.gaugePeriod]

/-! ### Warnings at the return (R114) -/

/-- `y` stands INACTIVE as RUN entry sets it up from `x`, its count and its activation time kept. -/
def Warning.standsBy (x y : Warning) : Prop :=
  y.state = .inactive ∧ y.acked = false ∧ y.condition = false ∧ y.occurrences = x.occurrences ∧
    y.activation = x.activation

theorem Warning.blanked_standsBy (x : Warning) : x.standsBy (x.blanked true) := by
  simp [Warning.standsBy, Warning.blanked]

theorem putWarning_get_other (w v : Nat) (x : Warning) (s : State) (h : v ≠ w) :
    (putWarning w x s).warnings.get v = s.warnings.get v := Table.get_set_other _ _ _ _ h

theorem putWarning_get_same (w : Nat) (x : Warning) (s : State) (h : w < 96) :
    ∃ u, (putWarning w x s).warnings.get w = { x with upd := u } := ⟨_, Table.get_set_same _ _ _ h⟩

/-- A priority that is worked out afresh leaves a warning's state and condition. -/
theorem takePriority_standsBy (x : Warning) (w v : Nat) (s : State) (hw : w < 96)
    (h : x.standsBy (s.warnings.get w)) : x.standsBy ((takePriority v s).warnings.get w) := by
  refine when_induct (fun t => x.standsBy (t.warnings.get w)) _ _ s (fun _ h => ?_) h
  by_cases hv : w = v
  · subst hv
    rw [putWarning, State.setWarnings_warnings, Table.get_set_same _ _ _ hw]
    exact h
  · rw [putWarning_get_other v w _ s hv]
    exact h

/-- A warning's move writes its own record alone. -/
theorem commitWarning_warnings (w : Nat) (m : WarningMove) (s : State) :
    (commitWarning w m s).warnings = (putWarning w m.1 s).warnings := by
  simp [commitWarning]

theorem takeCondition_get_other (w v : Nat) (s : State) (h : v ≠ w) :
    (takeCondition w s).warnings.get v = s.warnings.get v := by
  unfold takeCondition
  split
  · rw [commitWarning_warnings, putWarning_get_other w v _ s h]
  · rfl

/-- A signal with no data is not usable, and fails every test but NOT_VALID (R102). -/
theorem signalTest_noData (u : WarningSetup) (present : Bool) (g : Signal)
    (hg : g.status = .noData ∨ g.status = .notConfigured) :
    signalTest u present g = decide (u.operator = .notValid) := by
  by_cases ho : u.operator = .notValid
  · obtain hg | hg := hg <;> simp [signalTest, ho, hg, SignalStatus.usable]
  · obtain hg | hg := hg <;> simp [signalTest, ho, hg]

/-- The taking of a warning that stands by (R100, R104). -/
theorem takeCondition_returns (x : Warning) (w : Nat) (s : State) (hw : w < 96) (hr : s.run.state = .run)
    (h : x.standsBy (s.warnings.get w))
    (hg : (s.signals.get (s.setup.warnings.get w).index).status = .noData ∨
      (s.signals.get (s.setup.warnings.get w).index).status = .notConfigured) :
    x.returns ((takeCondition w s).warnings.get w) (s.setup.warnings.get w) s.time s.now := by
  obtain ⟨hstate, hacked, hcond, hocc, hact⟩ := h
  have htest (hk : (s.setup.warnings.get w).kind = .signalTest) :
      s.conditionOf w = decide ((s.setup.warnings.get w).operator = .notValid) := by
    simp only [State.conditionOf, hk, signalTest_noData _ _ _ hg]
  by_cases hmove : (s.setup.warnings.get w).kind ≠ .unused ∧ s.conditionOf w = true
  · obtain ⟨hk, hc⟩ := hmove
    have htake : takeCondition w s = commitWarning w ((s.warnings.get w).onCondition (s.setup.warnings.get w) true
        (s.testsForced w) s.time s.now) s := by
      simp [takeCondition, State.inRun, hr, hk, hc, hcond]
    obtain ⟨u, hu⟩ := putWarning_get_same w ((s.warnings.get w).onCondition (s.setup.warnings.get w) true
      (s.testsForced w) s.time s.now).1 s hw
    rw [htake, commitWarning_warnings, hu]
    have hop (hk : (s.setup.warnings.get w).kind = .signalTest) :
        (s.setup.warnings.get w).operator = .notValid := by simpa [hc] using htest hk
    by_cases hd : (s.setup.warnings.get w).onDelay = 0
    · simpa [Warning.returns, Warning.onCondition, Warning.activated, hstate, hd, hk, hocc, saturate] using hop
    · simpa [Warning.returns, Warning.onCondition, hstate, hd, hk, hocc, hact, hacked] using hop
  · have htake : takeCondition w s = s := by
      by_cases hk : (s.setup.warnings.get w).kind = .unused
      · simp [takeCondition, hk]
      · have hc : s.conditionOf w = false := by simpa [hk] using hmove
        simp [takeCondition, hc, hcond]
    have hop (hk : (s.setup.warnings.get w).kind = .signalTest) :
        (s.setup.warnings.get w).operator ≠ .notValid := by
      have hc : s.conditionOf w = false := by simpa [hk] using hmove
      simpa [hc] using htest hk
    rw [htake]
    simpa [Warning.returns, hstate, hacked, hcond, hocc, hact] using hop

/-- No warning reads INTERLOCK_OVERRIDDEN as true while the interlock is not OVERRIDDEN (R103). -/
theorem takeSource_notOverridden (s : State) (h : s.doors.interlock ≠ .overridden)
    (hc : ∀ w, w < 96 → (s.warnings.get w).condition = false) : takeSource .interlockOverridden 0 s = s := by
  refine forEach_induct (· = s) _ _ s (fun w hw t ht => ?_) rfl
  subst ht
  simp only [State.readersOf, List.mem_filter, List.mem_range, Bool.and_eq_true, decide_eq_true_eq] at hw
  obtain ⟨hw, ⟨hk, hs⟩, -⟩ := hw
  have hcond : t.conditionOf w = false := by
    simp [State.conditionOf, hk, hs, State.sourceTrue, Source.range, State.sourceAt, h]
  simp [takeCondition, hcond, hc w hw]

/-! ### The interlock at the return (R95) -/

/-- With no channel settled the override input is not active (R94). -/
theorem overrideActive_unsettled (s : State) (h : ∀ c, (s.sense.channels.get c).settled = false) :
    s.overrideActive = false := by
  simp [State.overrideActive, h]

/-- With no door proven closed the demand conditions hold where some door is enabled (R92). -/
theorem demandConditions_unproven (s : State) (h : ∀ d, d < 4 → (s.doors.doors.get d).proven = false) :
    s.demandConditions = true ↔ ∃ d, d < 4 ∧ (s.setup.doors.get d).enabled = true := by
  simp only [State.demandConditions, List.any_eq_true, mem_enabledDoors, State.doorOpen, Bool.and_eq_true,
    Bool.not_eq_true']
  constructor
  · rintro ⟨d, hd, -⟩
    exact ⟨d, hd⟩
  · rintro ⟨d, hd, he⟩
    exact ⟨d, ⟨hd, he⟩, he, h d hd⟩

/-- With no door enabled there is no release delay (R92). -/
theorem releaseDelay_unguarded (u : Setup) (h : ¬∃ d, d < 4 ∧ (u.doors.get d).enabled = true) : u.releaseDelay = 0 := by
  have hnone : u.enabledDoors = [] := by
    rw [List.eq_nil_iff_forall_not_mem]
    intro d hd
    exact h ⟨d, (mem_enabledDoors u d).1 hd⟩
  simp [Setup.releaseDelay, hnone]

/-- The first taking of the interlock at RUN entry (R95). -/
theorem interlockTaken_entry (s : State) (hi : s.doors.interlock = .demand)
    (hd : s.doors.releaseDelay = s.setup.releaseDelay) (hp : ∀ d, d < 4 → (s.doors.doors.get d).proven = false)
    (hc : ∀ c, (s.sense.channels.get c).settled = false) :
    ((∃ d, d < 4 ∧ (s.setup.doors.get d).enabled = true) → s.interlockTaken.interlock = .demand) ∧
      ((¬∃ d, d < 4 ∧ (s.setup.doors.get d).enabled = true) → s.interlockTaken.interlock = .released) := by
  have ho := overrideActive_unsettled s hc
  constructor
  · intro hg
    simp [State.interlockTaken, interlockMove, (demandConditions_unproven s hp).2 hg, ho]
  · intro hg
    have hn : s.demandConditions = false := Bool.eq_false_iff.2 (mt (demandConditions_unproven s hp).1 hg)
    simp [State.interlockTaken, interlockMove, hn, hi, releaseStart, hd, releaseDelay_unguarded s.setup hg]

/-! ### The takings of RUN entry -/

/-- The state in which RUN entry takes the interlock: duties, priorities and the composition taken. -/
def composedFirst (s : State) : State := firstComposition (forEach (List.range 96) takePriority (takeDuties s))

theorem takeBlocks_eq (s : State) :
    takeBlocks s = forEach (List.range 96) takeCondition (takeInterlock (composedFirst s)) := rfl

theorem composedFirst_frame (s : State) :
    (composedFirst s).now = s.now ∧ (composedFirst s).run = s.run ∧ (composedFirst s).setup = s.setup ∧
      (composedFirst s).signals = s.signals ∧ (composedFirst s).sense = s.sense ∧
      (composedFirst s).doors = s.doors := by
  simp [composedFirst]

/-- What RUN entry leaves of the interlock and of a warning, from blocks that stand at their RUN-entry values. -/
theorem takeBlocks_takes (s : State) (hr : s.run.state = .run) (hi : s.doors.interlock = .demand)
    (hd : s.doors.releaseDelay = s.setup.releaseDelay) (hp : ∀ d, d < 4 → (s.doors.doors.get d).proven = false)
    (hc : ∀ c, (s.sense.channels.get c).settled = false)
    (hg : ∀ n, (s.signals.get n).status = .noData ∨ (s.signals.get n).status = .notConfigured)
    (x : Nat → Warning) (hw : ∀ w, w < 96 → (x w).standsBy (s.warnings.get w)) :
    ((∃ d, d < 4 ∧ (s.setup.doors.get d).enabled = true) → (takeBlocks s).doors.interlock = .demand) ∧
      ((¬∃ d, d < 4 ∧ (s.setup.doors.get d).enabled = true) → (takeBlocks s).doors.interlock = .released) ∧
      ∀ w, w < 96 → (x w).returns ((takeBlocks s).warnings.get w) (s.setup.warnings.get w) s.time s.now := by
  obtain ⟨cnow, crun, cset, csig, csense, cdoors⟩ := composedFirst_frame s
  let c := composedFirst s
  have hstands (w : Nat) (hlt : w < 96) : (x w).standsBy (c.warnings.get w) := by
    have hprio := forEach_induct (fun t => (x w).standsBy (t.warnings.get w)) (List.range 96) takePriority
      (takeDuties s) (fun v _ t ht => takePriority_standsBy (x w) w v t hlt ht) (by simpa using hw w hlt)
    simpa [c, composedFirst] using hprio
  obtain ⟨hdemand, hreleased⟩ := interlockTaken_entry c (by rw [cdoors, hi]) (by rw [cdoors, cset, hd])
    (by rw [cdoors]; exact hp) (by rw [csense]; exact hc)
  rw [cset] at hdemand hreleased
  have hinterlock : (takeBlocks s).doors.interlock = c.interlockTaken.interlock := by
    simp [takeBlocks_eq, takeInterlock_unit, putMotion, c]
  refine ⟨fun h => hinterlock.trans (hdemand h), fun h => hinterlock.trans (hreleased h), fun w hlt => ?_⟩
  have hover : c.interlockTaken.interlock ≠ .overridden := by
    by_cases h : ∃ d, d < 4 ∧ (s.setup.doors.get d).enabled = true
    · rw [hdemand h]
      decide
    · rw [hreleased h]
      decide
  have hquiet : (takeInterlock c).warnings = c.warnings := by
    refine when_induct (fun t => t.warnings = c.warnings) _ _ _ (fun _ h => ?_) (by simp)
    rw [takeSource_notOverridden _ (by simpa [putMotion] using hover) fun v hv => ?_]
    · exact h
    · rw [h]
      exact (hstands v hv).2.2.1
  let P (t : State) : Prop := (x w).standsBy (t.warnings.get w) ∧ t.run = s.run ∧ t.setup = s.setup ∧
    t.signals = s.signals ∧ t.now = s.now
  refine forEach_reaches P
    (fun t => (x w).returns (t.warnings.get w) (s.setup.warnings.get w) s.time s.now) (List.range 96) takeCondition
    (takeInterlock c) w (List.mem_range.2 hlt) List.nodup_range ?_ (fun v _ hv t ht => ?_) (fun t ht => ?_)
    (fun v _ hv t ht => ?_)
  · exact ⟨by rw [hquiet]; exact hstands w hlt, by simp [c, crun], by simp [c, cset], by simp [c, csig],
      by simp [c, cnow]⟩
  · obtain ⟨hst, hrest⟩ := ht
    exact ⟨by rw [takeCondition_get_other v w t (Ne.symm hv)]; exact hst, by simpa using hrest⟩
  · obtain ⟨hst, hrun, hset, hsig, hnow⟩ := ht
    have htime : t.time = s.time := by simp [State.time, State.ms, hnow]
    have := takeCondition_returns (x w) w t hlt (by rw [hrun, hr]) hst (by rw [hsig]; exact hg _)
    rwa [hset, htime, hnow] at this
  · rwa [takeCondition_get_other v w t (Ne.symm hv)]

/-! ### The line at the return (R58, R74) -/

/-- A walk looks alike from the state it leads to: of what it reads, it moves only the line. -/
theorem walks_after (s t : State) (l : List Nat) (next : Nat) (h : s.walks t l next)
    (hkept : t.setup = s.setup ∧ t.signals = s.signals ∧ t.doors = s.doors ∧ t.comp = s.comp) :
    (t.setLine { t.line with overrun := s.line.overrun }).walks t l next := by
  obtain ⟨hset, hsig, hdoors, hcomp⟩ := hkept
  let u := t.setLine { t.line with overrun := s.line.overrun }
  have hu : u.setup = s.setup ∧ u.signals = s.signals ∧ u.doors = s.doors ∧ u.comp = s.comp ∧
      u.line.overrun = s.line.overrun ∧ u.line.oneShots = t.line.oneShots ∧ u.line.stations = t.line.stations ∧
      u.line.healthA = t.line.healthA ∧ u.line.healthB = t.line.healthB ∧
      u.line.transaction = t.line.transaction := by simp [u, hset, hsig, hdoors, hcomp]
  obtain ⟨uset, usig, udoors, ucomp, uover, ushots, ustations, uA, uB, utrans⟩ := hu
  have hwords (o : OneShot) : u.wordsOfOneShot o = s.wordsOfOneShot o := by
    cases o <;> simp [State.wordsOfOneShot, uset]
  change u.walks t l next
  simp only [State.walks, State.startsEntry, State.sends, State.startsOneShot, hwords, uset, usig, udoors, ucomp,
    uover, ushots, ustations, uA, uB, utrans] at h ⊢
  obtain ⟨hfirst, hlist, hshots, -⟩ := h
  refine ⟨hfirst, fun hlate => ?_, trivial, trivial, trivial, trivial⟩
  obtain ⟨hwalk, hover, hnone, hhead⟩ := hlist hlate
  refine ⟨hwalk, hover, fun ho => ⟨(hnone (hshots ▸ ho)).1, trivial⟩, fun o rest ho => ?_⟩
  obtain ⟨hfits, hlate⟩ := hhead o rest (hshots ▸ ho)
  exact ⟨hfits, fun hn => ⟨(hlate hn).1, trivial⟩⟩

/-- The line of RUN entry: the stations anew, and minor cycle 0 walking from it (R58, R74). -/
theorem enterRun_walks (byApply : Bool) (s : State) :
    (∀ a, 1 ≤ a → a < 16 → (enterRun byApply s).line.stations.get a =
      { state := if (s.setup.stations.get a).enabled then .unknown else .unused
        upd := ((enterRun byApply s).line.stations.get a).upd }) ∧
      (enterRun byApply s).line.oneShots = [] ∧
      ((enterRun byApply s).setLine { (enterRun byApply s).line with overrun := 0 }).walks (enterRun byApply s)
        (s.setup.dueIn 0) (s.now + 1000 * s.setup.settings.cycleLength) := by
  let v := startRunOn (startLiveness (takeBlocks (blocksSet byApply s)))
  let b := (abortLine s).line.blanked s.setup.stationAtEntry s.setup.settings.preferred
  let q := v.setLine { b with
    minorNext := some (s.now + 1000 * s.setup.settings.cycleLength), walk := s.setup.dueIn 0 }
  have henter : enterRun byApply s = walkOn (s.setup.dueIn 0) q := by
    have hset : v.setup = s.setup := by simp [v, blocksSet]
    have hline : v.line = b := by simp [v, blocksSet, setBlocks, b]
    have hrun : v.run.state = .run := by simp [v, blocksSet]
    rw [enterRun_eq]
    have hq : q.inRun = true := by simp [q, State.inRun, hrun]
    have hstart : startMinor 0 s.now v = startNext q := by
      simp only [startMinor, hset, hline]
      rfl
    change startMinor 0 s.now v = _
    rw [hstart, startNext, hq, when_true]
    rfl
  have hwalks := walkOn_walks (s.setup.dueIn 0) q _ rfl rfl
  rw [← henter] at hwalks
  have hafter := walks_after q (enterRun byApply s) _ _ hwalks (by rw [henter]; simp)
  obtain ⟨-, -, hshots, hstations, -⟩ := hwalks
  refine ⟨fun a h1 h16 => ?_, hshots, hafter⟩
  rw [hstations]
  simp [q, b, BodyLine.blanked, Station.blanked, h16, Nat.ne_of_gt h1, Setup.stationAtEntry]

/-! ### The return to RUN (R200) -/

/-- The state once the tenth sample has changed the ignition state (R31). -/
def ignitionSet (on : Bool) (s : State) : State :=
  writeStatus (s.setRun { s.run with ignition := on, ignitionTally := 0 })

theorem ignitionSet_kept (on : Bool) (s : State) :
    (ignitionSet on s).setup = s.setup ∧ (ignitionSet on s).now = s.now ∧ (ignitionSet on s).signals = s.signals ∧
      (ignitionSet on s).doors = s.doors ∧ (ignitionSet on s).warnings = s.warnings ∧
      (ignitionSet on s).gauges = s.gauges ∧ (ignitionSet on s).faults = s.faults ∧
      (ignitionSet on s).shop = s.shop ∧
      (ignitionSet on s).run = { s.run with ignition := on, ignitionTally := 0 } := by
  simp [ignitionSet]

theorem ignitionSet_changesOnly (on : Bool) (s t : State)
    (h : (ignitionSet on s).changesOnly t [.runLogic, .statusBlock]) : s.changesOnly t [.runLogic, .statusBlock] :=
  State.changesOnly_trans s (ignitionSet on s) t _
    (State.changesOnly_of _ _ _ (by simp [ignitionSet, writeStatus])) h

/-- The blocks as the return of ignition sets them, ready to be taken. -/
theorem blocksSet_entry (s : State) :
    (blocksSet false s).doors.interlock = .demand ∧
      (blocksSet false s).doors.releaseDelay = (blocksSet false s).setup.releaseDelay ∧
      (∀ d, d < 4 → ((blocksSet false s).doors.doors.get d).proven = false) ∧
      (∀ c, ((blocksSet false s).sense.channels.get c).settled = false) ∧
      (∀ n, ((blocksSet false s).signals.get n).status = .noData ∨
        ((blocksSet false s).signals.get n).status = .notConfigured) ∧
      ∀ w, w < 96 → (s.warnings.get w).standsBy ((blocksSet false s).warnings.get w) := by
  obtain ⟨-, hset, -⟩ := blocksSet_frame false s
  obtain ⟨-, -, hwarnings, -, -, -, hsettled⟩ := setBlocks_values (changeRunState .run (abortLine s))
  refine ⟨?_, ?_, fun d hd => ?_, fun c => ?_, fun n => ?_, fun w hw => ?_⟩
  · simp [blocksSet_doors, DoorUnit.blanked]
  · simp [blocksSet_doors, DoorUnit.blanked, hset]
  · simp [blocksSet_doors, DoorUnit.blanked, hd, Door.blanked]
  · simpa [blocksSet] using hsettled c
  · rw [blocksSet_signals]
    by_cases hn : n < 128
    · rw [State.freshSignals, Table.get_tabulate _ n hn]
      cases (s.setup.signals.get n).kind <;> simp [Signal.fresh]
    · rw [Table.get_past _ _ (by omega)]
      exact .inr rfl
  · simp only [blocksSet, writeStatus_frame, hwarnings, changeRunState_frame, abortLine_frame, Table.get_map _ _ w hw]
    exact Warning.blanked_standsBy _

/-- RUN entry by the return of ignition, in the terms of R200. -/
theorem enterRun_returnsToRun (s : State) : s.returnsToRun (enterRun false (ignitionSet true s)) := by
  obtain ⟨uset, unow, usig, udoors, uwarn, ugauges, ufaults, ushop, urun⟩ := ignitionSet_kept true s
  have hframe : s.changesOnly (enterRun false (ignitionSet true s)) runParts :=
    State.changesOnly_of _ _ _ (by simp [runParts, ignitionSet])
  generalize ignitionSet true s = u at *
  have utime : u.time = s.time := by simp [State.time, State.ms, unow]
  obtain ⟨hsignals, hgauges, hdoors, hwarnings, -, -, hshop⟩ := enterRun_blocks false u
  obtain ⟨bnow, bset, brun⟩ := blocksSet_frame false u
  obtain ⟨binterlock, bdelay, bproven, bsettled, bsignals, bwarnings⟩ := blocksSet_entry u
  obtain ⟨tdoors, tmotion, tsource, tspeed, tstop⟩ := takeBlocks_motion (blocksSet false u)
  obtain ⟨hdemand, hreleased, htaken⟩ := takeBlocks_takes (blocksSet false u) (by simp [brun]) binterlock bdelay
    bproven bsettled bsignals u.warnings.get bwarnings
  obtain ⟨hstations, hshots, hwalks⟩ := enterRun_walks false u
  have hrunState : (enterRun false u).run.state = .run ∧
      (enterRun false u).run.ignitionCycle = s.run.ignitionCycle ∧ (enterRun false u).run.runOnTimer = none := by
    simp [enterRun_run, urun]
  obtain ⟨hstate, hcycle, hrunOn⟩ := hrunState
  have hkept : (enterRun false u).setup = s.setup ∧ (enterRun false u).now = s.now ∧
      (enterRun false u).shop.forced = [] ∧ (enterRun false u).shop.session = s.shop.session ∧
      (enterRun false u).port.livenessTimer = (if s.setup.general.livenessWindow = 0 then none
        else some (s.now + 1000 * s.setup.general.livenessWindow)) := by
    simp [enterRun_eq, startRunOn, startLiveness, State.inMs, blocksSet, setBlocks, uset, unow, ushop]
  obtain ⟨hset, hnow, hforced, hsession, hliveness⟩ := hkept
  have hmotion : (enterRun false u).doors.motion = .unknown ∧ (enterRun false u).doors.speedSource = .none ∧
      (enterRun false u).doors.speed = 0 ∧ (enterRun false u).doors.stopTimer = none := by
    simp [hdoors, tmotion, tsource, tspeed, tstop, blocksSet_doors, DoorUnit.blanked]
  obtain ⟨hstill, hsource, hspeed, hstop⟩ := hmotion
  have hminor := startMinor_line 0 u.now (startRunOn (startLiveness (takeBlocks (blocksSet false u))))
  rw [← enterRun_eq] at hminor
  obtain ⟨hminor, hnext⟩ := hminor
  refine ⟨hstate, hset, hnow, hcycle, hrunOn, hforced, hsession, hliveness, fun n hn => ?signal, fun d hd => ?door,
    hstill, hsource, hspeed, hstop, fun hg => ?guarded, fun hg => ?unguarded, fun w hw => ?warning,
    fun g hg => ?gauge, ?stations, hshots, hminor, ?next, ?walks, hframe⟩
  case signal =>
    rw [hsignals, blocksSet_signals, State.freshSignals, Table.get_tabulate _ n hn, usig, uset]
    exact Signal.fresh_startsAfresh _ _
  case door =>
    rw [hdoors, tdoors, blocksSet_doors, DoorUnit.blanked, Table.get_map _ _ d hd, udoors, utime]
    exact Door.blanked_startsAfresh _ _
  case guarded =>
    have hi := hdemand (by rwa [bset, uset])
    rw [← hdoors] at hi
    exact ⟨hi, by simp [State.stopBrakeDemand, hi]⟩
  case unguarded =>
    have hi := hreleased (by rwa [bset, uset])
    rw [← hdoors] at hi
    exact ⟨hi, by simp [State.stopBrakeDemand, hi]⟩
  case warning =>
    have btime : (blocksSet false u).time = s.time := by simp [State.time, State.ms, bnow, unow]
    have := htaken w hw
    rwa [btime, bnow, bset, uset, unow, uwarn, ← hwarnings] at this
  case gauge =>
    rw [hgauges, blocksSet_gauges, State.freshGauges, Table.get_tabulate _ g hg, ugauges, uset, unow]
    exact Gauge.atReturn_returns _ _ _
  case stations => rwa [uset] at hstations
  case next => rw [hnext]; simp [unow, uset, blocksSet]
  case walks => rwa [uset, unow] at hwalks

/-! ### The wake of STANDBY (R158, R196) -/

theorem handOn_changes_faults (index : Nat) (detail : FaultDetail) (change : State → State) (s : State) :
    (handOn index detail change s).faults = (change s).faults := by
  simp [handOn]

/-- Aging looks at the fault memory and the aging limit alone. -/
theorem ageRecord_faults_congr (i : Nat) (s t : State) (hf : s.faults = t.faults) (hs : s.setup = t.setup) :
    (ageRecord i s).faults = (ageRecord i t).faults := by
  have hput (r : FaultRecord) : (putRecord i r s).faults = (putRecord i r t).faults := by simp [putRecord, hf]
  by_cases hp : (t.faults.records.get i).status = .passive
  · simp only [ageRecord, hf, hs, hp, decide_true, when_true]
    split
    · simp [handOn_changes_faults, putRecord, hf]
    · exact hput _
  · simp [ageRecord, hf, hp]

theorem ageRecords_faults_congr (s t : State) (hf : s.faults = t.faults) (hs : s.setup = t.setup) :
    (ageRecords s).faults = (ageRecords t).faults := by
  unfold ageRecords
  induction List.range 48 generalizing s t with
  | nil => exact hf
  | cons i is ih => exact ih _ _ (ageRecord_faults_congr i s t hf hs) (by simp [hs])

theorem wakeBlocks_values (s : State) :
    (wakeBlocks s).now = 0 ∧ (wakeBlocks s).port.noticeRead = 0#7 ∧ (wakeBlocks s).shop.session = .detached ∧
      (wakeBlocks s).doors.interlock = .demand := by
  simp [wakeBlocks, blankBlocks, Port.restarted, DoorUnit.blanked]

/-- A wake by ignition counts a cycle (R196). -/
theorem countCycle_counts (s : State) (h : s.run.ignition = true) :
    (countCycle s).run = { s.run with ignitionCycle := s.run.ignitionCycle + 1#16 } ∧
      (countCycle s).faults = (ageRecords s).faults := by
  refine ⟨by simp [countCycle, h], ?_⟩
  simp only [countCycle, h, when_true, writeStatus_frame]
  exact ageRecords_faults_congr _ _ (by simp) (by simp)

/-- The wake by ignition. -/
theorem wake_wakes (s : State) (h : s.run.ignition = true) :
    (wake s).run.state = .config ∧ (wake s).run.ignition = true ∧
      (wake s).run.ignitionTally = s.run.ignitionTally ∧ (wake s).now = 0 ∧
      (wake s).run.ignitionCycle = s.run.ignitionCycle + 1#16 ∧ (wake s).faults = (ageRecords s).faults ∧
      (wake s).port.noticeRead = 0#7 ∧ (wake s).shop.session = .detached ∧ (wake s).doors.interlock = .demand := by
  have hwake : wake s = startConfigIdle (changeRunState .config (countCycle (wakeBlocks (s.setRun { s.run with
    runOnTimer := none, configIdleTimer := none, standbyPending := false, applySlot := none })))) := rfl
  obtain ⟨unow, uread, usession, uinterlock⟩ := wakeBlocks_values (s.setRun { s.run with
    runOnTimer := none, configIdleTimer := none, standbyPending := false, applySlot := none })
  have hkept : (wakeBlocks (s.setRun { s.run with
      runOnTimer := none, configIdleTimer := none, standbyPending := false, applySlot := none })).faults = s.faults ∧
      (wakeBlocks (s.setRun { s.run with
      runOnTimer := none, configIdleTimer := none, standbyPending := false, applySlot := none })).setup = s.setup ∧
      (wakeBlocks (s.setRun { s.run with
      runOnTimer := none, configIdleTimer := none, standbyPending := false, applySlot := none })).run =
      { s.run with runOnTimer := none, configIdleTimer := none, standbyPending := false, applySlot := none } := by simp
  generalize wakeBlocks (s.setRun _) = u at *
  obtain ⟨ufaults, uset, urun⟩ := hkept
  obtain ⟨hcycle, hfaults⟩ := countCycle_counts u (by simpa [urun] using h)
  rw [ageRecords_faults_congr u s ufaults uset] at hfaults
  obtain ⟨x, hrun⟩ := startConfigIdle_run (changeRunState .config (countCycle u))
  rw [hwake, hrun, changeRunState_run, hcycle, urun]
  exact ⟨rfl, h, rfl, by simpa using unow, rfl, by simpa using hfaults, by simpa using uread, by simpa using usession,
    by simpa using uinterlock⟩

/-! ### The end of RUN (R199, R200) -/

theorem leaveRun_leaves (new : RunState) (s : State) :
    (leaveRun new s).run = { s.run with state := new, runOnTimer := none } ∧
      (leaveRun new s).doors.interlock = .demand := by
  simp [leaveRun, stopBlocks, stopDoors, putMotion]

/-- STANDBY, where it is due out of RUN, keeps the ignition line and what the doors demand. -/
theorem standbyIfDue_shuts (s : State) (hr : s.run.state = .shutdown) (hs : s.shop.session = .detached) :
    ((standbyIfDue s).run.state = .shutdown ∨ (standbyIfDue s).run.state = .standby) ∧
      (standbyIfDue s).doors = s.doors ∧ (standbyIfDue s).shop.session = .detached ∧
      (standbyIfDue s).run.ignition = s.run.ignition ∧
      (standbyIfDue s).run.ignitionTally = s.run.ignitionTally := by
  obtain ⟨-, hdoors, -⟩ := endSession_outOfRun .session false s (by simp [hr])
  obtain ⟨hstate, -, hsession, -⟩ := enterStandby_enters s
  have hkept : (enterStandby s).doors = s.doors ∧ (enterStandby s).run.ignition = s.run.ignition ∧
      (enterStandby s).run.ignitionTally = s.run.ignitionTally := by simp [enterStandby, hdoors]
  cases hdue : s.standbyDue with
  | false => simp [standbyIfDue, hdue, hr, hs]
  | true =>
    rw [standbyIfDue, hdue, when_true]
    exact ⟨.inr hstate, hkept.1, hsession, hkept.2⟩

/-- SHUTDOWN, or STANDBY at once: the demand is held, and no session is left. -/
theorem toShutdown_shuts (s : State) :
    ((toShutdown s).run.state = .shutdown ∨ (toShutdown s).run.state = .standby) ∧
      (toShutdown s).doors.interlock = .demand ∧ (toShutdown s).shop.session = .detached ∧
      (toShutdown s).run.ignition = s.run.ignition ∧ (toShutdown s).run.ignitionTally = s.run.ignitionTally := by
  obtain ⟨lrun, linterlock⟩ := leaveRun_leaves .shutdown s
  obtain ⟨-, hdoors, -⟩ := endSession_outOfRun .leftRun false (leaveRun .shutdown s) (by simp [lrun])
  obtain ⟨hstate, sdoors, hsession, hignition, htally⟩ := standbyIfDue_shuts
    (endSession .leftRun false (leaveRun .shutdown s)) (by simp [lrun]) (endSession_detached _ _ _)
  rw [toShutdown, sdoors, hdoors, hignition, htally]
  exact ⟨hstate, linterlock, hsession, by simp [lrun], by simp [lrun]⟩

/-! ### The ignition line (R31) -/

theorem ignitionStateChange_same (on : Bool) (n : Nat) (s : State) (hn : 0 < n) (h : on = s.run.ignition) :
    exec (.ignitionStateChange on n) s = .next (s.setRun { s.run with ignitionTally := 0 }) := by
  change Host.Outcome.next (ignitionSampled on n s) = _
  rw [ignitionSampled, if_neg (by omega), if_pos h]

theorem ignitionStateChange_counts (on : Bool) (n : Nat) (s : State) (hn : 0 < n) (h : on ≠ s.run.ignition)
    (hless : s.run.ignitionTally + n < 10) :
    exec (.ignitionStateChange on n) s = .next (s.setRun { s.run with
      ignitionTally := s.run.ignitionTally + n }) := by
  change Host.Outcome.next (ignitionSampled on n s) = _
  rw [ignitionSampled, if_neg (by omega), if_neg h, if_pos hless]

theorem ignitionStateChange_changes (on : Bool) (n : Nat) (s : State) (hn : 0 < n) (h : on ≠ s.run.ignition)
    (hmore : 10 ≤ s.run.ignitionTally + n) :
    exec (.ignitionStateChange on n) s = .next (ignitionChanged (ignitionSet on s)) := by
  change Host.Outcome.next (ignitionSampled on n s) = _
  rw [ignitionSampled, if_neg (by omega), if_neg h, if_neg (by omega), ignitionSet]

/-- The ignition line as the tenth sample leaves it, whatever the run state. -/
theorem ignitionChanged_line (s : State) :
    (ignitionChanged s).run.ignition = s.run.ignition ∧
      (ignitionChanged s).run.ignitionTally = s.run.ignitionTally := by
  obtain ⟨x, hidle⟩ := startConfigIdle_run s
  obtain ⟨-, -, -, dignition, dtally⟩ := toShutdown_shuts s
  cases hon : s.run.ignition <;> cases hstate : s.run.state
  case true.standby =>
    obtain ⟨-, wignition, wtally, -⟩ := wake_wakes s hon
    simp [ignitionChanged, hon, hstate, wignition, wtally]
  case true.shutdown => simp [ignitionChanged, hon, hstate, enterRun_run]
  case false.config => simp [ignitionChanged, hon, hstate, hidle]
  case false.run =>
    by_cases ht : s.setup.general.runOnTime = 0
    · simp [ignitionChanged, hon, hstate, runOn, ht, dignition, dtally]
    · simp [ignitionChanged, hon, hstate, runOn, ht]
  all_goals simp [ignitionChanged, hon, hstate]

/-- In CONFIG the return of ignition stops the idle timer, and its loss starts it (R197). -/
theorem ignitionChanged_config (s : State) (h : s.run.state = .config) :
    (ignitionChanged s).run.state = .config ∧
      (s.run.ignition = true →
        (ignitionChanged s).run.configIdleTimer = none ∧ (ignitionChanged s).run.standbyPending = false) ∧
      (s.run.ignition = false → s.run.applySlot = none →
        (ignitionChanged s).run.configIdleTimer = some (s.now + 60000000)) ∧
      s.changesOnly (ignitionChanged s) [.runLogic, .statusBlock] := by
  cases hon : s.run.ignition with
  | true =>
    have hnew : ignitionChanged s = s.setRun { s.run with configIdleTimer := none, standbyPending := false } := by
      simp [ignitionChanged, h, hon]
    rw [hnew]
    exact ⟨h, fun _ => ⟨rfl, rfl⟩, nofun, State.changesOnly_of _ _ _ (by simp)⟩
  | false =>
    have hnew : ignitionChanged s = startConfigIdle s := by simp [ignitionChanged, h, hon]
    obtain ⟨x, hrun⟩ := startConfigIdle_run s
    rw [hnew]
    refine ⟨by rw [hrun]; exact h, nofun, fun _ hslot => ?_, State.changesOnly_of _ _ _ (by simp)⟩
    simp [startConfigIdle, hon, hslot, State.inMs, Config.configIdle]

/-- In RUN the return of ignition stops the run-on timer, and its loss starts it (R199). -/
theorem ignitionChanged_run (s : State) (h : s.run.state = .run)
    (hon : s.run.ignition = false → s.setup.general.runOnTime ≠ 0) :
    (ignitionChanged s).run.state = .run ∧
      (ignitionChanged s).run.runOnTimer =
        (if s.run.ignition then none else some (s.now + 1000000 * s.setup.general.runOnTime)) ∧
      s.changesOnly (ignitionChanged s) [.runLogic, .statusBlock] := by
  have hnew : ignitionChanged s = s.setRun { s.run with
      runOnTimer := if s.run.ignition then none else some (s.now + 1000000 * s.setup.general.runOnTime) } := by
    cases hi : s.run.ignition with
    | true => simp [ignitionChanged, h, hi]
    | false => simp [ignitionChanged, h, hi, runOn, hon hi, State.inMs, ← Nat.mul_assoc]
  rw [hnew]
  exact ⟨h, rfl, State.changesOnly_of _ _ _ (by simp)⟩

/-- Settles O28: the tally counts to ten, and each run state takes up the new ignition state. -/
theorem ignitionChangesAtTheTenthSample : Obligations.IgnitionChangesAtTheTenthSample := by
  intro on n s hn
  refine ⟨ignitionStateChange_same on n s hn, ignitionStateChange_counts on n s hn, fun hne hmore => ?_⟩
  obtain ⟨uset, unow, -, -, -, -, ufaults, -, urun⟩ := ignitionSet_kept on s
  have uline : (ignitionSet on s).run.state = s.run.state ∧ (ignitionSet on s).run.ignition = on ∧
      (ignitionSet on s).run.ignitionTally = 0 ∧ (ignitionSet on s).run.applySlot = s.run.applySlot := by simp [urun]
  obtain ⟨ustate, uon, utally, uslot⟩ := uline
  obtain ⟨hignition, htally⟩ := ignitionChanged_line (ignitionSet on s)
  refine ⟨ignitionChanged (ignitionSet on s), ignitionStateChange_changes on n s hn hne hmore,
    hignition.trans uon, htally.trans utally, fun hs hon => ?standby, fun hs => ?config,
    fun hs hon => ?on, fun hs hoff htime => ?runsOn, fun hs hoff htime => ?shuts, fun hs hon => ?shutdown⟩
  case standby =>
    have hnew : ignitionChanged (ignitionSet on s) = wake (ignitionSet on s) := by
      simp [ignitionChanged, ustate.trans hs, uon.trans hon]
    obtain ⟨wstate, -, -, wnow, wcycle, wfaults, wrest⟩ := wake_wakes (ignitionSet on s) (uon.trans hon)
    rw [hnew]
    refine ⟨wstate, wnow, by rw [wcycle, urun], ?_, wrest⟩
    rw [wfaults, ageRecords_faults_congr _ s ufaults uset]
  case config =>
    obtain ⟨hstate, hwhenOn, hwhenOff, hframe⟩ := ignitionChanged_config (ignitionSet on s) (ustate.trans hs)
    rw [uon, uslot, unow] at hwhenOff
    rw [uon] at hwhenOn
    exact ⟨hstate, hwhenOn, hwhenOff, ignitionSet_changesOnly on s _ hframe⟩
  case on =>
    obtain ⟨hstate, htimer, hframe⟩ := ignitionChanged_run (ignitionSet on s) (ustate.trans hs)
      (by simp [uon.trans hon])
    rw [uon, if_pos hon] at htimer
    exact ⟨hstate, htimer, ignitionSet_changesOnly on s _ hframe⟩
  case runsOn =>
    obtain ⟨hstate, htimer, hframe⟩ := ignitionChanged_run (ignitionSet on s) (ustate.trans hs)
      (fun _ => by rwa [uset])
    rw [uon, if_neg (by simp [hoff]), unow, uset] at htimer
    exact ⟨hstate, htimer, ignitionSet_changesOnly on s _ hframe⟩
  case shuts =>
    have hnew : ignitionChanged (ignitionSet on s) = toShutdown (ignitionSet on s) := by
      simp [ignitionChanged, ustate.trans hs, uon.trans hoff, runOn, uset, htime]
    obtain ⟨hstate, hdemand, hsession, -⟩ := toShutdown_shuts (ignitionSet on s)
    rw [hnew]
    exact ⟨hstate, hdemand, hsession⟩
  case shutdown =>
    subst hon
    have hnew : ignitionChanged (ignitionSet true s) = enterRun false (ignitionSet true s) := by
      simp [ignitionChanged, ustate.trans hs, uon]
    rw [hnew]
    exact enterRun_returnsToRun s

end Sys2Proof.Machine
end

section
/-! PROOFS. O9: what power-on leaves, byte by byte of the memory the part owns. -/

namespace Sys2Proof.Machine

/-- A list of zeros reads 0 at every place, and past its end. -/
theorem byteAt_zeros (l : List Byte) (k : Nat) (h : l.all (· = 0#8) = true) : byteAt l k = 0#8 := by
  rw [byteAt, List.getD_eq_getElem?_getD]
  cases hk : l[k]? with
  | none => rfl
  | some b => simpa using List.all_eq_true.1 h b (List.mem_of_getElem? hk)

/-- A table of default entries reads the default everywhere, also past its end. -/
theorem replicate_default_get {α : Type} [Inhabited α] (n i : Nat) :
    (Table.replicate n (default : α)).get i = default := by
  by_cases h : i < n
  · exact Table.get_replicate _ i h
  · exact Table.get_past _ i (not_lt.1 h)

/-- The byte at a place of a table of records that nothing has written, each record all zero, is 0. -/
theorem byteAt_replicate {α : Type} [Inhabited α] (bytes : α → List Byte) (n i k : Nat)
    (h : (bytes default).all (· = 0#8) = true) : byteAt (bytes ((Table.replicate n (default : α)).get i)) k = 0#8 := by
  rw [replicate_default_get]
  exact byteAt_zeros _ _ h

/-- Past the setup regions every record that the part owns reads 0 after reset (R202). -/
theorem powerUp_ownedByte (s : State) (a : Nat) (h : 0x1F00 ≤ a) : (powerUp s).ownedByte a = 0#8 := by
  unfold State.ownedByte
  rw [if_neg (by omega), if_neg (by omega)]
  split_ifs
  · exact byteAt_replicate Station.bytes 16 _ _ (by decide)
  · exact byteAt_replicate Signal.bytes 128 _ _ (by decide)
  · exact byteAt_replicate SenseChannel.bytes 48 _ _ (by decide)
  · exact byteAt_replicate Gauge.bytes 6 _ _ (by decide)
  · exact byteAt_replicate Lamp.bytes 32 _ _ (by decide)
  · exact byteAt_replicate Door.bytes 4 _ _ (by decide)
  · exact byteAt_zeros State.reset.doors.bytes _ (by decide)
  · exact byteAt_replicate Warning.bytes 96 _ _ (by decide)
  · exact byteAt_zeros State.reset.comp.bytes _ (by decide)
  · exact byteAt_replicate FaultRecord.bytes 48 _ _ (by decide)
  · exact byteAt_replicate LogRecord.bytes 256 _ _ (by decide)

theorem powerUp_hostByte (s : State) (a : Nat) (hlo : 0x1F00 ≤ a) (hhi : a < 0x7FF0) :
    (powerUp s).hostByte a = 0#8 := by
  have hawake : (powerUp s).awake = true := rfl
  rw [State.hostByte, hawake, Bool.not_true, if_neg Bool.false_ne_true, if_pos hhi, powerUp_ownedByte s a hlo]
  split <;> rfl

/-- Settles O9: power-on is the reset state with the queue kept, and each of its tables holds default entries. -/
theorem powerOnStartsAfresh : Obligations.PowerOnStartsAfresh := by
  intro s
  refine ⟨powerUp s, rfl, rfl, rfl, rfl, rfl, rfl, rfl, fun _ => rfl, powerUp_hostByte s, rfl, rfl, rfl, rfl, rfl, rfl,
    rfl, rfl, rfl, rfl, rfl, fun i hi => ?_, fun n hn => ?_, fun d hd => ?_⟩
  · exact congrArg FaultRecord.status (Table.get_replicate {} i hi)
  · exact congrArg Signal.status (Table.get_replicate {} n hn)
  · rw [show (powerUp s).doors.doors.get d = {} from replicate_default_get 4 d]
    exact ⟨rfl, rfl⟩

end Sys2Proof.Machine
end

section
/-! PROOFS. O22 to O25: what a sample that is due leaves, by what the channel and the sample are. -/

namespace Sys2Proof.Machine

/-! ### The channel after a sample (R17) -/

/-- The channel as a sample shows it, before its steps are taken: the reading and the band or class (R27). -/
def SenseChannel.viewed (x : SenseChannel) (u : SenseSetup) (reading now : Nat) : SenseChannel :=
  { x with reading := x.readingOf u.kind reading now, shown := shownOf u.kind (classify u x reading now) reading }

theorem sampled_supplyLow (x : SenseChannel) (u : SenseSetup) (reading now : Nat) :
    x.sampled u true reading now = ({ x with reading := x.readingOf u.kind reading now }, false) := rfl

theorem sampled_healthy (x : SenseChannel) (u : SenseSetup) (reading now : Nat) (h : x.faultClass = .none) :
    x.sampled u false reading now =
      ((((x.viewed u reading now).healthyStep u (classify u x reading now)).1).contacted (classify u x reading now),
        ((x.viewed u reading now).healthyStep u (classify u x reading now)).2) := by
  simp [SenseChannel.sampled, SenseChannel.viewed, h]

theorem sampled_inFault (x : SenseChannel) (u : SenseSetup) (reading now : Nat) (h : x.faultClass ≠ .none) :
    x.sampled u false reading now =
      (((x.viewed u reading now).faultStep u (classify u x reading now)).contacted (classify u x reading now),
        false) := by
  simp [SenseChannel.sampled, SenseChannel.viewed, h]

/-! ### What no sample moves: the reading shown, and the sample timer -/

@[simp] theorem SenseChannel.contacted_frame (x : SenseChannel) (p : Sample) :
    (x.contacted p).logical = x.logical ∧ (x.contacted p).reading = x.reading ∧
    (x.contacted p).faultClass = x.faultClass ∧ (x.contacted p).changeCount = x.changeCount ∧
    (x.contacted p).settled = x.settled ∧ (x.contacted p).debounce = x.debounce ∧
    (x.contacted p).faultRun = x.faultRun ∧ (x.contacted p).healthyRun = x.healthyRun ∧
    (x.contacted p).sampleTimer = x.sampleTimer := by
  cases p <;> simp [SenseChannel.contacted]

@[simp] theorem SenseChannel.debounced_frame (x : SenseChannel) (u : SenseSetup) (k : Contact) :
    (x.debounced u k).1.reading = x.reading ∧ (x.debounced u k).1.sampleTimer = x.sampleTimer := by
  unfold SenseChannel.debounced
  dsimp only
  split_ifs <;> exact ⟨rfl, rfl⟩

@[simp] theorem SenseChannel.healthyStep_frame (x : SenseChannel) (u : SenseSetup) (p : Sample) :
    (x.healthyStep u p).1.reading = x.reading ∧ (x.healthyStep u p).1.sampleTimer = x.sampleTimer := by
  cases p with
  | fault f =>
    simp only [SenseChannel.healthyStep]
    split <;> exact ⟨rfl, rfl⟩
  | contact k => simp [SenseChannel.healthyStep]
  | inLimits m => exact ⟨rfl, rfl⟩
  | void => exact ⟨rfl, rfl⟩

@[simp] theorem SenseChannel.faultStep_frame (x : SenseChannel) (u : SenseSetup) (p : Sample) :
    (x.faultStep u p).reading = x.reading ∧ (x.faultStep u p).sampleTimer = x.sampleTimer := by
  unfold SenseChannel.faultStep
  split
  · exact ⟨rfl, rfl⟩
  · split
    · exact ⟨rfl, rfl⟩
    · exact ⟨rfl, rfl⟩
    · split <;> exact ⟨rfl, rfl⟩

theorem sampled_frame (x : SenseChannel) (u : SenseSetup) (low : Bool) (reading now : Nat) :
    (x.sampled u low reading now).1.reading = x.readingOf u.kind reading now ∧
      (x.sampled u low reading now).1.sampleTimer = x.sampleTimer := by
  cases low with
  | true => exact ⟨rfl, rfl⟩
  | false =>
    by_cases h : x.faultClass = .none
    · rw [sampled_healthy x u reading now h]
      simp [SenseChannel.viewed]
    · rw [sampled_inFault x u reading now h]
      simp [SenseChannel.viewed]

/-! ### A sample that is due -/

/-- Channel `c` as its sample that is due finds it: the timer has run on by the scan period (R17). -/
def State.advanced (s : State) (c due : Nat) : SenseChannel :=
  { s.sense.channels.get c with
    sampleTimer := some (due + 1000 * Config.scanPeriod (s.setup.sense.get c).periodCode) }

theorem advanceSample_get_same (c due : Nat) (s : State) (hc : c < 48) :
    (advanceSample c due s).sense.channels.get c = s.advanced c due := Table.get_set_same _ _ _ hc

theorem advanceSample_get_other (c due j : Nat) (s : State) (h : j ≠ c) :
    (advanceSample c due s).sense.channels.get j = s.sense.channels.get j := Table.get_set_other _ _ _ _ h

theorem writeChannel_get_other (c j : Nat) (x : SenseChannel) (s : State) (h : j ≠ c) :
    (writeChannel c x s).sense.channels.get j = s.sense.channels.get j := by
  have : (writeChannel c x s).sense = (putChannel c x s).sense := by simp [writeChannel]
  rw [this]
  exact Table.get_set_other _ _ _ _ h

/-- Beside the channels a write of an entry leaves the supply monitor. -/
@[simp] theorem writeChannel_supply (c : Nat) (x : SenseChannel) (s : State) :
    (writeChannel c x s).sense.supplyMv = s.sense.supplyMv ∧ (writeChannel c x s).sense.supplyLow = s.sense.supplyLow ∧
    (writeChannel c x s).sense.lowTimer = s.sense.lowTimer ∧
    (writeChannel c x s).sense.supplyTimer = s.sense.supplyTimer := by
  have : (writeChannel c x s).sense = (putChannel c x s).sense := by simp [writeChannel]
  simp [this, putChannel]

/-- What a sample that is due leaves of its channel `x`, sampled from `s` to `t` at the instant `due`. -/
def State.sampledTo (s t : State) (c reading due : Nat) : Prop :=
  t.now = max s.now due ∧
    (∃ u, t.sense.channels.get c =
      { ((s.advanced c due).sampled (s.setup.sense.get c) s.sense.supplyLow reading (max s.now due)).1 with upd := u }) ∧
    (∀ j, j ≠ c → t.sense.channels.get j = s.sense.channels.get j) ∧ t.sense.supplyLow = s.sense.supplyLow ∧
    s.changesOnly t (.sense :: signalParts)

theorem sample_sampledTo (c reading : Nat) (s : State) (due : Nat) (hc : c < 48) (hr : s.run.state = .run)
    (hk : (s.sense.channels.get c).check = none) (hd : (s.sense.channels.get c).sampleTimer = some due) :
    s.sampledTo (sample c reading s) c reading due := by
  rw [sample_eq c reading s due hr hk hd]
  let q := advanceSample c due (s.reach due)
  have hlow : q.sense.supplyLow = s.sense.supplyLow := rfl
  have hq : q.sense.channels.get c = s.advanced c due := advanceSample_get_same c due (s.reach due) hc
  have hr : q.sampleOf c reading =
      (s.advanced c due).sampled (s.setup.sense.get c) s.sense.supplyLow reading (max s.now due) := by
    rw [State.sampleOf, hq]
    rfl
  obtain ⟨u, hu⟩ := writeChannel_entry c (q.sampleOf c reading).1 q hc
  have hsense := (sampleTaken_signals c (q.sampleOf c reading) q).2
  refine ⟨by simp, ⟨u, ?_⟩, fun j hj => ?_, ?_, State.changesOnly_of _ _ _ (by simp [signalParts])⟩
  · rw [hsense, hu, hr]
  · rw [hsense, writeChannel_get_other c j _ q hj, advanceSample_get_other c due j _ hj]
    rfl
  · rw [hsense, (writeChannel_supply c _ q).2.1, hlow]

/-- The sample that is due is known ahead, but for the timer that its channel runs on. -/
theorem sampleAhead_eq (c reading : Nat) (s : State) (due : Nat) (hr : s.run.state = .run)
    (hk : (s.sense.channels.get c).check = none) (hd : (s.sense.channels.get c).sampleTimer = some due) :
    s.sampleAhead c reading =
      some ((s.sense.channels.get c).sampled (s.setup.sense.get c) s.sense.supplyLow reading (max s.now due)) := by
  simp [State.sampleAhead, State.sampleDue, State.inRun, hr, hk, hd, State.sampleOf, State.reach]

/-- Settles O22: the timer runs on before the sample is taken, and supply low lets only the reading through. -/
theorem senseSampleIsTaken : Obligations.SenseSampleIsTaken := by
  intro c reading s due hr hk hd
  obtain ⟨hnow, ⟨u, hx⟩, hother, hlow, hframe⟩ := sample_sampledTo c reading.toNat s due c.isLt hr hk hd
  obtain ⟨hreading, htimer⟩ := sampled_frame (s.advanced c due) (s.setup.sense.get c) s.sense.supplyLow
    reading.toNat (max s.now due)
  refine ⟨_, rfl, hnow, ?_, fun hf => ?_, fun h => ?_, hother, hlow, hframe⟩
  · rw [hx]
    exact htimer
  · rw [hx]
    exact hreading.trans (by simp [SenseChannel.readingOf, hf, BitVec.ofNat_toNat])
  · rw [hx, h, sampled_supplyLow]
    exact ⟨rfl, rfl, rfl⟩

/-! ### In-limit samples (R19, R20, R22) -/

/-- An in-limit sample of a channel not in fault becomes its value and settles it. -/
theorem sampled_inLimits (x : SenseChannel) (u : SenseSetup) (reading now m : Nat) (h : x.faultClass = .none)
    (hp : classify u x reading now = .inLimits m) :
    (x.sampled u false reading now).1 =
      { (x.viewed u reading now).withLogical (BitVec.ofNat 16 m) with settled := true, faultRun := 0 } := by
  rw [sampled_healthy x u reading now h, hp]
  rfl

theorem frequencyOf_still (edges : List Nat) (now : Nat)
    (h : edges.length < 2 ∨ edges.getD 0 0 + 2000000 ≤ now) : frequencyOf edges now = 0 := by
  match edges with
  | [] | [_] => rfl
  | e1 :: e0 :: rest =>
    have h : e1 + 2000000 ≤ now := by simpa using h
    simp [frequencyOf, h]

theorem frequencyOf_running (edges : List Nat) (now : Nat) (h : 2 ≤ edges.length)
    (hn : now < edges.getD 0 0 + 2000000) :
    frequencyOf edges now = min (10000000 / max (edges.getD 0 0 - edges.getD 1 0) 1) 32767 := by
  match edges with
  | [] | [_] => simp at h
  | e1 :: e0 :: rest =>
    have hn : now < e1 + 2000000 := by simpa using hn
    simp [frequencyOf, not_le.2 hn]

/-- A sender or a voltage channel whose measurement stands between its limits (R19). -/
theorem classify_inLimits (u : SenseSetup) (x : SenseChannel) (reading now m : Nat)
    (hk : u.kind.isSwitch = false) (hf : u.kind ≠ .frequency) (hm : measurement u.kind reading = m)
    (hlow : u.low ≤ m) (hhigh : m ≤ u.high) : classify u x reading now = .inLimits m := by
  simp [classify, limitSample, hk, hf, hm, not_lt.2 hlow, not_lt.2 hhigh]

theorem classify_frequency (u : SenseSetup) (x : SenseChannel) (reading now : Nat) (hk : u.kind = .frequency) :
    classify u x reading now = .inLimits (frequencyOf x.edges now) := by
  simp [classify, hk, SenseKind.isSwitch]

/-- In RUN a rising edge of a frequency channel is kept (R20). -/
theorem edge_eq (c after : Nat) (s : State) (hr : s.run.state = .run) (hk : (s.setup.sense.get c).kind = .frequency) :
    edge c after s =
      (s.reach ((s.sense.channels.get c).edges.headD 0 + after)).setSense { s.sense with
        channels := s.sense.channels.set c { s.sense.channels.get c with
          edges := (max s.now ((s.sense.channels.get c).edges.headD 0 + after) ::
            (s.sense.channels.get c).edges).take 2 } } := by
  simp [edge, State.inRun, hr, hk, State.reach]

/-- Settles O23: each kind classifies its sample as in its limits, with its own measurement. -/
theorem inLimitSampleBecomesTheValue : Obligations.InLimitSampleBecomesTheValue := by
  refine ⟨fun c reading s due m hr hk hd hlow hclass hm => ?sampled, fun c after s hr hk => ?edge⟩
  case sampled =>
    have hp : classify (s.setup.sense.get c) (s.advanced c due) reading.toNat (max s.now due) = .inLimits m := by
      obtain ⟨hu, rfl, h1, h2⟩ | ⟨hu, rfl, h1, h2⟩ | ⟨hu, he, rfl⟩ | ⟨hu, h2, hn, rfl⟩ := hm
      · exact classify_inLimits _ _ _ _ _ (by rw [hu]; rfl) (by rw [hu]; decide) (by rw [hu]; rfl) h1 h2
      · exact classify_inLimits _ _ _ _ _ (by rw [hu]; rfl) (by rw [hu]; decide)
          (by rw [hu]; exact Nat.mul_comm _ _) h1 h2
      · rw [classify_frequency _ _ _ _ hu]
        exact congrArg _ (frequencyOf_still _ _ he)
      · rw [classify_frequency _ _ _ _ hu]
        exact congrArg _ (frequencyOf_running _ _ h2 hn)
    obtain ⟨-, ⟨u, hx⟩, -⟩ := sample_sampledTo c reading.toNat s due c.isLt hr hk hd
    rw [hlow, sampled_inLimits (s.advanced c due) _ _ _ m hclass hp] at hx
    refine ⟨_, rfl, ?_⟩
    rw [hx]
    exact ⟨rfl, rfl, hclass, rfl, rfl⟩
  case edge =>
    refine ⟨_, rfl, ?_⟩
    rw [edge_eq c after s hr hk]
    refine ⟨rfl, ?_, ?_, fun j hj => Table.get_set_other _ _ _ _ hj, rfl, State.changesOnly_of _ _ _ (by simp)⟩
    all_goals simp [State.reach]

/-! ### Contact samples (R21) -/

/-- A contact sample that reaches the debounce limit changes the value of a settled switch, or settles it. -/
theorem debounced_reaches (x : SenseChannel) (u : SenseSetup) (k : Contact) (hl : debounceLimit u ≤ x.debounce + 1)
    (h : (x.settled = true ∧ contactValue u.invert k ≠ x.logical) ∨ (x.settled = false ∧ x.contact = some k)) :
    x.debounced u k =
      ({ x.withLogical (contactValue u.invert k) with debounce := 0, settled := true }, true) := by
  obtain ⟨hs, hv⟩ | ⟨hs, hk⟩ := h
  · simp [SenseChannel.debounced, SenseChannel.withLogical, hs, hv, hl]
  · simp [SenseChannel.debounced, SenseChannel.withLogical, hs, hk, hl]

/-- A switch not in fault at the contact sample that reaches its debounce limit. -/
theorem sampled_debounced (x : SenseChannel) (u : SenseSetup) (reading now : Nat) (k : Contact)
    (hf : x.faultClass = .none) (hp : classify u x reading now = .contact k)
    (hl : debounceLimit u ≤ x.debounce + 1)
    (h : (x.settled = true ∧ contactValue u.invert k ≠ x.logical) ∨ (x.settled = false ∧ x.contact = some k)) :
    x.sampled u false reading now =
      ({ (x.viewed u reading now).withLogical (contactValue u.invert k) with
          debounce := 0, settled := true, faultRun := 0, contact := some k }, true) := by
  rw [sampled_healthy x u reading now hf, hp]
  simp only [SenseChannel.healthyStep, debounced_reaches (x.viewed u reading now) u k hl h]
  rfl

theorem classify_switch (u : SenseSetup) (x : SenseChannel) (reading now : Nat) (h : u.kind.isSwitch = true) :
    classify u x reading now = switchSample u.kind x.contact reading := by
  simp [classify, h]

/-- Settles O24: the sample is one that reaches the limit, and so the command takes it. -/
theorem debounceChangesASwitch : Obligations.DebounceChangesASwitch := by
  intro c reading s due k hr hk hd hlow hclass hkind hp hl h
  have reaches (x : SenseChannel) (hx : x = s.sense.channels.get c ∨ x = s.advanced c due) :=
    sampled_debounced x (s.setup.sense.get c) reading.toNat (max s.now due) k
      (by obtain rfl | rfl := hx <;> exact hclass)
      (by rw [classify_switch _ _ _ _ hkind]; obtain rfl | rfl := hx <;> exact hp)
      (by obtain rfl | rfl := hx <;> exact hl) (by obtain rfl | rfl := hx <;> exact h)
  have hwill : s.willDebounce c reading.toNat = true := by
    rw [State.willDebounce, sampleAhead_eq c reading.toNat s due hr hk hd, hlow, reaches _ (.inl rfl)]
    rfl
  obtain ⟨-, ⟨u, hx⟩, hother, -, hframe⟩ := sample_sampledTo c reading.toNat s due c.isLt hr hk hd
  rw [hlow, reaches _ (.inr rfl)] at hx
  have hexec : exec (.debounceChange c reading) s = .next (sample c reading.toNat s) := by
    change Host.Outcome.next (when (s.willDebounce c reading.toNat) (sample c reading.toNat) s) = _
    rw [hwill, when_true]
  refine ⟨_, hexec, ?_⟩
  rw [hx]
  refine ⟨rfl, rfl, rfl, rfl, rfl, fun hs => ?_, hother, hframe⟩
  have hne : contactValue (s.setup.sense.get c).invert k ≠ (s.sense.channels.get c).logical := by
    obtain ⟨-, hv⟩ | ⟨hu, -⟩ := h
    · exact hv
    · simp [hs] at hu
  exact if_neg hne

/-! ### Fault samples and healing (R24, R25, R33) -/

theorem bandState_ne_faultNone (kind : SenseKind) (b : Nat) : bandState kind b ≠ some (.fault .none) := by
  cases kind with
  | switchToGround => simp only [bandState]; split_ifs <;> simp
  | switchToSupply => simp only [bandState]; split_ifs <;> simp
  | _ => simp [bandState]

theorem limitClasses_ne_none (kind : SenseKind) : (limitClasses kind).1 ≠ .none ∧ (limitClasses kind).2 ≠ .none := by
  cases kind <;> simp [limitClasses]

/-- A fault sample has one of the fault classes (R18, R19). -/
theorem classify_fault_ne_none (u : SenseSetup) (x : SenseChannel) (reading now : Nat) (f : FaultClass)
    (h : classify u x reading now = .fault f) : f ≠ .none := by
  rintro rfl
  unfold classify at h
  split_ifs at h
  · unfold switchSample at h
    split at h
    · next y hy => exact bandState_ne_faultNone _ _ (h ▸ hy)
    · split at h <;> simp at h
  · obtain ⟨hbelow, habove⟩ := limitClasses_ne_none u.kind
    unfold limitSample at h
    dsimp only at h
    split_ifs at h <;> simp_all

/-- The fourth fault sample in a row. -/
theorem sampled_entersFault (x : SenseChannel) (u : SenseSetup) (reading now : Nat) (f : FaultClass)
    (hc : x.faultClass = .none) (hrun : x.faultRun = 3) (hp : classify u x reading now = .fault f) :
    (x.sampled u false reading now).1 = (x.viewed u reading now).enterFault u f := by
  rw [sampled_healthy x u reading now hc, hp]
  simp [SenseChannel.healthyStep, SenseChannel.viewed, SenseChannel.contacted, hrun]

/-- The eighth healthy sample in a row of a channel in fault. -/
theorem sampled_heals (x : SenseChannel) (u : SenseSetup) (reading now : Nat) (hc : x.faultClass ≠ .none)
    (hw : x.faultClass ≠ .wiring) (hrun : x.healthyRun = 7) (hf : ∀ f, classify u x reading now ≠ .fault f)
    (hv : classify u x reading now ≠ .void) :
    (x.sampled u false reading now).1 =
      ((x.viewed u reading now).healed u (classify u x reading now)).contacted (classify u x reading now) := by
  have hw : (x.viewed u reading now).faultClass ≠ .wiring := hw
  have hrun : (x.viewed u reading now).healthyRun = 7 := hrun
  rw [sampled_inFault x u reading now hc]
  cases hp : classify u x reading now with
  | fault f => exact absurd hp (hf f)
  | void => exact absurd hp hv
  | contact k => simp [SenseChannel.faultStep, hw, hrun]
  | inLimits m => simp [SenseChannel.faultStep, hw, hrun]

/-- A sample of a channel in a WIRING fault takes no step (R33). -/
theorem sampled_wiring (x : SenseChannel) (u : SenseSetup) (reading now : Nat) (hc : x.faultClass = .wiring) :
    (x.sampled u false reading now).1 = (x.viewed u reading now).contacted (classify u x reading now) := by
  have hw : (x.viewed u reading now).faultClass = .wiring := hc
  rw [sampled_inFault x u reading now (by simp [hc])]
  simp [SenseChannel.faultStep, hw]

/-- SENSE_FAULT_ENTRY is the sample that puts a channel in fault. -/
theorem senseFaultEntry_eq (c : Fin 48) (reading : BitVec 12) (s : State) (due : Nat) (hr : s.run.state = .run)
    (hk : (s.sense.channels.get c).check = none) (hd : (s.sense.channels.get c).sampleTimer = some due)
    (hc : (s.sense.channels.get c).faultClass = .none)
    (h : ((s.sense.channels.get c).sampled (s.setup.sense.get c) s.sense.supplyLow reading.toNat
      (max s.now due)).1.faultClass ≠ .none) :
    exec (.senseFaultEntry c reading) s = .next (sample c reading.toNat s) := by
  change Host.Outcome.next (when (s.willFault c reading.toNat) (sample c reading.toNat) s) = _
  simp [State.willFault, sampleAhead_eq c reading.toNat s due hr hk hd, hc, h]

/-- SENSE_HEAL is the sample after which a channel that was in fault is no more. -/
theorem senseHeal_eq (c : Fin 48) (reading : BitVec 12) (s : State) (due : Nat) (hr : s.run.state = .run)
    (hk : (s.sense.channels.get c).check = none) (hd : (s.sense.channels.get c).sampleTimer = some due)
    (hc : (s.sense.channels.get c).faultClass ≠ .none) :
    exec (.senseHeal c reading) s =
      .next (when (((s.sense.channels.get c).sampled (s.setup.sense.get c) s.sense.supplyLow reading.toNat
        (max s.now due)).1.faultClass = .none) (sample c reading.toNat) s) := by
  change Host.Outcome.next (when (s.willHeal c reading.toNat) (sample c reading.toNat) s) = _
  simp [State.willHeal, sampleAhead_eq c reading.toNat s due hr hk hd, hc]

/-- Settles O25: a channel enters its fault, heals, or stays in its WIRING fault, by the sample that is due. -/
theorem faultRunsEnterAndHeal : Obligations.FaultRunsEnterAndHeal := by
  intro c reading s due hr hk hd hlow
  obtain ⟨-, ⟨u, hx⟩, hother, -, hframe⟩ := sample_sampledTo c reading.toNat s due c.isLt hr hk hd
  rw [hlow] at hx
  refine ⟨fun f hclass hrun hp => ?enters, fun hclass hwiring hrun hf hv => ?heals, fun hclass => ⟨?heals_not, ?stays⟩⟩
  case enters =>
    have hahead := sampled_entersFault (s.sense.channels.get c) _ _ _ f hclass hrun hp
    refine ⟨_, senseFaultEntry_eq c reading s due hr hk hd hclass ?_, ?_⟩
    · rw [hlow, hahead]
      exact classify_fault_ne_none _ _ _ _ f hp
    · rw [hx, sampled_entersFault (s.advanced c due) _ _ _ f hclass hrun hp]
      exact ⟨rfl, rfl, rfl, rfl, rfl, hother, hframe⟩
  case heals =>
    have hahead := sampled_heals (s.sense.channels.get c) _ _ _ hclass hwiring hrun hf hv
    have hnew : exec (.senseHeal c reading) s = .next (sample c reading.toNat s) := by
      rw [senseHeal_eq c reading s due hr hk hd hclass, hlow, hahead]
      simp [SenseChannel.healed]
    refine ⟨_, hnew, ?_⟩
    rw [hx, sampled_heals (s.advanced c due) _ _ _ hclass hwiring hrun hf hv]
    simp only [SenseChannel.contacted_frame]
    exact ⟨rfl, rfl, rfl, hother, hframe⟩
  case heals_not =>
    rw [senseHeal_eq c reading s due hr hk hd (by simp [hclass]), hlow, sampled_wiring _ _ _ _ hclass]
    simp [SenseChannel.viewed, hclass]
  case stays =>
    refine ⟨_, rfl, ?_⟩
    rw [hx, sampled_wiring (s.advanced c due) _ _ _ hclass]
    simp only [SenseChannel.contacted_frame]
    exact ⟨hclass, rfl, rfl, rfl, rfl, hother, hframe⟩

end Sys2Proof.Machine
end

section
/-! PROOFS. O26: what a measurement of a wiring check leaves, and the judgement that the third one brings. -/

namespace Sys2Proof.Machine

/-! ### The judgement (R33) -/

/-- The bands differ by at most 1, said as R33 has it. -/
theorem detectKind_eq (u d f : Nat) :
    detectKind u d f =
      if 2 ≤ f ∧ (u = d ∨ u = d + 1 ∨ d = u + 1) then .driven
      else if 14 ≤ u ∧ d ≤ 1 then .nothing
      else if u ≤ 13 ∧ d ≤ 1 then .toGround
      else if 14 ≤ u ∧ 2 ≤ d then .toSupply
      else .resistive := by
  have h : (u ≤ d + 1 ∧ d ≤ u + 1) ↔ (u = d ∨ u = d + 1 ∨ d = u + 1) := by omega
  simp only [detectKind, h]

/-- The configured kind that a detected kind matches (R33). -/
def DetectedKind.configured : DetectedKind → SenseKind
  | .driven => .voltage
  | .nothing => .unused
  | .toGround => .switchToGround
  | .toSupply => .switchToSupply
  | .resistive => .resistiveSender

theorem DetectedKind.fits_iff (d : DetectedKind) (k : SenseKind) : d.fits k = true ↔ k = d.configured := by
  cases d <;> cases k <;> simp [DetectedKind.fits, DetectedKind.configured]

/-- The class of a judged channel: a match lifts a WIRING fault, and a mismatch of a configured kind sets one. -/
theorem SenseChannel.judged_leaves (x : SenseChannel) (u : SenseSetup) (fits : Bool) :
    (x.judged u fits).check = none ∧ (x.judged u fits).debounce = 0 ∧ (x.judged u fits).faultRun = 0 ∧
    (x.judged u fits).healthyRun = 0 ∧
    (x.judged u fits).faultClass =
      (if fits then (if x.faultClass = .wiring then .none else x.faultClass)
       else if u.kind = .unused then x.faultClass else .wiring) := by
  cases fits with
  | true =>
    by_cases h : x.faultClass = .wiring
    · simp [SenseChannel.judged, h]
    · simp [SenseChannel.judged, h]
  | false =>
    by_cases h : u.kind = .unused
    · simp [SenseChannel.judged, h]
    · simp [SenseChannel.judged, h, SenseChannel.enterFault, SenseChannel.withLogical]

theorem SenseChannel.judged_reading (x : SenseChannel) (u : SenseSetup) (fits : Bool) :
    (x.judged u fits).reading = x.reading := by
  unfold SenseChannel.judged
  dsimp only
  split_ifs <;> rfl

/-! ### A measurement (R32) -/

theorem wiringMeasurement_eq (c reading : Nat) (s : State) (due : Nat) (w : WiringCheck)
    (hw : (s.sense.channels.get c).check = some w) (hd : (s.sense.channels.get c).sampleTimer = some due) :
    wiringMeasurement c reading s = measured c reading w (advanceSample c due (s.reach due)) := by
  simp only [wiringMeasurement, hw, hd, onTimer_some]

/-- A channel under check with one band more. -/
def SenseChannel.banded (x : SenseChannel) (w : WiringCheck) (reading : Nat) : SenseChannel :=
  { x with
    reading := BitVec.ofNat 16 reading
    shown := .band (bandOf reading)
    check := some { w with bands := w.bands ++ [bandOf reading] } }

/-- The first two measurements are kept as bands. -/
theorem measured_keeps (c reading : Nat) (w : WiringCheck) (s : State) (h : w.bands.length < 2) :
    measured c reading w s = deliverChannel c (s.sense.channels.get c)
      (writeChannel c ((s.sense.channels.get c).banded w reading) s) := by
  simp only [measured, List.length_append, List.length_singleton]
  rw [if_neg (by omega)]
  rfl

/-- The third measurement is judged. -/
theorem measured_judges (c reading : Nat) (w : WiringCheck) (s : State) (h : 2 ≤ w.bands.length) :
    measured c reading w s = judgeCheck c { w with bands := w.bands ++ [bandOf reading] } (s.sense.channels.get c)
      ((s.sense.channels.get c).banded w reading) s := by
  simp only [measured, List.length_append, List.length_singleton]
  rw [if_pos (by omega)]
  rfl

/-- Whether the bands of a check match the kind of channel `c`. -/
def State.bandsFit (s : State) (c : Nat) (bands : List Nat) : Bool :=
  (detectKind (bands.getD 0 0) (bands.getD 1 0) (bands.getD 2 0)).fits (s.setup.sense.get c).kind

/-- The judgement moves the channels as the write of its entry alone does. -/
theorem judgeCheck_channels (c : Nat) (w : WiringCheck) (held x : SenseChannel) (s : State) :
    (judgeCheck c w held x s).sense =
      (writeChannel c (x.judged (s.setup.sense.get c) (s.bandsFit c w.bands))
        (slotDone w.slot (checkBody (detectKind (w.bands.getD 0 0) (w.bands.getD 1 0) (w.bands.getD 2 0)) w.bands
          (s.bandsFit c w.bands)) s)).sense := by
  simp [judgeCheck, State.bandsFit]

/-- A channel that feeds no signal delivers nothing. -/
theorem deliverChannel_feedless (c : Nat) (x : SenseChannel) (s : State) (h : s.signalOfChannel c = none) :
    deliverChannel c x s = s := by
  simp [deliverChannel, h]

theorem judgeCheck_mem (c : Nat) (w : WiringCheck) (held x : SenseChannel) (s : State)
    (h : s.signalOfChannel c = none) :
    (judgeCheck c w held x s).mem =
      (slotDone w.slot (checkBody (detectKind (w.bands.getD 0 0) (w.bands.getD 1 0) (w.bands.getD 2 0)) w.bands
          (s.bandsFit c w.bands)) s).mem := by
  have hfeed (t : State) (ht : t.setup = s.setup) : t.signalOfChannel c = none := by
    rw [State.signalOfChannel, ht]
    exact h
  have hwrite (y : SenseChannel) (t : State) (ht : t.setup = s.setup) :
      deliverChannel c held (writeChannel c y t) = writeChannel c y t :=
    deliverChannel_feedless c held _ (hfeed _ (by simp [ht]))
  simp only [judgeCheck]
  rw [hwrite _ _ (by simp)]
  simp [State.bandsFit]

/-- Channel `c` after a measurement of its check: with one band more, or judged; no other channel moves. -/
theorem measured_entry (c reading : Nat) (w : WiringCheck) (s : State) (hc : c < 48) :
    let x := (s.sense.channels.get c).banded w reading
    (∃ u, (measured c reading w s).sense.channels.get c =
      { (if w.bands.length < 2 then x
         else x.judged (s.setup.sense.get c) (s.bandsFit c (w.bands ++ [bandOf reading]))) with upd := u }) ∧
    ∀ j, j ≠ c → (measured c reading w s).sense.channels.get j = s.sense.channels.get j := by
  intro x
  by_cases h : w.bands.length < 2
  · have hsense : (measured c reading w s).sense = (writeChannel c x s).sense := by
      rw [measured_keeps c reading w s h]
      simp [x]
    rw [hsense, if_pos h]
    exact ⟨writeChannel_entry c x s hc, fun j hj => writeChannel_get_other c j x s hj⟩
  · rw [measured_judges c reading w s (not_lt.1 h), judgeCheck_channels, if_neg h]
    refine ⟨writeChannel_entry c _ _ hc, fun j hj => (writeChannel_get_other c j _ _ hj).trans ?_⟩
    simp

/-- A byte of the result body of a request that is done (R185, R187). -/
theorem slotDone_read_body (i : Nat) (body : List Byte) (s : State) (h : s.memorySound) (k : Nat) (hk : k < 56) :
    Memory.read (slotDone i body s).mem (slotBase i + 8 + k) = (padTo 56 body).getD k 0#8 := by
  rw [slotDone_mem, Nat.add_assoc, finishSlot_read _ _ _ _ _ _ h _ (by omega), if_neg (by omega), if_pos (by omega),
    Nat.add_sub_cancel_left]

/-- The result body of a check of three bands, as the slot shows it (R33). -/
theorem slotDone_read_check (i : Nat) (kind : DetectedKind) (u d f : Nat) (fits : Bool) (s : State)
    (h : s.memorySound) :
    (List.range 5).map (fun k => Memory.read (slotDone i (checkBody kind [u, d, f] fits) s).mem (slotBase i + 8 + k)) =
      [byteOf kind.code, byteOf u, byteOf d, byteOf f, if fits then 0#8 else 1#8] := by
  have hread (k : Nat) (hk : k < 56) := slotDone_read_body i (checkBody kind [u, d, f] fits) s h k hk
  simp only [List.range_succ, List.range_zero, List.nil_append, List.map_cons, List.map_nil,
    List.cons_append, hread 0 (by decide), hread 1 (by decide), hread 2 (by decide), hread 3 (by decide),
    hread 4 (by decide)]
  rfl

/-- The third measurement, its bands named: the judged channel, and the answer in the slot. -/
theorem measured_third (c reading : Nat) (w : WiringCheck) (s : State) (hc : c < 48) (u d : Nat)
    (hb : w.bands = [u, d]) (detected : DetectedKind) (hdet : detectKind u d (reading / 256) = detected) (fits : Prop)
    [Decidable fits] (hfits : fits ↔ (s.setup.sense.get c).kind = detected.configured) :
    let t := measured c reading w s
    let x := s.sense.channels.get c
    let y := t.sense.channels.get c
    y.check = none ∧ y.debounce = 0 ∧ y.faultRun = 0 ∧ y.healthyRun = 0 ∧
      y.faultClass =
        (if fits then (if x.faultClass = .wiring then .none else x.faultClass)
         else if (s.setup.sense.get c).kind = .unused then x.faultClass else .wiring) ∧
      (s.memorySound → s.signalOfChannel c = none →
        t.slotState w.slot = .done ∧
        (List.range 5).map (fun k => Memory.read t.mem (slotBase w.slot + 8 + k)) =
          [byteOf detected.code, byteOf u, byteOf d, byteOf (reading / 256), if fits then 0#8 else 1#8]) := by
  intro t x y
  have hfit : s.bandsFit c (w.bands ++ [bandOf reading]) = decide fits := by
    rw [Bool.eq_iff_iff, State.bandsFit, hb]
    change (detectKind u d (reading / 256)).fits _ = true ↔ _
    rw [hdet, DetectedKind.fits_iff, decide_eq_true_eq, hfits]
  obtain ⟨⟨v, hy⟩, -⟩ := measured_entry c reading w s hc
  rw [if_neg (by simp [hb]), hfit] at hy
  obtain ⟨hcheck, hdebounce, hfault, hhealthy, hclass⟩ :=
    (x.banded w reading).judged_leaves (s.setup.sense.get c) (decide fits)
  have hy : y = { (x.banded w reading).judged (s.setup.sense.get c) (decide fits) with upd := v } := hy
  rw [hy]
  refine ⟨hcheck, hdebounce, hfault, hhealthy, ?_, fun hm hfeed => ?_⟩
  · refine hclass.trans ?_
    by_cases hf : fits
    · rw [if_pos hf, if_pos (decide_eq_true hf)]
      rfl
    · rw [if_neg hf, if_neg (by simp [hf])]
      rfl
  · have hmem : t.mem = (slotDone w.slot (checkBody detected [u, d, reading / 256] (decide fits)) s).mem := by
      simp only [t]
      rw [measured_judges c reading w s (by simp [hb]), judgeCheck_mem _ _ _ _ _ hfeed, hfit, hb]
      change (slotDone w.slot (checkBody (detectKind u d (reading / 256)) [u, d, reading / 256] (decide fits)) s).mem = _
      rw [hdet]
    refine ⟨?_, ?_⟩
    · rw [slotState_of_mem _ _ _ hmem, slotDone_slotState _ _ _ hm]
    · rw [hmem]
      simpa using slotDone_read_check w.slot detected u d (reading / 256) (decide fits) s hm

/-- Settles O26: the timer runs on, and then a measurement is kept as a band or judged. -/
theorem wiringCheckMeasuresAndJudges : Obligations.WiringCheckMeasuresAndJudges := by
  intro c reading s due w hw hd
  let q := advanceSample c due (s.reach due)
  have hq : q.sense.channels.get c = s.advanced c due := advanceSample_get_same c due (s.reach due) c.isLt
  have hnew : exec (.wiringCheckMeasurement c reading) s = .next (measured c reading.toNat w q) :=
    congrArg _ (wiringMeasurement_eq c reading.toNat s due w hw hd)
  have hframe : s.changesOnly (measured c reading.toNat w q) (.sense :: signalParts) :=
    State.changesOnly_of _ _ _ (by simp [q, signalParts])
  obtain ⟨⟨u, hx⟩, hother⟩ := measured_entry c reading.toNat w q c.isLt
  refine ⟨_, hnew, by simp [q, State.reach], ?_,
    fun j hj => (hother j hj).trans (advanceSample_get_other c due j _ hj), hframe, fun hlen => ?_, fun a b hb => ?_⟩
  · have hreading : ((q.sense.channels.get c).banded w reading.toNat).reading = reading.setWidth 16 := by
      simp [SenseChannel.banded, BitVec.ofNat_toNat]
    rw [hx]
    split
    · exact hreading
    · exact (SenseChannel.judged_reading _ _ _).trans hreading
  · rw [hx, if_pos hlen, hq]
    exact ⟨rfl, rfl, rfl⟩
  · intro kind f detected fits
    have hfits : fits ↔ kind = detected.configured := by
      simp only [fits]
      cases detected <;> rfl
    have h := measured_third c reading.toNat w q c.isLt a b hb detected (detectKind_eq a b f) fits hfits
    rw [hq] at h
    exact h

end Sys2Proof.Machine
end

section
/-! PROOFS. O27: the supply monitor, and the wiring checks that supply low ends. -/

namespace Sys2Proof.Machine

/-! ### Aborted checks (R34) -/

theorem abortCheck_none (restart : Bool) (c : Nat) (s : State) (h : (s.sense.channels.get c).check = none) :
    abortCheck restart c s = s := by
  simp [abortCheck, h]

/-- The write that ends a running check. -/
theorem abortCheck_some (restart : Bool) (c : Nat) (s : State) (w : WiringCheck)
    (h : (s.sense.channels.get c).check = some w) :
    abortCheck restart c s =
      writeChannel c
        (if restart then ((s.sense.channels.get c).unchecked (s.setup.sense.get c).kind).restarted
         else (s.sense.channels.get c).unchecked (s.setup.sense.get c).kind)
        (slotFailed w.slot .aborted 0 [] s) := by
  simp [abortCheck, h]

theorem abortCheck_get_other (restart : Bool) (c j : Nat) (s : State) (h : j ≠ c) :
    (abortCheck restart c s).sense.channels.get j = s.sense.channels.get j := by
  cases hk : (s.sense.channels.get c).check with
  | none => rw [abortCheck_none restart c s hk]
  | some w =>
    rw [abortCheck_some restart c s w hk, writeChannel_get_other c j _ _ h]
    simp

/-- The end of a check keeps the channel's value and its fault class. -/
theorem abortCheck_get_same (restart : Bool) (c : Nat) (s : State) (hc : c < 48) :
    ((abortCheck restart c s).sense.channels.get c).check = none ∧
      ((abortCheck restart c s).sense.channels.get c).logical = (s.sense.channels.get c).logical ∧
      ((abortCheck restart c s).sense.channels.get c).faultClass = (s.sense.channels.get c).faultClass := by
  cases hk : (s.sense.channels.get c).check with
  | none =>
    rw [abortCheck_none restart c s hk]
    exact ⟨hk, rfl, rfl⟩
  | some w =>
    rw [abortCheck_some restart c s w hk]
    obtain ⟨u, hu⟩ := writeChannel_entry c (if restart then
      ((s.sense.channels.get c).unchecked (s.setup.sense.get c).kind).restarted
      else (s.sense.channels.get c).unchecked (s.setup.sense.get c).kind) (slotFailed w.slot .aborted 0 [] s) hc
    rw [hu]
    cases restart <;> exact ⟨rfl, rfl, rfl⟩

/-- With every check ended no channel is under check, and each keeps its value and its fault class. -/
theorem abortChecks_get (restart : Bool) (c : Nat) (s : State) (hc : c < 48) :
    ((abortChecks restart s).sense.channels.get c).check = none ∧
      ((abortChecks restart s).sense.channels.get c).logical = (s.sense.channels.get c).logical ∧
      ((abortChecks restart s).sense.channels.get c).faultClass = (s.sense.channels.get c).faultClass := by
  rw [abortChecks]
  refine forEach_reaches (fun t => t.sense.channels.get c = s.sense.channels.get c)
    (fun t => (t.sense.channels.get c).check = none ∧ (t.sense.channels.get c).logical = (s.sense.channels.get c).logical ∧
      (t.sense.channels.get c).faultClass = (s.sense.channels.get c).faultClass)
    _ _ s c (List.mem_range.2 hc) List.nodup_range rfl (fun i _ hi t ht => ?_) (fun t ht => ?_) (fun i _ hi t ht => ?_)
  · exact (abortCheck_get_other restart i c t (Ne.symm hi)).trans ht
  · exact ht ▸ abortCheck_get_same restart c t hc
  · rwa [abortCheck_get_other restart i c t (Ne.symm hi)]

@[simp] theorem abortCheck_supply (restart : Bool) (c : Nat) (s : State) :
    (abortCheck restart c s).sense.supplyMv = s.sense.supplyMv ∧
    (abortCheck restart c s).sense.supplyLow = s.sense.supplyLow ∧
    (abortCheck restart c s).sense.lowTimer = s.sense.lowTimer := by
  cases hk : (s.sense.channels.get c).check with
  | none => simp [abortCheck_none restart c s hk]
  | some w => simp [abortCheck_some restart c s w hk]

theorem abortChecks_supply (restart : Bool) (s : State) :
    (abortChecks restart s).sense.supplyMv = s.sense.supplyMv ∧
    (abortChecks restart s).sense.supplyLow = s.sense.supplyLow ∧
    (abortChecks restart s).sense.lowTimer = s.sense.lowTimer := by
  rw [abortChecks]
  exact forEach_induct (fun t => t.sense.supplyMv = s.sense.supplyMv ∧ t.sense.supplyLow = s.sense.supplyLow ∧
    t.sense.lowTimer = s.sense.lowTimer) _ _ s (fun c _ t ht => by simpa using ht) ⟨rfl, rfl, rfl⟩

/-! ### The supply monitor (R29) -/

/-- A supply measurement that is due: the monitor takes it, and nothing that follows moves the monitor. -/
theorem supplyMeasured_sense (mv : Word) (s : State) (due : Nat) (hr : s.run.state ≠ .standby)
    (hd : s.sense.supplyTimer = some due) :
    (supplyMeasured mv s).now = max s.now due ∧
      (supplyMeasured mv s).sense =
        { s.sense.supplied mv (max s.now due + 100000) with supplyTimer := some (due + 5000) } := by
  have hawake : s.awake = true := by simpa [State.awake] using hr
  rw [supplyMeasured, hawake, if_pos rfl, hd, onTimer_some]
  constructor
  · simp
  · simp [writeStatus, State.reach, State.inMs, Config.supplyLowDelay, Config.supplyPeriod]

/-- The expiry of the low timer sets supply low and ends every check, and only the warnings follow. -/
theorem supplyLowExpires_sense (s : State) (due : Nat) (hd : s.sense.lowTimer = some due) :
    (supplyLowExpires s).now = max s.now due ∧
      (supplyLowExpires s).sense = (abortChecks true (writeStatus ((s.reach due).setSense
        { s.sense with supplyLow := true, lowTimer := none }))).sense := by
  rw [supplyLowExpires, hd, onTimer_some]
  constructor
  · simp
  · simp

/-- Settles O27: the monitor alone moves at a measurement, and the low timer's expiry ends the checks one by one. -/
theorem supplyLowFollowsTheSupply : Obligations.SupplyLowFollowsTheSupply := by
  refine ⟨fun mv s due hr hd => ?measured, fun s due hd => ?expires⟩
  case measured =>
    obtain ⟨hnow, hsense⟩ := supplyMeasured_sense mv s due hr hd
    refine ⟨supplyMeasured mv s, rfl, hnow, ?_, ?_, ?_, ?_, ?_, State.changesOnly_of _ _ _ (by simp [warningParts])⟩
    all_goals rw [hsense]
    · rfl
    · simp only [SenseUnit.supplied]
      rw [← decide_not]
      simp only [not_lt]
    · simp [SenseUnit.supplied]
    · rfl
  case expires =>
    obtain ⟨hnow, hsense⟩ := supplyLowExpires_sense s due hd
    obtain ⟨hmv, hlow, htimer⟩ := abortChecks_supply true (writeStatus ((s.reach due).setSense
      { s.sense with supplyLow := true, lowTimer := none }))
    refine ⟨supplyLowExpires s, rfl, hnow, ?_, ?_, ?_, fun c hc => ?_,
      State.changesOnly_of _ _ _ (by simp [warningParts])⟩
    all_goals rw [hsense]
    · rw [hlow]
      rfl
    · rw [htimer]
      rfl
    · rw [hmv]
      rfl
    · obtain ⟨hcheck, hlogical, hclass⟩ := abortChecks_get true c (writeStatus ((s.reach due).setSense
        { s.sense with supplyLow := true, lowTimer := none })) hc
      rw [hcheck, hlogical, hclass]
      exact ⟨rfl, rfl, rfl⟩

end Sys2Proof.Machine
end

section
/-! PROOFS. O18: the requests that start work in RUN, each refused in the order of its table or taken. -/

namespace Sys2Proof.Machine

/-! ### The two ends of a taking -/

/-- A POSTED slot whose request is refused at its taking, the detail being 0 (R181). -/
theorem visitSlot_fails (k : Nat) (s : State) (r : ResultCode) (hm : s.memorySound) (hp : s.port.sweepPlace = some k)
    (h : s.slotState k = .posted) (ht : takeSlot k s = refuseRequest k r 0 s) :
    (visitSlot s).slotState k = .failed ∧ Memory.read (visitSlot s).mem (slotBase k + 3) = byteOf r.code ∧
      s.changesOnly (visitSlot s) [.notices, .statusBlock, .registers, .slots] := by
  obtain ⟨hstate, hcode, -, -, hframe⟩ := visitSlot_refused k s r 0 hm hp h ht
  exact ⟨hstate, hcode, hframe⟩

/-- A POSTED slot whose request is taken shows TAKEN, and no other byte changes, where the work that starts writes
none. -/
theorem visitSlot_takes (k : Nat) (s : State) (u : State) (hm : s.memorySound) (hp : s.port.sweepPlace = some k)
    (h : s.slotState k = .posted) (ht : takeSlot k s = u) (hu : u.mem = (setSlotState k .taken s).mem) :
    (visitSlot s).slotState k = .taken ∧
      ∀ a, a ≠ slotBase k → Memory.read (visitSlot s).mem a = Memory.read s.mem a := by
  have hmem : (visitSlot s).mem = (setSlotState k .taken s).mem := by
    rw [visitSlot_posted k s hp h, ht]
    simp [hu]
  refine ⟨?_, fun a ha => ?_⟩
  · rw [slotState_of_mem _ _ k hmem, setSlotState_slotState _ _ _ hm]
  · rw [hmem]
    exact Memory.read_write_other _ _ _ _ ha

/-- The rest of a visit posts no notice. -/
@[simp] theorem sweepOn_notices (k : Nat) (s : State) :
    (sweepOn k s).port.ring = s.port.ring ∧ (sweepOn k s).port.noticeWrite = s.port.noticeWrite ∧
    (sweepOn k s).port.noticeOverflow = s.port.noticeOverflow := by
  unfold sweepOn endSweep writeStatus
  split_ifs <;> simp

theorem slotByte_eq (s : State) (k j : Nat) : s.slotByte k j = (Memory.read s.mem (slotBase k + 8 + j)).toNat := rfl

/-! ### STATION_TRANSFER (R67) -/

/-- The parameters of a STATION_TRANSFER that R67 finds bad. -/
def State.badTransfer (s : State) (k : Nat) : Prop :=
  s.slotByte k 0 = 0 ∨ 15 < s.slotByte k 0 ∨ 31 < s.slotByte k 1 ∨ 1 < s.slotByte k 2 ∨ 16 < s.slotByte k 3

/-- The one-shot that a STATION_TRANSFER asks for. -/
def State.transferAsked (s : State) (k : Nat) : OneShot :=
  .transfer k (s.slotByte k 0) (s.slotByte k 1) (if s.slotByte k 2 = 0 then .fetch else .deliver) (s.slotByte k 3)
    (if s.slotByte k 2 = 0 then [] else s.transferWords k (s.slotByte k 3))

theorem requestStationTransfer_eq (k : Nat) (s : State) (hr : s.run.state = .run) :
    (s.badTransfer k → requestStationTransfer k s = refuseRequest k .badParameter 0 s) ∧
    (¬s.badTransfer k → 4 ≤ s.line.oneShots.length → requestStationTransfer k s = refuseRequest k .queueFull 0 s) ∧
    (¬s.badTransfer k → s.line.oneShots.length < 4 →
      requestStationTransfer k s = appendOneShot (s.transferAsked k) (setSlotState k .taken s)) := by
  have hrun : s.inRun = true := by simp [State.inRun, hr]
  have fields (dir : Direction) (hd : directionOfCode (s.slotByte k 2) = some dir) :
      requestStationTransfer k s =
        if s.slotByte k 0 < 1 || 15 < s.slotByte k 0 || 31 < s.slotByte k 1 || 16 < s.slotByte k 3 then
          refuseRequest k .badParameter 0 s
        else if s.listFull then refuseRequest k .queueFull 0 s
        else appendOneShot (.transfer k (s.slotByte k 0) (s.slotByte k 1) dir (s.slotByte k 3)
          (if dir = .deliver then s.transferWords k (s.slotByte k 3) else [])) (setSlotState k .taken s) := by
    simp [requestStationTransfer, hrun, hd]
  have hfull : s.listFull = true ↔ 4 ≤ s.line.oneShots.length := by simp [State.listFull]
  match hk : s.slotByte k 2 with
  | n + 2 =>
    have hbad : s.badTransfer k := by unfold State.badTransfer; omega
    refine ⟨fun _ => ?_, fun h => absurd hbad h, fun h => absurd hbad h⟩
    simp [requestStationTransfer, hrun, hk, directionOfCode]
  | 0 | 1 =>
    have hiff : s.badTransfer k ↔ (s.slotByte k 0 < 1 || 15 < s.slotByte k 0 || 31 < s.slotByte k 1 ||
        16 < s.slotByte k 3) = true := by
      simp only [State.badTransfer, Bool.or_eq_true, decide_eq_true_eq]
      omega
    rw [fields _ (by rw [hk]; rfl), hiff]
    refine ⟨fun h => if_pos h, fun h h4 => ?_, fun h h4 => ?_⟩
    · rw [if_neg h, if_pos (hfull.2 h4)]
    · rw [if_neg h, if_neg (by rw [hfull]; omega)]
      simp [State.transferAsked, hk]

theorem transferWords_eq (s : State) (k n : Nat) :
    s.transferWords k n = (List.range n).map fun j =>
      wordOfBytes (Memory.read s.mem (slotBase k + 8 + (4 + 2 * j)))
        (Memory.read s.mem (slotBase k + 8 + (5 + 2 * j))) := by
  refine List.map_congr_left fun j _ => ?_
  rw [State.slotWord, Memory.u16, Memory.u8, Memory.u8, wordOfBytes_eq,
    show slotBase k + 8 + (4 + 2 * j) + 1 = slotBase k + 8 + (5 + 2 * j) by omega]

/-! ### GAUGE_SWEEP (R145, R146) -/

theorem mem_gaugesIn (set : BitVec 8) (i : Nat) : i ∈ gaugesIn set ↔ i < 6 ∧ set.getLsbD i = true := by
  simp [gaugesIn]

theorem badSet_iff (u : Setup) (set : BitVec 8) :
    u.badSet set = true ↔
      set = 0#8 ∨ 64 ≤ set.toNat ∨ ∃ i, i < 6 ∧ set.getLsbD i = true ∧ (u.gauges.get i).inUse = false := by
  simp [Setup.badSet, mem_gaugesIn, or_assoc, and_assoc]

theorem setBusy_iff (s : State) (set : BitVec 8) :
    s.setBusy set = true ↔ ∃ i, i < 6 ∧ set.getLsbD i = true ∧
      ((s.gauges.get i).state = .sweeping ∨ (s.gauges.get i).state = .homing) := by
  simp [State.setBusy, mem_gaugesIn, and_assoc]

theorem startSweeps_get_other (set : BitVec 8) (owner : SweepOwner) (s : State) (i : Nat)
    (h : set.getLsbD i = false) : (startSweeps set owner s).gauges.get i = s.gauges.get i := by
  refine forEach_induct (fun t => t.gauges.get i = s.gauges.get i) _ _ s (fun j hj t ht => ?_) rfl
  have hne : i ≠ j := by
    rintro rfl
    simp [((mem_gaugesIn set i).1 hj).2] at h
  exact (putGauge_get_other j i _ t hne).trans ht

/-- Every gauge of the set starts its sweep from where it stands. -/
theorem startSweeps_get_same (set : BitVec 8) (owner : SweepOwner) (s : State) (i : Nat) (hi : i < 6)
    (h : set.getLsbD i = true) :
    ∃ v, (startSweeps set owner s).gauges.get i =
      { (s.gauges.get i).startSweep (s.setup.gauges.get i) owner s.now with upd := v } := by
  refine forEach_reaches (fun t => t.gauges.get i = s.gauges.get i ∧ t.setup = s.setup ∧ t.now = s.now)
    (fun t => ∃ v, t.gauges.get i =
      { (s.gauges.get i).startSweep (s.setup.gauges.get i) owner s.now with upd := v })
    (gaugesIn set) _ s i ((mem_gaugesIn set i).2 ⟨hi, h⟩) (List.nodup_range.filter _) ⟨rfl, rfl, rfl⟩
    (fun j _ hj t ht => ?_) (fun t ht => ?_) (fun j _ hj t ht => ?_)
  · obtain ⟨hg, hset, hnow⟩ := ht
    exact ⟨(putGauge_get_other j i _ t (Ne.symm hj)).trans hg, by simp [hset], by simp [hnow]⟩
  · obtain ⟨hg, hset, hnow⟩ := ht
    rw [← hg, ← hset, ← hnow]
    exact putGauge_get_same i _ t hi
  · rwa [putGauge_get_other j i _ t (Ne.symm hj)]

theorem requestGaugeSweep_eq (k : Nat) (s : State) (hr : s.run.state = .run) :
    requestGaugeSweep k s =
      if s.setup.badSet (Memory.read s.mem (slotBase k + 8)) then refuseRequest k .badParameter 0 s
      else if s.doors.motion ≠ .stopped then refuseRequest k .refusedMoving 0 s
      else if s.setBusy (Memory.read s.mem (slotBase k + 8)) then refuseRequest k .busy 0 s
      else startSweeps (Memory.read s.mem (slotBase k + 8)) (.request k (Memory.read s.mem (slotBase k + 8)))
        (setSlotState k .taken s) := by
  have hset : byteOf (s.slotByte k 0) = Memory.read s.mem (slotBase k + 8) := by
    simp [slotByte_eq, byteOf]
  simp [requestGaugeSweep, State.inRun, hr, hset]

/-! ### LAMP_CHECK (R128) -/

/-- A lamp but for its command. -/
def Lamp.uncommanded (x : Lamp) : Lamp := { x with command := .off }

/-- What a taking of the composition leaves of the composition unit: the timers of tests, and the lamps but for their
commands. -/
def CompositionUnit.work (c : CompositionUnit) : Option Nat × Option Nat × Table 32 Lamp :=
  (c.checkTimer, c.testTimer, c.lamps.map Lamp.uncommanded)

@[simp] theorem compose_work (announce : Bool) (s : State) : (compose announce s).comp.work = s.comp.work := by
  have hlamps : s.commandedLamps.map Lamp.uncommanded = s.comp.lamps.map Lamp.uncommanded := by
    refine Table.eq_of_get _ _ fun l hl => ?_
    simp [State.commandedLamps, hl, Lamp.uncommanded]
  unfold compose
  split
  · simp [CompositionUnit.work, State.composedUnit, CompositionUnit.sound, hlamps]
  · split
    · rfl
    · rfl

@[simp] theorem commitWarning_work (w : Nat) (m : WarningMove) (s : State) :
    (commitWarning w m s).comp.work = s.comp.work := by
  simp [commitWarning]

@[simp] theorem takeCondition_work (w : Nat) (s : State) : (takeCondition w s).comp.work = s.comp.work := by
  unfold takeCondition
  split <;> simp

@[simp] theorem takeSource_work (src : Source) (i : Nat) (s : State) :
    (takeSource src i s).comp.work = s.comp.work :=
  forEach_keeps (·.comp.work) _ _ s fun w t => takeCondition_work w t

@[simp] theorem takePriorities_work (l : List Nat) (s : State) : (takePriorities l s).comp.work = s.comp.work := by
  rw [takePriorities]
  refine (when_keeps (·.comp.work) _ _ _ fun t => compose_work false t).trans ?_
  simp

theorem handProof_work (l : Nat) (s : State) : (handProof l s).comp.work = s.comp.work := by
  simp [handProof]

@[simp] theorem handProof_check (l : Nat) (s : State) : (handProof l s).comp.check = s.comp.check := by
  simp [handProof]

/-- While a lamp check runs in RUN, a taking of the composition puts every lamp on (R128). -/
theorem compose_checked (announce : Bool) (s : State) (hr : s.run.state = .run) (hc : s.comp.check.isSome = true)
    (l : Nat) (hl : l < 32) : ((compose announce s).comp.lamps.get l).command = .on := by
  have hrun : s.inRun = true := by simp [State.inRun, hr]
  simp only [compose, hrun, if_true]
  refine when_induct (fun t => (t.comp.lamps.get l).command = .on) _ _ _ (fun _ h => by simpa using h) ?_
  simp [State.composedUnit, State.commandedLamps, hl, State.lampCommand, hc]

/-- A lamp's own work in two units that agree but for the commands. -/
theorem Lamp.of_work (c d : CompositionUnit) (h : c.work = d.work) (l : Nat) (hl : l < 32) :
    c.lamps.get l = { d.lamps.get l with command := (c.lamps.get l).command } := by
  have h : (c.lamps.get l).uncommanded = (d.lamps.get l).uncommanded := by
    have := congrArg (fun x : Option Nat × Option Nat × Table 32 Lamp => x.2.2.get l) h
    simpa [CompositionUnit.work, hl] using this
  exact congrArg (fun x : Lamp => { x with command := (c.lamps.get l).command }) h

/-- A lamp check that starts in RUN: its timers, and every lamp on and unproven (R128, R132). -/
theorem startLampCheck_starts (owner : CheckOwner) (s : State) (hr : s.run.state = .run) :
    let t := startLampCheck owner s
    t.comp.check = some owner ∧ t.comp.checkTimer = some (s.now + 2000000) ∧
      t.comp.testTimer = some (s.now + 300000) ∧
      ∀ l, l < 32 → t.comp.lamps.get l = { (s.comp.lamps.get l).unproven with command := .on } := by
  intro t
  let a := startTestTone (s.setComp { s.comp with
    lamps := s.comp.lamps.map Lamp.unproven
    check := some owner
    checkTimer := some (s.inMs Config.lampCheckTime) })
  let b := forEach ((List.range 32).filter fun l => (s.comp.lamps.get l).proof ≠ .untested) handProof a
  have ht : t = compose false b := rfl
  have hcheck : b.comp.check = some owner := by
    simp only [b]
    rw [forEach_keeps (·.comp.check) _ handProof a fun l u => handProof_check l u]
    rfl
  have hwork : t.comp.work = a.comp.work := by
    rw [ht, compose_work]
    exact forEach_keeps (·.comp.work) _ handProof a fun l u => handProof_work l u
  have hlamps (l : Nat) (hl : l < 32) : (t.comp.lamps.get l).command = .on :=
    compose_checked false b (by simp [b, a, hr]) (by simp [hcheck]) l hl
  refine ⟨by rw [ht, compose_check, hcheck], congrArg Prod.fst hwork, congrArg (·.2.1) hwork, fun l hl => ?_⟩
  rw [Lamp.of_work _ _ hwork l hl, hlamps l hl]
  simp [a, startTestTone, hl]

theorem requestLampCheck_eq (k : Nat) (s : State) (hr : s.run.state = .run) :
    requestLampCheck k s =
      if s.doors.motion ≠ .stopped then refuseRequest k .refusedMoving 0 s
      else if s.comp.check.isSome then refuseRequest k .busy 0 s
      else startLampCheck (.request k) (setSlotState k .taken s) := by
  simp [requestLampCheck, State.inRun, hr]

/-! ### WIRING_CHECK (R32) -/

theorem requestWiringCheck_eq (k : Nat) (s : State) (hr : s.run.state = .run) :
    requestWiringCheck k s =
      if 47 < s.slotByte k 0 ∨ (s.setup.sense.get (s.slotByte k 0)).kind = .frequency then
        refuseRequest k .badParameter 0 s
      else if (s.sense.channels.get (s.slotByte k 0)).check.isSome then refuseRequest k .busy 0 s
      else if s.sense.supplyLow then refuseRequest k .aborted 0 s
      else startCheck k (s.slotByte k 0) (setSlotState k .taken s) := by
  by_cases h47 : 47 < s.slotByte k 0 <;> simp [requestWiringCheck, State.inRun, hr, h47]

/-- A wiring check that starts (R32): a channel of no kind gets a sample timer for it. -/
theorem startCheck_starts (slot c : Nat) (s : State) (hc : c < 48) :
    (∃ v, (startCheck slot c s).sense.channels.get c =
      { s.sense.channels.get c with
        check := some { slot := slot, bands := [] }
        sampleTimer :=
          if (s.setup.sense.get c).kind = .unused then
            some (s.now + 1000 * Config.scanPeriod (s.setup.sense.get c).periodCode)
          else (s.sense.channels.get c).sampleTimer
        upd := v }) ∧
    ∀ j, j ≠ c → (startCheck slot c s).sense.channels.get j = s.sense.channels.get j := by
  rw [startCheck]
  exact ⟨writeChannel_entry c _ s hc, fun j hj => writeChannel_get_other c j _ s hj⟩

/-- Settles O18: each clause is a branch of its request, refused or taken at the visit of its slot. -/
theorem requestsInRunStartTheirWork : Obligations.RequestsInRunStartTheirWork := by
  intro k s hm _ hp hs hr
  have fails (r : ResultCode) (x : RequestKind)
      (hk : RequestKind.ofCode (Memory.read s.mem (slotBase k + 1)).toNat = some x)
      (h : x.route k s = refuseRequest k r 0 s) :=
    visitSlot_fails k s r hm hp hs ((takeSlot_of_kind k s x hk).trans h)
  have takes (u : State) (x : RequestKind)
      (hk : RequestKind.ofCode (Memory.read s.mem (slotBase k + 1)).toNat = some x) (h : x.route k s = u)
      (hu : u.mem = (setSlotState k .taken s).mem) :=
    visitSlot_takes k s u hm hp hs ((takeSlot_of_kind k s x hk).trans h) hu
  have visited (x : RequestKind)
      (hk : RequestKind.ofCode (Memory.read s.mem (slotBase k + 1)).toNat = some x) :
      visitSlot s = sweepOn k (x.route k s) := by
    rw [visitSlot_posted k s hp hs, takeSlot_of_kind k s x hk]
  refine ⟨fun h => ?transfer, fun h => ?sweep, fun h => ?lamps, fun h => ?wiring⟩
  case transfer =>
    have hk : RequestKind.ofCode (Memory.read s.mem (slotBase k + 1)).toNat = some .stationTransfer := by rw [h]; rfl
    obtain ⟨hbad, hfull, htaken⟩ := requestStationTransfer_eq k s hr
    refine ⟨fun hb => fails _ _ hk (hbad hb), fun hb h4 => fails _ _ hk (hfull hb h4), fun hb h4 => ?_⟩
    have hroute : RequestKind.stationTransfer.route k s = _ := htaken hb h4
    refine ⟨takes _ _ hk hroute (by simp), ?_, ?_⟩
    · rw [visited _ hk, hroute]
      simp only [sweepOn_frame, appendOneShot, State.setLine_line, setSlotState_frame, State.transferAsked,
        transferWords_eq]
      rfl
    · rw [visited _ hk, hroute]
      exact State.changesOnly_of _ _ _ (by simp)
  case sweep =>
    have hk : RequestKind.ofCode (Memory.read s.mem (slotBase k + 1)).toNat = some .gaugeSweep := by rw [h]; rfl
    have hroute : RequestKind.gaugeSweep.route k s = _ := requestGaugeSweep_eq k s hr
    simp only [badSet_iff, setBusy_iff] at hroute
    refine ⟨fun hb => fails _ _ hk ?_, fun hb hmove => fails _ _ hk ?_, fun hb hstop hbusy => fails _ _ hk ?_,
      fun hb hstop hbusy => ?_⟩
    · exact hroute.trans (if_pos hb)
    · exact hroute.trans ((if_neg hb).trans (if_pos hmove))
    · exact hroute.trans ((if_neg hb).trans ((if_neg (not_not.2 hstop)).trans (if_pos hbusy)))
    · have hroute := hroute.trans ((if_neg hb).trans ((if_neg (not_not.2 hstop)).trans (if_neg hbusy)))
      refine ⟨takes _ _ hk hroute (by simp), fun i hi hset => ?_, fun i hset => ?_, ?_⟩
      · rw [visited _ hk, hroute]
        obtain ⟨v, hv⟩ := startSweeps_get_same (Memory.read s.mem (slotBase k + 8))
          (.request k (Memory.read s.mem (slotBase k + 8))) (setSlotState k .taken s) i hi hset
        simp only [sweepOn_frame, hv]
        simp [Gauge.startSweep, Config.gaugePeriod]
      · rw [visited _ hk, hroute]
        simpa using startSweeps_get_other _ _ (setSlotState k .taken s) i hset
      · rw [visited _ hk, hroute]
        exact State.changesOnly_of _ _ _ (by simp)
  case lamps =>
    have hk : RequestKind.ofCode (Memory.read s.mem (slotBase k + 1)).toNat = some .lampCheck := by rw [h]; rfl
    have hroute : RequestKind.lampCheck.route k s = _ := requestLampCheck_eq k s hr
    refine ⟨fun hmove => fails _ _ hk ?_, fun hstop hbusy => fails _ _ hk ?_, fun hstop hfree => ?_⟩
    · exact hroute.trans (if_pos hmove)
    · exact hroute.trans ((if_neg (not_not.2 hstop)).trans (if_pos hbusy))
    · have hroute := hroute.trans ((if_neg (not_not.2 hstop)).trans (if_neg (by simp [hfree])))
      obtain ⟨hcheck, hcheckTimer, htestTimer, hlamps⟩ :=
        startLampCheck_starts (.request k) (setSlotState k .taken s) (by simp [hr])
      refine ⟨takes _ _ hk hroute (by simp), ?_⟩
      rw [visited _ hk, hroute]
      simp only [sweepOn_frame]
      refine ⟨hcheck, by simp [hcheckTimer], by simp [htestTimer], fun l hl => ?_,
        State.changesOnly_of _ _ _ (by simp [warningParts])⟩
      rw [hlamps l hl]
      simp [Lamp.unproven]
  case wiring =>
    have hk : RequestKind.ofCode (Memory.read s.mem (slotBase k + 1)).toNat = some .wiringCheck := by rw [h]; rfl
    have hroute : RequestKind.wiringCheck.route k s = _ := requestWiringCheck_eq k s hr
    refine ⟨fun hb => fails _ _ hk (hroute.trans (if_pos hb)), fun h47 hkind => ?_⟩
    have hb : ¬(47 < s.slotByte k 0 ∨ (s.setup.sense.get (s.slotByte k 0)).kind = .frequency) :=
      fun hb => hb.elim (not_lt.2 h47) hkind
    have hroute := hroute.trans (if_neg hb)
    refine ⟨fun hbusy => fails _ _ hk (hroute.trans (if_pos hbusy)), fun hfree hlow => fails _ _ hk ?_,
      fun hfree hlow => ?_⟩
    all_goals have hfree : ¬(s.sense.channels.get (s.slotByte k 0)).check.isSome = true := by simp [slotByte_eq, hfree]
    · exact hroute.trans ((if_neg hfree).trans (if_pos hlow))
    · have hroute := hroute.trans ((if_neg hfree).trans (if_neg (by simp [hlow])))
      obtain ⟨⟨v, hv⟩, hother⟩ := startCheck_starts k (s.slotByte k 0) (setSlotState k .taken s)
        (Nat.lt_succ_of_le h47)
      have hsense : (visitSlot s).sense = (startCheck k (s.slotByte k 0) (setSlotState k .taken s)).sense := by
        rw [visited _ hk, hroute]
        simp
      simp only [setSlotState_frame] at hv
      have hy := congrArg (fun u : SenseUnit => u.channels.get (s.slotByte k 0)) hsense |>.trans hv
      refine ⟨takes _ _ hk hroute (by simp), (congrArg SenseChannel.check hy :),
        (congrArg SenseChannel.sampleTimer hy :), (congrArg SenseChannel.logical hy :),
        (congrArg SenseChannel.faultClass hy :), (congrArg SenseChannel.debounce hy :),
        (congrArg SenseChannel.contact hy :), fun j hj => ?_, ?_⟩
      · rw [hsense]
        exact (hother j hj).trans (by simp)
      · rw [visited _ hk, hroute]
        exact State.changesOnly_of _ _ _ (by simp [warningParts])

end Sys2Proof.Machine
end

section
/-! PROOFS. O40: the speed and the motion that follows it, through a write of a signal and a sample (R17, R88, R89). -/

namespace Sys2Proof.Machine

/-! ### The motion fields of the door unit -/

/-- The fields that a taking of the speed decides (R88, R89). -/
def DoorUnit.motionItems (u : DoorUnit) : Motion × SpeedSource × Nat × Option Nat :=
  (u.motion, u.speedSource, u.speed, u.stopTimer)

@[simp] theorem putDoor_motionItems (d : Nat) (x : Door) (s : State) :
    (putDoor d x s).doors.motionItems = s.doors.motionItems := rfl

@[simp] theorem putMotion_motionItems (x : DoorUnit) (s : State) :
    (putMotion x s).doors.motionItems = x.motionItems := rfl

@[simp] theorem takeLatch_motionItems (d : Nat) (s : State) :
    (takeLatch d s).doors.motionItems = s.doors.motionItems :=
  when_keeps (·.doors.motionItems) _ _ _ fun _ => rfl

@[simp] theorem takeInterlock_motionItems (s : State) :
    (takeInterlock s).doors.motionItems = s.doors.motionItems := by
  rw [takeInterlock]
  exact (congrArg DoorUnit.motionItems (when_doors _ _ _ (by simp))).trans rfl

@[simp] theorem doorWritten_motionItems (d : Nat) (old new : Door) (s : State) :
    (doorWritten d old new s).doors.motionItems = s.doors.motionItems := by
  rw [doorWritten]
  refine (congrArg DoorUnit.motionItems (when_doors _ _ _ (by simp))).trans ?_
  simp

@[simp] theorem takeDoor_motionItems (d : Nat) (s : State) :
    (takeDoor d s).doors.motionItems = s.doors.motionItems := by
  rw [takeDoor]
  exact when_keeps (·.doors.motionItems) _ _ _ fun t => by simp

@[simp] theorem takeDoors_motionItems (l : List Nat) (s : State) :
    (forEach l takeDoor s).doors.motionItems = s.doors.motionItems :=
  forEach_keeps (·.doors.motionItems) l takeDoor s takeDoor_motionItems

@[simp] theorem readBefore_motionItems (n : Nat) (statusChanged : Bool) (s : State) :
    (readBefore n statusChanged s).doors.motionItems = s.doors.motionItems := by
  simp [readBefore]

@[simp] theorem writeChannel_motionItems (c : Nat) (x : SenseChannel) (s : State) :
    (writeChannel c x s).doors.motionItems = s.doors.motionItems := by
  refine (when_keeps (·.doors.motionItems) _ _ _ fun t => ?_).trans (congrArg DoorUnit.motionItems (by simp))
  refine (when_keeps (·.doors.motionItems) _ _ _ fun u => takeInterlock_motionItems u).trans ?_
  simp

/-! ### A demotion that releases no speed signal -/

/-- What the releases of a demotion keep, where none is of a speed signal: no taking of the speed is among them. -/
theorem releaseTogether_induct (P : State → Prop) (l : List Nat) (s : State)
    (h : ∀ n ∈ l, s.setup.general.isSpeed n = false) (hs : P (releaseEntries l s))
    (hstep : ∀ n ∈ l, ∀ (b : Bool) (t : State), t.setup = s.setup → P t → P (takeTests n (readBefore n b t))) :
    P (releaseTogether l s) := by
  have hP : (releaseTogether l s).setup = s.setup ∧ P (releaseTogether l s) := by
    refine forEach_induct (fun t => t.setup = s.setup ∧ P t) l _ _ (fun n hn t ht => ?_) ⟨by simp, hs⟩
    refine when_induct (fun t => t.setup = s.setup ∧ P t) _ _ t (fun _ _ => ?_) ht
    obtain ⟨hset, hp⟩ := ht
    rw [signalRead_id _ _ _ (hset ▸ h n hn)]
    exact ⟨by simp [hset], hstep n hn _ t hset hp⟩
  exact hP.2

theorem emptied_motionItems (level : Session) (s : State) (h : s.forcesNoSpeed) :
    (emptied level s).doors.motionItems = s.doors.motionItems := by
  have := releaseTogether_induct (fun t => t.doors.motionItems = s.doors.motionItems) s.shop.forced
    (s.setShop { s.shop with session := level }) h (by simp) (fun n _ b t _ ht => by simpa using ht)
  exact this

theorem demoteSession_motionItems (s : State) (h : s.forcesNoSpeed) :
    (demoteSession s).doors.motionItems = s.doors.motionItems := by
  rw [demoteSession, demoteFor]
  refine when_induct (fun t => t.doors.motionItems = s.doors.motionItems) _ _ s (fun _ _ => ?_) rfl
  rw [lowerSession_eq]
  simpa using emptied_motionItems .read s h

/-- The speed signals that a kept or demoted session leaves are those that stood. -/
theorem keptOrDemoted_speed (s t : State) (h : s.keptOrDemoted t) (hf : s.forcesNoSpeed) (n : Nat)
    (hn : s.setup.general.isSpeed n = true) : t.signals.get n = s.signals.get n := by
  obtain ⟨-, -, hg⟩ | ⟨-, -, -, -, hout⟩ := h
  · rw [hg]
  · refine hout n fun hin => ?_
    simp [hf n hin] at hn

theorem keptOrDemoted_forcesNoSpeed (s t : State) (h : s.keptOrDemoted t) (hset : t.setup = s.setup)
    (hf : s.forcesNoSpeed) : t.forcesNoSpeed := by
  obtain ⟨-, hg, -⟩ | ⟨-, -, hg, -⟩ := h
  · simpa [State.forcesNoSpeed, hg, hset] using hf
  · simp [State.forcesNoSpeed, hg]

theorem leaveStopped_motionItems (s : State) (h : s.forcesNoSpeed) :
    (leaveStopped demoteSession s).doors.motionItems = s.doors.motionItems := by
  rw [leaveStopped, demoteSession_motionItems _ (by simpa [State.forcesNoSpeed] using h)]
  simp

theorem handMotion_motionItems (old : Motion) (s : State) (h : s.forcesNoSpeed) :
    (handMotion demoteSession old s).doors.motionItems = s.doors.motionItems := by
  have latches := forEach_keeps (·.doors.motionItems) (List.range 4) takeLatch s takeLatch_motionItems
  refine when_induct (fun t => t.doors.motionItems = s.doors.motionItems) _ _ _ (fun _ ht => ?_) (by simpa using latches)
  rw [leaveStopped_motionItems _ (by simpa [State.forcesNoSpeed] using h), ht]

/-- The motion fields are those that motion is changed to, whatever follows the change. -/
theorem changeMotion_motionItems (x : DoorUnit) (s : State) (h : s.forcesNoSpeed) :
    (changeMotion demoteSession x s).doors.motionItems = x.motionItems := by
  rw [changeMotion]
  refine when_induct (fun t => t.doors.motionItems = x.motionItems) _ _ _ (fun _ ht => ?_) rfl
  rw [handMotion_motionItems _ _ (by simpa [State.forcesNoSpeed] using h), ht]

/-! ### A taking of the speed (R88, R89) -/

/-- The table of R89 for a speed that there is. -/
theorem speedMove_some (m : Motion) (v move stop : Nat) (timer : Option Nat) (due : Nat) :
    (move ≤ v → stop ≤ v → speedMove m (some v) move stop timer due = (.moving, none)) ∧
    (v < move → stop ≤ v →
      speedMove m (some v) move stop timer due = (if m = .stopped then .stopped else .moving, none)) ∧
    (v < stop → v < move →
      speedMove m (some v) move stop timer due =
        (m, if m = .stopped then none else if timer = none then some due else timer)) := by
  refine ⟨fun h1 h2 => ?_, fun h1 h2 => ?_, fun h1 h2 => ?_⟩
  · cases m <;> simp [speedMove, h1, h2]
  · cases m <;> simp [speedMove, h1, h2]
  · cases m <;> cases timer <;> simp [speedMove, h1, h2]

theorem usable_iff (x : SignalStatus) : x.usable = true ↔ x = .valid ∨ x = .forced := by
  simp [SignalStatus.usable]

/-- The speed taken from a signal moves the unit by the table of R89. -/
theorem speedUnit_moves (s : State) (source : SpeedSource) (n : Nat)
    (h : s.speedTaken = (source, some (magnitude (s.signals.get n).value))) :
    let v := (s.signals.get n).value.toInt.natAbs
    let u := s.speedUnit
    let g := s.setup.general
    u.speedSource = source ∧
      (g.moveThreshold ≤ v → g.stopThreshold ≤ v → u.motion = .moving ∧ u.stopTimer = none) ∧
      (v < g.moveThreshold → g.stopThreshold ≤ v →
        u.motion = (if s.doors.motion = .stopped then .stopped else .moving) ∧ u.stopTimer = none) ∧
      (v < g.stopThreshold → v < g.moveThreshold →
        u.motion = s.doors.motion ∧
          u.stopTimer = (if s.doors.motion = .stopped then none
            else if s.doors.stopTimer = none then some (s.now + 500000) else s.doors.stopTimer)) ∧
      u.speed = v := by
  intro v u g
  obtain ⟨hmove, hkeep, hstop⟩ := speedMove_some s.doors.motion v g.moveThreshold g.stopThreshold s.doors.stopTimer
    (s.inMs Config.stopDelay)
  have hmotion : (u.motion, u.stopTimer) = speedMove s.doors.motion (some v) g.moveThreshold g.stopThreshold
      s.doors.stopTimer (s.inMs Config.stopDelay) := by
    simp only [u, State.speedUnit, h]
    rfl
  refine ⟨by simp only [u, State.speedUnit, h], fun h1 h2 => ?_, fun h1 h2 => ?_, fun h1 h2 => ?_, ?_⟩
  · exact Prod.mk.inj (hmotion.trans (hmove h1 h2))
  · exact Prod.mk.inj (hmotion.trans (hkeep h1 h2))
  · exact Prod.mk.inj (hmotion.trans (hstop h1 h2))
  · simp only [u, State.speedUnit, h]
    rfl

/-- The unit after a taking of the speed follows it by R88 and R89. -/
theorem speedUnit_followsSpeed (s : State) :
    s.speedUnit.followsSpeed s.setup.general s.signals s.doors.motion s.doors.stopTimer s.now := by
  refine ⟨fun hp => ?primary, fun hp h255 hf => ?fallback, fun hp hf => ?none⟩
  case primary =>
    refine speedUnit_moves s .primary _ ?_
    simp [State.speedTaken, (usable_iff _).2 hp]
  case fallback =>
    refine speedUnit_moves s .fallback _ ?_
    simp [State.speedTaken, (usable_iff _).not.2 hp, (usableSignal_iff s _).2 ⟨h255, hf⟩]
  case none =>
    have hnone : s.speedTaken = (.none, none) := by
      have : ¬s.usableSignal s.setup.general.fallbackSpeed = true := by
        rw [usableSignal_iff]
        exact fun h => hf.elim h.1 fun hf => hf h.2
      simp [State.speedTaken, (usable_iff _).not.2 hp, this]
    simp [State.speedUnit, hnone, speedMove]

/-- Motion follows the two speed signals alone. -/
theorem followsSpeed_congr (u v : DoorUnit) (g : GeneralSetup) (a b : Table 128 Signal) (m : Motion)
    (timer : Option Nat) (now : Nat) (hu : v.motionItems = u.motionItems)
    (h : ∀ n, g.isSpeed n = true → b.get n = a.get n) (hf : u.followsSpeed g a m timer now) :
    v.followsSpeed g b m timer now := by
  have h1 := h g.primarySpeed (by simp [GeneralSetup.isSpeed])
  have h2 := h g.fallbackSpeed (by simp [GeneralSetup.isSpeed])
  simp only [DoorUnit.motionItems, Prod.mk.injEq] at hu
  obtain ⟨hmotion, hsource, hspeed, htimer⟩ := hu
  unfold DoorUnit.followsSpeed at hf ⊢
  dsimp only at hf ⊢
  rwa [hmotion, hsource, hspeed, htimer, h1, h2]

theorem takeSpeed_motionItems (s : State) (h : s.forcesNoSpeed) :
    (takeSpeed demoteSession s).doors.motionItems = s.speedUnit.motionItems :=
  changeMotion_motionItems s.speedUnit s h

theorem takeSpeed_followsSpeed (s : State) (h : s.forcesNoSpeed) :
    (takeSpeed demoteSession s).doors.followsSpeed s.setup.general s.signals s.doors.motion s.doors.stopTimer s.now :=
  followsSpeed_congr _ _ _ _ _ _ _ _ (takeSpeed_motionItems s h) (fun _ _ => rfl) (speedUnit_followsSpeed s)

/-! ### A write of a speed signal, and the sample that brings it -/

/-- From `s` to `t` motion and the two speed signals are kept. -/
def State.keepsSpeed (s t : State) : Prop :=
  t.doors.motionItems = s.doors.motionItems ∧
    ∀ n, s.setup.general.isSpeed n = true → t.signals.get n = s.signals.get n

theorem demoteSession_keepsSpeed (s : State) (h : s.forcesNoSpeed) : s.keepsSpeed (demoteSession s) :=
  ⟨demoteSession_motionItems s h, keptOrDemoted_speed s _ (demoteSession_keptOrDemoted s) h⟩

/-- The readers of a speed signal take the speed, and what follows that leaves it so. -/
theorem signalRead_followsSpeed (n : Nat) (b : Bool) (s : State) (h : s.forcesNoSpeed)
    (hn : s.setup.general.isSpeed n = true) :
    (signalRead demoteSession n b s).doors.followsSpeed s.setup.general (signalRead demoteSession n b s).signals
      s.doors.motion s.doors.stopTimer s.now := by
  let p := readBefore n b s
  let q := takeSpeed demoteSession p
  have hp : p.forcesNoSpeed := by simpa [State.forcesNoSpeed, p] using h
  have hkept := takeSpeed_keptOrDemoted p
  have hq : q.forcesNoSpeed := keptOrDemoted_forcesNoSpeed p q hkept (by simp [q]) hp
  have hitems : p.doors.motion = s.doors.motion ∧ p.doors.stopTimer = s.doors.stopTimer := by
    have := readBefore_motionItems n b s
    simp only [DoorUnit.motionItems, Prod.mk.injEq] at this
    obtain ⟨hmotion, -, -, htimer⟩ := this
    exact ⟨hmotion, htimer⟩
  have hfollows := takeSpeed_followsSpeed p hp
  simp only [hitems] at hfollows
  have hafter : q.keepsSpeed (when (n = s.setup.general.parkingBrake && !s.brakeSet) demoteSession q) :=
    when_induct q.keepsSpeed _ _ q (fun _ _ => demoteSession_keepsSpeed q hq) ⟨rfl, fun _ _ => rfl⟩
  have hread : signalRead demoteSession n b s =
      takeTests n (when (n = s.setup.general.parkingBrake && !s.brakeSet) demoteSession q) := by
    rw [signalRead_eq, hn, when_true]
  rw [hread]
  simp only [takeTests_frame]
  obtain ⟨hmotion, hspeed⟩ := hafter
  have hset : p.setup = s.setup ∧ p.now = s.now := by simp [p]
  have hqset : q.setup = s.setup := by simp [q, p]
  rw [hset.1, hset.2] at hfollows
  refine followsSpeed_congr _ _ _ _ _ _ _ _ hmotion (fun m hm => ?_) hfollows
  exact (hspeed m (by rwa [hqset])).trans (keptOrDemoted_speed p q hkept hp m (by rwa [hset.1]))

/-- A write that changes the entry of a speed signal leaves motion as a taking of the speed does. -/
theorem writeSignal_followsSpeed (n : Nat) (x : Signal) (s : State) (hn : n < 128) (hr : s.run.state = .run)
    (h : s.forcesNoSpeed) (hs : s.setup.general.isSpeed n = true) :
    let t := writeSignal demoteSession n x s
    (t.signals.get n).value ≠ (s.signals.get n).value ∨ (t.signals.get n).status ≠ (s.signals.get n).status →
      t.doors.followsSpeed s.setup.general t.signals s.doors.motion s.doors.stopTimer s.now := by
  intro t hchanged
  by_cases hx : x.value = (s.signals.get n).value ∧ x.status = (s.signals.get n).status
  · have hput : t.signals.get n = { x with upd := bump (s.signals.get n).upd } := by
      simp only [t]
      rw [writeSignal_unchanged _ _ _ _ hx.1 hx.2]
      exact Table.get_set_same _ _ _ hn
    rw [hput] at hchanged
    exact absurd hx (by tauto)
  · have hread : t = signalRead demoteSession n (x.status ≠ (s.signals.get n).status) (putSignal n x s) := by
      have : (s.inRun && (x.value ≠ (s.signals.get n).value || x.status ≠ (s.signals.get n).status)) = true := by
        simpa [State.inRun, hr] using not_and_or.1 hx
      simp only [t, writeSignal]
      rw [this, when_true]
    rw [hread]
    simpa using signalRead_followsSpeed n (x.status ≠ (s.signals.get n).status) (putSignal n x s)
      (by simpa [State.forcesNoSpeed] using h) (by simpa using hs)

/-- The delivery of a channel is no write, or one write of the signal that it feeds. -/
theorem deliverChannel_eq (c n : Nat) (x : SenseChannel) (s : State) (h : s.signalOfChannel c = some n) :
    deliverChannel c x s = s ∨ ∃ y, deliverChannel c x s = writeSignal demoteSession n y s := by
  by_cases hs : x.settled = true
  · by_cases hf : x.faultClass = .none
    · exact .inr ⟨_, by simp [deliverChannel, h, hs, hf, deliverValue]; rfl⟩
    · exact .inr ⟨_, by simp [deliverChannel, h, hs, hf, declareFault]; rfl⟩
  · exact .inl (by simp [deliverChannel, h, hs])

/-- The notices, the warnings and the acknowledgement that end a sample move no door. -/
theorem sampleTaken_doors (c : Nat) (r : SenseChannel × Bool) (s : State) :
    (sampleTaken c r s).doors = (deliverChannel c r.1 (writeChannel c r.1 s)).doors := by
  simp [sampleTaken]

/-- A sample that changes the entry of the speed signal its channel feeds leaves motion as a taking of the speed. -/
theorem sampleTaken_followsSpeed (c n : Nat) (r : SenseChannel × Bool) (s : State) (hr : s.run.state = .run)
    (hf : s.forcesNoSpeed) (hn : s.signalOfChannel c = some n) (hs : s.setup.general.isSpeed n = true) :
    let t := sampleTaken c r s
    (t.signals.get n).value ≠ (s.signals.get n).value ∨ (t.signals.get n).status ≠ (s.signals.get n).status →
      t.doors.followsSpeed s.setup.general t.signals s.doors.motion s.doors.stopTimer s.now := by
  intro t
  let w := writeChannel c r.1 s
  have hfeed : w.signalOfChannel c = some n := by
    rw [State.signalOfChannel, show w.setup = s.setup by simp [w]]
    exact hn
  have hw : w.setup = s.setup ∧ w.signals = s.signals ∧ w.run = s.run ∧ w.now = s.now ∧ w.shop = s.shop := by simp [w]
  obtain ⟨hset, hsig, hrun, hnow, hshop⟩ := hw
  have hitems := writeChannel_motionItems c r.1 s
  simp only [DoorUnit.motionItems, Prod.mk.injEq] at hitems
  obtain ⟨hmotion, -, -, htimer⟩ := hitems
  simp only [t, (sampleTaken_signals c r s).1, sampleTaken_doors]
  obtain hd | ⟨y, hd⟩ := deliverChannel_eq c n r.1 w hfeed
  · rw [hd, hsig]
    simp
  · rw [hd]
    have := writeSignal_followsSpeed n y w (signalOfChannel_lt w c n hfeed) (by rw [hrun, hr])
      (by simpa [State.forcesNoSpeed, hset, hshop] using hf) (by rwa [hset])
    rwa [hsig, hset, hnow, hmotion, htimer] at this

end Sys2Proof.Machine
end

section
/-! PROOFS. O40: what ends as motion leaves STOPPED: the sweeps, the lamp check, and the session, with the slots they
hold (R129, R147, R167). -/

namespace Sys2Proof.Machine

/-! ### A gauge that returns from its sweep (R147) -/

/-- The update counter decides nothing of what a status does to a gauge that does not home or sweep. -/
theorem Gauge.takesStatus_upd (x y : Gauge) (u : GaugeSetup) (status : SignalStatus) (now : Nat) (v : Byte)
    (hx : ¬(x.state = .homing ∨ x.state = .sweeping))
    (h : ({ x with upd := v } : Gauge).takesStatus y u status now) : x.takesStatus y u status now := by
  obtain ⟨htracking, hholding, hkept, hparked, -, hneedle⟩ := h
  exact ⟨htracking, hholding, hkept, hparked, fun h => absurd h hx, hneedle⟩

/-- What a gauge leaves its sweep for depends on its own entry, and on what stands for its signal. -/
theorem returnGauge_congr (i : Nat) (s t : State) (hi : i < 6) (hg : t.gauges.get i = s.gauges.get i)
    (hset : t.setup = s.setup) (hrun : t.run = s.run) (hsig : t.signals = s.signals) (hnow : t.now = s.now) :
    (returnGauge i t).gauges.get i = (returnGauge i s).gauges.get i := by
  have hput (x : Gauge) : (putGauge i x t).gauges.get i = (putGauge i x s).gauges.get i := by
    refine (Table.get_set_same _ _ _ hi).trans (Eq.trans ?_ (Table.get_set_same _ _ _ hi).symm)
    rw [hg]
  have htake (p q : State) (h : p.gauges.get i = q.gauges.get i) (k : p.setup = q.setup ∧ p.run = q.run ∧
      p.signals = q.signals ∧ p.now = q.now) : (takeUpGauge i p).gauges.get i = (takeUpGauge i q).gauges.get i := by
    obtain ⟨k1, k2, k3, k4⟩ := k
    rw [takeUpGauge_eq, takeUpGauge_eq, State.inRun, State.inRun, k1, k2, k3, k4, h]
    split
    · refine (Table.get_set_same _ _ _ hi).trans (Eq.trans ?_ (Table.get_set_same _ _ _ hi).symm)
      rw [h]
    · exact h
  rw [returnGauge, returnGauge, hg, hset]
  exact htake _ _ (hput _) (by simp [hset, hrun, hsig, hnow])

/-- A gauge that leaves its sweep has no sweep. -/
theorem Gauge.resumed_sweep (g : Gauge) (u : GaugeSetup) : (g.resumed u).sweep = none := by
  unfold Gauge.resumed
  split
  · split_ifs <;> rfl
  · assumption

/-- A gauge with no sweep of its own under way. -/
def Gauge.calm (g : Gauge) : Prop := g.state ≠ .sweeping ∨ g.sweep = none

theorem Gauge.takeUp_calm (g : Gauge) (u : GaugeSetup) (status : SignalStatus) (now : Nat) (h : g.calm) :
    (g.takeUp u status now).calm := by
  by_cases hs : g.state = .sweeping
  · rwa [Gauge.takeUp_deaf g u status now (.inr hs)]
  · exact .inl (Gauge.takeUp_state g u status now hs)

/-- A property of a gauge that a status leaves is left by `takeUpGauge`. -/
theorem takeUpGauge_keeps (P : Gauge → Prop) (i j : Nat) (s : State) (hj : j < 6)
    (hstep : ∀ (g : Gauge) u status now v, P g → P { g.takeUp u status now with upd := v })
    (h : P (s.gauges.get j)) : P ((takeUpGauge i s).gauges.get j) := by
  by_cases he : j = i
  · subst he
    obtain ⟨v, hv⟩ := takeUpGauge_get_same j s hj
    rw [hv]
    split
    · exact hstep _ _ _ _ _ h
    · exact h
  · rwa [takeUpGauge_get_other i j s he]

theorem returnGauge_calm (i : Nat) (s : State) (hi : i < 6) : ((returnGauge i s).gauges.get i).calm := by
  obtain ⟨v, hv⟩ := putGauge_get_same i ((s.gauges.get i).resumed (s.setup.gauges.get i)) s hi
  refine takeUpGauge_keeps Gauge.calm i i _ hi (fun g u status now _ h => Gauge.takeUp_calm g u status now h) ?_
  rw [hv]
  exact .inr (Gauge.resumed_sweep _ _)

/-- A gauge in use returns to a resume state other than PARKED and takes its signal's status up from there. -/
theorem returnGauge_takesStatus (i : Nat) (s : State) (w : Sweep) (hi : i < 6) (hr : s.run.state = .run)
    (hw : (s.gauges.get i).sweep = some w) (hu : (s.setup.gauges.get i).inUse = true)
    (hres : w.resume = .tracking ∨ w.resume = .holding ∨ w.resume = .parking) :
    ({ s.gauges.get i with state := w.resume, sweep := none } : Gauge).takesStatus
      ((returnGauge i s).gauges.get i) (s.setup.gauges.get i) (s.signals.get (s.setup.gauges.get i).signal).status
      s.now := by
  let x : Gauge := { s.gauges.get i with state := w.resume, sweep := none }
  have hparked : w.resume ≠ .parked := by rintro h; simp [h] at hres
  have hx : (s.gauges.get i).resumed (s.setup.gauges.get i) = x := by simp [Gauge.resumed, hw, hparked, x]
  obtain ⟨v, hv⟩ := putGauge_get_same i x s hi
  have h := takeUpGauge_takesStatus i (putGauge i x s) hi (by simpa using hr) (by simpa using hu)
  rw [hv] at h
  rw [returnGauge, hx]
  refine Gauge.takesStatus_upd x _ _ _ _ v (fun h => ?_) (by simpa using h)
  simp only [x] at h
  obtain h | h := h <;> simp [h] at hres

/-! ### The sweeps end (R147) -/

/-- No gauge has a sweep under way. -/
def State.noSweep (s : State) : Prop := ∀ i, i < 6 → (s.gauges.get i).calm

theorem sweepsFor_of_calm (s : State) (mine : SweepOwner → Bool) (i : Nat) (h : (s.gauges.get i).calm) :
    s.sweepsFor mine i = false := by
  rw [← Bool.not_eq_true, State.sweepsFor_iff]
  rintro ⟨w, hw, hs, -⟩
  obtain h | h := h
  · exact h hs
  · simp [h] at hw

theorem sweepsMeetMotion_gauges (s : State) :
    (sweepsMeetMotion s).gauges =
      (forEach ((List.range 6).filter (s.sweepsFor fun _ => true)) returnGauge s).gauges := by
  simp [sweepsMeetMotion, endSweeps]

/-- A gauge that sweeps returns as motion leaves STOPPED. -/
theorem sweepsMeetMotion_returns (s : State) (i : Nat) (hi : i < 6) (h : s.sweepsFor (fun _ => true) i = true) :
    (sweepsMeetMotion s).gauges.get i = (returnGauge i s).gauges.get i := by
  rw [sweepsMeetMotion_gauges]
  refine forEach_reaches
    (fun t => t.gauges.get i = s.gauges.get i ∧ t.setup = s.setup ∧ t.run = s.run ∧ t.signals = s.signals ∧
      t.now = s.now)
    (fun t => t.gauges.get i = (returnGauge i s).gauges.get i) _ returnGauge s i
    (List.mem_filter.2 ⟨List.mem_range.2 hi, h⟩) (List.nodup_range.filter _) (by simp) (fun j _ hj t ht => ?_)
    (fun t ht => ?_) (fun j _ hj t ht => ?_)
  · obtain ⟨hg, hrest⟩ := ht
    exact ⟨(returnGauge_get_other j i t (Ne.symm hj)).trans hg, by simpa using hrest⟩
  · obtain ⟨hg, hset, hrun, hsig, hnow⟩ := ht
    exact returnGauge_congr i s t hi hg hset hrun hsig hnow
  · rwa [returnGauge_get_other j i t (Ne.symm hj)]

/-- A gauge that does not sweep stays as it is. -/
theorem sweepsMeetMotion_spares (s : State) (i : Nat) (h : (s.gauges.get i).calm) :
    (sweepsMeetMotion s).gauges.get i = s.gauges.get i := by
  rw [sweepsMeetMotion_gauges]
  refine forEach_induct (fun t => t.gauges.get i = s.gauges.get i) _ _ s (fun j hj t ht => ?_) rfl
  have hne : i ≠ j := by
    rintro rfl
    simp [sweepsFor_of_calm s _ i h] at hj
  exact (returnGauge_get_other j i t hne).trans ht

theorem sweepsMeetMotion_noSweep (s : State) : (sweepsMeetMotion s).noSweep := by
  intro i hi
  by_cases h : (s.gauges.get i).calm
  · rwa [sweepsMeetMotion_spares s i h]
  · have hsweeps : s.sweepsFor (fun _ => true) i = true := by
      simp only [Gauge.calm, not_or, not_not] at h
      obtain ⟨w, hw⟩ := Option.ne_none_iff_exists'.1 h.2
      exact (State.sweepsFor_iff ..).2 ⟨w, hw, h.1, rfl⟩
    rw [sweepsMeetMotion_returns s i hi hsweeps]
    exact returnGauge_calm i s hi

/-! ### Slots refused by motion -/

/-- A slot whose request motion has ended (R129, R147). -/
def State.movingRefused (s : State) (k : Nat) : Prop :=
  s.slotState k = .failed ∧ Memory.read s.mem (slotBase k + 3) = byteOf ResultCode.refusedMoving.code

theorem movingRefused_of_mem (s t : State) (k : Nat) (h : t.mem = s.mem) (hs : s.movingRefused k) :
    t.movingRefused k := by
  obtain ⟨hstate, hcode⟩ := hs
  exact ⟨(slotState_of_mem s t k h).trans hstate, h ▸ hcode⟩

theorem slotFailed_movingRefused (k : Nat) (s : State) (hm : s.memorySound) :
    (slotFailed k .refusedMoving 0 [] s).movingRefused k :=
  ⟨slotFailed_slotState _ _ _ _ _ hm, slotFailed_read_code _ _ _ _ _ hm⟩

/-- A further request that motion ends, of the same slot or of another, leaves a slot refused. -/
theorem slotFailed_keeps_movingRefused (j k : Nat) (s : State) (hm : s.memorySound) (h : s.movingRefused k) :
    (slotFailed j .refusedMoving 0 [] s).movingRefused k := by
  by_cases he : j % 16 = k % 16
  · have hbase : slotBase j = slotBase k := by simp [slotBase, he]
    have := slotFailed_movingRefused j s hm
    rwa [State.movingRefused, State.slotState, hbase] at this
  · obtain ⟨hstate, hcode⟩ := h
    exact ⟨(slotFailed_slotState_other _ _ _ _ _ _ he).trans hstate,
      (slotFailed_read_other _ _ _ _ _ _ he 3 (by decide)).trans hcode⟩

/-- The request of a sweep that motion ends. -/
theorem sweepsMeetMotion_refuses (s : State) (i k : Nat) (w : Sweep) (set : BitVec 8) (hm : s.memorySound) (hi : i < 6)
    (hs : (s.gauges.get i).state = .sweeping) (hw : (s.gauges.get i).sweep = some w) (ho : w.owner = .request k set)
    (hk : k < 16) : (sweepsMeetMotion s).movingRefused k := by
  let r := forEach ((List.range 6).filter (s.sweepsFor fun _ => true)) returnGauge s
  have hr : r.memorySound := memorySound_of_mem s r (by simp [r]) hm
  have hmem : k ∈ s.sweepSlots fun _ => true := by
    simp only [State.sweepSlots, List.mem_filter, List.mem_range, List.any_eq_true, State.sweepsFor_iff]
    exact ⟨hk, i, hi, w, hw, hs, by simp [ho]⟩
  have hloop : (forEach (s.sweepSlots fun _ => true) (fun k => slotFailed k .refusedMoving 0 []) r).movingRefused k := by
    have h := forEach_reaches State.memorySound (fun t => t.memorySound ∧ t.movingRefused k)
      (s.sweepSlots fun _ => true) (fun k => slotFailed k .refusedMoving 0 []) r k hmem
      (List.nodup_range.filter _) hr (fun j _ _ t ht => slotFailed_memorySound j _ 0 [] t ht)
      (fun t ht => ⟨slotFailed_memorySound k _ 0 [] t ht, slotFailed_movingRefused k t ht⟩)
      (fun j _ _ t ht => ⟨slotFailed_memorySound j _ 0 [] t ht.1, slotFailed_keeps_movingRefused j k t ht.1 ht.2⟩)
    exact h.2
  exact when_induct (·.movingRefused k) _ _ _ (fun _ h => movingRefused_of_mem _ _ k (by simp) h) hloop

/-- The workshop test record of a sweep that motion ends (R173). -/
theorem sweepsMeetMotion_tests (s : State) (i : Nat) (w : Sweep) (set : BitVec 8) (hi : i < 6)
    (hs : (s.gauges.get i).state = .sweeping) (hw : (s.gauges.get i).sweep = some w) (ho : w.owner = .workshop set)
    (hr : s.shop.tests.sweepState = .running) :
    (sweepsMeetMotion s).shop.tests.sweepState = .endedEarly ∧
      (sweepsMeetMotion s).shop.tests.sweepCause = .moving := by
  have hany : (List.range 6).any (s.sweepsFor fun o => o.isWorkshop) = true :=
    List.any_eq_true.2 ⟨i, List.mem_range.2 hi, (State.sweepsFor_iff ..).2 ⟨w, hw, hs, by rw [ho]; rfl⟩⟩
  simp [sweepsMeetMotion, endSweeps, hany, hr, setSweepTest]

/-! ### The lamp check ends (R129) -/

theorem endLampCheck_check (code : ResultCode) (cause : EndCause) (s : State) :
    (endLampCheck code cause s).comp.check = none := by
  unfold endLampCheck
  split
  · simp [stopLampCheck]
  · simp [stopLampCheck]
  · assumption

theorem endLampCheck_refuses (k : Nat) (cause : EndCause) (s : State) (hm : s.memorySound)
    (hc : s.comp.check = some (.request k)) : (endLampCheck .refusedMoving cause s).movingRefused k := by
  simp only [endLampCheck, hc]
  exact slotFailed_movingRefused k _ (memorySound_of_mem s _ (by simp) hm)

theorem endLampCheck_keeps_movingRefused (k : Nat) (cause : EndCause) (s : State) (hm : s.memorySound)
    (h : s.movingRefused k) : (endLampCheck .refusedMoving cause s).movingRefused k := by
  unfold endLampCheck
  split
  · exact slotFailed_keeps_movingRefused _ k _ (memorySound_of_mem s _ (by simp) hm)
      (movingRefused_of_mem s _ k (by simp) h)
  · exact movingRefused_of_mem s _ k (by simp) h
  · exact h

theorem endLampCheck_workshop (code : ResultCode) (cause : EndCause) (s : State)
    (hc : s.comp.check = some .workshop) :
    (endLampCheck code cause s).shop.tests.lampState = .endedEarly ∧
      (endLampCheck code cause s).shop.tests.lampCause = cause := by
  simp [endLampCheck, hc, setLampTest]

@[simp] theorem endLampCheck_sweepTest (code : ResultCode) (cause : EndCause) (s : State) :
    (endLampCheck code cause s).shop.tests.sweepState = s.shop.tests.sweepState ∧
      (endLampCheck code cause s).shop.tests.sweepCause = s.shop.tests.sweepCause := by
  unfold endLampCheck
  split <;> simp [setLampTest]

end Sys2Proof.Machine
end

section
/-! PROOFS. O40: a demotion that ends no test, and the latches of MOVING_OPEN at a change of motion (R90, R167, R168). -/

namespace Sys2Proof.Machine

/-! ### What the releases of a demotion leave of a gauge -/

/-- A property of a gauge that a status leaves is left by the readers of a signal. -/
theorem readBefore_gauge_keeps (P : Gauge → Prop) (n j : Nat) (b : Bool) (s : State) (hj : j < 6)
    (hstep : ∀ (g : Gauge) u status now v, P g → P { g.takeUp u status now with upd := v })
    (h : P (s.gauges.get j)) : P ((readBefore n b s).gauges.get j) := by
  simp only [readBefore, takeDoor_frame, forEach_gauges, implies_true]
  refine when_induct (fun t => P (t.gauges.get j)) _ _ _ (fun _ ht => ?_) (by simpa using h)
  exact forEach_induct (fun t => P (t.gauges.get j)) _ _ _ (fun i _ t ht => takeUpGauge_keeps P i j t hj hstep ht) ht

/-- The readers of a signal that a gauge does not show leave it. -/
theorem readBefore_gauge_other (n j : Nat) (b : Bool) (s : State)
    (h : (s.setup.gauges.get j).inUse = false ∨ (s.setup.gauges.get j).signal ≠ n) :
    (readBefore n b s).gauges.get j = s.gauges.get j := by
  simp only [readBefore, takeDoor_frame, forEach_gauges, implies_true]
  refine when_induct (fun t => t.gauges.get j = s.gauges.get j) _ _ _ (fun _ ht => ?_) (by simp)
  exact (takeUpStatus_other n j _ (by simpa using h)).trans ht

/-- A property that a status leaves is left by the releases of a lowered session. -/
theorem emptied_gauge_keeps (P : Gauge → Prop) (level : Session) (j : Nat) (s : State) (hf : s.forcesNoSpeed)
    (hj : j < 6) (hstep : ∀ (g : Gauge) u status now v, P g → P { g.takeUp u status now with upd := v })
    (h : P (s.gauges.get j)) : P ((emptied level s).gauges.get j) :=
  releaseTogether_induct (fun t => P (t.gauges.get j)) s.shop.forced (s.setShop { s.shop with session := level }) hf
    (by simpa using h) (fun n _ b t _ ht => by simpa using readBefore_gauge_keeps P n j b t hj hstep ht)

/-- A gauge that shows no released signal stays as it is. -/
theorem emptied_gauge_other (level : Session) (j : Nat) (s : State) (hf : s.forcesNoSpeed)
    (h : (s.setup.gauges.get j).inUse = false ∨ (s.setup.gauges.get j).signal ∉ s.shop.forced) :
    (emptied level s).gauges.get j = s.gauges.get j := by
  refine releaseTogether_induct (fun t => t.gauges.get j = s.gauges.get j) s.shop.forced
    (s.setShop { s.shop with session := level }) hf (by simp) (fun n hn b t hset ht => ?_)
  simp only [takeTests_frame]
  refine (readBefore_gauge_other n j b t ?_).trans ht
  rw [hset]
  exact h.imp_right fun h he => h (he ▸ hn)

/-! ### What the releases of a demotion leave of a door -/

theorem Door.latched_movingOpen (x : Door) (m : Motion) :
    (x.latched m).movingOpen =
      (if m = .moving && !x.proven then true else if m = .stopped && x.proven then false else x.movingOpen) := by
  unfold Door.latched
  split_ifs <;> rfl

/-- While motion is MOVING no taking of a door clears its latch (R90). -/
theorem doorTaken_movingOpen (s : State) (d : Nat) (hm : s.doors.motion = .moving)
    (h : (s.doors.doors.get d).movingOpen = true) : (s.doorTaken d).movingOpen = true := by
  have hcompared (x : Door) (v : DoorView) (due : Nat) : (x.compared v due).movingOpen = x.movingOpen := by
    unfold Door.compared
    split <;> rfl
  have hmoved (x : Door) (state : DoorState) (time : Time) : (x.moved state time).movingOpen = x.movingOpen := by
    unfold Door.moved
    split <;> rfl
  have hreproven (x : Door) (out : Bool) : (x.reproven out).movingOpen = x.movingOpen := by
    unfold Door.reproven
    dsimp only
    split <;> rfl
  unfold State.doorTaken
  dsimp only
  split
  · rw [hreproven, hmoved, hcompared]
    exact h
  · rw [Door.latched_movingOpen, hm, hreproven, hmoved, hcompared]
    split
    · rfl
    · simpa [Door.shown] using h

/-- The latch of door `d` is set, with motion MOVING. -/
def State.latchSet (d : Nat) (s : State) : Prop :=
  s.doors.motion = .moving ∧ (s.doors.doors.get d).movingOpen = true

theorem takeDoor_latchSet (e d : Nat) (s : State) (hd : d < 4) (h : s.latchSet d) : (takeDoor e s).latchSet d := by
  obtain ⟨hmotion, hopen⟩ := h
  refine ⟨(congrArg Prod.fst (takeDoor_motionItems e s)).trans hmotion, ?_⟩
  by_cases he : d = e
  · subst he
    by_cases hidle : s.run.state ≠ .run ∨ (s.setup.doors.get d).enabled = false
    · rwa [takeDoor_idle d s hidle]
    · simp only [ne_eq, not_or, not_not, Bool.not_eq_false] at hidle
      obtain ⟨w, u, hget⟩ := takeDoor_get_same d s hd hidle.1 hidle.2
      rw [hget]
      exact doorTaken_movingOpen s d hmotion hopen
  · rwa [takeDoor_get_other e d s he]

theorem readBefore_latchSet (n d : Nat) (b : Bool) (s : State) (hd : d < 4) (h : s.latchSet d) :
    (readBefore n b s).latchSet d :=
  forEach_induct (State.latchSet d) _ _ _ (fun e _ t ht => takeDoor_latchSet e d t hd ht)
    (by simpa [State.latchSet] using h)

theorem emptied_latchSet (level : Session) (d : Nat) (s : State) (hf : s.forcesNoSpeed) (hd : d < 4)
    (h : s.latchSet d) : (emptied level s).latchSet d :=
  releaseTogether_induct (State.latchSet d) s.shop.forced (s.setShop { s.shop with session := level }) hf
    (by simpa [State.latchSet] using h)
    (fun n _ b t _ ht => by simpa [State.latchSet] using readBefore_latchSet n d b t hd ht)

/-! ### A demotion with no test under way -/

/-- The session has nothing to end but its forces: no sweep, no lamp check, and no force of a speed signal. -/
structure State.untested (s : State) : Prop where
  forcesNoSpeed : s.forcesNoSpeed
  noSweep : s.noSweep
  noCheck : s.comp.check = none

/-- A demotion then ends no test: it stays, or it empties the session. -/
theorem demoteSession_untested (s : State) (h : s.untested) :
    demoteSession s = when (s.shop.session = .service) (fun t => postLevel (writeStatus (emptied .read t))) s := by
  have hg : (emptied .read s).noSweep := fun i hi =>
    emptied_gauge_keeps Gauge.calm .read i s h.forcesNoSpeed hi
      (fun g u status now _ hg => Gauge.takeUp_calm g u status now hg) (h.noSweep i hi)
  have hc : (emptied .read s).comp.check = none := by
    obtain ⟨-, hcheck, -⟩ := emptied_noSpeed .read s h.forcesNoSpeed
    exact hcheck.trans h.noCheck
  have hsweeps : endWorkshopSweeps .session (emptied .read s) = emptied .read s :=
    endSweeps_none _ _ _ _ _ fun i hi => sweepsFor_of_calm _ _ i (hg i hi)
  have hlower : lowerSession .read .session s = postLevel (writeStatus (emptied .read s)) := by
    rw [lowerSession_eq, hsweeps, endWorkshopLampCheck_none _ _ (by simp [hc])]
  by_cases hs : s.shop.session = .service
  · rw [demoteSession_of_service s hs, hlower]
    simp [hs]
  · simp [demoteSession, demoteFor, hs]

/-- What a demotion that ends no test leaves. -/
theorem demoteSession_leaves (s : State) (h : s.untested) :
    (demoteSession s).mem = s.mem ∧ (demoteSession s).comp.check = none ∧
      (demoteSession s).shop.tests = s.shop.tests := by
  obtain ⟨htests, hcheck, -⟩ := emptied_noSpeed .read s h.forcesNoSpeed
  rw [demoteSession_untested s h]
  refine when_induct (fun t => t.mem = s.mem ∧ t.comp.check = none ∧ t.shop.tests = s.shop.tests) _ _ s
    (fun _ _ => ?_) ⟨rfl, h.noCheck, rfl⟩
  have hmem : (emptied .read s).mem = s.mem :=
    releaseTogether_induct (fun t => t.mem = s.mem) s.shop.forced (s.setShop { s.shop with session := .read })
      h.forcesNoSpeed (by simp) (fun n _ b t _ ht => by simpa using ht)
  exact ⟨by simpa [postLevel] using hmem, by simpa [postLevel] using hcheck.trans h.noCheck,
    by simpa [postLevel] using htests⟩

theorem demoteSession_gauge_state (s : State) (h : s.untested) (i : Nat) (hi : i < 6)
    (hs : (s.gauges.get i).state ≠ .sweeping) : ((demoteSession s).gauges.get i).state ≠ .sweeping := by
  rw [demoteSession_untested s h]
  refine when_induct (fun t => (t.gauges.get i).state ≠ .sweeping) _ _ s (fun _ _ => ?_) hs
  simpa [postLevel] using emptied_gauge_keeps (·.state ≠ .sweeping) .read i s h.forcesNoSpeed hi
    (fun g u status now _ hg => Gauge.takeUp_state g u status now hg) hs

theorem demoteSession_gauge_other (s : State) (h : s.untested) (i : Nat)
    (hout : s.shop.session = .service → (s.setup.gauges.get i).inUse = false ∨
      (s.setup.gauges.get i).signal ∉ s.shop.forced) : (demoteSession s).gauges.get i = s.gauges.get i := by
  rw [demoteSession_untested s h]
  refine when_induct (fun t => t.gauges.get i = s.gauges.get i) _ _ s (fun hservice _ => ?_) rfl
  simpa [postLevel] using emptied_gauge_other .read i s h.forcesNoSpeed (hout (by simpa using hservice))

theorem demoteSession_latchSet (s : State) (h : s.untested) (d : Nat) (hd : d < 4) (hs : s.latchSet d) :
    (demoteSession s).latchSet d := by
  rw [demoteSession_untested s h]
  refine when_induct (State.latchSet d) _ _ s (fun _ _ => ?_) hs
  simpa [postLevel, State.latchSet] using emptied_latchSet .read d s h.forcesNoSpeed hd hs

/-! ### The latches at a change of motion (R90) -/

theorem takeLatch_get_other (e d : Nat) (s : State) (h : d ≠ e) :
    (takeLatch e s).doors.doors.get d = s.doors.doors.get d :=
  when_induct (fun t => t.doors.doors.get d = s.doors.doors.get d) _ _ s
    (fun _ _ => putDoor_get_other e d _ s h) rfl

/-- The doors once the latch of each enabled one follows motion. -/
theorem takeLatches_get (s : State) (d : Nat) (hd : d < 4) :
    let x := s.doors.doors.get d
    let y := (forEach (List.range 4) takeLatch s).doors.doors.get d
    y.state = x.state ∧ y.movingOpen =
      (if (s.setup.doors.get d).enabled then (x.latched s.doors.motion).movingOpen else x.movingOpen) := by
  intro x y
  refine forEach_reaches (fun t => t.doors.doors.get d = x ∧ t.setup = s.setup ∧ t.doors.motion = s.doors.motion)
    (fun t => (t.doors.doors.get d).state = x.state ∧ (t.doors.doors.get d).movingOpen =
      (if (s.setup.doors.get d).enabled then (x.latched s.doors.motion).movingOpen else x.movingOpen))
    _ takeLatch s d (List.mem_range.2 hd) List.nodup_range ⟨rfl, rfl, rfl⟩ (fun e _ he t ht => ?_) (fun t ht => ?_)
    (fun e _ he t ht => ?_)
  · obtain ⟨hget, hset, hmotion⟩ := ht
    exact ⟨(takeLatch_get_other e d t (Ne.symm he)).trans hget, by simpa using hset, by simpa using hmotion⟩
  · obtain ⟨hget, hset, hmotion⟩ := ht
    rw [takeLatch, hset, hget, hmotion]
    cases (s.setup.doors.get d).enabled with
    | false => simp [hget]
    | true =>
      obtain ⟨w, u, hput⟩ := putDoor_get_same d (x.latched s.doors.motion) t hd
      simp [hput]
  · rwa [takeLatch_get_other e d t (Ne.symm he)]

end Sys2Proof.Machine
end

section
/-! PROOFS. O40: motion as it leaves STOPPED, and as the stop timer expires (R89, R90, R129, R147, R167). -/

namespace Sys2Proof.Machine

/-! ### A change of motion reaches the doors and the warnings -/

/-- The doors and the warnings once they follow a change of motion; what ends as motion leaves STOPPED comes after. -/
def handedMotion (s : State) : State :=
  takePriorities ((List.range 96).filter fun w => (s.setup.warnings.get w).motionMode)
    (takeSource .speedUnknown 0
      (forEach (List.range 4) (fun d => takeSource .doorMovingOpen d) (forEach (List.range 4) takeLatch s)))

theorem changeMotion_changed (demote : State → State) (x : DoorUnit) (s : State) (h : x.motion ≠ s.doors.motion) :
    changeMotion demote x s =
      when (s.doors.motion = .stopped) (leaveStopped demote) (handedMotion (putMotion x s)) := by
  rw [changeMotion, decide_eq_true h]
  rfl

@[simp] theorem handedMotion_frame (s : State) :
    (handedMotion s).setup = s.setup ∧ (handedMotion s).signals = s.signals ∧ (handedMotion s).run = s.run ∧
    (handedMotion s).now = s.now ∧ (handedMotion s).shop = s.shop ∧ (handedMotion s).mem = s.mem ∧
    (handedMotion s).gauges = s.gauges ∧ (handedMotion s).comp.check = s.comp.check ∧
    (handedMotion s).doors.interlock = s.doors.interlock ∧
    (handedMotion s).doors.motionItems = s.doors.motionItems ∧
    (handedMotion s).doors.motionTime = s.doors.motionTime := by
  have htime (d : Nat) (t : State) : (takeLatch d t).doors.motionTime = t.doors.motionTime :=
    when_keeps (·.doors.motionTime) _ _ _ fun _ => rfl
  have hitems := forEach_keeps (·.doors.motionItems) (List.range 4) takeLatch s takeLatch_motionItems
  have htimes := forEach_keeps (·.doors.motionTime) (List.range 4) takeLatch s htime
  simp [handedMotion, hitems, htimes]

/-- The latches follow motion, and no door's state moves (R90). -/
theorem handedMotion_get (s : State) (d : Nat) (hd : d < 4) :
    let x := s.doors.doors.get d
    let y := (handedMotion s).doors.doors.get d
    y.state = x.state ∧ y.movingOpen =
      (if (s.setup.doors.get d).enabled then (x.latched s.doors.motion).movingOpen else x.movingOpen) := by
  have hdoors : (handedMotion s).doors = (forEach (List.range 4) takeLatch s).doors := by simp [handedMotion]
  simp only [hdoors]
  exact takeLatches_get s d hd

/-! ### What ends as motion leaves STOPPED -/

/-- The state in which motion has left STOPPED, with the sweeps and the lamp check ended and the session not yet
demoted. -/
def motionMet (s : State) : State :=
  endLampCheck .refusedMoving .moving (sweepsMeetMotion (handedMotion (putMotion s.speedUnit s)))

theorem takeSpeed_stays (s : State) (h : s.speedUnit.motion = s.doors.motion) :
    takeSpeed demoteSession s = putMotion s.speedUnit s := by
  simp [takeSpeed, changeMotion, h]

theorem takeSpeed_leaves (s : State) (hm : s.doors.motion = .stopped) (h : s.speedUnit.motion ≠ .stopped) :
    takeSpeed demoteSession s = demoteSession (motionMet s) := by
  rw [takeSpeed, changeMotion_changed _ _ _ (hm ▸ h), hm]
  rfl

theorem motionMet_frame (s : State) :
    (motionMet s).setup = s.setup ∧ (motionMet s).signals = s.signals ∧
      (motionMet s).shop.session = s.shop.session ∧ (motionMet s).shop.forced = s.shop.forced := by
  simp [motionMet]

theorem motionMet_gauges (s : State) :
    (motionMet s).gauges = (sweepsMeetMotion (handedMotion (putMotion s.speedUnit s))).gauges := by
  simp [motionMet]

theorem motionMet_untested (s : State) (h : s.forcesNoSpeed) : (motionMet s).untested where
  forcesNoSpeed := by
    obtain ⟨hset, -, -, hforced⟩ := motionMet_frame s
    simpa [State.forcesNoSpeed, hset, hforced] using h
  noSweep := by
    simpa [State.noSweep, motionMet_gauges] using sweepsMeetMotion_noSweep (handedMotion (putMotion s.speedUnit s))
  noCheck := endLampCheck_check ..

theorem motionMet_spares (s : State) (i : Nat) (h : (s.gauges.get i).calm) :
    (motionMet s).gauges.get i = s.gauges.get i := by
  rw [motionMet_gauges, sweepsMeetMotion_spares _ i (by simpa using h)]
  simp

theorem motionMet_returns (s : State) (i : Nat) (w : Sweep) (hi : i < 6) (hs : (s.gauges.get i).state = .sweeping)
    (hw : (s.gauges.get i).sweep = some w) : (motionMet s).gauges.get i = (returnGauge i s).gauges.get i := by
  rw [motionMet_gauges, sweepsMeetMotion_returns _ i hi ((State.sweepsFor_iff ..).2 ⟨w, by simp [hs, hw]⟩)]
  exact returnGauge_congr i s _ hi (by simp) (by simp) (by simp) (by simp) (by simp)

/-- A sweep of a request fails its slot (R147). -/
theorem motionMet_refuses_sweep (s : State) (i k : Nat) (w : Sweep) (set : BitVec 8) (hm : s.memorySound) (hi : i < 6)
    (hs : (s.gauges.get i).state = .sweeping) (hw : (s.gauges.get i).sweep = some w) (ho : w.owner = .request k set)
    (hk : k < 16) : (motionMet s).movingRefused k := by
  have hsound : (handedMotion (putMotion s.speedUnit s)).memorySound := memorySound_of_mem s _ (by simp) hm
  exact endLampCheck_keeps_movingRefused k _ _
    (endSweeps_memorySound _ _ _ _ _ (fun _ _ => by simp) hsound)
    (sweepsMeetMotion_refuses _ i k w set hsound hi (by simpa using hs) (by simpa using hw) ho hk)

/-- A workshop sweep ends with cause MOVING (R173). -/
theorem motionMet_sweepTest (s : State) (i : Nat) (w : Sweep) (set : BitVec 8) (hi : i < 6)
    (hs : (s.gauges.get i).state = .sweeping) (hw : (s.gauges.get i).sweep = some w) (ho : w.owner = .workshop set)
    (hr : s.shop.tests.sweepState = .running) :
    (motionMet s).shop.tests.sweepState = .endedEarly ∧ (motionMet s).shop.tests.sweepCause = .moving := by
  have := sweepsMeetMotion_tests (handedMotion (putMotion s.speedUnit s)) i w set hi (by simpa using hs)
    (by simpa using hw) ho (by simpa using hr)
  simpa [motionMet] using this

/-- A lamp check of a request fails its slot (R129). -/
theorem motionMet_refuses_check (s : State) (k : Nat) (hm : s.memorySound) (hc : s.comp.check = some (.request k)) :
    (motionMet s).movingRefused k :=
  endLampCheck_refuses k _ _
    (endSweeps_memorySound _ _ _ _ _ (fun _ _ => by simp) (memorySound_of_mem s _ (by simp) hm)) (by simpa using hc)

/-- A lamp check of the workshop ends with cause MOVING (R129). -/
theorem motionMet_lampTest (s : State) (hc : s.comp.check = some .workshop) :
    (motionMet s).shop.tests.lampState = .endedEarly ∧ (motionMet s).shop.tests.lampCause = .moving :=
  endLampCheck_workshop _ _ _ (by simpa using hc)

/-- As motion becomes MOVING, the latch of an enabled door that is not proven closed is set (R90). -/
theorem motionMet_latchSet (s : State) (d : Nat) (hd : d < 4) (hm : s.speedUnit.motion = .moving)
    (he : (s.setup.doors.get d).enabled = true) (hp : (s.doors.doors.get d).proven = false) :
    (motionMet s).latchSet d := by
  let p := putMotion s.speedUnit s
  have hmotion : p.doors.motion = .moving := hm
  have hdoor : p.doors.doors.get d = s.doors.doors.get d := rfl
  have hdoors : (motionMet s).doors = (handedMotion p).doors := by simp [motionMet, p]
  obtain ⟨-, hopen⟩ := handedMotion_get p d hd
  obtain ⟨-, -, -, -, -, -, -, -, -, hitems, -⟩ := handedMotion_frame p
  refine ⟨?_, ?_⟩
  · rw [hdoors]
    exact (congrArg Prod.fst hitems).trans hmotion
  · rw [hdoors, hopen, show p.setup = s.setup by simp [p], he, hdoor, Door.latched_movingOpen, hmotion, hp]
    rfl

/-! ### The session that motion demotes (R167) -/

theorem demoteSession_releases (s : State) (h : s.shop.session = .service) :
    (demoteSession s).shop.session = .read ∧ (demoteSession s).shop.forced = [] ∧
      s.releases (demoteSession s) s.shop.forced := by
  rw [demoteSession_of_service s h]
  exact ⟨(lowerSession_session ..).1, (lowerSession_session ..).2, lowerSession_releases ..⟩

/-! ### The stop timer (R89) -/

/-- The motion fields that the expiry of the stop timer sets. -/
def State.stoppedUnit (s : State) : DoorUnit :=
  { s.doors with motion := .stopped, stopTimer := none, motionTime := s.time }

theorem stopExpires_eq (s : State) (due : Nat) (h : s.doors.stopTimer = some due) (hm : s.doors.motion ≠ .stopped) :
    stopExpires s = handedMotion (putMotion (s.reach due).stoppedUnit (s.reach due)) := by
  have hm' : (s.reach due).doors.motion ≠ .stopped := by simpa using hm
  rw [stopExpires, h, onTimer_some, changeMotion_changed _ _ _ (Ne.symm hm'), if_neg hm', decide_eq_false hm']
  rfl

end Sys2Proof.Machine
end

section
/-! PROOFS. O40: motion follows the speed. -/

namespace Sys2Proof.Machine

theorem forcesNoSpeed_iff (s : State) :
    s.forcesNoSpeed ↔ ∀ n ∈ s.shop.forced, n ≠ s.setup.general.primarySpeed ∧ n ≠ s.setup.general.fallbackSpeed := by
  simp [State.forcesNoSpeed, GeneralSetup.isSpeed]

/-- A sample that changes the entry of a speed signal its channel feeds leaves motion as a taking of the speed does. -/
theorem sample_followsSpeed (c n : Nat) (reading : Nat) (s : State) (due : Nat) (hf : s.forcesNoSpeed)
    (hr : s.run.state = .run) (hk : (s.sense.channels.get c).check = none)
    (hd : (s.sense.channels.get c).sampleTimer = some due) (hn : s.signalOfChannel c = some n)
    (hs : s.setup.general.isSpeed n = true) :
    let t := sample c reading s
    (t.signals.get n).value ≠ (s.signals.get n).value ∨ (t.signals.get n).status ≠ (s.signals.get n).status →
      t.doors.followsSpeed s.setup.general t.signals s.doors.motion s.doors.stopTimer t.now := by
  let q := advanceSample c due (s.reach due)
  have hq : q.setup = s.setup ∧ q.signals = s.signals ∧ q.doors = s.doors ∧ q.run = s.run ∧ q.shop = s.shop := by
    simp [q, advanceSample]
  obtain ⟨hset, hsig, hdoors, hrun, hshop⟩ := hq
  have h := sampleTaken_followsSpeed c n (q.sampleOf c reading) q (by rw [hrun, hr])
    (by simpa [State.forcesNoSpeed, hset, hshop] using hf)
    (by simpa only [State.signalOfChannel, hset] using hn) (by rwa [hset])
  have hnow : (sampleTaken c (q.sampleOf c reading) q).now = q.now := by simp
  rw [sample_eq c reading s due hr hk hd]
  simp only [hset, hsig, hdoors, ← hnow] at h
  exact h

/-- While motion stays STOPPED a taking of the speed writes the motion record alone. -/
theorem takeSpeed_stopped (s : State) (hm : s.doors.motion = .stopped)
    (h : (takeSpeed demoteSession s).doors.motion = .stopped) (hf : s.forcesNoSpeed) :
    s.changesOnly (takeSpeed demoteSession s) [.doors] := by
  have hunit : s.speedUnit.motion = .stopped := (congrArg Prod.fst (takeSpeed_motionItems s hf)).symm.trans h
  rw [takeSpeed_stays s (hunit.trans hm.symm)]
  exact State.changesOnly_of _ _ _ (by simp)

/-! ### Motion has left STOPPED (R129, R147, R167, R173) -/

/-- A SERVICE session drops to READ and releases its forces; any other stays (R167, R168). -/
theorem demoteMet_session (s : State) :
    let t := demoteSession (motionMet s)
    (s.shop.session = .service →
      t.shop.session = .read ∧ t.shop.forced = [] ∧
      (∀ n ∈ s.shop.forced, n < 128 → (t.signals.get n).value = (s.signals.get n).sourceValue ∧
        (t.signals.get n).status = (s.signals.get n).sourceStatus) ∧
      (∀ m, m ∉ s.shop.forced → t.signals.get m = s.signals.get m)) ∧
    (s.shop.session ≠ .service →
      t.shop.session = s.shop.session ∧ t.shop.forced = s.shop.forced ∧ t.signals = s.signals) := by
  intro t
  obtain ⟨-, hsig, hsession, hforced⟩ := motionMet_frame s
  refine ⟨fun h => ?_, fun h => ?_⟩
  · obtain ⟨hread, hempty, hreleases⟩ := demoteSession_releases (motionMet s) (hsession.trans h)
    have hrel : s.releases t s.shop.forced :=
      State.releases_of_signals _ _ _ _ _ (hforced ▸ hreleases) hsig.symm rfl
    exact ⟨hread, hempty, State.releases_shown _ _ _ hrel, hrel.2⟩
  · have ht : t = motionMet s := by simp [t, demoteSession, demoteFor, hsession, h]
    rw [ht]
    exact ⟨hsession, hforced, hsig⟩

section Leaving

variable (s : State) (hf : s.forcesNoSpeed)
include hf

/-- What motion has refused stays refused through the demotion. -/
theorem demoteMet_refused (k : Nat) (h : (motionMet s).movingRefused k) :
    (demoteSession (motionMet s)).movingRefused k := by
  obtain ⟨hmem, -, -⟩ := demoteSession_leaves _ (motionMet_untested s hf)
  exact movingRefused_of_mem _ _ k hmem h

/-- Each gauge that sweeps returns, and its sweep ends for its owner (R147, R173). -/
theorem demoteMet_sweep (hm : s.memorySound) (hr : s.run.state = .run) (i : Nat) (w : Sweep) (hi : i < 6)
    (hs : (s.gauges.get i).state = .sweeping) (hw : (s.gauges.get i).sweep = some w) :
    let t := demoteSession (motionMet s)
    let u := s.setup.gauges.get i
    (w.resume ≠ .sweeping → (t.gauges.get i).state ≠ .sweeping) ∧
      (∀ k set, w.owner = .request k set → k < 16 → t.movingRefused k) ∧
      (∀ set, w.owner = .workshop set → s.shop.tests.sweepState = .running →
        t.shop.tests.sweepState = .endedEarly ∧ t.shop.tests.sweepCause = .moving) ∧
      (u.inUse = true → w.resume = .tracking ∨ w.resume = .holding ∨ w.resume = .parking →
        (s.shop.session = .service → u.signal ∉ s.shop.forced) →
          ({ s.gauges.get i with state := w.resume, sweep := none } : Gauge).takesStatus (t.gauges.get i) u
            (s.signals.get u.signal).status s.now) := by
  intro t u
  have huntested := motionMet_untested s hf
  have hreturns := motionMet_returns s i w hi hs hw
  obtain ⟨-, -, htests⟩ := demoteSession_leaves _ huntested
  obtain ⟨hset, -, hsession, hforced⟩ := motionMet_frame s
  refine ⟨fun h => ?_, fun k set ho hk => ?_, fun set ho hrun => ?_, fun hu hres hout => ?_⟩
  · exact demoteSession_gauge_state _ huntested i hi (hreturns ▸ returnGauge_state i s w hi hw h)
  · exact demoteMet_refused s hf k (motionMet_refuses_sweep s i k w set hm hi hs hw ho hk)
  · rw [htests]
    exact motionMet_sweepTest s i w set hi hs hw ho hrun
  · have hkept : t.gauges.get i = (motionMet s).gauges.get i :=
      demoteSession_gauge_other _ huntested i fun h => .inr (by
        rw [hset, hforced]
        exact hout (hsession ▸ h))
    rw [hkept, hreturns]
    exact returnGauge_takesStatus i s w hi hr hw hu hres

/-- A gauge that does not sweep is kept, where no force is released. -/
theorem demoteMet_spares (i : Nat) (h : (s.gauges.get i).state ≠ .sweeping)
    (hnone : s.shop.session = .service → s.shop.forced = []) :
    (demoteSession (motionMet s)).gauges.get i = s.gauges.get i := by
  obtain ⟨-, -, hsession, hforced⟩ := motionMet_frame s
  refine (demoteSession_gauge_other _ (motionMet_untested s hf) i fun hservice => .inr ?_).trans
    (motionMet_spares s i (.inl h))
  simp [hforced, hnone (hsession ▸ hservice)]

/-- A lamp check ends, for the slot or for the workshop (R129). -/
theorem demoteMet_check (hm : s.memorySound) :
    let t := demoteSession (motionMet s)
    (∀ k, s.comp.check = some (.request k) → t.comp.check = none ∧ t.movingRefused k) ∧
      (s.comp.check = some .workshop →
        t.comp.check = none ∧ t.shop.tests.lampState = .endedEarly ∧ t.shop.tests.lampCause = .moving) := by
  intro t
  obtain ⟨-, hcheck, htests⟩ := demoteSession_leaves _ (motionMet_untested s hf)
  refine ⟨fun k hc => ⟨hcheck, demoteMet_refused s hf k (motionMet_refuses_check s k hm hc)⟩, fun hc => ⟨hcheck, ?_⟩⟩
  rw [htests]
  exact motionMet_lampTest s hc

end Leaving

/-- The stop timer's expiry (R89, R90). -/
theorem stopExpires_stops (s : State) (due : Nat) (h : s.doors.stopTimer = some due) (hm : s.doors.motion ≠ .stopped) :
    let t := stopExpires s
    t.now = max s.now due ∧ t.doors.motion = .stopped ∧ t.doors.stopTimer = none ∧ t.doors.motionTime = t.time ∧
      t.doors.interlock = s.doors.interlock ∧ t.signals = s.signals ∧ t.gauges = s.gauges ∧ t.shop = s.shop ∧
      t.mem = s.mem ∧
      (∀ d, d < 4 →
        (t.doors.doors.get d).movingOpen =
          ((s.doors.doors.get d).movingOpen && !((s.setup.doors.get d).enabled && (s.doors.doors.get d).proven)) ∧
        (t.doors.doors.get d).state = (s.doors.doors.get d).state) ∧
      s.changesOnly t (.doors :: warningParts) := by
  intro t
  let r := s.reach due
  let p := putMotion r.stoppedUnit r
  have ht : t = handedMotion p := stopExpires_eq s due h hm
  obtain ⟨-, hsig, -, hnow, hshop, hmem, hgauges, -, hinterlock, hitems, htime⟩ := handedMotion_frame p
  simp only [DoorUnit.motionItems, Prod.mk.injEq] at hitems
  obtain ⟨hmotion, -, -, htimer⟩ := hitems
  rw [ht]
  refine ⟨hnow.trans rfl, hmotion, htimer, ?_, hinterlock, hsig, hgauges, hshop, hmem, fun d hd => ?_, ?_⟩
  · rw [htime, State.time, State.ms, hnow]
    rfl
  · obtain ⟨hstate, hopen⟩ := handedMotion_get p d hd
    refine ⟨hopen.trans ?_, hstate⟩
    have hdoor : p.doors.doors.get d = s.doors.doors.get d := rfl
    rw [hdoor, Door.latched_movingOpen, show p.doors.motion = .stopped from rfl,
      show p.setup = s.setup from rfl]
    cases (s.setup.doors.get d).enabled <;> cases (s.doors.doors.get d).proven <;> simp
  · exact State.changesOnly_of _ _ _ (by simp [handedMotion, p, r, warningParts])

/-- Settles O40: a taking of the speed is followed through `changeMotion`, whose later steps write no motion field; what
ends as motion leaves STOPPED is read off `motionMet`, and the demotion after it ends no test. -/
theorem motionFollowsTheSpeed : Obligations.MotionFollowsTheSpeed := by
  refine ⟨fun s hf => ?taking, fun c reading s due n hf hr hk hd hn hs => ?sample, fun s hf hm hr hstop => ?leaving,
    fun s due h hm => ?expiry⟩
  case taking => exact takeSpeed_followsSpeed s ((forcesNoSpeed_iff s).2 hf)
  case sample =>
    exact ⟨_, rfl, sample_followsSpeed c n reading.toNat s due ((forcesNoSpeed_iff s).2 hf) hr hk hd hn
      (by simpa [GeneralSetup.isSpeed] using hs)⟩
  case leaving =>
    have hf := (forcesNoSpeed_iff s).2 hf
    have hmotion : (takeSpeed demoteSession s).doors.motion = s.speedUnit.motion :=
      congrArg Prod.fst (takeSpeed_motionItems s hf)
    refine ⟨fun h => takeSpeed_stopped s hstop h hf, fun h => ?_⟩
    have hleaves := takeSpeed_leaves s hstop (hmotion ▸ h)
    obtain ⟨hrequest, hworkshop⟩ := demoteMet_check s hf hm
    obtain ⟨hservice, hother⟩ := demoteMet_session s
    rw [hmotion, hleaves]
    refine ⟨fun i w hi hs hw => demoteMet_sweep s hf hm hr i w hi hs hw,
      fun i _ hs hnone => demoteMet_spares s hf i hs hnone, hrequest, hworkshop, hservice, hother,
      fun hmoving d hd he hp => ?_, ?_⟩
    · obtain ⟨-, hopen⟩ := demoteSession_latchSet _ (motionMet_untested s hf) d hd
        (motionMet_latchSet s d hd hmoving he hp)
      exact hopen
    · rw [← hleaves]
      exact State.changesOnly_of _ _ _ (by simp [signalParts])
  case expiry => exact ⟨_, rfl, stopExpires_stops s due h hm⟩

end Sys2Proof.Machine
end

section
/-! PROOFS. Shared by the statements on the body line: which group of the line's fields each step of the end of a
transaction writes. -/

namespace Sys2Proof.Machine

/-! ### Groups of the line's fields -/

/-- The phase, the timetable with its walk, the probe to come and the overrun count, all else blank: what the end of a
transaction itself does not move. -/
def BodyLine.course (b : BodyLine) : BodyLine :=
  { phase := b.phase, current := b.current, minor := b.minor, minorNext := b.minorNext, walk := b.walk
    probeNext := b.probeNext, probeMade := b.probeMade, overrun := b.overrun }

/-- The health of the channels, search mode and the network summary, all else blank (R47 to R51). -/
def BodyLine.network (b : BodyLine) : BodyLine :=
  { healthA := b.healthA, healthB := b.healthB, search := b.search, summary := b.summary }

/-- The fields of a station record that the end of a transaction moves, all else blank (R63, R64). -/
def Station.counted (x : Station) : Station :=
  { state := x.state, failures := x.failures, flags := x.flags, good := x.good, failed := x.failed
    lastGood := x.lastGood }

@[simp] theorem BodyLine.course_transaction (b : BodyLine) (x : Option Transaction) :
    ({ b with transaction := x } : BodyLine).course = b.course := rfl

@[simp] theorem BodyLine.kept_oneShots (b : BodyLine) (l : List OneShot) :
    ({ b with oneShots := l } : BodyLine).course = b.course ∧
      ({ b with oneShots := l } : BodyLine).network = b.network := ⟨rfl, rfl⟩

@[simp] theorem when_course (c : Bool) (f : State → State) (s : State)
    (h : ∀ t, (f t).line.course = t.line.course) : (when c f s).line.course = s.line.course :=
  when_keeps (·.line.course) c f s h

@[simp] theorem when_network (c : Bool) (f : State → State) (s : State)
    (h : ∀ t, (f t).line.network = t.line.network) : (when c f s).line.network = s.line.network :=
  when_keeps (·.line.network) c f s h

@[simp] theorem when_counted (c : Bool) (f : State → State) (s : State) (b : Nat)
    (h : ∀ t, ((f t).line.stations.get b).counted = (t.line.stations.get b).counted) :
    ((when c f s).line.stations.get b).counted = (s.line.stations.get b).counted :=
  when_keeps (fun t => (t.line.stations.get b).counted) c f s h

@[simp] theorem when_stations (c : Bool) (f : State → State) (s : State)
    (h : ∀ t, (f t).line.stations = t.line.stations) : (when c f s).line.stations = s.line.stations :=
  when_keeps (·.line.stations) c f s h

@[simp] theorem when_oneShots (c : Bool) (f : State → State) (s : State)
    (h : ∀ t, (f t).line.oneShots = t.line.oneShots) : (when c f s).line.oneShots = s.line.oneShots :=
  when_keeps (·.line.oneShots) c f s h

@[simp] theorem when_transaction (c : Bool) (f : State → State) (s : State)
    (h : ∀ t, (f t).line.transaction = t.line.transaction) : (when c f s).line.transaction = s.line.transaction :=
  when_keeps (·.line.transaction) c f s h

/-! ### Search mode and the summary (R50, R51) -/

theorem takeSearch_line (s : State) :
    (takeSearch s).line = { s.line with
      search := if s.searchHolds then (if s.line.search.isSome then s.line.search else some s.normalChannel)
        else none } := rfl

/-- The summary that a line gives depends on the line alone. -/
theorem summaryNow_of_line (s t : State) (h : t.line = s.line) : t.summaryNow = s.summaryNow := by
  simp [State.summaryNow, h]

@[simp] theorem takeSummary_line (s : State) :
    (takeSummary s).line = { s.line with summary := s.summaryNow } := by
  by_cases h : s.summaryNow = s.line.summary
  · simp [takeSummary, h]
  · simp [takeSummary, h]

@[simp] theorem channelChanged_line (c : Channel) (failed : Bool) (s : State) :
    (channelChanged c failed s).line = { s.line with summary := s.summaryNow } := by
  simp only [channelChanged, takeSummary_line, takeSource_frame, post_frame]
  rw [summaryNow_of_line s _ (by simp)]

/-! ### Health (R47 to R49) -/

@[simp] theorem withHealth_course (b : BodyLine) (c : Channel) (h : ChannelHealth) :
    (b.withHealth c h).course = b.course := by
  cases c <;> rfl

@[simp] theorem withHealth_kept (b : BodyLine) (c : Channel) (h : ChannelHealth) :
    (b.withHealth c h).stations = b.stations ∧ (b.withHealth c h).oneShots = b.oneShots ∧
      (b.withHealth c h).transaction = b.transaction ∧ (b.withHealth c h).search = b.search := by
  cases c <;> exact ⟨rfl, rfl, rfl, rfl⟩

@[simp] theorem withHealth_same (b : BodyLine) (c : Channel) (h : ChannelHealth) : (b.withHealth c h).health c = h := by
  cases c <;> rfl

@[simp] theorem withHealth_other (b : BodyLine) (c : Channel) (h : ChannelHealth) :
    (b.withHealth c h).health (otherChannel c) = b.health (otherChannel c) := by
  cases c <;> rfl

/-- A move of a channel's health writes it, and the summary afresh where the channel's state changed (R47, R48, R51). -/
theorem changeHealth_line (c : Channel) (h : ChannelHealth) (s : State) :
    (changeHealth c h s).line =
      if h.failed = (s.line.health c).failed then s.line.withHealth c h
      else { s.line.withHealth c h with summary := (s.setLine (s.line.withHealth c h)).summaryNow } := by
  let u := when (h ≠ s.line.health c) writeStatus (s.setLine (s.line.withHealth c h))
  have hu : u.line = s.line.withHealth c h := by simp [u]
  by_cases hf : h.failed = (s.line.health c).failed
  · rw [if_pos hf, ← hu]
    simp [changeHealth, hf, u]
  · have hchange : changeHealth c h s = channelChanged c h.failed u := by simp [changeHealth, hf, u]
    rw [if_neg hf, hchange, channelChanged_line, summaryNow_of_line (s.setLine (s.line.withHealth c h)) u hu, hu]

@[simp] theorem changeHealth_kept (c : Channel) (h : ChannelHealth) (s : State) :
    (changeHealth c h s).line.course = s.line.course ∧ (changeHealth c h s).line.stations = s.line.stations ∧
      (changeHealth c h s).line.oneShots = s.line.oneShots ∧
      (changeHealth c h s).line.transaction = s.line.transaction ∧
      (changeHealth c h s).line.search = s.line.search := by
  rw [changeHealth_line]
  split
  · simp
  · refine ⟨withHealth_course s.line c h, ?_⟩
    simp

/-- The health counts at a transaction's end keep what each move of a channel's health keeps (R47). -/
theorem moveHealth_induct (P : State → Prop) (made : List (Channel × LineOutcome)) (s : State)
    (h : ∀ c x t, P t → P (changeHealth c x t)) (hs : P s) : P (moveHealth made s) := by
  unfold moveHealth
  split
  · split
    · exact when_induct P _ _ _ (fun _ => h _ _ _) (h _ _ _ hs)
    · exact hs
  · exact hs

@[simp] theorem moveHealth_kept (made : List (Channel × LineOutcome)) (s : State) :
    (moveHealth made s).line.course = s.line.course ∧ (moveHealth made s).line.stations = s.line.stations ∧
      (moveHealth made s).line.oneShots = s.line.oneShots ∧
      (moveHealth made s).line.transaction = s.line.transaction ∧
      (moveHealth made s).line.search = s.line.search := by
  refine moveHealth_induct (fun t => t.line.course = s.line.course ∧ t.line.stations = s.line.stations ∧
    t.line.oneShots = s.line.oneShots ∧ t.line.transaction = s.line.transaction ∧ t.line.search = s.line.search)
    made s (fun c h t ht => ?_) ⟨rfl, rfl, rfl, rfl, rfl⟩
  simpa using ht

@[simp] theorem moveProbeHealth_kept (c : Channel) (o : LineOutcome) (s : State) :
    (moveProbeHealth c o s).line.course = s.line.course ∧
      (moveProbeHealth c o s).line.stations = s.line.stations ∧
      (moveProbeHealth c o s).line.oneShots = s.line.oneShots ∧
      (moveProbeHealth c o s).line.transaction = s.line.transaction ∧
      (moveProbeHealth c o s).line.search = s.line.search := by
  simp [moveProbeHealth]

/-! ### Station records (R63 to R65) -/

/-- What a station's record reads after a write of one: a written one with its update count raised (R178). -/
theorem putStation_get_same (a : Nat) (x : Station) (s : State) (h : a < 16) :
    (putStation a x s).line.stations.get a = { x with upd := bump (s.line.stations.get a).upd } :=
  Table.get_set_same _ _ _ h

theorem putStation_get_other (a b : Nat) (x : Station) (s : State) (h : b ≠ a) :
    (putStation a x s).line.stations.get b = s.line.stations.get b := Table.get_set_other _ _ _ _ h

@[simp] theorem putStation_kept (a : Nat) (x : Station) (s : State) :
    (putStation a x s).line.course = s.line.course ∧ (putStation a x s).line.network = s.line.network ∧
      (putStation a x s).line.oneShots = s.line.oneShots ∧
      (putStation a x s).line.transaction = s.line.transaction := ⟨rfl, rfl, rfl, rfl⟩

/-- A write that keeps the counts of its station keeps those of every station. -/
theorem putStation_counted (a b : Nat) (x : Station) (s : State)
    (h : x.counted = (s.line.stations.get a).counted) :
    ((putStation a x s).line.stations.get b).counted = (s.line.stations.get b).counted := by
  by_cases hb : b = a
  · subst hb
    by_cases h16 : b < 16
    · rw [putStation_get_same b x s h16]
      exact h
    · rw [putStation, State.setLine_line, Table.set_past _ _ _ (by omega)]
  · rw [putStation_get_other a b x s hb]

/-- A change of a station's state moves search mode and the summary, and nothing else of the line (R50, R51, R63). -/
theorem stationChanged_line (a : Nat) (x : Station) (s : State) :
    (stationChanged a x s).line =
      { (takeSearch s).line with summary := (takeSearch s).summaryNow } := by
  have hline : (takeSearch (post .stationChange a x.state.code s)).line = (takeSearch s).line := by
    simp [takeSearch_line, State.searchHolds, State.normalChannel]
  rw [stationChanged, takeSummary_line, summaryNow_of_line _ _ hline, hline]

@[simp] theorem stationChanged_kept (a : Nat) (x : Station) (s : State) :
    (stationChanged a x s).line.course = s.line.course ∧
      (stationChanged a x s).line.healthA = s.line.healthA ∧ (stationChanged a x s).line.healthB = s.line.healthB ∧
      (stationChanged a x s).line.stations = s.line.stations ∧
      (stationChanged a x s).line.oneShots = s.line.oneShots ∧
      (stationChanged a x s).line.transaction = s.line.transaction := by
  rw [stationChanged_line, takeSearch_line]
  exact ⟨rfl, rfl, rfl, rfl, rfl, rfl⟩

/-- A write of a station record with what it hands on: the record, and a change of its state. -/
theorem changeStation_line (a : Nat) (x : Station) (s : State) :
    (changeStation a x s).line =
      if x.state = (s.line.stations.get a).state then (putStation a x s).line
      else (stationChanged a x (putStation a x s)).line := by
  by_cases h : x.state = (s.line.stations.get a).state
  · simp [changeStation, h]
  · simp [changeStation, h]

@[simp] theorem changeStation_kept (a : Nat) (x : Station) (s : State) :
    (changeStation a x s).line.course = s.line.course ∧
      (changeStation a x s).line.healthA = s.line.healthA ∧ (changeStation a x s).line.healthB = s.line.healthB ∧
      (changeStation a x s).line.stations = (putStation a x s).line.stations ∧
      (changeStation a x s).line.oneShots = s.line.oneShots ∧
      (changeStation a x s).line.transaction = s.line.transaction := by
  have hA : (putStation a x s).line.healthA = s.line.healthA := rfl
  have hB : (putStation a x s).line.healthB = s.line.healthB := rfl
  rw [changeStation_line]
  split <;> simp [hA, hB]

/-- The end of a transaction leaves its station's record, or writes one (R63). -/
theorem moveStation_induct (P : State → Prop) (a : Nat) (made : List (Channel × LineOutcome)) (flags : StationFlags)
    (s : State) (h : ∀ x, P (changeStation a x s)) (hs : P s) : P (moveStation a made flags s) := by
  unfold moveStation
  split
  · exact when_induct P _ _ s (fun _ _ => h _) hs
  · exact hs

@[simp] theorem moveStation_kept (a : Nat) (made : List (Channel × LineOutcome)) (flags : StationFlags) (s : State) :
    (moveStation a made flags s).line.course = s.line.course ∧
      (moveStation a made flags s).line.healthA = s.line.healthA ∧
      (moveStation a made flags s).line.healthB = s.line.healthB ∧
      (moveStation a made flags s).line.oneShots = s.line.oneShots ∧
      (moveStation a made flags s).line.transaction = s.line.transaction := by
  refine moveStation_induct (fun t => t.line.course = s.line.course ∧ t.line.healthA = s.line.healthA ∧
    t.line.healthB = s.line.healthB ∧ t.line.oneShots = s.line.oneShots ∧
    t.line.transaction = s.line.transaction) a made flags s (fun x => ?_) ⟨rfl, rfl, rfl, rfl, rfl⟩
  simp

/-! ### The one-shot list (R66, R69, R70) -/

@[simp] theorem appendOneShot_line (o : OneShot) (s : State) :
    (appendOneShot o s).line = { s.line with oneShots := s.line.oneShots ++ [o] } := rfl

@[simp] theorem askService_kept (a : Nat) (s : State) :
    (askService a s).line.course = s.line.course ∧ (askService a s).line.network = s.line.network ∧
      (askService a s).line.transaction = s.line.transaction := by
  unfold askService
  split <;> exact ⟨rfl, rfl, rfl⟩

/-- Service pending set moves no count of a station (R69). -/
@[simp] theorem askService_counted (a b : Nat) (s : State) :
    ((askService a s).line.stations.get b).counted = (s.line.stations.get b).counted := by
  unfold askService
  split
  · exact putStation_counted a b _ s rfl
  · exact putStation_counted a b { s.line.stations.get a with servicePending := true } s rfl

@[simp] theorem serviceFlag_kept (a : Nat) (flags : StationFlags) (s : State) :
    (serviceFlag a flags s).line.course = s.line.course ∧ (serviceFlag a flags s).line.network = s.line.network ∧
      (serviceFlag a flags s).line.transaction = s.line.transaction := by
  simp [serviceFlag]

@[simp] theorem serviceFlag_counted (a b : Nat) (flags : StationFlags) (s : State) :
    ((serviceFlag a flags s).line.stations.get b).counted = (s.line.stations.get b).counted := by
  simp [serviceFlag]

@[simp] theorem serveDeferred_kept (s : State) :
    (serveDeferred s).line.course = s.line.course ∧ (serveDeferred s).line.network = s.line.network ∧
      (serveDeferred s).line.transaction = s.line.transaction := by
  unfold serveDeferred
  split
  · split <;> exact ⟨rfl, rfl, rfl⟩
  · exact ⟨rfl, rfl, rfl⟩

/-- A deferred fetch that is served moves no count of a station (R69). -/
@[simp] theorem serveDeferred_counted (b : Nat) (s : State) :
    ((serveDeferred s).line.stations.get b).counted = (s.line.stations.get b).counted := by
  unfold serveDeferred
  split
  · next a _ =>
    split
    · rfl
    · simp only [appendOneShot_line, State.setLine_line]
      by_cases hb : b = a
      · subst hb
        by_cases h16 : b < 16
        · rw [Table.get_set_same _ _ _ h16]
          rfl
        · rw [Table.set_past _ _ _ (by omega)]
      · rw [Table.get_set_other _ _ _ _ hb]
  · rfl

@[simp] theorem leaveHead_kept (s : State) :
    (leaveHead s).line.course = s.line.course ∧ (leaveHead s).line.network = s.line.network ∧
      (leaveHead s).line.transaction = s.line.transaction := by
  simp [leaveHead]

@[simp] theorem leaveHead_counted (b : Nat) (s : State) :
    ((leaveHead s).line.stations.get b).counted = (s.line.stations.get b).counted := by
  simp [leaveHead]

/-- What a service fetch that ends makes of its station's record: pending cleared, and the mailbox of an OK reply (R70). -/
def Station.served (x : Station) (o : LineOutcome) (words : List Word) : Station :=
  { x with
    servicePending := false, deferred := false
    mailboxLength := if o = .ok then words.length else x.mailboxLength
    mailbox := if o = .ok then Table.tabulate 8 fun i => words.getD i 0#16 else x.mailbox }

theorem endService_line (a : Nat) (o : LineOutcome) (words : List Word) (s : State) :
    (endService a o words s).line = (putStation a ((s.line.stations.get a).served o words) s).line := by
  unfold endService Station.served
  split
  · simp
  · rfl

@[simp] theorem endService_kept (a : Nat) (o : LineOutcome) (words : List Word) (s : State) :
    (endService a o words s).line.course = s.line.course ∧ (endService a o words s).line.network = s.line.network ∧
      (endService a o words s).line.transaction = s.line.transaction := by
  rw [endService_line]
  exact ⟨rfl, rfl, rfl⟩

@[simp] theorem endService_counted (a b : Nat) (o : LineOutcome) (words : List Word) (s : State) :
    ((endService a o words s).line.stations.get b).counted = (s.line.stations.get b).counted := by
  rw [endService_line]
  exact putStation_counted a b _ s rfl

@[simp] theorem endOneShot_kept (a : Nat) (o : LineOutcome) (flags : StationFlags) (c : Channel) (attempts : Nat)
    (words : List Word) (s : State) :
    (endOneShot a o flags c attempts words s).line.course = s.line.course ∧
      (endOneShot a o flags c attempts words s).line.network = s.line.network ∧
      (endOneShot a o flags c attempts words s).line.transaction = s.line.transaction := by
  unfold endOneShot
  split <;> simp

@[simp] theorem endOneShot_counted (a b : Nat) (o : LineOutcome) (flags : StationFlags) (c : Channel) (attempts : Nat)
    (words : List Word) (s : State) :
    ((endOneShot a o flags c attempts words s).line.stations.get b).counted = (s.line.stations.get b).counted := by
  unfold endOneShot
  split <;> simp

/-! ### The message log (R71, R72) -/

@[simp] theorem appendLog_kept (r : LogRecord) (s : State) :
    (appendLog r s).line.course = s.line.course ∧ (appendLog r s).line.network = s.line.network ∧
      (appendLog r s).line.stations = s.line.stations ∧ (appendLog r s).line.oneShots = s.line.oneShots ∧
      (appendLog r s).line.transaction = s.line.transaction := by
  unfold appendLog
  dsimp only
  split
  · exact ⟨rfl, rfl, rfl, rfl, rfl⟩
  · split <;> exact ⟨rfl, rfl, rfl, rfl, rfl⟩

@[simp] theorem logEnd_kept (t : Transaction) (o : LineOutcome) (c : Channel) (attempts : Nat) (flags : StationFlags)
    (words : List Word) (s : State) :
    (logEnd t o c attempts flags words s).line.course = s.line.course ∧
      (logEnd t o c attempts flags words s).line.network = s.line.network ∧
      (logEnd t o c attempts flags words s).line.stations = s.line.stations ∧
      (logEnd t o c attempts flags words s).line.oneShots = s.line.oneShots ∧
      (logEnd t o c attempts flags words s).line.transaction = s.line.transaction := by
  simp [logEnd]

/-! ### The end of a transaction (R44, R61) -/

@[simp] theorem endTransaction_kept (t : Transaction) (o : LineOutcome) (flags : StationFlags) (words : List Word)
    (s : State) :
    (endTransaction t o flags words s).line.course = s.line.course ∧
      (endTransaction t o flags words s).line.transaction = none := by
  unfold endTransaction
  split <;> simp

@[simp] theorem endProbe_kept (t : Transaction) (c : Channel) (o : LineOutcome) (flags : StationFlags)
    (words : List Word) (s : State) :
    (endProbe t c o flags words s).line.course = s.line.course ∧
      (endProbe t c o flags words s).line.transaction = none := by
  simp [endProbe]

/-- A probe set down moves the probe to come, and nothing else of the line (R49). -/
@[simp] theorem setProbe_kept (t : Transaction) (o : LineOutcome) (s : State) :
    (setProbe t o s).line.phase = s.line.phase ∧ (setProbe t o s).line.network = s.line.network ∧
      (setProbe t o s).line.stations = s.line.stations ∧ (setProbe t o s).line.oneShots = s.line.oneShots ∧
      (setProbe t o s).line.transaction = s.line.transaction := by
  unfold setProbe
  split <;> simp [BodyLine.network]

@[simp] theorem clearPending_kept (a : Nat) (s : State) :
    (clearPending a s).line.course = s.line.course ∧ (clearPending a s).line.network = s.line.network ∧
      (clearPending a s).line.transaction = s.line.transaction := by
  simp [clearPending]

@[simp] theorem clearPending_counted (a b : Nat) (s : State) :
    ((clearPending a s).line.stations.get b).counted = (s.line.stations.get b).counted :=
  when_counted _ _ s b fun t => putStation_counted a b _ t rfl

/-- The emptied list clears the service pendings, and moves no count (R73). -/
@[simp] theorem emptyList_kept (s : State) :
    (emptyList s).line.course = s.line.course ∧ (emptyList s).line.network = s.line.network ∧
      (emptyList s).line.transaction = s.line.transaction := by
  unfold emptyList
  refine forEach_induct (fun t => t.line.course = s.line.course ∧ t.line.network = s.line.network ∧
    t.line.transaction = s.line.transaction) (List.range 16) clearPending _ (fun a _ t ht => ?_) ?_
  · simpa using ht
  · simp

@[simp] theorem emptyList_counted (b : Nat) (s : State) :
    ((emptyList s).line.stations.get b).counted = (s.line.stations.get b).counted := by
  unfold emptyList
  refine forEach_induct (fun t => (t.line.stations.get b).counted = (s.line.stations.get b).counted)
    (List.range 16) clearPending _ (fun a _ t ht => ?_) ?_
  · simpa using ht
  · simp

end Sys2Proof.Machine
end

section
/-! PROOFS. O31: when a reply is complete, how a complete one is judged, and what a good one hands on. -/

namespace Sys2Proof.Machine

/-! ### Complete replies (R40) -/

/-- A reply is complete at the length that its flags give it; with no flags character yet it is short of every length. -/
theorem replyComplete_iff (dir : Direction) (length : Nat) (received : List Byte) :
    replyComplete dir length received = true ↔
      received.length =
        if dir = .fetch ∧ (received.getD 1 0#8).getLsbD 0 = false ∧ (received.getD 1 0#8).getLsbD 3 = false
        then 3 + 2 * length else 3 := by
  simp only [replyComplete, replyLength, StationFlags.ofByte, Bool.and_eq_true, decide_eq_true_eq,
    Bool.not_eq_true', and_assoc]
  split <;> omega

/-! ### The words of a fetch (R193) -/

theorem wordsOf_length (l : List Byte) : (wordsOf l).length = l.length / 2 := by
  fun_induction wordsOf l with
  | case1 low high rest ih => simp only [List.length_cons, ih]; omega
  | case2 l h =>
    match l, h with
    | [], _ => rfl
    | [_], _ => simp
    | low :: high :: rest, h => exact absurd rfl (h low high rest)

/-- A complete fetch carries its words two characters each, low character first (R40, R193). -/
theorem replyWords_eq (length : Nat) (received : List Byte) (hl : received.length = 3 + 2 * length) :
    replyWords length received =
      (List.range length).map fun i => wordOfBytes (received.getD (2 + 2 * i) 0#8) (received.getD (3 + 2 * i) 0#8) := by
  have hlen : (replyWords length received).length = length := by
    simp only [replyWords, wordsOf_length, List.length_take, List.length_drop]
    omega
  refine List.ext_getElem (by simp [hlen]) fun i h1 h2 => ?_
  have hget := replyWords_getD length i received (hlen ▸ h1) hl
  rw [List.getD_eq_getElem _ _ h1] at hget
  simpa using hget

/-! ### The judgement (R42) -/

theorem judgeReply_badSum (station : Nat) (received : List Byte) (h : sumBytes received ≠ 0#8) :
    judgeReply station received = .checkError := if_pos h

theorem judgeReply_badAddress (station : Nat) (received : List Byte) (hs : sumBytes received = 0#8)
    (h : received.getD 0 0#8 ≠ byteOf station) : judgeReply station received = .wrongAddress := by
  rw [judgeReply, if_neg (not_not.2 hs), if_pos h]

/-- A reply with a good check and the station's address is judged by its flags, BLOCK_REFUSED before BUSY. -/
theorem judgeReply_byFlags (station : Nat) (received : List Byte) (hs : sumBytes received = 0#8)
    (h : received.getD 0 0#8 = byteOf station) :
    judgeReply station received =
      if (received.getD 1 0#8).getLsbD 3 then .refused
      else if (received.getD 1 0#8).getLsbD 0 then .busy else .ok := by
  rw [judgeReply, if_neg (not_not.2 hs), if_neg (not_not.2 h)]
  rfl

/-! ### What a reply hands on (R42) -/

theorem replyHandover_good (x : Transaction) (o : LineOutcome) (received : List Byte) (h : o.good = true) :
    (replyHandover x o received).1 = .ofByte (received.getD 1 0#8) := if_pos h

theorem replyHandover_failed (x : Transaction) (o : LineOutcome) (received : List Byte) (h : o.good = false) :
    replyHandover x o received = ({}, []) := by
  have ho : o ≠ .ok := by
    rintro rfl
    cases h
  simp [replyHandover, h, ho]

theorem replyHandover_fetched (x : Transaction) (received : List Byte) (hd : x.dir = .fetch) :
    (replyHandover x .ok received).2 = replyWords x.length received := if_pos ⟨rfl, hd⟩

/-- Settles O31: the length, the judgement and the handover, each by its own equation. -/
theorem completeRepliesAreJudgedInOrder : Obligations.CompleteRepliesAreJudgedInOrder := by
  intro x received
  refine ⟨replyComplete_iff _ _ _, judgeReply_badSum _ _, judgeReply_badAddress _ _, fun hs ha => ?judged, ?good,
    ?failed, fun ho hd => ⟨?words, fun hc => ?list⟩, ?delivered⟩
  case judged =>
    rw [judgeReply_byFlags x.station received hs ha]
    exact ⟨fun hr => if_pos hr, fun hr hb => (if_neg (Bool.eq_false_iff.1 hr)).trans (if_pos hb),
      fun hr hb => (if_neg (Bool.eq_false_iff.1 hr)).trans (if_neg (Bool.eq_false_iff.1 hb))⟩
  case good =>
    intro h
    refine replyHandover_good x _ received ?_
    obtain h | h | h := h <;> rw [h] <;> rfl
  case failed =>
    intro h
    refine replyHandover_failed x _ received ?_
    obtain h | h := h <;> rw [h] <;> rfl
  case words => rw [ho, replyHandover_fetched x received hd]
  case list =>
    have hlen := replyComplete_length x.station x.length received (hd ▸ hc) ho
    rw [ho, replyHandover_fetched x received hd, replyWords_eq _ _ hlen]
    rfl
  case delivered =>
    intro ho hd
    simp [replyHandover, hd]

end Sys2Proof.Machine
end

section
/-! PROOFS. O29: a minor cycle starts, and walks. -/

namespace Sys2Proof.Machine

/-! ### The walk of a free line (R58, R59) -/

/-- In RUN a free line walks the entries it holds (R59). -/
theorem startNext_inRun (s : State) (h : s.run.state = .run) : startNext s = walkOn s.line.walk s := by
  simp [startNext, State.inRun, h]

theorem startNext_outOfRun (s : State) (h : s.run.state ≠ .run) : startNext s = s := by
  simp [startNext, State.inRun, h]

/-- A walk changes the line alone, and with the entries that it skips the log, its notices and the status block. -/
theorem walkOn_changesOnly (l : List Nat) (s : State) :
    s.changesOnly (walkOn l s) [.notices, .statusBlock, .line] := State.changesOnly_of _ _ _ (by simp)

/-- The line as minor cycle `m` starts at `due`, before its walk (R58). -/
def State.minorStarted (s : State) (m due : Nat) : State :=
  s.setLine { s.line with
    minor := m
    minorNext := some (due + 1000 * s.setup.settings.cycleLength)
    walk := s.setup.dueIn m
    search := if m = 0 then s.line.search.map otherChannel else s.line.search
    probeMade := s.line.probeMade && m ≠ 0 }

/-- The minor cycle timer of an idle line in RUN starts the next cycle at its instant, which then walks (R58). -/
theorem minorCycleStart_exec (s : State) (due : Nat) (hr : s.run.state = .run) (hp : s.line.phase = .idle)
    (hn : s.line.minorNext = some due) :
    exec .minorCycleStart s = .next (walkOn (s.setup.dueIn ((s.line.minor + 1) % 8))
      ((s.reach due).minorStarted ((s.line.minor + 1) % 8) due)) := by
  have hdue : s.minorDue = some due := by simp [State.minorDue, State.inRun, hr, hp, hn]
  have hstart : minorExpires s = startNext ((s.reach due).minorStarted ((s.line.minor + 1) % 8) due) := by
    rw [minorExpires, hdue, onTimer_some]
    rfl
  change Host.Outcome.next (minorExpires s) = _
  rw [hstart, startNext_inRun _ (by simpa [State.minorStarted] using hr)]
  rfl

/-- The entries of a minor cycle, in ascending index (R57, R59). -/
theorem dueIn_spec (u : Setup) (m : Nat) :
    (u.dueIn m).Pairwise (· < ·) ∧
      ∀ e, e ∈ u.dueIn m ↔ e < 64 ∧ (u.schedule.get e).station ≠ 0 ∧ (u.schedule.get e).mask.getLsbD m = true := by
  refine ⟨List.pairwise_lt_range.filter _, fun e => ?_⟩
  simp [Setup.dueIn, PollEntry.inUse]

/-- Settles O29: the walk that starts is the one of `walkOn_walks`, from the line that the cycle's start leaves. -/
theorem minorCycleStartsItsWalk : Obligations.MinorCycleStartsItsWalk := by
  refine ⟨fun s due hr hp hn => ?_, dueIn_spec⟩
  let q := (s.reach due).minorStarted ((s.line.minor + 1) % 8) due
  obtain ⟨hminor, hnext, hsearch, hmade, hprobe⟩ := walkOn_line (s.setup.dueIn ((s.line.minor + 1) % 8)) q
  have hq : s.changesOnly q [.clock, .line] := State.changesOnly_of _ _ _ (by simp [q, State.minorStarted])
  have hw := walkOn_changesOnly (s.setup.dueIn ((s.line.minor + 1) % 8)) q
  refine ⟨_, minorCycleStart_exec s due hr hp hn, by simp [State.minorStarted, State.reach], hminor, hnext, hsearch,
    hmade.trans ?_, hprobe, walkOn_walks _ q _ rfl hp,
    State.changesOnly_trans _ q _ _ (State.changesOnly_mono _ _ _ _ hq (by simp))
      (State.changesOnly_mono _ _ _ _ hw (by simp))⟩
  by_cases hm : (s.line.minor + 1) % 8 = 0 <;> simp [q, State.minorStarted, hm]

end Sys2Proof.Machine
end

section
/-! PROOFS. O30: the characters of a reply, and the end of the attempt that the last one brings. -/

namespace Sys2Proof.Machine

/-! ### The end of an attempt (R43, R44) -/

/-- The line's phase is one of the fields that the end of a transaction leaves. -/
theorem phase_of_course (b d : BodyLine) (h : d.course = b.course) : d.phase = b.phase := by
  simpa [BodyLine.course] using congrArg BodyLine.phase h

@[simp] theorem attemptEnded_phase (t : Transaction) (c : Channel) (o : LineOutcome) (received : List Byte)
    (s : State) : (attemptEnded t c o received s).line.phase = s.line.phase := by
  unfold attemptEnded
  split
  · exact phase_of_course _ _ (endProbe_kept ..).1
  · split
    · rw [(setProbe_kept ..).1]
      exact phase_of_course _ _ (endTransaction_kept ..).1
    · rfl

/-- The line as an attempt ends: the turnaround of 60 µs starts (R43). -/
def State.turned (s : State) : State := s.setLine { s.line with phase := .turnaround (s.now + 60) }

/-- An attempt ends within the turnaround, and out of RUN the one-shot list is emptied after it (R43, R52, R73). -/
theorem endAttempt_eq (a : Attempt) (o : LineOutcome) (x : Transaction) (s : State) (hx : s.line.transaction = some x) :
    endAttempt a o s = when (!s.inRun) emptyList (attemptEnded x a.channel o a.received s.turned) := by
  unfold endAttempt
  split
  · next t ht =>
    obtain rfl : x = t := Option.some.inj (hx.symm.trans ht)
    rfl
  · next h => exact absurd (hx.symm.trans h) (by simp)

/-- The turnaround of 60 µs follows every attempt (R43). -/
theorem endAttempt_phase (a : Attempt) (o : LineOutcome) (s : State) :
    (endAttempt a o s).line.phase = .turnaround (s.now + 60) := by
  have hempty (t : State) : (when (!s.inRun) emptyList t).line.phase = t.line.phase :=
    when_keeps (·.line.phase) _ _ _ fun t => phase_of_course _ _ (emptyList_kept t).1
  unfold endAttempt
  split
  · rw [hempty, attemptEnded_phase]
    rfl
  · rfl

/-- Where an attempt does not end its transaction, a retry is left to wait (R44). -/
theorem attemptEnded_waits (t : Transaction) (c : Channel) (o : LineOutcome) (received : List Byte) (s : State)
    (hr : s.run.state = .run) (hleft : t.made.length < t.retries) (hp : ∀ e, t.purpose ≠ .probe e)
    (ho : o.good = false) :
    attemptEnded t c o received s =
      s.setLine { s.line with transaction := some { t with made := (c, o) :: t.made } } := by
  unfold attemptEnded
  split
  · next e he => exact absurd he (hp e)
  · rw [if_neg (by simp [ho, State.inRun, hr, hleft])]

/-- An attempt that fails with a retry left leaves its transaction to wait out the turnaround (R44, R45). -/
theorem endAttempt_waits (a : Attempt) (o : LineOutcome) (x : Transaction) (s : State)
    (hx : s.line.transaction = some x) (hr : s.run.state = .run) (hleft : x.made.length < x.retries)
    (hp : ∀ e, x.purpose ≠ .probe e) (ho : o.good = false) :
    endAttempt a o s = s.setLine { s.line with
      phase := .turnaround (s.now + 60)
      transaction := some { x with made := (a.channel, o) :: x.made } } := by
  rw [endAttempt_eq a o x s hx, attemptEnded_waits x _ _ _ s.turned hr hleft hp ho]
  simp only [State.inRun, hr, decide_true, Bool.not_true, when_false]
  rfl

/-! ### A character arrives (R37, R41) -/

/-- A character that no attempt listens to changes nothing (R37). -/
theorem replyCharacter_ignored (s : State) (c : Channel) (gap : Int) (data : Byte) (headerMark stopBit : Bool)
    (h : (∀ a, s.line.phase ≠ .reply a) ∨ ∃ a, s.line.phase = .reply a ∧ (c ≠ a.channel ∨ gap < 0)) :
    exec (.replyCharacter c gap data headerMark stopBit) s = .next s := by
  change Host.Outcome.next (replyCharacterArrives c gap data headerMark stopBit s) = _
  unfold replyCharacterArrives
  split
  · next a ha =>
    obtain h | ⟨b, hb, hc⟩ := h
    · exact absurd ha (h a)
    · obtain rfl : a = b := by simpa [ha] using hb
      have hnot : a.listens c gap = false := by
        obtain hc | hc := hc
        · simp [Attempt.listens, Ne.symm hc]
        · simp [Attempt.listens, hc]
      simp [hnot]
  · rfl

/-- A character that begins in time, and ends in the window, is judged at its end (R38, R41). -/
theorem replyCharacter_judged (s : State) (a : Attempt) (gap : Nat) (data : Byte) (headerMark stopBit : Bool)
    (hp : s.line.phase = .reply a) (hnow : s.now ≤ a.lastEnd)
    (hfirst : a.received = [] → a.lastEnd + gap ≤ s.replyBy a) (hgap : a.received ≠ [] → gap ≤ 88)
    (hwindow : a.lastEnd + gap + 44 ≤ s.windowClose a) :
    exec (.replyCharacter a.channel gap data headerMark stopBit) s =
      .next (judgeCharacter a (a.lastEnd + gap + 44) data headerMark stopBit s) := by
  have hbegins : s.characterBegins a gap = a.lastEnd + gap := by
    unfold State.characterBegins
    omega
  have hlistens : a.listens a.channel gap = true := by simp [Attempt.listens]
  change Host.Outcome.next (replyCharacterArrives a.channel gap data headerMark stopBit s) = _
  simp only [replyCharacterArrives, hp, hlistens, Int.toNat_natCast, hbegins]
  have hnotLate : ¬(a.received.isEmpty && decide (s.replyBy a < a.lastEnd + gap)) = true := by
    simpa using hfirst
  have hnoGap : ¬(!a.received.isEmpty && decide (a.lastEnd + Config.replyGap < a.lastEnd + gap) &&
      decide (a.lastEnd + Config.replyGap ≤ s.windowClose a)) = true := by
    have h88 : Config.replyGap = 88 := rfl
    simp only [Bool.and_eq_true, Bool.not_eq_true', List.isEmpty_eq_false_iff, decide_eq_true_eq, not_and]
    intro ⟨hne, hlate⟩
    have := hgap hne
    omega
  rw [if_neg (by simp), if_neg hnotLate, if_neg hnoGap]
  exact congrArg _ (if_neg (Nat.not_lt.2 hwindow))

/-! ### The judgement of a character (R38) -/

/-- A bad stop bit or header mark holds the channel with CHARACTER_ERROR (R38, R43). -/
theorem judgeCharacter_bad (a : Attempt) (ends : Nat) (data : Byte) (headerMark stopBit : Bool) (s : State)
    (h : stopBit = false ∨ headerMark ≠ a.received.isEmpty) :
    judgeCharacter a ends data headerMark stopBit s = hold a .characterError (s.reach ends) := by
  unfold judgeCharacter
  rw [if_pos (by simpa using h)]

/-- A good character joins the reply, or completes it and ends the attempt (R40, R42). -/
theorem judgeCharacter_good (a : Attempt) (x : Transaction) (ends : Nat) (data : Byte) (s : State)
    (hx : s.line.transaction = some x) :
    judgeCharacter a ends data a.received.isEmpty true s =
      if replyComplete x.dir x.length (a.received ++ [data]) then
        endAttempt { a with received := a.received ++ [data], lastEnd := ends }
          (judgeReply x.station (a.received ++ [data])) (s.reach ends)
      else (s.reach ends).setLine { s.line with
        phase := .reply { a with received := a.received ++ [data], lastEnd := ends } } := by
  unfold judgeCharacter
  rw [if_neg (by simp)]
  simp only [hx]

theorem judgeCharacter_now (a : Attempt) (x : Transaction) (ends : Nat) (data : Byte) (headerMark stopBit : Bool)
    (s : State) (hx : s.line.transaction = some x) :
    (judgeCharacter a ends data headerMark stopBit s).now = max s.now ends := by
  by_cases hbad : stopBit = false ∨ headerMark ≠ a.received.isEmpty
  · rw [judgeCharacter_bad _ _ _ _ _ _ hbad]
    rfl
  · obtain ⟨rfl, rfl⟩ : stopBit = true ∧ headerMark = a.received.isEmpty := by simpa using hbad
    rw [judgeCharacter_good a x ends data s hx]
    split
    · simp [State.reach]
    · rfl

/-- Settles O30: a character in time reaches its judgement, which is one of three. -/
theorem replyCharactersAreJudged : Obligations.ReplyCharactersAreJudged := by
  refine ⟨fun s c gap data hm sb h => replyCharacter_ignored s c gap data hm sb h,
    fun s a x gap data hm sb hp hx hnow hfirst hgap hwindow => ?judged, fun dir length received => ⟨fun h => ?_, fun h => ?_⟩⟩
  case judged =>
    let ends := a.lastEnd + gap + 44
    have hends : (s.reach ends).now = ends := Nat.max_eq_right (by omega)
    have htime : (judgeCharacter a ends data hm sb s).now = ends :=
      (judgeCharacter_now a x ends data hm sb s hx).trans hends
    refine ⟨_, replyCharacter_judged s a gap data hm sb hp hnow hfirst hgap hwindow, htime, fun hbad => ?bad, ?joins,
      ?completes, State.changesOnly_of _ _ _ (by simp [signalParts])⟩
    case bad =>
      rw [judgeCharacter_bad _ _ _ _ _ _ hbad]
      exact ⟨rfl, State.changesOnly_of _ _ _ (by simp [hold])⟩
    case joins =>
      rintro rfl rfl hc
      rw [htime, judgeCharacter_good a x _ data s hx, hc]
      exact ⟨rfl, State.changesOnly_of _ _ _ (by simp)⟩
    case completes =>
      rintro rfl rfl hc
      rw [htime, judgeCharacter_good a x _ data s hx, if_pos hc]
      refine ⟨(endAttempt_phase _ _ _).trans (by rw [hends]), fun ho hr hleft hprobe => ?_⟩
      rw [endAttempt_waits _ _ x (s.reach ends) hx hr hleft hprobe ho, hends]
      exact ⟨rfl, State.changesOnly_of _ _ _ (by simp)⟩
  · rw [replyComplete_iff, if_pos h]
  · rw [replyComplete_iff, if_neg h]

end Sys2Proof.Machine
end

section
/-! PROOFS. O32: the ends of an attempt by time, and what follows its turnaround. -/

namespace Sys2Proof.Machine

/-! ### Ends by time (R41, R43) -/

/-- The response timeout ends an attempt that has no character with NO_RESPONSE (R41). -/
theorem responseTimeout_exec (s : State) (a : Attempt) (hp : s.line.phase = .reply a) (hr : a.received = []) :
    exec .responseTimeout s = .next (endAttempt a .noResponse (s.reach (s.replyBy a))) := by
  change Host.Outcome.next (responseExpires s) = _
  simp [responseExpires, hp, hr]

/-- The close of the window ends an attempt with the outcome it holds, or with INCOMPLETE (R41, R43). -/
theorem attemptWindowClose_exec (s : State) (a : Attempt) (o : LineOutcome)
    (h : s.line.phase = .holding a o ∨ (s.line.phase = .reply a ∧ a.received ≠ [] ∧ o = .incomplete)) :
    exec .attemptWindowClose s = .next (endAttempt a o (s.reach (s.windowClose a))) := by
  change Host.Outcome.next (windowExpires s) = _
  obtain hp | ⟨hp, hr, rfl⟩ := h
  · simp only [windowExpires, hp]
  · simp [windowExpires, hp, hr]

/-- A gap of 88 µs inside a reply holds the channel with INCOMPLETE (R41). -/
theorem replyGapTimeout_exec (s : State) (a : Attempt) (hp : s.line.phase = .reply a) (hr : a.received ≠ [])
    (hw : a.lastEnd + 88 ≤ s.windowClose a) :
    exec .replyGapTimeout s = .next (hold a .incomplete (s.reach (a.lastEnd + 88))) := by
  have hin : ¬s.windowClose a < a.lastEnd + Config.replyGap := Nat.not_lt.2 hw
  change Host.Outcome.next (gapExpires s) = _
  simp only [gapExpires, hp, List.isEmpty_eq_false_iff.2 hr, hin, decide_false, Bool.or_self]
  rfl

/-- What an attempt that ends at an instant leaves, and what one that leaves a retry does (R43, R44). -/
theorem endAttempt_at (s : State) (a : Attempt) (o : LineOutcome) (x : Transaction) (due : Nat)
    (hx : s.line.transaction = some x) :
    (endAttempt a o (s.reach due)).now = max s.now due ∧
      (endAttempt a o (s.reach due)).line.phase = .turnaround ((endAttempt a o (s.reach due)).now + 60) ∧
      s.changesOnly (endAttempt a o (s.reach due)) (.line :: signalParts) ∧
      (s.run.state = .run → x.made.length < x.retries → (∀ e, x.purpose ≠ .probe e) → o.good = false →
        (endAttempt a o (s.reach due)).line = { s.line with
          phase := .turnaround ((endAttempt a o (s.reach due)).now + 60)
          transaction := some { x with made := (a.channel, o) :: x.made } } ∧
        s.changesOnly (endAttempt a o (s.reach due)) [.clock, .line]) := by
  have hnow : (endAttempt a o (s.reach due)).now = (s.reach due).now := by simp
  refine ⟨hnow, hnow ▸ endAttempt_phase a o (s.reach due), State.changesOnly_of _ _ _ (by simp [signalParts]),
    fun hr hleft hprobe ho => ?_⟩
  rw [hnow, endAttempt_waits a o x (s.reach due) hx hr hleft hprobe ho]
  exact ⟨rfl, State.changesOnly_of _ _ _ (by simp)⟩

/-! ### The turnaround ends (R43 to R45) -/

/-- The line free again at the end of its turnaround. -/
def State.freed (s : State) (ends : Nat) : State := (s.reach ends).setLine { s.line with phase := .idle }

/-- The end of the turnaround goes on with the transaction that waits for its retry, else with the probe that is set
down, else with the walk (R43, R45, R49). -/
theorem turnaroundEnd_exec (s : State) (ends : Nat) (h : s.line.phase = .turnaround ends) :
    exec .turnaroundEnd s = .next
      (match s.line.transaction, s.line.probeNext with
        | some x, _ => retryDue x (s.freed ends)
        | none, some p => probeDue p (s.freed ends)
        | none, none => startNext (s.freed ends)) := by
  change Host.Outcome.next (turnaroundExpires s) = _
  simp only [turnaroundExpires, h]
  rfl

/-- An attempt of `length` words fits into the rest of the minor cycle by the budget of section 4.2.1 (R60). -/
theorem fits_budget (s : State) (length next : Nat) (h : s.line.minorNext = some next) :
    s.fits length = true ↔ s.now + attemptBudget s.setup.settings.timeoutCode length ≤ next := by
  simp only [State.fits, h, decide_eq_true_eq]

theorem retryOn_eq (retry : RetryChannel) (c : Channel) (failed : Bool) :
    retryOn retry c failed = if retry = .other ∧ failed = false then otherChannel c else c := by
  simp [retryOn]

/-- An attempt that starts sends its transaction's poll frame and awaits the reply (R38, R39). -/
theorem startAttempt_starts (c : Channel) (x : Transaction) (s : State) :
    ∃ a, (startAttempt c x s).line = { s.line with transaction := some x, phase := .reply a } ∧ a.channel = c ∧
      a.start = s.now ∧ a.received = [] ∧ a.poll = pollFrame x.station x.block x.dir x.length x.words :=
  ⟨_, rfl, rfl, rfl, rfl, rfl⟩

/-- A retry that fits starts, on the channel that R45 gives it. -/
theorem turnaroundEnd_retries (s : State) (ends next : Nat) (x : Transaction) (c : Channel) (o : LineOutcome)
    (made : List (Channel × LineOutcome)) (hp : s.line.phase = .turnaround ends) (hx : s.line.transaction = some x)
    (hm : x.made = (c, o) :: made) (hn : s.line.minorNext = some next)
    (hfits : max s.now ends + attemptBudget s.setup.settings.timeoutCode x.length ≤ next) :
    exec .turnaroundEnd s = .next (startAttempt
      (if x.retryChannel = .other ∧ (s.line.health (otherChannel c)).failed = false then otherChannel c else c) x
      (s.freed ends)) := by
  have hfit : (s.freed ends).fits x.length = true := (fits_budget (s.freed ends) _ next hn).2 hfits
  rw [turnaroundEnd_exec s ends hp, hx, ← retryOn_eq]
  simp only [retryDue, hfit, if_true, hm, finalChannel]
  rfl

/-- With no retry left and no probe that fits, the turnaround's end goes on with the walk (R59, R60). -/
theorem turnaroundEnd_walks (s : State) (ends : Nat) (hp : s.line.phase = .turnaround ends)
    (hx : s.line.transaction = none) (hprobe : ∀ p, s.line.probeNext = some p → (s.freed ends).fits p.length = false) :
    exec .turnaroundEnd s =
      .next (startNext ((s.reach ends).setLine { s.line with phase := .idle, probeNext := none })) := by
  rw [turnaroundEnd_exec s ends hp, hx]
  cases hn : s.line.probeNext with
  | none =>
    exact congrArg (fun p => Host.Outcome.next
      (startNext ((s.reach ends).setLine { s.line with phase := .idle, probeNext := p }))) hn
  | some p =>
    simp only [probeDue, hprobe p hn]
    rfl

/-- With nothing to walk and no one-shot the line stays free. -/
theorem walkOn_nothing (s : State) (hw : s.line.walk = []) (ho : s.line.oneShots = []) : walkOn s.line.walk s = s := by
  have hline : s.setLine { s.line with walk := [] } = s :=
    congrArg (fun w => s.setLine { s.line with walk := w }) hw.symm
  rw [hw, walkOn, hline, runList, ho]

/-- Settles O32: the ends by time are ends of an attempt or holds, and the turnaround's end is one of three starts. -/
theorem timedOutAttemptsTurnAround : Obligations.TimedOutAttemptsTurnAround := by
  refine ⟨fun s a x hx => ⟨fun hp hr => ?timeout, fun o h => ?window⟩, fun s a hp hr hw => ?gap,
    fun s ends hp => ⟨?retry, ?idle, ?walk⟩⟩
  case timeout =>
    obtain ⟨hnow, hphase, honly, hwaits⟩ := endAttempt_at s a .noResponse x (s.replyBy a) hx
    exact ⟨_, responseTimeout_exec s a hp hr, hnow, hphase, honly,
      fun hrun hleft hprobe => hwaits hrun hleft hprobe rfl⟩
  case window =>
    exact ⟨_, attemptWindowClose_exec s a o h, endAttempt_at s a o x (s.windowClose a) hx⟩
  case gap => exact ⟨_, replyGapTimeout_exec s a hp hr hw, rfl, rfl, State.changesOnly_of _ _ _ (by simp)⟩
  case retry =>
    intro x c o made next hx hm hn hfits
    let y := if x.retryChannel = .other ∧ (s.line.health (otherChannel c)).failed = false then otherChannel c else c
    obtain ⟨b, hline, hchannel, hstart, hreceived, hpoll⟩ := startAttempt_starts y x (s.freed ends)
    have hsame : ({ s.line with transaction := some x, phase := .reply b } : BodyLine) =
        { s.line with phase := .reply b } :=
      congrArg (fun y => { s.line with transaction := y, phase := .reply b }) hx.symm
    exact ⟨_, b, turnaroundEnd_retries s ends next x c o made hp hx hm hn hfits, rfl, hline.trans hsame, hstart,
      hreceived, hpoll, hchannel, State.changesOnly_of _ _ _ (by simp [State.freed])⟩
  case idle =>
    intro hx hprobe hfree
    have hexec := turnaroundEnd_exec s ends hp
    rw [hx, hprobe] at hexec
    have hstays : startNext (s.freed ends) = s.freed ends := by
      by_cases hr : s.run.state = .run
      · obtain ⟨hw, ho⟩ := hfree.resolve_left (not_not.2 hr)
        rw [startNext_inRun (s.freed ends) hr]
        exact walkOn_nothing (s.freed ends) hw ho
      · exact startNext_outOfRun (s.freed ends) hr
    exact ⟨_, hexec.trans (congrArg _ hstays), rfl, rfl, State.changesOnly_of _ _ _ (by simp [State.freed])⟩
  case walk =>
    intro next hr hx hn hprobe
    let q := (s.reach ends).setLine { s.line with phase := .idle, probeNext := none }
    obtain ⟨hminor, hnext, hsearch, hmade, hprobeNext⟩ := walkOn_line s.line.walk q
    have hexec := turnaroundEnd_walks s ends hp hx fun p hp => by
      rw [← Bool.not_eq_true, fits_budget (s.freed ends) p.length next hn]
      exact Nat.not_le.2 (hprobe p hp)
    have hq : s.changesOnly q [.clock, .line] := State.changesOnly_of _ _ _ (by simp [q])
    exact ⟨_, hexec.trans (congrArg _ (startNext_inRun q hr)), by simp [q, State.reach], hminor, hnext, hsearch, hmade,
      hprobeNext, walkOn_walks s.line.walk q next hn rfl,
      State.changesOnly_trans _ q _ _ (State.changesOnly_mono _ _ _ _ hq (by simp))
        (State.changesOnly_mono _ _ _ _ (walkOn_changesOnly s.line.walk q) (by simp))⟩

end Sys2Proof.Machine
end

section
/-! PROOFS. O60: which gauges stand PARKED as the part leaves RUN, and what SHUTDOWN and the entry into STANDBY leave. -/

namespace Sys2Proof.Machine

/-! ### Gauges as the part leaves RUN (R147, R149) -/

theorem parkGauge_state (i : Nat) (s : State) (hi : i < 6) : ((parkGauge i s).gauges.get i).state = .parking := by
  obtain ⟨u, hu⟩ := putGauge_get_same i (s.gauges.get i).toParking s hi
  rw [parkGauge, hu]
  rfl

theorem Gauge.leftRun_parked (g : Gauge) : g.leftRun.state = .parked ↔ g.state = .parked := by
  unfold Gauge.leftRun
  split <;> simp [Gauge.toParking, *]

theorem Gauge.leftRun_calm (g : Gauge) (h : g.calm) : g.leftRun.calm := by
  unfold Gauge.leftRun
  split
  · exact .inr rfl
  · exact .inr rfl
  · exact h

/-- The sweeps that leaving RUN ends park no gauge, and none is left under way (R147). -/
theorem leftSweeps_gauge (s : State) (i : Nat) (hi : i < 6) :
    let g := (endSweeps (fun _ => true) parkGauge .aborted .leftRun s).gauges.get i
    g.calm ∧ (g.state = .parked ↔ (s.gauges.get i).state = .parked) := by
  let l := (List.range 6).filter (s.sweepsFor fun _ => true)
  have hgauges : (endSweeps (fun _ => true) parkGauge .aborted .leftRun s).gauges = (forEach l parkGauge s).gauges := by
    simp [endSweeps, l]
  rw [hgauges]
  by_cases h : (s.gauges.get i).calm
  · have hsame : (forEach l parkGauge s).gauges.get i = s.gauges.get i := by
      refine forEach_induct (fun t => t.gauges.get i = s.gauges.get i) l parkGauge s (fun j hj t ht => ?_) rfl
      have hne : i ≠ j := by
        rintro rfl
        simp [l, sweepsFor_of_calm s _ i h] at hj
      exact (putGauge_get_other j i _ t hne).trans ht
    simp only [hsame]
    exact ⟨h, trivial⟩
  · simp only [Gauge.calm, not_or, not_not] at h
    obtain ⟨w, hw⟩ := Option.ne_none_iff_exists'.1 h.2
    have hmem : i ∈ l := List.mem_filter.2 ⟨List.mem_range.2 hi, (State.sweepsFor_iff ..).2 ⟨w, hw, h.1, rfl⟩⟩
    have hparking : ((forEach l parkGauge s).gauges.get i).state = .parking :=
      forEach_reaches (fun _ => True) (fun t => (t.gauges.get i).state = .parking) l parkGauge s i hmem
        (List.nodup_range.filter _) trivial (fun _ _ _ _ _ => trivial) (fun t _ => parkGauge_state i t hi)
        fun j _ hj t ht => by rwa [parkGauge, putGauge_get_other j i _ t (Ne.symm hj)]
    simp [Gauge.calm, hparking, h.1]

/-- As the part leaves RUN the gauges that are PARKED, and no others, stay so, and no sweep is left (R149). -/
theorem stopGauges_gauge (s : State) (i : Nat) (hi : i < 6) :
    ((stopGauges s).gauges.get i).calm ∧
      (((stopGauges s).gauges.get i).state = .parked ↔ (s.gauges.get i).state = .parked) := by
  refine forEach_induct (fun t => (t.gauges.get i).calm ∧
    ((t.gauges.get i).state = .parked ↔ (s.gauges.get i).state = .parked)) (List.range 6)
    (fun i t => putGauge i (t.gauges.get i).leftRun t) _ (fun j _ t ht => ?_) (leftSweeps_gauge s i hi)
  by_cases hj : i = j
  · subst hj
    obtain ⟨hcalm, hparked⟩ := ht
    obtain ⟨u, hu⟩ := putGauge_get_same i (t.gauges.get i).leftRun t hi
    rw [hu]
    exact ⟨Gauge.leftRun_calm _ hcalm, (Gauge.leftRun_parked _).trans hparked⟩
  · rwa [putGauge_get_other j i _ t hj]

/-! ### The line as the part leaves RUN (R52) -/

/-- A transaction that ends outside RUN delivers nothing, so that no gauge moves (R13). -/
theorem endTransaction_gauges (t : Transaction) (o : LineOutcome) (flags : StationFlags) (words : List Word) (s : State)
    (h : s.run.state ≠ .run) : (endTransaction t o flags words s).gauges = s.gauges := by
  have hnone (u : State) (hu : u.run = s.run) : deliverEnd t o words u = u :=
    deliverEnd_none t o words u (.inl (by rwa [hu]))
  unfold endTransaction
  rw [hnone _ (by simp)]
  split <;> simp

@[simp] theorem endWaiting_phase (s : State) : (endWaiting s).line.phase = s.line.phase := by
  unfold endWaiting
  split
  · split
    · exact phase_of_course _ _ (endTransaction_kept ..).1
    · rfl
  · rfl

/-- The attempt or turnaround on the line runs on as the part leaves RUN (R52). -/
theorem stopLine_phase (s : State) : (stopLine s).line.phase = s.line.phase := by
  unfold stopLine
  dsimp only
  split
  · rfl
  · rw [phase_of_course _ _ (emptyList_kept _).1, endWaiting_phase]
    rfl

theorem emptyList_gauges (s : State) : (emptyList s).gauges = s.gauges := by simp

theorem stopLine_gauges (s : State) (h : s.run.state ≠ .run) : (stopLine s).gauges = s.gauges := by
  have hwaiting (t : State) (ht : t.run.state ≠ .run) : (endWaiting t).gauges = t.gauges := by
    unfold endWaiting
    split
    · split
      · exact endTransaction_gauges _ _ _ _ t ht
      · rfl
    · rfl
  unfold stopLine
  dsimp only
  split
  · rfl
  · exact (emptyList_gauges _).trans (hwaiting _ h)

/-! ### SHUTDOWN (R199, R200) -/

/-- What leaving RUN leaves of the line and the gauges. -/
theorem leaveRun_waits (new : RunState) (s : State) (hnew : new ≠ .run) :
    (leaveRun new s).line.phase = s.line.phase ∧ (leaveRun new s).noSweep ∧
      ∀ i, i < 6 → (((leaveRun new s).gauges.get i).state = .parked ↔ (s.gauges.get i).state = .parked) := by
  let u := stopComposition (stopWarnings (stopDoors (stopSignals (stopSense (stopLine (changeRunState new s))))))
  have hline : (leaveRun new s).line.phase = (stopLine (changeRunState new s)).line.phase := by
    simp [leaveRun, stopBlocks]
  have hgauges : (leaveRun new s).gauges = (stopGauges u).gauges := by simp [leaveRun, stopBlocks, u]
  have hu : u.gauges = s.gauges := by
    simp [u, stopLine_gauges (changeRunState new s) (by simpa using hnew)]
  refine ⟨hline.trans ((stopLine_phase _).trans (by simp)), fun i hi => ?_, fun i hi => ?_⟩
  · rw [hgauges]
    exact (stopGauges_gauge u i hi).1
  · rw [hgauges, (stopGauges_gauge u i hi).2, hu]

/-- Outside RUN the releases of a lowered session have no reader, so that no gauge moves. -/
theorem emptied_gauges_outOfRun (level : Session) (s : State) (hr : s.run.state ≠ .run) :
    (emptied level s).gauges = s.gauges := by
  simp [emptied, releaseTogether_outOfRun _ (s.setShop { s.shop with session := level }) hr]

/-- Outside RUN, with no sweep under way, the end of a session leaves the gauges. -/
theorem endSession_gauges_calm (cause : EndCause) (byClose : Bool) (s : State) (hr : s.run.state ≠ .run)
    (hg : s.noSweep) : (endSession cause byClose s).gauges = s.gauges := by
  refine when_induct (fun t => t.gauges = s.gauges) _ _ s (fun _ _ => ?_) rfl
  let p := s.setShop { s.shop with
    idleTimer := none, rate := if byClose then s.shop.rate else .slow
    nextRate := if byClose then some .slow else none }
  have he : (emptied .detached p).gauges = s.gauges := emptied_gauges_outOfRun .detached p hr
  have hsweeps : endWorkshopSweeps cause (emptied .detached p) = emptied .detached p :=
    endSweeps_none _ _ _ _ _ fun i hi => sweepsFor_of_calm _ _ i (he ▸ hg i hi)
  change (lowerSession .detached cause p).gauges = s.gauges
  rw [lowerSession_eq, hsweeps]
  simpa using he

/-- The state of SHUTDOWN before an entry into STANDBY is looked at (R200). -/
def shutdownStarted (s : State) : State := endSession .leftRun false (leaveRun .shutdown s)

theorem toShutdown_eq (s : State) : toShutdown s = standbyIfDue (shutdownStarted s) := rfl

theorem shutdownStarted_due (s : State) :
    (shutdownStarted s).standbyDue = true ↔
      (∀ g, g < 6 → (s.gauges.get g).state = .parked) ∧ s.line.phase = .idle := by
  obtain ⟨hrun, -⟩ := leaveRun_leaves .shutdown s
  obtain ⟨hphase, hcalm, hparked⟩ := leaveRun_waits .shutdown s (by decide)
  have hgauges : (shutdownStarted s).gauges = (leaveRun .shutdown s).gauges :=
    endSession_gauges_calm .leftRun false _ (by simp [hrun]) hcalm
  have hstate : (shutdownStarted s).run.state = .shutdown := by simp [shutdownStarted, hrun]
  have hline : (shutdownStarted s).line.phase = s.line.phase := by simp [shutdownStarted, hphase]
  have hall : (shutdownStarted s).allParked = true ↔ ∀ g, g < 6 → (s.gauges.get g).state = .parked := by
    rw [State.allParked_iff, hgauges]
    exact forall₂_congr hparked
  simp [State.standbyDue, hstate, hline, hall]

/-- The run-on timer's expiry leads to STANDBY where nothing holds it up, and else to SHUTDOWN (R199, R200). -/
theorem toShutdown_state (s : State) :
    ((∀ g, g < 6 → (s.gauges.get g).state = .parked) → s.line.phase = .idle →
        (toShutdown s).run.state = .standby) ∧
      ((∃ g, g < 6 ∧ (s.gauges.get g).state ≠ .parked) ∨ s.line.phase ≠ .idle →
        (toShutdown s).run.state = .shutdown) := by
  have hdue := shutdownStarted_due s
  constructor
  · intro hparked hidle
    have h : (shutdownStarted s).standbyDue = true := hdue.2 ⟨hparked, hidle⟩
    rw [toShutdown_eq, standbyIfDue, h, when_true]
    exact (enterStandby_enters _).1
  · intro hwaits
    have h : (shutdownStarted s).standbyDue = false := by
      rw [← Bool.not_eq_true, hdue]
      rintro ⟨hparked, hidle⟩
      obtain ⟨g, hg, hnot⟩ | hnot := hwaits
      · exact hnot (hparked g hg)
      · exact hnot hidle
    rw [toShutdown_eq, standbyIfDue, h, when_false]
    simp [shutdownStarted, (leaveRun_leaves .shutdown s).1]

/-- What SHUTDOWN leaves of its timers and of the line, in STANDBY at once or not. -/
theorem toShutdown_leaves (s : State) :
    (toShutdown s).line.phase = s.line.phase ∧ (toShutdown s).run.runOnTimer = none ∧
      (toShutdown s).port.livenessTimer = none := by
  obtain ⟨hrun, -⟩ := leaveRun_leaves .shutdown s
  obtain ⟨hphase, -⟩ := leaveRun_waits .shutdown s (by decide)
  refine ⟨by simp [toShutdown, hphase], ?_, by simp [toShutdown, leaveRun]⟩
  rw [toShutdown_eq, standbyIfDue]
  exact when_induct (fun t => t.run.runOnTimer = none) _ enterStandby _ (fun _ _ => rfl)
    (by simp [shutdownStarted, hrun])

/-! ### STANDBY (R197) -/

/-- STANDBY is due out of SHUTDOWN, or by the wait of CONFIG, with every gauge PARKED and the line free. -/
theorem standbyDue_eq (s : State) (h : s.run.state = .shutdown ∨ (s.run.state = .config ∧ s.run.standbyPending = true)) :
    s.standbyDue = true ↔ (∀ g, g < 6 → (s.gauges.get g).state = .parked) ∧ s.line.phase = .idle := by
  simp [State.standbyDue, ← State.allParked_iff, h]

/-- Settles O60: what holds STANDBY up is the same before and after the part leaves RUN. -/
theorem shutdownAndStandbyAreEntered : Obligations.ShutdownAndStandbyAreEntered := by
  intro s due
  refine ⟨fun ht hr => ?runOn, fun ht => ?idle, fun hwait => ⟨fun hparked hidle => ?enters, fun hheld => ?waits⟩⟩
  case runOn =>
    have hexec : exec .runOnTimerExpiry s = .next (toShutdown (s.reach due)) := by
      change Host.Outcome.next (runOnExpires s) = _
      rw [runOnExpires, ht, onTimer_some]
    obtain ⟨hstandby, hshutdown⟩ := toShutdown_state (s.reach due)
    obtain ⟨hphase, htimer, hliveness⟩ := toShutdown_leaves (s.reach due)
    obtain ⟨-, hdemand, hsession, -⟩ := toShutdown_shuts (s.reach due)
    exact ⟨_, hexec, hstandby, hshutdown, fun a ha => hphase.trans ha, htimer, hliveness, hdemand,
      by simp [State.stopBrakeDemand, hdemand], hsession, by simp, State.changesOnly_of _ _ _ (by simp [runParts])⟩
  case idle =>
    change Host.Outcome.next (configIdleExpires s) = _
    rw [configIdleExpires, ht, onTimer_some]
    rfl
  case enters =>
    have hdue := (standbyDue_eq s hwait).2 ⟨hparked, hidle⟩
    have hexec : exec .standbyEntry s = .next (enterStandby s) := by
      change Host.Outcome.next (standbyIfDue s) = _
      rw [standbyIfDue, hdue, when_true]
    have hgauges : (enterStandby s).gauges = s.gauges := by
      refine enterStandby_gauges s (fun h => ?_) fun i hi => ?_
      · simp [h] at hwait
      · rw [hparked i hi]
        decide
    obtain ⟨hstandby, hpending, hsession, hrate, htimer, hplace⟩ := enterStandby_enters s
    exact ⟨_, hexec, hstandby, hpending, by simp, hsession, hrate, htimer, hplace,
      by simp [State.wakeOutput, State.awake, hstandby], by simp [State.interruptLine, State.awake, hstandby], hgauges,
      by simp, State.changesOnly_of _ _ _ (by simp [runParts])⟩
  case waits =>
    have hnot : s.standbyDue = false := by
      rw [← Bool.not_eq_true, standbyDue_eq s hwait]
      rintro ⟨hparked, hidle⟩
      obtain ⟨g, hg, hstate⟩ | hphase := hheld
      · exact hstate (hparked g hg)
      · exact hphase hidle
    change Host.Outcome.next (standbyIfDue s) = _
    rw [standbyIfDue, hnot, when_false]

end Sys2Proof.Machine
end

section
/-! PROOFS. O33: the channels' health at the end of a transaction, the network summary that follows it, and the probe of a
FAILED channel. -/

namespace Sys2Proof.Machine

/-! ### The counts (R47, R48) -/

theorem health_of_same (b d : BodyLine) (hA : d.healthA = b.healthA) (hB : d.healthB = b.healthB) (c : Channel) :
    d.health c = b.health c := by
  cases c
  · exact hA
  · exact hB

theorem fallen_spec (h : ChannelHealth) :
    h.fallen.count = h.count - 1 ∧ (h.fallen.failed = true ↔ h.failed = true ∧ h.fallen.count ≠ 0) := by
  simp [ChannelHealth.fallen]

theorem risen_spec (h : ChannelHealth) :
    h.risen.count = min (h.count + 2) 16 ∧ (h.risen.failed = true ↔ h.failed = true ∨ h.risen.count = 16) := by
  simp [ChannelHealth.risen]

theorem changeHealth_same (c : Channel) (h : ChannelHealth) (s : State) : (changeHealth c h s).line.health c = h := by
  rw [changeHealth_line]
  split
  · exact withHealth_same _ _ _
  · cases c <;> rfl

theorem changeHealth_other (c : Channel) (h : ChannelHealth) (s : State) :
    (changeHealth c h s).line.health (otherChannel c) = s.line.health (otherChannel c) := by
  rw [changeHealth_line]
  split
  · exact withHealth_other _ _ _
  · cases c <;> rfl

theorem otherChannel_otherChannel (c : Channel) : otherChannel (otherChannel c) = c := by
  cases c <;> rfl

/-- A good final attempt takes 1 from its channel, and adds 2 to the other where an earlier attempt failed on it (R47). -/
theorem moveHealth_good (y : Channel) (o : LineOutcome) (earlier : List (Channel × LineOutcome)) (s : State)
    (ho : o.good = true) :
    (moveHealth ((y, o) :: earlier) s).line.health y = (s.line.health y).fallen ∧
      (moveHealth ((y, o) :: earlier) s).line.health (otherChannel y) =
        if failedOn (otherChannel y) earlier then (s.line.health (otherChannel y)).risen
        else s.line.health (otherChannel y) := by
  let t := changeHealth y (s.line.health y).fallen s
  have hy : t.line.health y = (s.line.health y).fallen := changeHealth_same _ _ _
  have hother : t.line.health (otherChannel y) = s.line.health (otherChannel y) := changeHealth_other _ _ _
  have hmove : moveHealth ((y, o) :: earlier) s = when (failedOn (otherChannel y) earlier)
      (fun t => changeHealth (otherChannel y) (t.line.health (otherChannel y)).risen t) t := by
    simp only [moveHealth, ho, if_true]
    rfl
  rw [hmove]
  cases failedOn (otherChannel y) earlier with
  | false => exact ⟨hy, hother⟩
  | true =>
    have hback := changeHealth_other (otherChannel y) (t.line.health (otherChannel y)).risen t
    rw [otherChannel_otherChannel] at hback
    exact ⟨hback.trans hy, (changeHealth_same _ _ _).trans (by rw [hother]; rfl)⟩

/-- A failed transaction moves no health (R47). -/
theorem moveHealth_failed (y : Channel) (o : LineOutcome) (earlier : List (Channel × LineOutcome)) (s : State)
    (ho : o.good = false) : moveHealth ((y, o) :: earlier) s = s := by
  simp [moveHealth, ho]

theorem failedOn_iff (c : Channel) (made : List (Channel × LineOutcome)) :
    failedOn c made = true ↔ ∃ m ∈ made, m.1 = c ∧ m.2.good = false := by
  simp [failedOn]

/-! ### The summary follows (R51) -/

/-- The summary is the one that the line gives. -/
def State.summaryHolds (s : State) : Prop := s.line.summary = s.summaryNow

/-- From `s` to `t` the summary stays right, and is right where a channel's state has changed. -/
def State.summaryFollows (s t : State) : Prop :=
  (s.summaryHolds → t.summaryHolds) ∧
    (t.line.healthA.failed ≠ s.line.healthA.failed ∨ t.line.healthB.failed ≠ s.line.healthB.failed → t.summaryHolds)

theorem network_iff (b d : BodyLine) :
    d.network = b.network ↔
      d.healthA = b.healthA ∧ d.healthB = b.healthB ∧ d.search = b.search ∧ d.summary = b.summary := by
  simp [BodyLine.network]

theorem summaryFollows_of_network (s t : State) (h : t.line.network = s.line.network) : s.summaryFollows t := by
  obtain ⟨hA, hB, hsearch, hsummary⟩ := (network_iff _ _).1 h
  simp [State.summaryFollows, State.summaryHolds, State.summaryNow, hA, hB, hsearch, hsummary]

theorem State.summaryFollows_trans (s t u : State) (h : s.summaryFollows t) (k : t.summaryFollows u) :
    s.summaryFollows u := by
  obtain ⟨hkeeps, hchange⟩ := h
  obtain ⟨kkeeps, kchange⟩ := k
  refine ⟨fun hs => kkeeps (hkeeps hs), fun hne => ?_⟩
  by_cases hu : u.line.healthA.failed ≠ t.line.healthA.failed ∨ u.line.healthB.failed ≠ t.line.healthB.failed
  · exact kchange hu
  · simp only [ne_eq, not_or, not_not] at hu
    rw [hu.1, hu.2] at hne
    exact kkeeps (hchange hne)

theorem summaryFollows_of_holds (s t : State) (h : t.summaryHolds) : s.summaryFollows t := ⟨fun _ => h, fun _ => h⟩

theorem changeHealth_summaryFollows (c : Channel) (h : ChannelHealth) (s : State) :
    s.summaryFollows (changeHealth c h s) := by
  have hline := changeHealth_line c h s
  split at hline
  · next hf =>
    cases c
    all_goals
      have hf' : h.failed = _ := hf
      simp [State.summaryFollows, State.summaryHolds, State.summaryNow, hline, BodyLine.withHealth, hf', BodyLine.health]
  · refine summaryFollows_of_holds _ _ ?_
    rw [State.summaryHolds, hline]
    simp [State.summaryNow, hline]

theorem moveHealth_summaryFollows (made : List (Channel × LineOutcome)) (s : State) :
    s.summaryFollows (moveHealth made s) :=
  moveHealth_induct s.summaryFollows made s
    (fun c x t ht => State.summaryFollows_trans s t _ ht (changeHealth_summaryFollows c x t))
    (summaryFollows_of_network s s rfl)

theorem changeStation_summaryFollows (a : Nat) (x : Station) (s : State) : s.summaryFollows (changeStation a x s) := by
  have hline := changeStation_line a x s
  split at hline
  · exact summaryFollows_of_network _ _ (by rw [hline]; rfl)
  · refine summaryFollows_of_holds _ _ ?_
    rw [stationChanged_line] at hline
    rw [State.summaryHolds, hline]
    simp [State.summaryNow, hline]

theorem moveStation_summaryFollows (a : Nat) (made : List (Channel × LineOutcome)) (flags : StationFlags) (s : State) :
    s.summaryFollows (moveStation a made flags s) :=
  moveStation_induct s.summaryFollows a made flags s (fun x => changeStation_summaryFollows a x s)
    (summaryFollows_of_network s s rfl)

end Sys2Proof.Machine
end

section
/-! PROOFS. O33: a transaction that ends, with its health, its summary and the probe that it sets down. -/

namespace Sys2Proof.Machine

/-! ### An attempt that ends a transaction or a probe (R44, R49) -/

/-- The transaction with an attempt counted among those made. -/
def Transaction.after (x : Transaction) (c : Channel) (o : LineOutcome) : Transaction :=
  { x with made := (c, o) :: x.made }

/-- The end of an attempt is the end of its transaction: the outcome is good, no retry is left, or the part has left RUN
(R44, R52). -/
def State.ends (s : State) (x : Transaction) (o : LineOutcome) : Prop :=
  o.good = true ∨ x.retries ≤ x.made.length ∨ s.run.state ≠ .run

theorem attemptEnded_ends (x : Transaction) (c : Channel) (o : LineOutcome) (received : List Byte) (s : State)
    (hp : ∀ e, x.purpose ≠ .probe e) (h : s.ends x o) :
    attemptEnded x c o received s =
      setProbe (x.after c o) o
        (endTransaction (x.after c o) o (replyHandover x o received).1 (replyHandover x o received).2 s) := by
  unfold attemptEnded
  split
  · next e he => exact absurd he (hp e)
  · rw [if_pos (by simpa [State.ends, State.inRun, or_assoc] using h)]
    rfl

theorem attemptEnded_probe (x : Transaction) (c : Channel) (o : LineOutcome) (received : List Byte) (s : State) (e : Nat)
    (hp : x.purpose = .probe e) :
    attemptEnded x c o received s =
      endProbe x c o (replyHandover x o received).1 (replyHandover x o received).2 s := by
  simp only [attemptEnded, hp]

/-- An attempt that does not end its transaction leaves it to wait for its retry (R44). -/
theorem attemptEnded_retries (x : Transaction) (c : Channel) (o : LineOutcome) (received : List Byte) (s : State)
    (hp : ∀ e, x.purpose ≠ .probe e) (h : ¬s.ends x o) :
    attemptEnded x c o received s = s.setLine { s.line with transaction := some (x.after c o) } := by
  simp only [State.ends, not_or, Bool.not_eq_true, not_le, not_not] at h
  obtain ⟨ho, hleft, hr⟩ := h
  exact attemptEnded_waits x c o received s hr hleft hp ho

/-- Any of the three ends of an attempt. -/
theorem attemptEnded_induct (P : State → Prop) (x : Transaction) (c : Channel) (o : LineOutcome)
    (received : List Byte) (s : State)
    (hprobe : ∀ e, x.purpose = .probe e →
      P (endProbe x c o (replyHandover x o received).1 (replyHandover x o received).2 s))
    (hends : (∀ e, x.purpose ≠ .probe e) → s.ends x o → P (setProbe (x.after c o) o
      (endTransaction (x.after c o) o (replyHandover x o received).1 (replyHandover x o received).2 s)))
    (hwaits : (∀ e, x.purpose ≠ .probe e) → ¬s.ends x o →
      P (s.setLine { s.line with transaction := some (x.after c o) })) :
    P (attemptEnded x c o received s) := by
  by_cases hp : ∃ e, x.purpose = .probe e
  · obtain ⟨e, he⟩ := hp
    rw [attemptEnded_probe x c o received s e he]
    exact hprobe e he
  · have hp : ∀ e, x.purpose ≠ .probe e := fun e he => hp ⟨e, he⟩
    by_cases h : s.ends x o
    · rw [attemptEnded_ends x c o received s hp h]
      exact hends hp h
    · rw [attemptEnded_retries x c o received s hp h]
      exact hwaits hp h

/-! ### The health at the end -/

/-- The health after a transaction is that of its counts alone (R47). -/
theorem endTransaction_health (t : Transaction) (o : LineOutcome) (flags : StationFlags) (words : List Word) (s : State) :
    (endTransaction t o flags words s).line.healthA =
        (moveHealth t.made (s.setLine { s.line with transaction := none })).line.healthA ∧
      (endTransaction t o flags words s).line.healthB =
        (moveHealth t.made (s.setLine { s.line with transaction := none })).line.healthB := by
  let served := moveStation t.station t.made flags
    (deliverEnd t o words (moveHealth t.made (s.setLine { s.line with transaction := none })))
  have hnet : (endTransaction t o flags words s).line.network = served.line.network := by
    unfold endTransaction
    split <;> simp [served]
  obtain ⟨hA, hB, -, -⟩ := (network_iff _ _).1 hnet
  exact ⟨hA.trans (by simp [served]), hB.trans (by simp [served])⟩

theorem endTransaction_summaryFollows (t : Transaction) (o : LineOutcome) (flags : StationFlags) (words : List Word)
    (s : State) : s.summaryFollows (endTransaction t o flags words s) := by
  let moved := moveHealth t.made (s.setLine { s.line with transaction := none })
  let delivered := deliverEnd t o words moved
  let served := moveStation t.station t.made flags delivered
  have hnet : (endTransaction t o flags words s).line.network = served.line.network := by
    unfold endTransaction
    split <;> simp [served, delivered, moved]
  have h0 : s.summaryFollows (s.setLine { s.line with transaction := none }) := summaryFollows_of_network _ _ rfl
  have h1 := State.summaryFollows_trans _ _ _ h0 (moveHealth_summaryFollows t.made _)
  have h2 := State.summaryFollows_trans _ _ _ h1 (summaryFollows_of_network moved delivered (by simp [delivered]))
  have h3 := State.summaryFollows_trans _ _ _ h2 (moveStation_summaryFollows t.station t.made flags delivered)
  exact State.summaryFollows_trans _ _ _ h3 (summaryFollows_of_network served _ hnet)

/-- The state in which a probe's end acts on the SERVICE flag: its health moved, its words delivered, and its flags
written to the record of its station (R49, R64). -/
def probeTold (t : Transaction) (c : Channel) (o : LineOutcome) (flags : StationFlags) (words : List Word) (s : State) :
    State :=
  when ((s.setup.stations.get t.station).enabled && o.good)
    (fun u => changeStation t.station { u.line.stations.get t.station with flags } u)
    (deliverEnd t o words (moveProbeHealth c o (s.setLine { s.line with transaction := none })))

theorem endProbe_eq (t : Transaction) (c : Channel) (o : LineOutcome) (flags : StationFlags) (words : List Word)
    (s : State) :
    endProbe t c o flags words s =
      logEnd t o c 1 flags words (serviceFlag t.station flags (probeTold t c o flags words s)) := rfl

theorem probeTold_induct (P : State → Prop) (t : Transaction) (c : Channel) (o : LineOutcome) (flags : StationFlags)
    (words : List Word) (s : State)
    (h : ∀ x u, P u → P (changeStation t.station x u))
    (hs : P (deliverEnd t o words (moveProbeHealth c o (s.setLine { s.line with transaction := none })))) :
    P (probeTold t c o flags words s) :=
  when_induct P _ _ _ (fun _ => h _ _) hs

/-- The health after a probe: its own channel's count alone (R49). -/
theorem endProbe_health (t : Transaction) (c : Channel) (o : LineOutcome) (flags : StationFlags) (words : List Word)
    (s : State) :
    (endProbe t c o flags words s).line.health c =
        (if o.good then (s.line.health c).fallen else (s.line.health c).risen) ∧
      (endProbe t c o flags words s).line.health (otherChannel c) = s.line.health (otherChannel c) := by
  let q := s.setLine { s.line with transaction := none }
  have hq (d : Channel) : q.line.health d = s.line.health d := health_of_same _ _ rfl rfl d
  have hnet : (endProbe t c o flags words s).line.network = (probeTold t c o flags words s).line.network := by
    rw [endProbe_eq]
    simp
  have htold : (probeTold t c o flags words s).line.healthA = (moveProbeHealth c o q).line.healthA ∧
      (probeTold t c o flags words s).line.healthB = (moveProbeHealth c o q).line.healthB :=
    probeTold_induct (fun u => u.line.healthA = (moveProbeHealth c o q).line.healthA ∧
      u.line.healthB = (moveProbeHealth c o q).line.healthB) t c o flags words s
      (fun x u hu => by simpa using hu) (by simp [q])
  obtain ⟨hA, hB, -, -⟩ := (network_iff _ _).1 hnet
  have hall := health_of_same _ _ (hA.trans htold.1) (hB.trans htold.2)
  rw [hall, hall, moveProbeHealth, hq]
  exact ⟨changeHealth_same _ _ _, (changeHealth_other _ _ _).trans (hq _)⟩

theorem endProbe_summaryFollows (t : Transaction) (c : Channel) (o : LineOutcome) (flags : StationFlags)
    (words : List Word) (s : State) : s.summaryFollows (endProbe t c o flags words s) := by
  let q := s.setLine { s.line with transaction := none }
  have h0 : s.summaryFollows q := summaryFollows_of_network _ _ rfl
  have h1 := State.summaryFollows_trans _ _ _ h0 (changeHealth_summaryFollows c
    (if o.good then (q.line.health c).fallen else (q.line.health c).risen) q)
  have h2 : s.summaryFollows (probeTold t c o flags words s) :=
    probeTold_induct s.summaryFollows t c o flags words s
      (fun x u hu => State.summaryFollows_trans _ _ _ hu (changeStation_summaryFollows _ x u))
      (State.summaryFollows_trans _ _ _ h1 (summaryFollows_of_network _ _ (by simp [moveProbeHealth, q])))
  exact State.summaryFollows_trans _ _ _ h2 (summaryFollows_of_network _ _ (by rw [endProbe_eq]; simp))

theorem attemptEnded_summaryFollows (x : Transaction) (c : Channel) (o : LineOutcome) (received : List Byte)
    (s : State) : s.summaryFollows (attemptEnded x c o received s) :=
  attemptEnded_induct s.summaryFollows x c o received s (fun _ _ => endProbe_summaryFollows ..)
    (fun _ _ => State.summaryFollows_trans _ _ _
      (endTransaction_summaryFollows (x.after c o) o (replyHandover x o received).1 (replyHandover x o received).2 s)
      (summaryFollows_of_network _ _ (by simp)))
    (fun _ _ => summaryFollows_of_network _ _ rfl)

/-- With a good outcome the health moves by R47. -/
theorem attemptEnded_health_good (x : Transaction) (c : Channel) (o : LineOutcome) (received : List Byte) (s : State)
    (hp : ∀ e, x.purpose ≠ .probe e) (ho : o.good = true) :
    (attemptEnded x c o received s).line.health c = (s.line.health c).fallen ∧
      (attemptEnded x c o received s).line.health (otherChannel c) =
        if failedOn (otherChannel c) x.made then (s.line.health (otherChannel c)).risen
        else s.line.health (otherChannel c) := by
  let q := s.setLine { s.line with transaction := none }
  have hq (d : Channel) : q.line.health d = s.line.health d := health_of_same _ _ rfl rfl d
  rw [attemptEnded_ends x c o received s hp (.inl ho)]
  obtain ⟨hA, hB, -, -⟩ := (network_iff _ _).1 (setProbe_kept (x.after c o) o
    (endTransaction (x.after c o) o (replyHandover x o received).1 (replyHandover x o received).2 s)).2.1
  obtain ⟨kA, kB⟩ := endTransaction_health (x.after c o) o (replyHandover x o received).1
    (replyHandover x o received).2 s
  have hall := health_of_same _ _ (hA.trans kA) (hB.trans kB)
  have hgood := moveHealth_good c o x.made q ho
  rw [hq, hq] at hgood
  rw [hall, hall]
  exact hgood

/-- With an outcome that is not good the health stays as it is, whether a retry is left or not (R47). -/
theorem attemptEnded_health_failed (x : Transaction) (c : Channel) (o : LineOutcome) (received : List Byte) (s : State)
    (hp : ∀ e, x.purpose ≠ .probe e) (ho : o.good = false) :
    (attemptEnded x c o received s).line.healthA = s.line.healthA ∧
      (attemptEnded x c o received s).line.healthB = s.line.healthB := by
  refine attemptEnded_induct (fun t => t.line.healthA = s.line.healthA ∧ t.line.healthB = s.line.healthB) x c o received
    s (fun e he => absurd he (hp e)) (fun _ _ => ?_) (fun _ _ => ⟨rfl, rfl⟩)
  obtain ⟨hA, hB, -, -⟩ := (network_iff _ _).1 (setProbe_kept (x.after c o) o
    (endTransaction (x.after c o) o (replyHandover x o received).1 (replyHandover x o received).2 s)).2.1
  obtain ⟨kA, kB⟩ := endTransaction_health (x.after c o) o (replyHandover x o received).1
    (replyHandover x o received).2 s
  rw [Transaction.after, moveHealth_failed c o x.made _ ho] at kA kB
  exact ⟨hA.trans kA, hB.trans kB⟩

/-! ### The probe that a transaction sets down (R49) -/

theorem course_iff (b d : BodyLine) :
    d.course = b.course ↔ d.current = b.current ∧ d.minor = b.minor ∧ d.minorNext = b.minorNext ∧ d.walk = b.walk ∧
      d.phase = b.phase ∧ d.probeNext = b.probeNext ∧ d.probeMade = b.probeMade ∧ d.overrun = b.overrun := by
  simp [BodyLine.course]

/-- Only an OK fetch of an entry, in minor cycle 0 of RUN and with the major cycle's probe not yet used, is followed by a
probe. -/
theorem probeAfter_none (s : State) (t : Transaction) (o : LineOutcome)
    (h : (∀ e, t.purpose ≠ .entry e) ∨ t.dir = .deliver ∨ o ≠ .ok ∨ s.run.state ≠ .run ∨ s.line.minor ≠ 0 ∨
      s.line.probeMade = true) : s.probeAfter t o = none := by
  unfold State.probeAfter
  split
  · next e c o' made he hm =>
    refine if_neg ?_
    simp only [Bool.and_eq_true, decide_eq_true_eq, State.inRun, Bool.not_eq_true']
    rintro ⟨⟨⟨⟨⟨⟨⟨hr, hminor⟩, hmade⟩, hdir⟩, hok⟩, -⟩, -⟩, -⟩
    simp [he, hr, hminor, hmade, hdir, hok] at h
  · rfl

theorem probeAfter_some (s : State) (t : Transaction) (o : LineOutcome) (e : Nat) (c : Channel) (o' : LineOutcome)
    (made : List (Channel × LineOutcome)) (he : t.purpose = .entry e) (hm : t.made = (c, o') :: made)
    (hr : s.run.state = .run) (hminor : s.line.minor = 0) (hmade : s.line.probeMade = false) (hd : t.dir = .fetch)
    (ho : o = .ok) (hc : (s.line.health c).failed = false) (hother : (s.line.health (otherChannel c)).failed = true)
    (hfits : s.fits t.length = true) : s.probeAfter t o = some { t with purpose := .probe e, made := [(c, o)] } := by
  simp [State.probeAfter, he, hm, State.inRun, hr, hminor, hmade, hd, ho, hc, hother, hfits]

/-- A transaction that no probe follows leaves the probe to come as it was. -/
theorem attemptEnded_noProbe (x : Transaction) (c : Channel) (o : LineOutcome) (received : List Byte) (s : State)
    (h : (∀ e, x.purpose ≠ .entry e) ∨ x.dir = .deliver ∨ o ≠ .ok ∨ s.run.state ≠ .run ∨ s.line.minor ≠ 0 ∨
      s.line.probeMade = true) :
    (attemptEnded x c o received s).line.course = s.line.course := by
  refine attemptEnded_induct (fun t => t.line.course = s.line.course) x c o received s
    (fun _ _ => (endProbe_kept ..).1) (fun _ _ => ?_) (fun _ _ => rfl)
  let ended := endTransaction (x.after c o) o (replyHandover x o received).1 (replyHandover x o received).2 s
  have hcourse : ended.line.course = s.line.course := (endTransaction_kept ..).1
  obtain ⟨-, hminor, -, -, -, -, hmade, -⟩ := (course_iff _ _).1 hcourse
  have hnone : ended.probeAfter (x.after c o) o = none := by
    refine probeAfter_none ended (x.after c o) o ?_
    rw [hminor, hmade, show ended.run = s.run by simp [ended]]
    exact h
  change (setProbe (x.after c o) o ended).line.course = s.line.course
  rw [setProbe, hnone]
  exact hcourse

/-- The first OK fetch of minor cycle 0 on the channel IN_SERVICE sets down a probe of the FAILED one (R49). -/
theorem attemptEnded_setsProbe (x : Transaction) (c : Channel) (received : List Byte) (s : State) (e next : Nat)
    (he : x.purpose = .entry e) (hd : x.dir = .fetch) (hr : s.run.state = .run) (hminor : s.line.minor = 0)
    (hmade : s.line.probeMade = false) (hn : s.line.minorNext = some next) (hc : (s.line.health c).failed = false)
    (hother : (s.line.health (otherChannel c)).failed = true)
    (hfits : s.now + attemptBudget s.setup.settings.timeoutCode x.length ≤ next) :
    (attemptEnded x c .ok received s).line.probeNext = some { x with purpose := .probe e, made := [(c, .ok)] } ∧
      (attemptEnded x c .ok received s).line.probeMade = true := by
  have hp : ∀ d, x.purpose ≠ .probe d := fun d hd => by simp [he] at hd
  have hgood := attemptEnded_health_good x c .ok received s hp rfl
  let ended := endTransaction (x.after c .ok) .ok (replyHandover x .ok received).1 (replyHandover x .ok received).2 s
  have hended : attemptEnded x c .ok received s = setProbe (x.after c .ok) .ok ended :=
    attemptEnded_ends x c .ok received s hp (.inl rfl)
  obtain ⟨kA, kB, -, -⟩ := (network_iff _ _).1 (setProbe_kept (x.after c .ok) .ok ended).2.1
  rw [hended, health_of_same _ _ kA kB, health_of_same _ _ kA kB] at hgood
  obtain ⟨hfallen, hrisen⟩ := hgood
  obtain ⟨-, kminor, knext, -, -, -, kmade, -⟩ := (course_iff _ _).1
    (endTransaction_kept (x.after c .ok) .ok (replyHandover x .ok received).1 (replyHandover x .ok received).2 s).1
  have hsome : ended.probeAfter (x.after c .ok) .ok = some { x with purpose := .probe e, made := [(c, .ok)] } := by
    refine probeAfter_some ended (x.after c .ok) .ok e c .ok x.made he rfl (by simp [ended, hr]) (kminor.trans hminor)
      (kmade.trans hmade) hd rfl ?_ ?_ ?_
    · rw [hfallen, ChannelHealth.fallen, hc]
      rfl
    · rw [hrisen]
      split
      · rw [ChannelHealth.risen, hother]
        rfl
      · exact hother
    · rw [fits_budget ended _ next (knext.trans hn)]
      simpa [ended, Transaction.after] using hfits
  rw [hended, setProbe, hsome]
  exact ⟨rfl, rfl⟩

/-! ### The end of an attempt by its last character -/

/-- Out of RUN the emptied list moves neither the network nor the timetable. -/
theorem endAttempt_kept (a : Attempt) (o : LineOutcome) (x : Transaction) (s : State)
    (hx : s.line.transaction = some x) :
    (endAttempt a o s).line.network = (attemptEnded x a.channel o a.received s.turned).line.network ∧
      (endAttempt a o s).line.course = (attemptEnded x a.channel o a.received s.turned).line.course := by
  rw [endAttempt_eq a o x s hx]
  simp

/-- A probe that fits starts on the other channel than the one its fetch was made on (R49). -/
theorem probeDue_fits (p : Transaction) (s : State) (c : Channel) (o : LineOutcome)
    (made : List (Channel × LineOutcome)) (hm : p.made = (c, o) :: made) (h : s.fits p.length = true) :
    probeDue p s = startAttempt (otherChannel c) { p with made := [] } (s.setLine { s.line with probeNext := none }) := by
  simp only [probeDue, h, if_true, hm, finalChannel]

theorem probeDue_probeNext (p : Transaction) (s : State) : (probeDue p s).line.probeNext = none := by
  unfold probeDue
  split
  · rfl
  · let q := s.setLine { s.line with probeNext := none }
    exact when_induct (fun t => t.line.probeNext = none) q.inRun (fun t => walkOn t.line.walk t) q
      (fun _ hq => (walkOn_line q.line.walk q).2.2.2.2.trans hq) rfl

/-- Settles O33: the health and the summary are those of the end of the transaction or probe; nothing after it moves
them. -/
theorem channelHealthFollowsTheOutcomes : Obligations.ChannelHealthFollowsTheOutcomes := by
  refine ⟨fun s a x gap data h => ?reply, fun s a x t hp hr hx hprobe ht => ?timeout,
    fun s ends p c o made hp hx hn hm => ?probe⟩
  case reply =>
    refine ⟨_, lastCharacter_exec s a x gap data h, ?_⟩
    obtain ⟨-, hx, hnow, -⟩ := h
    let outcome := judgeReply x.station (a.received ++ [data])
    let ends := a.lastEnd + gap + 44
    let q := (s.reach ends).turned
    let u := attemptEnded x a.channel outcome (a.received ++ [data]) q
    let t := endAttempt (a.completed gap data) outcome (s.reach ends)
    have htime : t.now = ends := by
      simp only [t, endAttempt_frame]
      exact Nat.max_eq_right (by omega)
    obtain ⟨hnet, hcourse⟩ : t.line.network = u.line.network ∧ t.line.course = u.line.course :=
      endAttempt_kept (a.completed gap data) outcome x (s.reach ends) hx
    obtain ⟨hA, hB, -, -⟩ := (network_iff _ _).1 hnet
    obtain ⟨-, -, -, -, -, hprobeNext, hprobeMade, -⟩ := (course_iff _ _).1 hcourse
    have hu (c : Channel) : t.line.health c = u.line.health c := health_of_same _ _ hA hB c
    have hq (c : Channel) : q.line.health c = s.line.health c := health_of_same _ _ rfl rfl c
    refine ⟨htime, fun hprobe => ⟨fun ho => ?good, fun ho => ?failed⟩, fun e hprobe => ?probed, fun hne => ?summary,
      fun e next he hd hok hr hminor hmade hn hc hother hfits => ?sets, fun hnone => ?none⟩
    case good =>
      obtain ⟨hfallen, hother⟩ := attemptEnded_health_good x a.channel outcome (a.received ++ [data]) q hprobe ho
      rw [hq] at hfallen
      rw [hq] at hother
      refine ⟨?_, fun hany => ?_, fun hnone => ?_⟩
      · change (t.line.health _).count = _ ∧ ((t.line.health _).failed = _ ↔ _ ∧ (t.line.health _).count ≠ _)
        rw [hu, hfallen]
        exact fallen_spec _
      · change (t.line.health _).count = _ ∧ ((t.line.health _).failed = _ ↔ _ ∨ (t.line.health _).count = _)
        rw [hu, hother, if_pos ((failedOn_iff _ _).2 hany)]
        exact risen_spec _
      · refine (hu _).trans (hother.trans (if_neg fun hf => ?_))
        obtain ⟨m, hm, hc, hbad⟩ := (failedOn_iff _ _).1 hf
        simp [hnone m hm hc] at hbad
    case failed =>
      obtain ⟨kA, kB⟩ := attemptEnded_health_failed x a.channel outcome (a.received ++ [data]) q hprobe ho
      exact ⟨hA.trans kA, hB.trans kB⟩
    case probed =>
      obtain ⟨hown, hother⟩ := endProbe_health x a.channel outcome
        (replyHandover x outcome (a.received ++ [data])).1 (replyHandover x outcome (a.received ++ [data])).2 q
      rw [← attemptEnded_probe x a.channel outcome (a.received ++ [data]) q e hprobe, hq] at hown hother
      refine ⟨fun ho => ?_, fun ho => ?_, (hu _).trans hother⟩
      · change (t.line.health _).count = _ ∧ ((t.line.health _).failed = _ ↔ _ ∧ (t.line.health _).count ≠ _)
        rw [hu, hown, if_pos ho]
        exact fallen_spec _
      · change (t.line.health _).count = _ ∧ ((t.line.health _).failed = _ ↔ _ ∨ (t.line.health _).count = _)
        rw [hu, hown, if_neg (Bool.eq_false_iff.1 ho)]
        exact risen_spec _
    case summary =>
      have hfollows : q.summaryFollows t := State.summaryFollows_trans _ _ _
        (attemptEnded_summaryFollows x a.channel outcome (a.received ++ [data]) q) (summaryFollows_of_network u t hnet)
      exact hfollows.2 hne
    case sets =>
      have hqnow : t.now = q.now := (endAttempt_frame ..).2.1
      have hset := attemptEnded_setsProbe x a.channel (a.received ++ [data]) q e next he hd hr hminor hmade hn
        (by rw [hq]; exact hc) (by rw [hq]; exact hother) (by rw [← hqnow]; exact hfits)
      rw [← show outcome = .ok from hok] at hset
      exact ⟨hprobeNext.trans (hset.1.trans (by rw [show outcome = .ok from hok])), hprobeMade.trans hset.2⟩
    case none =>
      obtain ⟨-, -, -, -, -, knext, kmade, -⟩ := (course_iff _ _).1
        (attemptEnded_noProbe x a.channel outcome (a.received ++ [data]) q hnone)
      exact ⟨hprobeNext.trans knext, hprobeMade.trans kmade⟩
  case timeout =>
    obtain rfl : endAttempt a .noResponse (s.reach (s.replyBy a)) = t :=
      Host.Outcome.next.inj ((responseTimeout_exec s a hp hr).symm.trans ht)
    obtain ⟨hA, hB, -, -⟩ := (network_iff _ _).1 (endAttempt_kept a .noResponse x (s.reach (s.replyBy a)) hx).1
    obtain ⟨kA, kB⟩ := attemptEnded_health_failed x a.channel .noResponse a.received (s.reach (s.replyBy a)).turned
      hprobe rfl
    exact ⟨hA.trans kA, hB.trans kB⟩
  case probe =>
    have hexec : exec .turnaroundEnd s = .next (probeDue p (s.freed ends)) := by
      rw [turnaroundEnd_exec s ends hp, hx, hn]
    refine ⟨_, hexec, by simp [State.freed, State.reach], probeDue_probeNext _ _, fun next hnext hfits => ?_⟩
    obtain ⟨b, hline, hchannel, hstart, hreceived, hpoll⟩ := startAttempt_starts (otherChannel c) { p with made := [] }
      ((s.freed ends).setLine { (s.freed ends).line with probeNext := none })
    rw [probeDue_fits p (s.freed ends) c o made hm ((fits_budget (s.freed ends) _ next hnext).2 hfits)]
    exact ⟨b, hline, hchannel, hstart, hreceived, hpoll⟩

end Sys2Proof.Machine
end

section
/-! PROOFS. O34: an unread notice stays where it was posted, through all that follows it. -/

namespace Sys2Proof.Machine

/-! ### Unread notices (R182) -/

/-- Notice `n` stands unread at place `k` of the ring. -/
def State.holdsNotice (s : State) (k : BitVec 7) (n : Notice) : Prop :=
  s.port.ring.get k.toNat = n ∧ (k - s.port.noticeRead).toNat < s.unread.toNat

theorem holdsNotice_of_ring (s t : State) (k : BitVec 7) (n : Notice) (hring : t.port.ring = s.port.ring)
    (hwrite : t.port.noticeWrite = s.port.noticeWrite) (hread : t.port.noticeRead = s.port.noticeRead)
    (h : s.holdsNotice k n) : t.holdsNotice k n := by
  simpa [State.holdsNotice, State.unread, hring, hwrite, hread] using h

theorem holdsNotice_of_port (s t : State) (k : BitVec 7) (n : Notice) (hp : t.port = s.port) (h : s.holdsNotice k n) :
    t.holdsNotice k n := holdsNotice_of_ring s t k n (by rw [hp]) (by rw [hp]) (by rw [hp]) h

/-- A notice that finds room stands unread at the write place. -/
theorem post_holdsNotice_new (kind : NoticeKind) (index detail : Nat) (s : State) (h : s.unread ≠ 127#7) :
    (post kind index detail s).holdsNotice s.port.noticeWrite
      { kind, index := byteOf index, detail := BitVec.ofNat 16 detail, time := s.time } := by
  have hroom : ¬(s.port.noticeWrite - s.port.noticeRead = 127#7) := h
  simp only [State.holdsNotice, State.unread, post, Port.posted, State.setPort_port, if_neg hroom]
  exact ⟨Table.get_set_same _ _ _ s.port.noticeWrite.isLt, by bv_omega⟩

/-- A later notice is written behind the unread ones. -/
theorem post_holdsNotice (kind : NoticeKind) (index detail : Nat) (s : State) (k : BitVec 7) (n : Notice)
    (h : s.holdsNotice k n) : (post kind index detail s).holdsNotice k n := by
  simp only [State.holdsNotice, State.unread, post, Port.posted, State.setPort_port] at h ⊢
  obtain ⟨hn, hk⟩ := h
  split
  · exact ⟨hn, hk⟩
  · next hroom =>
    have hne : k.toNat ≠ s.port.noticeWrite.toNat := by
      intro he
      rw [BitVec.eq_of_toNat_eq he] at hk
      exact Nat.lt_irrefl _ hk
    exact ⟨(Table.get_set_other _ _ _ _ hne).trans hn, by bv_omega⟩

theorem writeStatus_holdsNotice (s : State) (k : BitVec 7) (n : Notice) (h : s.holdsNotice k n) :
    (writeStatus s).holdsNotice k n := holdsNotice_of_ring s _ k n rfl rfl rfl h

/-! ### The fault memory, the composition and the warnings (R112, R157) -/

theorem handOn_holdsNotice (index : Nat) (detail : FaultDetail) (change : State → State) (s : State) (k : BitVec 7)
    (n : Notice) (hc : (change s).port = s.port) (h : s.holdsNotice k n) :
    (handOn index detail change s).holdsNotice k n := by
  refine post_holdsNotice _ _ _ _ k n (when_induct (·.holdsNotice k n) _ _ _ (fun _ => ?_) ?_)
  · exact writeStatus_holdsNotice _ k n
  · exact holdsNotice_of_port s _ k n hc h

theorem occurrence_holdsNotice (code origin : Nat) (s : State) (k : BitVec 7) (n : Notice) (h : s.holdsNotice k n) :
    (occurrence code origin s).holdsNotice k n := by
  unfold occurrence
  split
  · exact handOn_holdsNotice _ _ _ s k n rfl h
  · split
    · exact handOn_holdsNotice _ _ _ s k n rfl h
    · split <;> exact handOn_holdsNotice _ _ _ s k n rfl h

theorem goneEvent_holdsNotice (code origin : Nat) (s : State) (k : BitVec 7) (n : Notice) (h : s.holdsNotice k n) :
    (goneEvent code origin s).holdsNotice k n := by
  unfold goneEvent
  split
  · exact when_induct (·.holdsNotice k n) _ _ s (fun _ => handOn_holdsNotice _ _ _ s k n rfl) h
  · exact h

theorem compose_holdsNotice (announce : Bool) (s : State) (k : BitVec 7) (n : Notice) (h : s.holdsNotice k n) :
    (compose announce s).holdsNotice k n := by
  unfold compose
  split
  · exact when_induct (·.holdsNotice k n) _ _ _ (fun _ => post_holdsNotice _ _ _ _ k n)
      (holdsNotice_of_port s _ k n rfl h)
  · split
    · exact h
    · exact holdsNotice_of_port s _ k n rfl h

theorem takeCondition_holdsNotice (w : Nat) (s : State) (k : BitVec 7) (n : Notice) (h : s.holdsNotice k n) :
    (takeCondition w s).holdsNotice k n := by
  unfold takeCondition
  split
  · refine compose_holdsNotice _ _ k n (when_induct (·.holdsNotice k n) _ _ _
      (fun _ => goneEvent_holdsNotice _ _ _ k n) (when_induct (·.holdsNotice k n) _ _ _
      (fun _ => occurrence_holdsNotice _ _ _ k n) (holdsNotice_of_port s _ k n ?_ h)))
    simp
  · exact h

theorem takeSource_holdsNotice (src : Source) (i : Nat) (s : State) (k : BitVec 7) (n : Notice)
    (h : s.holdsNotice k n) : (takeSource src i s).holdsNotice k n :=
  forEach_induct (·.holdsNotice k n) _ _ s (fun w _ t ht => takeCondition_holdsNotice w t k n ht) h

/-! ### The body line -/

theorem takeSummary_holdsNotice (s : State) (k : BitVec 7) (n : Notice) (h : s.holdsNotice k n) :
    (takeSummary s).holdsNotice k n :=
  when_induct (·.holdsNotice k n) _ _ s (fun _ _ => takeSource_holdsNotice _ _ _ k n
    (writeStatus_holdsNotice _ k n (holdsNotice_of_port s _ k n rfl h))) h

theorem serviceFlag_holdsNotice (a : Nat) (flags : StationFlags) (s : State) (k : BitVec 7) (n : Notice)
    (h : s.holdsNotice k n) : (serviceFlag a flags s).holdsNotice k n := holdsNotice_of_port s _ k n (by simp) h

theorem leaveHead_holdsNotice (s : State) (k : BitVec 7) (n : Notice) (h : s.holdsNotice k n) :
    (leaveHead s).holdsNotice k n := holdsNotice_of_port s _ k n (by simp) h

theorem notifyDone_holdsNotice (i : Nat) (code : ResultCode) (s : State) (k : BitVec 7) (n : Notice)
    (h : s.holdsNotice k n) : (notifyDone i code s).holdsNotice k n :=
  when_induct (·.holdsNotice k n) _ _ s (fun _ => post_holdsNotice _ _ _ _ k n) h

theorem slotFailed_holdsNotice (i : Nat) (code : ResultCode) (detail : Nat) (body : List Byte) (s : State)
    (k : BitVec 7) (n : Notice) (h : s.holdsNotice k n) : (slotFailed i code detail body s).holdsNotice k n :=
  notifyDone_holdsNotice _ _ _ k n (holdsNotice_of_port s _ k n (by simp) h)

theorem endTransfer_holdsNotice (slot : Nat) (o : LineOutcome) (flags : StationFlags) (c : Channel) (attempts : Nat)
    (words : List Word) (s : State) (k : BitVec 7) (n : Notice) (h : s.holdsNotice k n) :
    (endTransfer slot o flags c attempts words s).holdsNotice k n := by
  unfold endTransfer
  split
  · exact notifyDone_holdsNotice _ _ _ k n (holdsNotice_of_port s _ k n (by simp) h)
  · exact slotFailed_holdsNotice _ _ _ _ s k n h

theorem endService_holdsNotice (a : Nat) (o : LineOutcome) (words : List Word) (s : State) (k : BitVec 7) (n : Notice)
    (h : s.holdsNotice k n) : (endService a o words s).holdsNotice k n := by
  unfold endService
  split
  · exact post_holdsNotice _ _ _ _ k n (holdsNotice_of_port s _ k n rfl h)
  · exact holdsNotice_of_port s _ k n rfl h

theorem endOneShot_holdsNotice (a : Nat) (o : LineOutcome) (flags : StationFlags) (c : Channel) (attempts : Nat)
    (words : List Word) (s : State) (k : BitVec 7) (n : Notice) (h : s.holdsNotice k n) :
    (endOneShot a o flags c attempts words s).holdsNotice k n := by
  have hleft := leaveHead_holdsNotice s k n h
  unfold endOneShot
  split
  · exact serviceFlag_holdsNotice _ _ _ k n (endService_holdsNotice _ _ _ _ k n hleft)
  · exact endTransfer_holdsNotice _ _ _ _ _ _ _ k n (serviceFlag_holdsNotice _ _ _ k n hleft)
  · exact serviceFlag_holdsNotice _ _ _ k n h

theorem logEnd_holdsNotice (t : Transaction) (o : LineOutcome) (c : Channel) (attempts : Nat) (flags : StationFlags)
    (words : List Word) (s : State) (k : BitVec 7) (n : Notice) (h : s.holdsNotice k n) :
    (logEnd t o c attempts flags words s).holdsNotice k n := by
  refine when_induct (·.holdsNotice k n) _ _ s (fun _ hs => ?_) h
  have hwritten (b : BodyLine) : (writeStatus (s.setLine b)).holdsNotice k n :=
    writeStatus_holdsNotice _ k n (holdsNotice_of_port s _ k n rfl hs)
  unfold appendLog
  dsimp only
  split
  · exact post_holdsNotice _ _ _ _ k n (hwritten _)
  · split
    · exact post_holdsNotice _ _ _ _ k n (hwritten _)
    · exact hwritten _

theorem emptyList_holdsNotice (s : State) (k : BitVec 7) (n : Notice) (h : s.holdsNotice k n) :
    (emptyList s).holdsNotice k n := by
  unfold emptyList
  refine forEach_induct (·.holdsNotice k n) (List.range 16) clearPending _
    (fun a _ t ht => holdsNotice_of_port t _ k n (by simp) ht) (foldl_induct (·.holdsNotice k n) s.line.oneShots _ _
    (fun o _ t ht => ?_) (holdsNotice_of_port s _ k n rfl h))
  cases o with
  | transfer slot a b d l ws => exact slotFailed_holdsNotice _ _ _ _ t k n ht
  | service a => exact ht

/-- The STATION_CHANGE notice of a change of a station's state is the first that the change posts (R63). -/
theorem changeStation_holdsNotice (a : Nat) (x : Station) (s : State) (hx : x.state ≠ (s.line.stations.get a).state)
    (hu : s.unread ≠ 127#7) :
    (changeStation a x s).holdsNotice s.port.noticeWrite
      { kind := .stationChange, index := byteOf a, detail := BitVec.ofNat 16 x.state.code, time := s.time } := by
  have hposted := post_holdsNotice_new .stationChange a x.state.code (putStation a x s) hu
  unfold changeStation
  rw [decide_eq_true hx, when_true]
  exact takeSource_holdsNotice _ _ _ _ _ (takeSource_holdsNotice _ _ _ _ _
    (takeSummary_holdsNotice _ _ _ (holdsNotice_of_port _ _ _ _ (by simp) hposted)))

end Sys2Proof.Machine
end

section
/-! PROOFS. O34: the station records at the end of an attempt, with search mode, service pending and the one-shot list. -/

namespace Sys2Proof.Machine

/-! ### Station records -/

/-- The fields of a station record that ask for a service fetch and hold what it brought, all else blank (R69, R70). -/
def Station.asking (x : Station) : Station :=
  { servicePending := x.servicePending, deferred := x.deferred, mailboxLength := x.mailboxLength, mailbox := x.mailbox }

theorem Station.asking_iff (x y : Station) :
    x.asking = y.asking ↔ x.servicePending = y.servicePending ∧ x.mailboxLength = y.mailboxLength ∧
      x.mailbox = y.mailbox ∧ x.deferred = y.deferred := by
  simp [Station.asking]

theorem Station.counted_iff (x y : Station) :
    x.counted = y.counted ↔ x.state = y.state ∧ x.failures = y.failures ∧ x.flags = y.flags ∧ x.good = y.good ∧
      x.failed = y.failed ∧ x.lastGood = y.lastGood := by
  simp [Station.counted]

/-- The part has 16 stations; no other is enabled. -/
theorem station_of_enabled (u : Setup) (a : Nat) (h : (u.stations.get a).enabled = true) : a < 16 := by
  by_contra hn
  rw [Table.get_past _ _ (by omega)] at h
  cases h

theorem changeStation_get_same (a : Nat) (x : Station) (s : State) (h : a < 16) :
    (changeStation a x s).line.stations.get a = { x with upd := bump (s.line.stations.get a).upd } := by
  rw [(changeStation_kept a x s).2.2.2.1]
  exact putStation_get_same a x s h

theorem changeStation_get_other (a b : Nat) (x : Station) (s : State) (h : b ≠ a) :
    (changeStation a x s).line.stations.get b = s.line.stations.get b := by
  rw [(changeStation_kept a x s).2.2.2.1]
  exact putStation_get_other a b x s h

/-! ### Service pending (R69) -/

theorem askService_get_other (a b : Nat) (s : State) (h : b ≠ a) :
    (askService a s).line.stations.get b = s.line.stations.get b := by
  unfold askService
  split
  · exact putStation_get_other a b _ s h
  · exact putStation_get_other a b { s.line.stations.get a with servicePending := true } s h

/-- With a place in the list the service fetch joins its tail. -/
theorem askService_room (a : Nat) (s : State) (ha : a < 16) (h : s.line.oneShots.length < 4) :
    (askService a s).line.oneShots = s.line.oneShots ++ [.service a] ∧
      (askService a s).line.stations.get a =
        { s.line.stations.get a with servicePending := true, upd := bump (s.line.stations.get a).upd } := by
  have hroom : ¬s.listFull = true := by simpa [State.listFull] using h
  rw [askService, if_neg hroom]
  exact ⟨rfl, putStation_get_same a { s.line.stations.get a with servicePending := true } s ha⟩

/-- With the list full the service fetch is deferred. -/
theorem askService_full (a : Nat) (s : State) (ha : a < 16) (h : 4 ≤ s.line.oneShots.length) :
    (askService a s).line.oneShots = s.line.oneShots ∧
      (askService a s).line.stations.get a =
        { s.line.stations.get a with
          servicePending := true, deferred := true, upd := bump (s.line.stations.get a).upd } := by
  have hfull : s.listFull = true := by simpa [State.listFull] using h
  rw [askService, if_pos hfull]
  exact ⟨rfl, putStation_get_same a _ s ha⟩

theorem serviceFlag_asks (a : Nat) (flags : StationFlags) (s : State) (he : (s.setup.stations.get a).enabled = true)
    (hf : flags.service = true) (hp : (s.line.stations.get a).servicePending = false) :
    serviceFlag a flags s = askService a s := by
  simp [serviceFlag, he, hf, hp]

theorem serviceFlag_rests (a : Nat) (flags : StationFlags) (s : State)
    (h : (s.setup.stations.get a).enabled = false ∨ flags.service = false ∨
      (s.line.stations.get a).servicePending = true) : serviceFlag a flags s = s := by
  obtain h | h | h := h <;> simp [serviceFlag, h]

theorem serviceFlag_get_other (a b : Nat) (flags : StationFlags) (s : State) (h : b ≠ a) :
    (serviceFlag a flags s).line.stations.get b = s.line.stations.get b :=
  when_keeps (fun t => t.line.stations.get b) _ _ s fun t => askService_get_other a b t h

/-- The SERVICE flag of a reply reaches the station only with a good outcome (R42, R69). -/
theorem replyHandover_service (x : Transaction) (o : LineOutcome) (received : List Byte) :
    (replyHandover x o received).1.service =
      (o.good && (StationFlags.ofByte (received.getD 1 0#8)).service) := by
  cases ho : o.good with
  | true => rw [replyHandover_good x o received ho, Bool.true_and]
  | false => rw [replyHandover_failed x o received ho]; rfl

/-! ### Search mode (R50, R51) -/

theorem mem_enabledStations (u : Setup) (b : Nat) :
    b ∈ u.enabledStations ↔ 1 ≤ b ∧ b < 16 ∧ (u.stations.get b).enabled = true := by
  simp only [Setup.enabledStations, List.mem_filter, List.range_eq_range', List.drop_range', List.mem_range'_1, and_assoc]

/-- Search mode holds with some station enabled, and every enabled one SILENT. -/
theorem searchHolds_iff (s : State) :
    s.searchHolds = true ↔
      (∃ b, 1 ≤ b ∧ b < 16 ∧ (s.setup.stations.get b).enabled = true) ∧
        ∀ b, 1 ≤ b ∧ b < 16 ∧ (s.setup.stations.get b).enabled = true → (s.line.stations.get b).state = .silent := by
  simp only [State.searchHolds, Bool.and_eq_true, Bool.not_eq_true', List.isEmpty_eq_false_iff_exists_mem,
    List.all_eq_true, mem_enabledStations, decide_eq_true_eq]

/-- The summary of a line is DOWN and DEGRADED as R51 gives them. -/
theorem summaryNow_iff (s : State) :
    (s.summaryNow = .down ↔ (s.line.healthA.failed = true ∧ s.line.healthB.failed = true) ∨ s.line.search ≠ none) ∧
      (s.summaryNow = .degraded ↔
        s.line.search = none ∧ (s.line.healthA.failed = true ↔ ¬s.line.healthB.failed = true)) := by
  unfold State.summaryNow
  cases s.line.healthA.failed <;> cases s.line.healthB.failed <;> cases s.line.search <;> simp

/-- What search mode follows from one state to another, from the earlier's search mode and the later's setup, network and
station states alone. -/
theorem searchFollows_of_same (s q u t : State) (hsearch : q.line.search = s.line.search) (hsetup : t.setup = u.setup)
    (hnet : t.line.network = u.line.network)
    (hstate : ∀ b, (t.line.stations.get b).state = (u.line.stations.get b).state) (h : q.searchFollows u) :
    s.searchFollows t := by
  obtain ⟨hA, hB, ht, hsum⟩ := (network_iff _ _).1 hnet
  have hh := health_of_same _ _ hA hB
  simpa only [State.searchFollows, hsetup, hstate, hh, ht, hsum, hsearch] using h

/-- A change of a station's state hands search mode and the summary on. -/
theorem stationChanged_searchFollows (a : Nat) (x : Station) (s : State) : s.searchFollows (stationChanged a x s) := by
  have hline := stationChanged_line a x s
  have hsetup : (stationChanged a x s).setup = s.setup := by simp
  have hsummary := summaryNow_iff (takeSearch s)
  simp only [State.searchFollows, hsetup, hline]
  refine ⟨fun hsilent hnone p hp => ?begins, fun hsilent hsome => ?holds, fun hnot => ?ends, hsummary.1, hsummary.2⟩
  case begins =>
    rw [takeSearch_line, if_pos ((searchHolds_iff s).2 hsilent)]
    simp only [hnone, State.normalChannel, hp, Option.getD_some]
    refine ⟨fun hf => ?_, fun hf => ?_⟩
    · exact congrArg some (if_pos hf)
    · exact congrArg some (if_neg hf)
  case holds =>
    rw [takeSearch_line, if_pos ((searchHolds_iff s).2 hsilent)]
    exact if_pos (Option.isSome_iff_ne_none.2 hsome)
  case ends =>
    rw [takeSearch_line, if_neg fun h => hnot ((searchHolds_iff s).1 h)]

/-- From `s` to `t` search mode follows a change of the state of station `a`, and stays with none (R50). -/
def State.searchTold (s t : State) (a : Nat) : Prop :=
  ((t.line.stations.get a).state ≠ (s.line.stations.get a).state → s.searchFollows t) ∧
    ((t.line.stations.get a).state = (s.line.stations.get a).state → t.line.search = s.line.search)

theorem changeStation_searchTold (a : Nat) (x : Station) (s : State) (ha : a < 16) :
    s.searchTold (changeStation a x s) a := by
  have hline := changeStation_line a x s
  have hstate : ((changeStation a x s).line.stations.get a).state = x.state := by rw [changeStation_get_same a x s ha]
  rw [State.searchTold, hstate]
  refine ⟨fun hne => ?_, fun he => ?_⟩
  · rw [if_neg hne] at hline
    exact searchFollows_of_same _ _ _ _ rfl (by simp) (by rw [hline]) (by simp [hline])
      (stationChanged_searchFollows a x (putStation a x s))
  · rw [if_pos he] at hline
    rw [hline]
    rfl

theorem searchTold_of_same (s q u t : State) (a : Nat) (hsearch : q.line.search = s.line.search)
    (hq : (q.line.stations.get a).state = (s.line.stations.get a).state) (hsetup : t.setup = u.setup)
    (hnet : t.line.network = u.line.network)
    (hstate : ∀ b, (t.line.stations.get b).state = (u.line.stations.get b).state) (h : q.searchTold u a) :
    s.searchTold t a := by
  obtain ⟨-, -, ht, -⟩ := (network_iff _ _).1 hnet
  obtain ⟨hmoved, hsame⟩ := h
  rw [State.searchTold, hstate, ht, ← hq, ← hsearch]
  exact ⟨fun hne => searchFollows_of_same s q u t hsearch hsetup hnet hstate (hmoved hne), hsame⟩

end Sys2Proof.Machine
end

section
/-! PROOFS. O34: what the end of an attempt leaves of the station records, and the statement. -/

namespace Sys2Proof.Machine

/-! ### The station record at the end of an attempt (R63, R64) -/

/-- From `s` to `t` at most the counts of the enabled station `a` have moved: no other record, no one-shot, nothing of the
service fetch, and the setup stays (R63, R64). -/
def State.moves (s t : State) (a : Nat) : Prop :=
  t.setup = s.setup ∧ t.line.oneShots = s.line.oneShots ∧
    (t.line.stations.get a).asking = (s.line.stations.get a).asking ∧
    ∀ b, b ≠ a ∨ (s.setup.stations.get a).enabled = false → t.line.stations.get b = s.line.stations.get b

/-- State `q` has the setup, the station records, the one-shots and the search mode of `s`. -/
def State.sameStations (s q : State) : Prop :=
  q.setup = s.setup ∧ q.line.stations = s.line.stations ∧ q.line.oneShots = s.line.oneShots ∧
    q.line.search = s.line.search

theorem moves_of_same (s q : State) (a : Nat) (h : s.sameStations q) : s.moves q a := by
  obtain ⟨hsetup, hstations, hshots, -⟩ := h
  exact ⟨hsetup, hshots, by rw [hstations], fun b _ => by rw [hstations]⟩

theorem searchTold_of_none (s q : State) (a : Nat) (h : s.sameStations q) : s.searchTold q a := by
  obtain ⟨-, hstations, -, hsearch⟩ := h
  exact ⟨fun hne => absurd (by rw [hstations]) hne, fun _ => hsearch⟩

/-- A write of an enabled station's counts, in a state like `s`. -/
theorem moves_changeStation (s q : State) (a : Nat) (x : Station) (h : s.sameStations q)
    (he : (s.setup.stations.get a).enabled = true) (hx : x.asking = (q.line.stations.get a).asking) :
    s.moves (changeStation a x q) a ∧ s.searchTold (changeStation a x q) a := by
  have ha := station_of_enabled _ _ he
  obtain ⟨hsetup, hstations, hshots, hsearch⟩ := h
  refine ⟨⟨by simp [hsetup], by simp [hshots], ?_, fun b hb => ?_⟩, searchTold_of_same s q _ _ a hsearch
    (by rw [hstations]) rfl rfl (fun _ => rfl) (changeStation_searchTold a x q ha)⟩
  · rw [changeStation_get_same a x q ha, ← hstations]
    exact hx
  · obtain hb | hd := hb
    · rw [changeStation_get_other a b x q hb, hstations]
    · simp [hd] at he

/-- The state in which the end of a transaction turns to its one-shot or its SERVICE flag: the health moved, the words
delivered, and the station's record written (R47, R61, R63). -/
def stationTold (t : Transaction) (o : LineOutcome) (flags : StationFlags) (words : List Word) (s : State) : State :=
  moveStation t.station t.made flags
    (deliverEnd t o words (moveHealth t.made (s.setLine { s.line with transaction := none })))

theorem endTransaction_eq (t : Transaction) (o : LineOutcome) (flags : StationFlags) (words : List Word) (s : State) :
    endTransaction t o flags words s =
      logEnd t o (finalChannel t.made s.normalChannel) t.made.length flags words
        (if t.purpose = .oneShot then
          endOneShot t.station o flags (finalChannel t.made s.normalChannel) t.made.length words
            (stationTold t o flags words s)
        else serviceFlag t.station flags (stationTold t o flags words s)) := rfl

/-- The state in which a transaction's station record is written, of the final attempt with outcome `o`. -/
theorem beforeStation_same (t : Transaction) (o : LineOutcome) (words : List Word) (s : State) :
    s.sameStations (deliverEnd t o words (moveHealth t.made (s.setLine { s.line with transaction := none }))) := by
  simp [State.sameStations]

/-- The record that the end of a transaction gives its station (R63). -/
def Station.ended (y : Station) (o : LineOutcome) (flags : StationFlags) (limit : Nat) (time : Time) : Station :=
  if o.good then y.goodEnd flags time else y.failedEnd limit

theorem Station.ended_asking (y : Station) (o : LineOutcome) (flags : StationFlags) (limit : Nat) (time : Time) :
    (y.ended o flags limit time).asking = y.asking := by
  unfold Station.ended
  split <;> rfl

theorem stationTold_disabled (x : Transaction) (c : Channel) (o : LineOutcome) (flags : StationFlags)
    (words : List Word) (s : State) (he : (s.setup.stations.get x.station).enabled = false) :
    s.sameStations (stationTold (x.after c o) o flags words s) := by
  let q := deliverEnd (x.after c o) o words
    (moveHealth (x.after c o).made (s.setLine { s.line with transaction := none }))
  have hq : s.sameStations q := beforeStation_same (x.after c o) o words s
  have hset : q.setup = s.setup := hq.1
  have hstays : stationTold (x.after c o) o flags words s = q := by
    change when (q.setup.stations.get x.station).enabled _ q = q
    rw [hset, he, when_false]
  exact hstays ▸ hq

/-- The end of a transaction writes the record of its enabled station. -/
theorem stationTold_enabled (x : Transaction) (c : Channel) (o : LineOutcome) (flags : StationFlags)
    (words : List Word) (s : State) (he : (s.setup.stations.get x.station).enabled = true) :
    ∃ q, s.sameStations q ∧ stationTold (x.after c o) o flags words s =
      changeStation x.station ((s.line.stations.get x.station).ended o flags
        (s.setup.stations.get x.station).silentLimit s.time) q ∧
      (o.good = false → q.port = s.port ∧ q.now = s.now) := by
  let q := deliverEnd (x.after c o) o words
    (moveHealth (x.after c o).made (s.setLine { s.line with transaction := none }))
  have hq : s.sameStations q := beforeStation_same (x.after c o) o words s
  have htime : q.time = s.time := by simp [q, State.time, State.ms]
  refine ⟨q, hq, ?_, fun ho => ?_⟩
  · obtain ⟨hset, hstations, -⟩ := hq
    change when (q.setup.stations.get x.station).enabled (changeStation x.station ((q.line.stations.get x.station).ended
      o flags (q.setup.stations.get x.station).silentLimit q.time)) q = _
    rw [hset, he, when_true, hstations, htime]
  · have hok : o ≠ .ok := by
      rintro rfl
      cases ho
    simp only [q]
    rw [deliverEnd_none _ _ _ _ (.inr (.inr (.inl hok))), Transaction.after, moveHealth_failed _ _ _ _ ho]
    exact ⟨rfl, rfl⟩

theorem stationTold_moves (x : Transaction) (c : Channel) (o : LineOutcome) (flags : StationFlags)
    (words : List Word) (s : State) :
    s.moves (stationTold (x.after c o) o flags words s) x.station ∧
      s.searchTold (stationTold (x.after c o) o flags words s) x.station := by
  cases he : (s.setup.stations.get x.station).enabled with
  | false =>
    have hsame := stationTold_disabled x c o flags words s he
    exact ⟨moves_of_same _ _ _ hsame, searchTold_of_none _ _ _ hsame⟩
  | true =>
    obtain ⟨q, hq, htold, -⟩ := stationTold_enabled x c o flags words s he
    rw [htold]
    exact moves_changeStation s q x.station _ hq he
      ((Station.ended_asking ..).trans (by rw [hq.2.1]))

/-- A probe writes no record but the flags of its enabled station, and those only with a good reply (R64). -/
theorem probeTold_moves (x : Transaction) (c : Channel) (o : LineOutcome) (flags : StationFlags) (words : List Word)
    (s : State) :
    s.moves (probeTold x c o flags words s) x.station ∧ s.searchTold (probeTold x c o flags words s) x.station ∧
      (o.good = false → (probeTold x c o flags words s).line.stations = s.line.stations) ∧
      (o.good = true → (s.setup.stations.get x.station).enabled = true →
        ((probeTold x c o flags words s).line.stations.get x.station).counted =
          ({ s.line.stations.get x.station with flags } : Station).counted) := by
  let q := deliverEnd x o words (moveProbeHealth c o (s.setLine { s.line with transaction := none }))
  have hq : s.sameStations q := by simp [q, State.sameStations, moveProbeHealth]
  have htold : probeTold x c o flags words s = when ((s.setup.stations.get x.station).enabled && o.good)
      (fun u => changeStation x.station { u.line.stations.get x.station with flags } u) q := rfl
  cases h : ((s.setup.stations.get x.station).enabled && o.good) with
  | false =>
    rw [htold, h, when_false]
    refine ⟨moves_of_same _ _ _ hq, searchTold_of_none _ _ _ hq, fun _ => hq.2.1, fun ho he => ?_⟩
    simp [ho, he] at h
  | true =>
    obtain ⟨he, ho⟩ := Bool.and_eq_true_iff.1 h
    rw [htold, h, when_true]
    obtain ⟨hmoves, htells⟩ := moves_changeStation s q x.station { q.line.stations.get x.station with flags } hq he rfl
    refine ⟨hmoves, htells, fun hbad => by simp [ho] at hbad, fun _ _ => ?_⟩
    rw [changeStation_get_same _ _ _ (station_of_enabled _ _ he), hq.2.1]
    rfl

end Sys2Proof.Machine
end

section
/-! PROOFS. O34: what follows the write of the station record, up to the end of the attempt. -/

namespace Sys2Proof.Machine

/-! ### What follows the write of the record -/

/-- From `v` to `u` the setup, the network and every station's counts stay. -/
def State.keepsCounts (v u : State) : Prop :=
  u.setup = v.setup ∧ u.line.network = v.line.network ∧
    ∀ b, (u.line.stations.get b).counted = (v.line.stations.get b).counted

theorem keepsCounts_trans (v u t : State) (h : v.keepsCounts u) (k : u.keepsCounts t) : v.keepsCounts t := by
  obtain ⟨hsetup, hnet, hcounted⟩ := h
  obtain ⟨ksetup, knet, kcounted⟩ := k
  exact ⟨ksetup.trans hsetup, knet.trans hnet, fun b => (kcounted b).trans (hcounted b)⟩

theorem searchTold_kept (s v t : State) (a : Nat) (h : s.searchTold v a) (k : v.keepsCounts t) : s.searchTold t a := by
  obtain ⟨hsetup, hnet, hcounted⟩ := k
  exact searchTold_of_same s s v t a rfl rfl hsetup hnet (fun b => ((Station.counted_iff _ _).1 (hcounted b)).1) h

/-- The stations and the one-shots of `u` are those of `v` with the SERVICE flag acted on (R69). -/
def State.flagged (v u : State) (a : Nat) (flags : StationFlags) : Prop :=
  u.line.stations = (serviceFlag a flags v).line.stations ∧ u.line.oneShots = (serviceFlag a flags v).line.oneShots

theorem endOneShot_none (a : Nat) (o : LineOutcome) (flags : StationFlags) (c : Channel) (attempts : Nat)
    (words : List Word) (v : State) (h : v.line.oneShots = []) :
    endOneShot a o flags c attempts words v = serviceFlag a flags v := by
  simp only [endOneShot, h]

theorem endTransaction_follows (t : Transaction) (o : LineOutcome) (flags : StationFlags) (words : List Word)
    (s : State) :
    (stationTold t o flags words s).keepsCounts (endTransaction t o flags words s) ∧
      (t.purpose ≠ .oneShot ∨ s.line.oneShots = [] →
        (stationTold t o flags words s).flagged (endTransaction t o flags words s) t.station flags) := by
  rw [endTransaction_eq]
  refine ⟨?_, fun h => ?_⟩
  · split <;> simp [State.keepsCounts]
  · have hflag : (if t.purpose = .oneShot then
          endOneShot t.station o flags (finalChannel t.made s.normalChannel) t.made.length words
            (stationTold t o flags words s)
        else serviceFlag t.station flags (stationTold t o flags words s)) =
        serviceFlag t.station flags (stationTold t o flags words s) := by
      obtain hp | hnone := h
      · exact if_neg hp
      · rw [endOneShot_none _ _ _ _ _ _ _ (by simp [stationTold, hnone]), ite_self]
    rw [hflag]
    simp [State.flagged]

theorem endProbe_follows (x : Transaction) (c : Channel) (o : LineOutcome) (flags : StationFlags) (words : List Word)
    (s : State) :
    (probeTold x c o flags words s).keepsCounts (endProbe x c o flags words s) ∧
      (probeTold x c o flags words s).flagged (endProbe x c o flags words s) x.station flags := by
  rw [endProbe_eq]
  simp [State.keepsCounts, State.flagged]

/-- Every end of an attempt moves at most the counts of its station, and then acts on the SERVICE flag, beside the one-shot
that ends. -/
theorem attemptEnded_told (x : Transaction) (c : Channel) (o : LineOutcome) (received : List Byte) (s : State) :
    ∃ v, s.moves v x.station ∧ s.searchTold v x.station ∧ v.keepsCounts (attemptEnded x c o received s) ∧
      (x.purpose ≠ .oneShot ∨ s.line.oneShots = [] →
        v.flagged (attemptEnded x c o received s) x.station (replyHandover x o received).1) := by
  refine attemptEnded_induct (fun u => ∃ v, s.moves v x.station ∧ s.searchTold v x.station ∧ v.keepsCounts u ∧
    (x.purpose ≠ .oneShot ∨ s.line.oneShots = [] → v.flagged u x.station (replyHandover x o received).1)) x c o received s
    (fun e he => ?probe) (fun hp h => ?ends) (fun hp h => ?waits)
  case probe =>
    obtain ⟨hmoves, htells, -⟩ := probeTold_moves x c o (replyHandover x o received).1 (replyHandover x o received).2 s
    obtain ⟨hkeeps, hflag⟩ := endProbe_follows x c o (replyHandover x o received).1 (replyHandover x o received).2 s
    exact ⟨_, hmoves, htells, hkeeps, fun _ => hflag⟩
  case ends =>
    obtain ⟨hmoves, htells⟩ := stationTold_moves x c o (replyHandover x o received).1 (replyHandover x o received).2 s
    obtain ⟨hkeeps, hflag⟩ :=
      endTransaction_follows (x.after c o) o (replyHandover x o received).1 (replyHandover x o received).2 s
    refine ⟨_, hmoves, htells, keepsCounts_trans _ _ _ hkeeps (by simp [State.keepsCounts]), fun hshot => ?_⟩
    obtain ⟨hstations, hshots⟩ := hflag hshot
    exact ⟨(setProbe_kept ..).2.2.1.trans hstations, (setProbe_kept ..).2.2.2.1.trans hshots⟩
  case waits =>
    have ho : o.good = false := Bool.eq_false_iff.2 fun ho => h (.inl ho)
    have hsame : s.sameStations s := ⟨rfl, rfl, rfl, rfl⟩
    refine ⟨s, moves_of_same s s _ hsame, searchTold_of_none s s _ hsame, ⟨rfl, rfl, fun _ => rfl⟩, fun _ => ?_⟩
    rw [replyHandover_failed x o received ho]
    rw [State.flagged, serviceFlag_rests _ _ s (.inr (.inl rfl))]
    exact ⟨rfl, rfl⟩

/-! ### The end of the attempt (R43, R52) -/

theorem endAttempt_keepsCounts (a : Attempt) (o : LineOutcome) (x : Transaction) (s : State)
    (hx : s.line.transaction = some x) :
    (attemptEnded x a.channel o a.received s.turned).keepsCounts (endAttempt a o s) := by
  rw [endAttempt_eq a o x s hx]
  simp [State.keepsCounts]

theorem endAttempt_inRun (a : Attempt) (o : LineOutcome) (x : Transaction) (s : State)
    (hx : s.line.transaction = some x) (hr : s.run.state = .run) :
    endAttempt a o s = attemptEnded x a.channel o a.received s.turned := by
  rw [endAttempt_eq a o x s hx]
  simp [State.inRun, hr]

/-- A change of the state of the attempt's station has search mode and the summary follow, and search mode moves with nothing
else (R50, R51). -/
theorem endAttempt_searchTold (a : Attempt) (o : LineOutcome) (x : Transaction) (s : State)
    (hx : s.line.transaction = some x) : s.searchTold (endAttempt a o s) x.station := by
  obtain ⟨v, -, htells, hkeeps, -⟩ := attemptEnded_told x a.channel o a.received s.turned
  have htold : s.searchTold v x.station := htells
  exact searchTold_kept s v _ _ htold (keepsCounts_trans _ _ _ hkeeps (endAttempt_keepsCounts a o x s hx))

/-- In RUN an attempt that ends no one-shot leaves the stations and the list of one that moved counts at most, with the
SERVICE flag acted on. -/
theorem endAttempt_flagged (a : Attempt) (o : LineOutcome) (x : Transaction) (s : State)
    (hx : s.line.transaction = some x) (hr : s.run.state = .run) (h : x.purpose ≠ .oneShot ∨ s.line.oneShots = []) :
    ∃ v, s.moves v x.station ∧ v.flagged (endAttempt a o s) x.station (replyHandover x o a.received).1 := by
  obtain ⟨v, hmoves, -, -, hflag⟩ := attemptEnded_told x a.channel o a.received s.turned
  rw [endAttempt_inRun a o x s hx hr]
  exact ⟨v, hmoves, hflag h⟩

/-- The counts of the enabled station of a transaction that ends (R63). -/
theorem endAttempt_counted (a : Attempt) (o : LineOutcome) (x : Transaction) (s : State)
    (hx : s.line.transaction = some x) (hp : ∀ e, x.purpose ≠ .probe e) (h : s.ends x o)
    (he : (s.setup.stations.get x.station).enabled = true) :
    ((endAttempt a o s).line.stations.get x.station).counted =
      ((s.line.stations.get x.station).ended o (replyHandover x o a.received).1
        (s.setup.stations.get x.station).silentLimit s.time).counted := by
  obtain ⟨-, -, hattempt⟩ := endAttempt_keepsCounts a o x s hx
  obtain ⟨⟨-, -, hkeeps⟩, -⟩ := endTransaction_follows (x.after a.channel o) o (replyHandover x o a.received).1
    (replyHandover x o a.received).2 s.turned
  obtain ⟨q, -, htold, -⟩ := stationTold_enabled x a.channel o (replyHandover x o a.received).1
    (replyHandover x o a.received).2 s.turned he
  have hu : attemptEnded x a.channel o a.received s.turned = _ := attemptEnded_ends x a.channel o a.received s.turned hp h
  rw [hattempt, hu, (setProbe_kept ..).2.2.1, hkeeps, htold, changeStation_get_same _ _ _ (station_of_enabled _ _ he)]
  rfl

/-- The counts of the enabled station of a probe with a good reply: its flags alone (R64). -/
theorem endAttempt_probed (a : Attempt) (o : LineOutcome) (x : Transaction) (s : State) (e : Nat)
    (hx : s.line.transaction = some x) (hp : x.purpose = .probe e) (ho : o.good = true)
    (he : (s.setup.stations.get x.station).enabled = true) :
    ((endAttempt a o s).line.stations.get x.station).counted =
      ({ s.line.stations.get x.station with flags := (replyHandover x o a.received).1 } : Station).counted := by
  obtain ⟨-, -, hattempt⟩ := endAttempt_keepsCounts a o x s hx
  obtain ⟨⟨-, -, hkeeps⟩, -⟩ := endProbe_follows x a.channel o (replyHandover x o a.received).1
    (replyHandover x o a.received).2 s.turned
  obtain ⟨-, -, -, hcounted⟩ := probeTold_moves x a.channel o (replyHandover x o a.received).1
    (replyHandover x o a.received).2 s.turned
  rw [hattempt, attemptEnded_probe x a.channel o a.received s.turned e hp, hkeeps, hcounted ho he]
  rfl

/-- A probe that brings no good reply leaves every record (R64). -/
theorem endAttempt_probeFailed (a : Attempt) (o : LineOutcome) (x : Transaction) (s : State) (e : Nat)
    (hx : s.line.transaction = some x) (hp : x.purpose = .probe e) (hr : s.run.state = .run) (ho : o.good = false) :
    (endAttempt a o s).line.stations = s.line.stations := by
  obtain ⟨-, hflag, -⟩ := endProbe_follows x a.channel o (replyHandover x o a.received).1
    (replyHandover x o a.received).2 s.turned
  obtain ⟨-, -, hsame, -⟩ := probeTold_moves x a.channel o (replyHandover x o a.received).1
    (replyHandover x o a.received).2 s.turned
  rw [endAttempt_inRun a o x s hx hr, attemptEnded_probe x a.channel o a.received s.turned e hp, hflag,
    serviceFlag_rests, hsame ho]
  · rfl
  · rw [replyHandover_failed x o a.received ho]
    exact .inr (.inl rfl)

/-- The STATION_CHANGE notice of a failed transaction is the first of its end (R63). -/
theorem endTransaction_holdsNotice (x : Transaction) (c : Channel) (o : LineOutcome) (flags : StationFlags)
    (words : List Word) (s : State) (y : Station) (ho : o.good = false)
    (he : (s.setup.stations.get x.station).enabled = true)
    (hy : y = (s.line.stations.get x.station).ended o flags (s.setup.stations.get x.station).silentLimit s.time)
    (hne : y.state ≠ (s.line.stations.get x.station).state) (hu : s.unread ≠ 127#7) :
    (endTransaction (x.after c o) o flags words s).holdsNotice s.port.noticeWrite
      { kind := .stationChange, index := byteOf x.station, detail := BitVec.ofNat 16 y.state.code, time := s.time } := by
  obtain ⟨q, ⟨-, hstations, -⟩, htold, hsame⟩ := stationTold_enabled x c o flags words s he
  obtain ⟨hport, hnow⟩ := hsame ho
  have hqtime : q.time = s.time := by simp only [State.time, State.ms, hnow]
  have hholds := changeStation_holdsNotice x.station y q (by rw [hstations]; exact hne)
    (by rw [State.unread, hport]; exact hu)
  rw [hport, hqtime] at hholds
  rw [endTransaction_eq, htold, ← hy]
  refine logEnd_holdsNotice _ _ _ _ _ _ _ _ _ ?_
  split
  · exact endOneShot_holdsNotice _ _ _ _ _ _ _ _ _ hholds
  · exact serviceFlag_holdsNotice _ _ _ _ _ hholds

/-- An unread notice of a transaction's end stands unread after the attempt. -/
theorem endAttempt_holdsNotice (a : Attempt) (o : LineOutcome) (x : Transaction) (s : State) (k : BitVec 7) (n : Notice)
    (hx : s.line.transaction = some x) (hp : ∀ e, x.purpose ≠ .probe e) (h : s.ends x o)
    (hn : (endTransaction (x.after a.channel o) o (replyHandover x o a.received).1 (replyHandover x o a.received).2
      s.turned).holdsNotice k n) : (endAttempt a o s).holdsNotice k n := by
  rw [endAttempt_eq a o x s hx, attemptEnded_ends x a.channel o a.received s.turned hp h]
  exact when_induct (·.holdsNotice k n) _ _ _ (fun _ => emptyList_holdsNotice _ k n)
    (holdsNotice_of_port _ _ k n (setProbe_frame ..).2.2.2.1 hn)

/-- The notice stands where the write place of the ring was (R63). -/
theorem endAttempt_notice (a : Attempt) (o : LineOutcome) (x : Transaction) (s : State)
    (hx : s.line.transaction = some x) (hp : ∀ e, x.purpose ≠ .probe e) (h : s.ends x o) (ho : o.good = false)
    (he : (s.setup.stations.get x.station).enabled = true)
    (hne : ((endAttempt a o s).line.stations.get x.station).state ≠ (s.line.stations.get x.station).state)
    (hu : s.unread ≠ 127#7) :
    (endAttempt a o s).port.ring.get s.port.noticeWrite.toNat =
      { kind := .stationChange, index := byteOf x.station
        detail := BitVec.ofNat 16 ((endAttempt a o s).line.stations.get x.station).state.code, time := s.time } := by
  have hstate := ((Station.counted_iff _ _).1 (endAttempt_counted a o x s hx hp h he)).1
  have hline : s.turned.line.stations = s.line.stations := rfl
  have hsetup : s.turned.setup = s.setup := rfl
  have hport : s.turned.port = s.port := rfl
  have htime : s.turned.time = s.time := rfl
  have hholds := endTransaction_holdsNotice x a.channel o (replyHandover x o a.received).1
    (replyHandover x o a.received).2 s.turned _ ho he rfl
  rw [hline, hsetup, htime, hport, ← hstate, State.unread, hport] at hholds
  exact (endAttempt_holdsNotice a o x s _ _ hx hp h (hholds hne hu)).1

end Sys2Proof.Machine
end

section
/-! PROOFS. O34: a service fetch that ends, and the statement. -/

namespace Sys2Proof.Machine

/-! ### A service fetch that ends (R66, R69, R70) -/

/-- With no fetch deferred the head leaves, and the list closes up (R66). -/
theorem leaveHead_line (v : State) (o : OneShot) (rest : List OneShot) (h : v.line.oneShots = o :: rest)
    (hd : ∀ b, b < 16 → (v.line.stations.get b).deferred = false) :
    (leaveHead v).line = { v.line with oneShots := rest } := by
  have hnone : (v.setLine { v.line with oneShots := rest }).deferredStation = none := by
    simpa [State.deferredStation] using hd
  simp only [leaveHead, h, List.drop_one, List.tail_cons, serveDeferred, hnone, State.setLine_line]

/-- In `u` a service fetch of station `a` has ended and left `rest` of the list, with the mailbox of record `served`, and
asked again where `service` is set. -/
def State.fetched (u : State) (a : Nat) (service : Bool) (rest : List OneShot) (served : Station) : Prop :=
  (u.line.stations.get a).servicePending = service ∧
    u.line.oneShots = (if service then rest ++ [.service a] else rest) ∧
    (u.line.stations.get a).mailboxLength = served.mailboxLength ∧
    (u.line.stations.get a).mailbox = served.mailbox

theorem fetched_of_same (u t : State) (a : Nat) (service : Bool) (rest : List OneShot) (served : Station)
    (hstations : t.line.stations = u.line.stations) (hshots : t.line.oneShots = u.line.oneShots)
    (h : u.fetched a service rest served) : t.fetched a service rest served := by
  simpa only [State.fetched, hstations, hshots] using h

/-- A service fetch that ends leaves the list, fills the mailbox with an OK reply, and asks again where the reply's SERVICE
flag is set (R66, R69, R70). -/
theorem endOneShot_service (a : Nat) (o : LineOutcome) (flags : StationFlags) (c : Channel) (attempts : Nat)
    (words : List Word) (v : State) (rest : List OneShot) (h : v.line.oneShots = .service a :: rest)
    (hd : ∀ b, b < 16 → (v.line.stations.get b).deferred = false) (hroom : rest.length < 4)
    (he : (v.setup.stations.get a).enabled = true) :
    (endOneShot a o flags c attempts words v).fetched a flags.service rest
      ((v.line.stations.get a).served o words) := by
  have ha := station_of_enabled _ _ he
  let w := endService a o words (leaveHead v)
  have hleft := leaveHead_line v _ rest h hd
  have hw : w.line = (putStation a ((v.line.stations.get a).served o words)
      (v.setLine { v.line with oneShots := rest })).line := by
    rw [show w.line = _ from endService_line a o words (leaveHead v), putStation, hleft]
    rfl
  have hlist : w.line.oneShots = rest := by rw [hw]; rfl
  have hrecord : w.line.stations.get a =
      { (v.line.stations.get a).served o words with upd := bump (v.line.stations.get a).upd } := by
    rw [hw, putStation_get_same a _ _ ha]
    rfl
  have hend : endOneShot a o flags c attempts words v = serviceFlag a flags w := by
    simp only [endOneShot, h]
    rfl
  rw [hend, State.fetched]
  cases hf : flags.service with
  | false =>
    rw [serviceFlag_rests a flags w (.inr (.inl hf)), hrecord, hlist]
    exact ⟨rfl, rfl, rfl, rfl⟩
  | true =>
    have hwe : (w.setup.stations.get a).enabled = true := by simpa [w] using he
    obtain ⟨hshots, hasked⟩ := askService_room a w ha (hlist ▸ hroom)
    rw [serviceFlag_asks a flags w hwe hf (by rw [hrecord]; rfl), hasked, hshots, hrecord, hlist]
    exact ⟨rfl, rfl, rfl, rfl⟩

/-- The service fetch of an enabled station whose attempt ends it in RUN. -/
theorem endAttempt_service (a : Attempt) (o : LineOutcome) (x : Transaction) (s : State) (rest : List OneShot)
    (hx : s.line.transaction = some x) (hp : x.purpose = .oneShot) (hr : s.run.state = .run) (hends : s.ends x o)
    (h : s.line.oneShots = .service x.station :: rest)
    (hd : ∀ b, b < 16 → (s.line.stations.get b).deferred = false) (hroom : rest.length < 4)
    (he : (s.setup.stations.get x.station).enabled = true) :
    (endAttempt a o s).fetched x.station (replyHandover x o a.received).1.service rest
      ((s.line.stations.get x.station).served o (replyHandover x o a.received).2) := by
  let flags := (replyHandover x o a.received).1
  let words := (replyHandover x o a.received).2
  let v := stationTold (x.after a.channel o) o flags words s.turned
  obtain ⟨⟨hsetup, hshots, hasking, hothers⟩, -⟩ := stationTold_moves x a.channel o flags words s.turned
  obtain ⟨-, hlength, hmailbox, hdeferred⟩ := (Station.asking_iff _ _).1 hasking
  have hvdeferred : ∀ b, b < 16 → (v.line.stations.get b).deferred = false := by
    intro b hb
    by_cases hsame : b = x.station
    · rw [hsame, hdeferred]
      exact hd _ (hsame ▸ hb)
    · rw [hothers b (.inl hsame)]
      exact hd b hb
  have hve : (v.setup.stations.get x.station).enabled = true := hsetup ▸ he
  have hfetched := endOneShot_service x.station o flags
    (finalChannel (x.after a.channel o).made s.turned.normalChannel) (x.after a.channel o).made.length words v rest
    (hshots.trans h) hvdeferred hroom hve
  have hclosed : (endTransaction (x.after a.channel o) o flags words s.turned).fetched x.station flags.service rest
      ((v.line.stations.get x.station).served o words) := by
    rw [endTransaction_eq, if_pos (show (x.after a.channel o).purpose = .oneShot from hp)]
    exact fetched_of_same _ _ _ _ _ _ (logEnd_kept ..).2.2.1 (logEnd_kept ..).2.2.2.1 hfetched
  rw [endAttempt_inRun a o x s hx hr, attemptEnded_ends x a.channel o a.received s.turned
    (fun e he => by simp [hp] at he) hends]
  have hset := fetched_of_same _ _ _ _ _ _ (setProbe_kept (x.after a.channel o) o _).2.2.1
    (setProbe_kept (x.after a.channel o) o _).2.2.2.1 hclosed
  simp only [State.fetched, Station.served, v, hlength, hmailbox] at hset
  exact hset

/-! ### The SERVICE flag (R69) -/

/-- The SERVICE flag of a good reply sets service pending, and its fetch joins the list or is deferred; no other reply moves
the fetches. -/
theorem flagged_service (s v t : State) (a : Nat) (flags : StationFlags) (hm : s.moves v a) (hf : v.flagged t a flags) :
    ((s.setup.stations.get a).enabled = true → flags.service = true →
      (s.line.stations.get a).servicePending = false →
      (t.line.stations.get a).servicePending = true ∧
        (s.line.oneShots.length < 4 →
          t.line.oneShots = s.line.oneShots ++ [.service a] ∧
            (t.line.stations.get a).deferred = (s.line.stations.get a).deferred) ∧
        (4 ≤ s.line.oneShots.length →
          t.line.oneShots = s.line.oneShots ∧ (t.line.stations.get a).deferred = true)) ∧
    ((s.setup.stations.get a).enabled = false ∨ flags.service = false ∨
        (s.line.stations.get a).servicePending = true →
      t.line.oneShots = s.line.oneShots ∧
        (t.line.stations.get a).servicePending = (s.line.stations.get a).servicePending ∧
        (t.line.stations.get a).deferred = (s.line.stations.get a).deferred) := by
  obtain ⟨hsetup, hshots, hasking, -⟩ := hm
  obtain ⟨hpending, -, -, hdeferred⟩ := (Station.asking_iff _ _).1 hasking
  obtain ⟨kstations, kshots⟩ := hf
  rw [kstations, kshots, ← hsetup, ← hpending, ← hdeferred, ← hshots]
  refine ⟨fun he hs hp => ?_, fun hrests => ?_⟩
  · have ha := station_of_enabled _ _ he
    rw [serviceFlag_asks a flags v he hs hp]
    by_cases hroom : v.line.oneShots.length < 4
    · obtain ⟨hlist, hrecord⟩ := askService_room a v ha hroom
      rw [hlist, hrecord]
      exact ⟨rfl, fun _ => ⟨rfl, rfl⟩, fun hfull => by omega⟩
    · obtain ⟨hlist, hrecord⟩ := askService_full a v ha (by omega)
      rw [hlist, hrecord]
      exact ⟨rfl, fun hlt => absurd hlt hroom, fun _ => ⟨rfl, rfl⟩⟩
  · rw [serviceFlag_rests a flags v hrests]
    exact ⟨rfl, rfl, rfl⟩

/-- No other station's record moves, and none of a station that is not enabled. -/
theorem flagged_others (s v t : State) (a b : Nat) (flags : StationFlags) (hm : s.moves v a) (hf : v.flagged t a flags)
    (h : b ≠ a ∨ (s.setup.stations.get a).enabled = false) : t.line.stations.get b = s.line.stations.get b := by
  obtain ⟨hsetup, -, -, hothers⟩ := hm
  rw [hf.1, ← hothers b h]
  obtain h | h := h
  · exact serviceFlag_get_other a b flags v h
  · rw [serviceFlag_rests a flags v (.inl (hsetup ▸ h))]

/-! ### The counts (R63) -/

/-- A good transaction counts, and has the station ONLINE. -/
theorem counted_good (z y : Station) (o : LineOutcome) (flags : StationFlags) (limit : Nat) (time : Time)
    (h : z.counted = (y.ended o flags limit time).counted) (ho : o.good = true) :
    z.failures = 0 ∧ z.good = min (y.good + 1) 65535 ∧ z.failed = y.failed ∧ z.lastGood = time ∧ z.flags = flags ∧
      z.state = (if y.state = .unknown ∨ y.state = .silent then .online else y.state) := by
  rw [Station.ended, if_pos ho] at h
  obtain ⟨hstate, hfailures, hflags, hgood, hfailed, hlast⟩ := (Station.counted_iff _ _).1 h
  refine ⟨hfailures, hgood, hfailed, hlast, hflags, hstate.trans ?_⟩
  simp [Station.goodEnd]

/-- A failed transaction counts, and has the station SILENT at its limit. -/
theorem counted_failed (z y : Station) (o : LineOutcome) (flags : StationFlags) (limit : Nat) (time : Time)
    (h : z.counted = (y.ended o flags limit time).counted) (ho : o.good = false) :
    z.failures = min (y.failures + 1) 255 ∧ z.failed = min (y.failed + 1) 65535 ∧ z.good = y.good ∧
      z.lastGood = y.lastGood ∧ z.flags = y.flags ∧
      z.state = (if limit ≤ z.failures ∧ (y.state = .unknown ∨ y.state = .online) then .silent else y.state) := by
  rw [Station.ended, if_neg (Bool.eq_false_iff.1 ho)] at h
  obtain ⟨hstate, hfailures, hflags, hgood, hfailed, hlast⟩ := (Station.counted_iff _ _).1 h
  refine ⟨hfailures, hfailed, hgood, hlast, hflags, hstate.trans ?_⟩
  rw [hfailures]
  simp [Station.failedEnd]

/-! ### The statement -/

/-- The words of an OK fetch fill the mailbox (R70, R193). -/
theorem served_words (x : Transaction) (received : List Byte) (y : Station) (hd : x.dir = .fetch)
    (hc : replyComplete x.dir x.length received = true) (ho : judgeReply x.station received = .ok) :
    (y.served .ok (replyHandover x .ok received).2).mailboxLength = x.length ∧
      ∀ i, i < 8 → (y.served .ok (replyHandover x .ok received).2).mailbox.get i =
        ((List.range x.length).map fun i =>
          wordOfBytes (received.getD (2 + 2 * i) 0#8) (received.getD (3 + 2 * i) 0#8)).getD i 0#16 := by
  have hlen := replyComplete_length x.station x.length received (hd ▸ hc) ho
  rw [replyHandover_fetched x received hd, replyWords_eq x.length received hlen]
  exact ⟨by simp [Station.served], fun i hi => Table.get_tabulate _ i hi⟩

/-- Settles O34: the records of the stations are those of the end of the attempt, read field by field. -/
theorem stationRecordsFollowTheOutcomes : Obligations.StationRecordsFollowTheOutcomes := by
  refine ⟨fun s a x gap data h => ?reply, fun s a x hphase hempty hx hp hleft => ?timeout⟩
  case reply =>
    refine ⟨_, lastCharacter_exec s a x gap data h, ?_⟩
    obtain ⟨-, hx, -, -, -, -, hcomplete⟩ := h
    let q := s.reach (a.lastEnd + gap + 44)
    let o := judgeReply x.station (a.received ++ [data])
    let b := a.completed gap data
    have hservice := replyHandover_service x o b.received
    have hflagged := endAttempt_flagged b o x q hx
    have htime : (endAttempt b o q).time = q.time := by simp [State.time, State.ms]
    dsimp only
    refine ⟨fun c hc hnone hr => ?others, fun he hp => ⟨fun ho => ?good, fun ho hends => ?failed⟩,
      fun he _ hp hr => ?disabled, fun e hp hr => ⟨fun ho he => ?probeGood, fun hor => ?probeNone⟩,
      fun hp hr => ?service, fun rest hp hrest hr he hd hroom hends => ?fetched, endAttempt_searchTold b o x q hx⟩
    case others =>
      obtain ⟨v, hm, hf⟩ := hflagged hr (.inr hnone)
      exact flagged_others q v _ x.station c _ hm hf (.inl hc)
    case good =>
      have hcounted := counted_good _ _ _ _ _ _ (endAttempt_counted b o x q hx hp (.inl ho) he) ho
      rw [replyHandover_good x o b.received ho] at hcounted
      rw [← htime] at hcounted
      exact hcounted
    case failed =>
      obtain ⟨hfailures, hfailed, hgood, hlast, hflags, hstate⟩ :=
        counted_failed _ _ _ _ _ _ (endAttempt_counted b o x q hx hp hends he) ho
      refine ⟨hfailures, hfailed, hgood, hlast, hflags, hstate, fun hne hu => ?_⟩
      have hnotice := endAttempt_notice b o x q hx hp hends ho he hne hu
      rw [← htime] at hnotice
      exact hnotice
    case disabled =>
      obtain ⟨v, hm, hf⟩ := hflagged hr (.inl hp)
      exact flagged_others q v _ x.station x.station _ hm hf (.inr he)
    case probeGood =>
      have hcounted := endAttempt_probed b o x q e hx hp ho he
      rw [replyHandover_good x o b.received ho] at hcounted
      obtain ⟨hstate, hfailures, hflags, hgood, hfailed, hlast⟩ := (Station.counted_iff _ _).1 hcounted
      exact ⟨hflags, hstate, hfailures, hgood, hfailed, hlast⟩
    case probeNone =>
      obtain ho | he := hor
      · have hstations := endAttempt_probeFailed b o x q e hx hp hr ho
        exact congrArg (·.get x.station) hstations
      · obtain ⟨v, hm, hf⟩ := hflagged hr (.inl (by simp [hp]))
        exact flagged_others q v _ x.station x.station _ hm hf (.inr he)
    case service =>
      obtain ⟨v, hm, hf⟩ := hflagged hr (.inl hp)
      obtain ⟨hasks, hrests⟩ := flagged_service q v _ x.station _ hm hf
      rw [hservice] at hasks hrests
      refine ⟨fun he ho hs hpending => hasks he (Bool.and_eq_true_iff.2 ⟨ho, hs⟩) hpending, fun hor => hrests ?_⟩
      obtain he | ho | hs | hpending := hor
      · exact .inl he
      · exact .inr (.inl (Bool.and_eq_false_iff.2 (.inl ho)))
      · exact .inr (.inl (Bool.and_eq_false_iff.2 (.inr hs)))
      · exact .inr (.inr hpending)
    case fetched =>
      obtain ⟨hpending, hlist, hlength, hmailbox⟩ := endAttempt_service b o x q rest hx hp hr hends hrest hd hroom he
      rw [hservice] at hpending hlist
      refine ⟨fun ⟨ho, hs⟩ => ?_, fun hnot => ?_, fun hok hdir => ?_, fun hok => ?_⟩
      · have hboth := Bool.and_eq_true_iff.2 ⟨ho, hs⟩
        exact ⟨hpending.trans hboth, hlist.trans (if_pos hboth)⟩
      · have hboth := Bool.eq_false_iff.2 fun h => hnot (Bool.and_eq_true_iff.1 h)
        exact ⟨hpending.trans hboth, hlist.trans (if_neg (Bool.eq_false_iff.1 hboth))⟩
      · obtain ⟨hlen, hwords⟩ := served_words x b.received (q.line.stations.get x.station) hdir hcomplete hok
        rw [show o = .ok from hok] at hlength hmailbox
        rw [show judgeReply _ _ = _ from hok]
        exact ⟨hlength.trans hlen, fun i hi => (congrArg (·.get i) hmailbox).trans (hwords i hi)⟩
      · exact ⟨hlength.trans (if_neg hok), hmailbox.trans (if_neg hok)⟩
  case timeout =>
    let q := s.reach (s.replyBy a)
    refine ⟨_, responseTimeout_exec s a hphase hempty, fun he => ?_, endAttempt_searchTold a .noResponse x q hx⟩
    exact counted_failed _ _ _ _ _ _ (endAttempt_counted a .noResponse x q hx hp (.inr hleft) he) rfl

end Sys2Proof.Machine
end

section
/-! PROOFS. O6: the limits that a step keeps, and how they pass through the warnings, the lamps and the doors. -/

namespace Sys2Proof.Machine

/-! ### The limits -/

/-- From `s` to `t` the acknowledged flags, the forced set and the one-shot list stay within their limits (R66, R105,
R171). -/
def State.keepsLimits (s t : State) : Prop :=
  (s.acksSound → t.acksSound) ∧ (s.forcedSound → t.forcedSound) ∧
    (s.line.oneShots.length ≤ 4 → t.line.oneShots.length ≤ 4)

/-- From `s` to `t` the limits are kept, and with them the conditions of a SERVICE session (R166, R167). -/
def State.keepsSound (s t : State) : Prop := s.keepsLimits t ∧ (s.serviceSound → t.serviceSound)

theorem State.keepsLimits.refl (s : State) : s.keepsLimits s := ⟨id, id, id⟩

theorem State.keepsLimits.trans {s t u : State} (h : s.keepsLimits t) (k : t.keepsLimits u) : s.keepsLimits u := by
  obtain ⟨hacks, hforced, hshots⟩ := h
  obtain ⟨kacks, kforced, kshots⟩ := k
  exact ⟨kacks ∘ hacks, kforced ∘ hforced, kshots ∘ hshots⟩

theorem State.keepsSound.refl (s : State) : s.keepsSound s := ⟨.refl s, id⟩

theorem State.keepsSound.trans {s t u : State} (h : s.keepsSound t) (k : t.keepsSound u) : s.keepsSound u :=
  ⟨h.1.trans k.1, k.2 ∘ h.2⟩

/-- Where the warnings, the forced set and the one-shot list are as they were, so are their limits. -/
theorem keepsLimits_of_same (s t : State)
    (h : t.warnings = s.warnings ∧ t.shop.forced = s.shop.forced ∧ t.line.oneShots = s.line.oneShots) :
    s.keepsLimits t := by
  obtain ⟨hwarnings, hforced, hshots⟩ := h
  simp only [State.keepsLimits, State.acksSound, State.forcedSound, hwarnings, hforced, hshots]
  exact ⟨id, id, id⟩

/-- A SERVICE session stands under the conditions it is granted under. -/
theorem serviceSound_iff (s : State) :
    s.serviceSound ↔ (s.shop.session = .service → s.serviceConditions = true) := by
  rw [State.serviceConditions_iff]
  rfl

theorem serviceSound_of_lower (s : State) (h : s.shop.session ≠ .service) : s.serviceSound := fun k => absurd k h

/-- What the conditions of a SERVICE session read is the same in two states. -/
def State.sameService (s t : State) : Prop :=
  t.shop.session = s.shop.session ∧ t.run.state = s.run.state ∧ t.doors.motion = s.doors.motion ∧
    t.setup = s.setup ∧ t.signals = s.signals

theorem serviceSound_of_same (s t : State) (h : s.sameService t) (hs : s.serviceSound) : t.serviceSound := by
  obtain ⟨hsession, hrun, hmotion, hsetup, hsignals⟩ := h
  simpa only [State.serviceSound, hsession, hrun, hmotion, hsetup, hsignals] using hs

/-- A change of anything else keeps every limit. -/
theorem keepsSound_of_same (s t : State)
    (h : (t.warnings = s.warnings ∧ t.shop.forced = s.shop.forced ∧ t.line.oneShots = s.line.oneShots) ∧
      s.sameService t) : s.keepsSound t := ⟨keepsLimits_of_same s t h.1, serviceSound_of_same s t h.2⟩

/-- A change of the warnings alone, among what the limits read. -/
theorem keepsSound_of_acks (s t : State) (hacks : s.acksSound → t.acksSound)
    (h : (t.shop.forced = s.shop.forced ∧ t.line.oneShots = s.line.oneShots) ∧ s.sameService t) : s.keepsSound t := by
  obtain ⟨⟨hforced, hshots⟩, hservice⟩ := h
  refine ⟨⟨hacks, ?_, ?_⟩, serviceSound_of_same s t hservice⟩
  · simp only [State.forcedSound, hforced, imp_self]
  · simp only [hshots, imp_self]

/-- Where no SERVICE session stands afterwards, its conditions ask nothing. -/
theorem keepsSound_of_lower (s t : State) (h : s.keepsLimits t) (hsession : t.shop.session ≠ .service) :
    s.keepsSound t := ⟨h, fun _ => serviceSound_of_lower t hsession⟩

/-! ### Through the combinators -/

theorem when_keepsSound (c : Bool) (f : State → State) (s : State) (h : c = true → s.keepsSound (f s)) :
    s.keepsSound (when c f s) := when_induct s.keepsSound c f s (fun hc _ => h hc) (.refl s)

theorem forEach_keepsSound (l : List Nat) (f : Nat → State → State) (s : State)
    (h : ∀ i t, State.keepsSound t (f i t)) : s.keepsSound (forEach l f s) :=
  forEach_induct s.keepsSound l f s (fun i _ t ht => ht.trans (h i t)) (.refl s)

theorem foldl_keepsSound {α : Type} (l : List α) (f : State → α → State) (s : State)
    (h : ∀ t b, State.keepsSound t (f t b)) : s.keepsSound (l.foldl f s) :=
  foldl_induct s.keepsSound l f s (fun b _ t ht => ht.trans (h t b)) (.refl s)

theorem reach_keepsSound (s : State) (due : Nat) : s.keepsSound (s.reach due) :=
  keepsSound_of_same _ _ (by simp [State.sameService])

theorem onTimer_keepsSound (timer : Option Nat) (f : Nat → State → State) (s : State)
    (h : ∀ d, (s.reach d).keepsSound (f d (s.reach d))) : s.keepsSound (onTimer timer f s) := by
  cases timer with
  | none => exact .refl s
  | some due => exact (reach_keepsSound s due).trans (h due)

/-! ### The moves of a warning (R104, R105) -/

/-- The acknowledged flag of a warning stands in ACTIVE and CLEARING only (R105). -/
def Warning.ackSound (x : Warning) : Prop := x.acked = true → x.state = .active ∨ x.state = .clearing

theorem ackSound_of_unacked (x : Warning) (h : x.acked = false) : x.ackSound := fun k => by simp [h] at k

theorem acksSound_get (s : State) (h : s.acksSound) (w : Nat) : (s.warnings.get w).ackSound := by
  by_cases hw : w < 96
  · exact h w hw
  · rw [Table.get_past _ _ (by omega)]
    exact ackSound_of_unacked _ rfl

theorem latch_ackSound (x : Warning) (h : x.acked = false) : x.latch.1.ackSound := ackSound_of_unacked _ h

theorem cleared_ackSound (x : Warning) (u : WarningSetup) : (x.cleared u).1.ackSound := by
  unfold Warning.cleared
  split
  · exact ackSound_of_unacked _ rfl
  · exact latch_ackSound x (by simp_all)

theorem onCondition_ackSound (x : Warning) (u : WarningSetup) (c forced : Bool) (time : Time) (now : Nat)
    (h : x.ackSound) : (x.onCondition u c forced time now).1.ackSound := by
  unfold Warning.onCondition
  split
  case h_1 hstate =>
    split
    · exact ackSound_of_unacked _ rfl
    · exact fun hacked => by simp [Warning.ackSound, hstate, show x.acked = true from hacked] at h
  case h_2 => exact ackSound_of_unacked _ rfl
  case h_3 =>
    split
    · exact cleared_ackSound _ u
    · exact fun _ => .inr rfl
  case h_4 => exact fun _ => .inl rfl
  case h_5 => exact ackSound_of_unacked _ rfl
  case h_6 => exact h

/-- An acknowledgement that is not refused sets the flag in ACTIVE or CLEARING, or ends the warning (R106, R109). -/
theorem acknowledged_ackSound (s : State) (w : Nat) (h : s.ackRefusal w = none) :
    (s.warnings.get w).acknowledged.1.ackSound := by
  have hstate : (s.warnings.get w).state ≠ .inactive ∧ (s.warnings.get w).state ≠ .arming := by
    constructor <;> (intro hs; simp only [State.ackRefusal, hs] at h; split at h <;> simp at h)
  obtain ⟨hinactive, harming⟩ := hstate
  unfold Warning.acknowledged
  split
  · exact ackSound_of_unacked _ rfl
  · next hlatched =>
    intro _
    change (s.warnings.get w).state = .active ∨ (s.warnings.get w).state = .clearing
    cases hs : (s.warnings.get w).state with
    | inactive => exact absurd hs hinactive
    | arming => exact absurd hs harming
    | active => exact .inl rfl
    | clearing => exact .inr rfl
    | latched => exact absurd hs hlatched

/-! ### Warnings -/

/-- A write of a warning whose flag stands where it may keeps the flags of all. -/
theorem setWarning_acksSound (s t : State) (w : Nat) (x : Warning) (ht : t.warnings = s.warnings.set w x)
    (hx : s.acksSound → x.ackSound) (h : s.acksSound) : t.acksSound := by
  intro v hv
  by_cases hvw : v = w
  · subst hvw
    rw [ht, Table.get_set_same _ _ _ hv]
    exact hx h
  · rw [ht, Table.get_set_other _ _ _ _ hvw]
    exact h v hv

theorem putWarning_keepsSound (w : Nat) (x : Warning) (s : State) (hx : s.acksSound → x.ackSound) :
    s.keepsSound (putWarning w x s) :=
  keepsSound_of_acks _ _ (setWarning_acksSound s _ w { x with upd := _ } rfl hx) (by simp [State.sameService])

theorem takePriority_keepsSound (w : Nat) (s : State) : s.keepsSound (takePriority w s) :=
  when_keepsSound _ _ s fun _ => putWarning_keepsSound w _ s fun h => acksSound_get s h w

theorem compose_keepsSound (announce : Bool) (s : State) : s.keepsSound (compose announce s) :=
  keepsSound_of_same _ _ (by simp [State.sameService])

theorem takePriorities_keepsSound (l : List Nat) (s : State) : s.keepsSound (takePriorities l s) :=
  (forEach_keepsSound l takePriority s takePriority_keepsSound).trans
    (when_keepsSound _ _ _ fun _ => compose_keepsSound false _)

theorem commitWarning_keepsSound (w : Nat) (m : WarningMove) (s : State) (hm : s.acksSound → m.1.ackSound) :
    s.keepsSound (commitWarning w m s) :=
  (putWarning_keepsSound w m.1 s hm).trans (keepsSound_of_same _ _ (by simp [commitWarning, State.sameService]))

theorem takeCondition_keepsSound (w : Nat) (s : State) : s.keepsSound (takeCondition w s) := by
  unfold takeCondition
  split
  · exact commitWarning_keepsSound w _ s fun h => onCondition_ackSound _ _ _ _ _ _ (acksSound_get s h w)
  · exact .refl s

theorem takeTests_keepsSound (n : Nat) (s : State) : s.keepsSound (takeTests n s) :=
  forEach_keepsSound _ _ s takeCondition_keepsSound

theorem takeSource_keepsSound (src : Source) (i : Nat) (s : State) : s.keepsSound (takeSource src i s) :=
  forEach_keepsSound _ _ s takeCondition_keepsSound

theorem warningDelayExpires_keepsSound (w : Nat) (s : State) : s.keepsSound (warningDelayExpires w s) := by
  unfold warningDelayExpires
  dsimp only
  split
  · exact commitWarning_keepsSound w _ s fun _ => ackSound_of_unacked _ rfl
  · exact commitWarning_keepsSound w _ s fun _ => cleared_ackSound _ _
  · exact .refl s

theorem acknowledge_keepsSound (w : Nat) (s : State) (h : s.ackRefusal w = none) : s.keepsSound (acknowledge w s) :=
  commitWarning_keepsSound w _ s fun _ => acknowledged_ackSound s w h

theorem acknowledgeEdge_keepsSound (s : State) : s.keepsSound (acknowledgeEdge s) := by
  unfold acknowledgeEdge
  split
  · exact when_keepsSound _ _ s fun h => acknowledge_keepsSound _ s (by simpa using h)
  · exact .refl s

theorem stopWarning_keepsSound (w : Nat) (s : State) : s.keepsSound (stopWarning w s) := by
  have hset : s.keepsSound (s.setWarnings (s.warnings.set w
      { s.warnings.get w with delay := none, stored := false })) :=
    keepsSound_of_acks _ _ (setWarning_acksSound s _ w _ rfl fun h => acksSound_get s h w) (by simp [State.sameService])
  exact hset.trans (keepsSound_of_same _ _ (by simp [stopWarning, State.sameService]))

theorem stopWarnings_keepsSound (s : State) : s.keepsSound (stopWarnings s) :=
  forEach_keepsSound _ _ s stopWarning_keepsSound

/-! ### Lamps -/

theorem handProof_keepsSound (l : Nat) (s : State) : s.keepsSound (handProof l s) :=
  (takeSource_keepsSound .lampFault l s).trans (takePriorities_keepsSound _ _)

theorem changeLamp_keepsSound (l : Nat) (x : Lamp) (s : State) : s.keepsSound (changeLamp l x s) :=
  (keepsSound_of_same s (setLamp l x s) (by simp [State.sameService])).trans
    (when_keepsSound _ _ _ fun _ => handProof_keepsSound l _)

theorem proofExpires_keepsSound (l milliamps : Nat) (s : State) : s.keepsSound (proofExpires l milliamps s) :=
  onTimer_keepsSound _ _ s fun _ =>
    (keepsSound_of_same _ (setLamp l _ _) (by simp [State.sameService])).trans
      (when_keepsSound _ _ _ fun _ => changeLamp_keepsSound l _ _)

theorem overcurrent_keepsSound (l : Nat) (s : State) : s.keepsSound (overcurrent l s) :=
  when_keepsSound _ _ s fun _ => changeLamp_keepsSound l _ s

theorem startLampCheck_keepsSound (owner : CheckOwner) (s : State) : s.keepsSound (startLampCheck owner s) := by
  unfold startLampCheck
  refine State.keepsSound.trans ?_ (compose_keepsSound false _)
  refine State.keepsSound.trans ?_ (forEach_keepsSound _ _ _ handProof_keepsSound)
  exact keepsSound_of_same _ _ (by simp [State.sameService])

/-! ### Doors and the interlock -/

@[simp] theorem putMotion_motion (x : DoorUnit) (s : State) : (putMotion x s).doors.motion = x.motion := (rfl)

theorem takeInterlock_keepsSound (s : State) : s.keepsSound (takeInterlock s) :=
  (keepsSound_of_same s (putMotion s.interlockTaken s) (by simp [State.sameService, State.interlockTaken])).trans
    (when_keepsSound _ _ _ fun _ => takeSource_keepsSound .interlockOverridden 0 _)

theorem doorWritten_keepsSound (d : Nat) (old new : Door) (s : State) : s.keepsSound (doorWritten d old new s) := by
  have hposted : s.keepsSound (when (new.state ≠ old.state) (post .doorChange d new.state.code) s) :=
    keepsSound_of_same _ _ (by simp [State.sameService])
  have hsources := hposted.trans (foldl_keepsSound doorSources _ _ fun t src => takeSource_keepsSound src d t)
  exact (hsources.trans (takeInterlock_keepsSound _)).trans (when_keepsSound _ _ _ fun _ => compose_keepsSound false _)

theorem putDoor_keepsSound (d : Nat) (x : Door) (s : State) : s.keepsSound (putDoor d x s) :=
  keepsSound_of_same _ _ (by simp [State.sameService])

theorem takeDoor_keepsSound (d : Nat) (s : State) : s.keepsSound (takeDoor d s) :=
  when_keepsSound _ _ s fun _ => (putDoor_keepsSound d _ s).trans (doorWritten_keepsSound d _ _ _)

theorem takeChannel_keepsSound (c : Nat) (s : State) : s.keepsSound (takeChannel c s) :=
  (forEach_keepsSound _ _ s takeDoor_keepsSound).trans (when_keepsSound _ _ _ fun _ => takeInterlock_keepsSound _)

theorem agreeExpires_keepsSound (d : Nat) (s : State) : s.keepsSound (agreeExpires d s) :=
  onTimer_keepsSound _ _ s fun _ => (putDoor_keepsSound d _ _).trans (doorWritten_keepsSound d _ _ _)

theorem releaseExpires_keepsSound (s : State) : s.keepsSound (releaseExpires s) := by
  refine onTimer_keepsSound _ _ s fun _ => State.keepsSound.trans (keepsSound_of_same _ (putMotion _ _) ?_)
    (when_keepsSound _ _ _ fun _ => takeSource_keepsSound .interlockOverridden 0 _)
  split <;> simp [State.sameService]

end Sys2Proof.Machine
end

section
/-! PROOFS. O6: the limits through the writes of signals, motion and the workshop session. -/

namespace Sys2Proof.Machine

/-! ### The acknowledged flags, the forced set and the one-shots -/

theorem readBefore_keepsSound (n : Nat) (statusChanged : Bool) (s : State) :
    s.keepsSound (readBefore n statusChanged s) :=
  State.keepsSound.trans (keepsSound_of_same s _ (by simp [State.sameService]))
    (forEach_keepsSound _ _ (when statusChanged (takeUpStatus n) (when (n = s.setup.general.dimmer) takeDuties s))
      takeDoor_keepsSound)

theorem takeLatch_keepsSound (d : Nat) (s : State) : s.keepsSound (takeLatch d s) :=
  keepsSound_of_same _ _ (by simp [State.sameService])

section Demotions

variable (demote : State → State) (hd : ∀ t : State, t.keepsLimits (demote t))
include hd

theorem leaveStopped_keepsLimits (s : State) : s.keepsLimits (leaveStopped demote s) :=
  (keepsLimits_of_same s _ (by simp)).trans (hd (endLampCheck .refusedMoving .moving (sweepsMeetMotion s)))

theorem handMotion_keepsLimits (old : Motion) (s : State) : s.keepsLimits (handMotion demote old s) := by
  have hlatches := forEach_keepsSound (List.range 4) takeLatch s takeLatch_keepsSound
  have hopen := hlatches.trans (forEach_keepsSound (List.range 4) (fun d => takeSource .doorMovingOpen d) _
    (takeSource_keepsSound .doorMovingOpen))
  have hunknown := hopen.trans (takeSource_keepsSound .speedUnknown 0 _)
  exact when_induct s.keepsLimits _ _ _ (fun _ h => h.trans (leaveStopped_keepsLimits demote hd _))
    (hunknown.trans (takePriorities_keepsSound _ _)).1

theorem changeMotion_keepsLimits (x : DoorUnit) (s : State) : s.keepsLimits (changeMotion demote x s) :=
  when_induct s.keepsLimits _ _ _ (fun _ h => h.trans (handMotion_keepsLimits demote hd _ _))
    (keepsLimits_of_same s (putMotion x s) (by simp))

theorem signalRead_keepsLimits (n : Nat) (statusChanged : Bool) (s : State) :
    s.keepsLimits (signalRead demote n statusChanged s) := by
  rw [signalRead_eq]
  have speed := when_induct s.keepsLimits (s.setup.general.isSpeed n) (takeSpeed demote) (readBefore n statusChanged s)
    (fun _ h => h.trans (changeMotion_keepsLimits demote hd _ _)) (readBefore_keepsSound n statusChanged s).1
  have brake := when_induct s.keepsLimits (n = s.setup.general.parkingBrake && !s.brakeSet) demote _
    (fun _ h => h.trans (hd _)) speed
  exact brake.trans (takeTests_keepsSound n _).1

theorem writeSignal_keepsLimits (n : Nat) (x : Signal) (s : State) : s.keepsLimits (writeSignal demote n x s) :=
  when_induct s.keepsLimits _ _ _ (fun _ h => h.trans (signalRead_keepsLimits demote hd n _ _))
    (keepsLimits_of_same s (putSignal n x s) (by simp))

end Demotions

/-- A session that is lowered forgets its forces, and its readers demote nothing further (R168). -/
theorem lowerSession_keepsLimits (level : Session) (cause : EndCause) (s : State) :
    s.keepsLimits (lowerSession level cause s) := by
  let u := s.setShop { s.shop with session := level }
  have hlowered : s.keepsLimits (releaseEntries s.shop.forced u) := keepsLimits_of_same _ _ (by simp [u])
  have hreleased : s.keepsLimits (releaseTogether s.shop.forced u) :=
    forEach_induct s.keepsLimits _ _ _ (fun n _ t ht => when_induct s.keepsLimits _ _ t
      (fun _ h => h.trans (signalRead_keepsLimits id .refl n _ t)) ht) hlowered
  obtain ⟨hacks, -, hshots⟩ := hreleased
  have hemptied : s.keepsLimits (emptied level s) := ⟨hacks, fun _ => ⟨by simp [emptied], by simp [emptied]⟩, hshots⟩
  rw [lowerSession_eq]
  exact hemptied.trans (keepsLimits_of_same _ _ (by simp))

/-! ### The conditions of a SERVICE session -/

theorem demoteFor_lower (cause : EndCause) (s : State) : (demoteFor cause s).shop.session ≠ .service := by
  by_cases h : s.shop.session = .service
  · simp [demoteFor, h]
  · simp [demoteFor, h]

theorem demoteFor_keepsSound (cause : EndCause) (s : State) : s.keepsSound (demoteFor cause s) :=
  keepsSound_of_lower _ _
    (when_induct s.keepsLimits _ _ s (fun _ _ => lowerSession_keepsLimits .read cause s) (.refl s))
    (demoteFor_lower cause s)

theorem demoteSession_lower (s : State) : (demoteSession s).shop.session ≠ .service := demoteFor_lower .session s

theorem demoteSession_keepsSound (s : State) : s.keepsSound (demoteSession s) := demoteFor_keepsSound .session s

theorem demoteSession_keepsLimits (s : State) : s.keepsLimits (demoteSession s) := (demoteSession_keepsSound s).1

theorem endSession_keepsLimits (cause : EndCause) (byClose : Bool) (s : State) :
    s.keepsLimits (endSession cause byClose s) :=
  when_induct s.keepsLimits _ _ s
    (fun _ _ => (keepsLimits_of_same s _ (by simp)).trans (lowerSession_keepsLimits .detached cause _)) (.refl s)

theorem endSession_keepsSound (cause : EndCause) (byClose : Bool) (s : State) :
    s.keepsSound (endSession cause byClose s) :=
  keepsSound_of_lower _ _ (endSession_keepsLimits cause byClose s) (by simp [endSession_detached])

/-- A change of motion that leaves a SERVICE session standing has kept motion STOPPED, and handed nothing on (R167). -/
theorem changeMotion_service (x : DoorUnit) (s : State) (hs : s.shop.session = .service → s.doors.motion = .stopped)
    (h : (changeMotion demoteSession x s).shop.session = .service) :
    s.shop.session = .service ∧ x.motion = .stopped ∧ changeMotion demoteSession x s = putMotion x s := by
  have hsession : s.shop.session = .service := by
    obtain ⟨hkept, -⟩ | ⟨-, hread, -⟩ := changeMotion_keptOrDemoted x s
    · exact hkept.symm.trans h
    · simp [hread] at h
  have hstopped := hs hsession
  have hx : x.motion = .stopped := by
    by_contra hx
    exact demoteSession_lower _ (by simpa [changeMotion, handMotion, leaveStopped, hstopped, hx] using h)
  exact ⟨hsession, hx, by simp [changeMotion, hx, hstopped]⟩

theorem changeMotion_keepsSound (x : DoorUnit) (s : State) : s.keepsSound (changeMotion demoteSession x s) := by
  refine ⟨changeMotion_keepsLimits _ demoteSession_keepsLimits x s, fun hsound h => ?_⟩
  obtain ⟨hsession, hx, hput⟩ := changeMotion_service x s (fun k => (hsound k).2.1) h
  rw [hput] at h ⊢
  exact serviceSound_of_same s _ (by simp [State.sameService, hx, (hsound hsession).2.1]) hsound h

/-- The readers of a signal leave a SERVICE session standing only where motion and the signals are as they were, and the
signal is not a parking brake that is not set (R167). -/
theorem signalRead_service (n : Nat) (statusChanged : Bool) (s : State)
    (hs : s.shop.session = .service → s.doors.motion = .stopped)
    (h : (signalRead demoteSession n statusChanged s).shop.session = .service) :
    s.sameService (signalRead demoteSession n statusChanged s) ∧
      (n = s.setup.general.parkingBrake → s.brakeSet = true) := by
  have hbefore : (readBefore n statusChanged s).doors.motion = s.doors.motion :=
    congrArg Prod.fst (readBefore_motionItems n statusChanged s)
  rw [signalRead_eq] at h ⊢
  by_cases hb : (n = s.setup.general.parkingBrake && !s.brakeSet) = true
  · rw [hb] at h
    exact absurd (by simpa using h) (demoteSession_lower _)
  · have hbrake : n = s.setup.general.parkingBrake → s.brakeSet = true := by simpa using hb
    rw [Bool.eq_false_iff.2 hb] at h ⊢
    cases hspeed : s.setup.general.isSpeed n with
    | false =>
      exact ⟨by simp [State.sameService, hbefore], hbrake⟩
    | true =>
      rw [hspeed] at h
      have hread : (takeSpeed demoteSession (readBefore n statusChanged s)).shop.session = .service := by simpa using h
      obtain ⟨hsession, hx, hput⟩ := changeMotion_service _ (readBefore n statusChanged s) (by simpa [hbefore] using hs)
        hread
      have hmotion := hs (by simpa using hsession)
      exact ⟨by simp [State.sameService, takeSpeed, hput, hx, hmotion], hbrake⟩

/-- The parking brake is set by what its entry's value and status are alone. -/
theorem brakeSet_of_entry (s t : State) (hsetup : t.setup = s.setup)
    (hv : (t.signals.get s.setup.general.parkingBrake).value = (s.signals.get s.setup.general.parkingBrake).value)
    (hst : (t.signals.get s.setup.general.parkingBrake).status = (s.signals.get s.setup.general.parkingBrake).status) :
    t.brakeSet = s.brakeSet := by
  simp only [State.brakeSet, State.usableSignal, hsetup, hv, hst]

theorem putSignal_brakeSet_other (n : Nat) (x : Signal) (s : State) (h : n ≠ s.setup.general.parkingBrake) :
    (putSignal n x s).brakeSet = s.brakeSet := by
  have hget : (putSignal n x s).signals.get s.setup.general.parkingBrake = s.signals.get s.setup.general.parkingBrake :=
    Table.get_set_other _ _ _ _ (Ne.symm h)
  exact brakeSet_of_entry s _ (by simp) (by rw [hget]) (by rw [hget])

/-- An entry written with its value and its status as they were leaves the brake set or not set. -/
theorem brakeSet_of_unchanged (s t : State) (n : Nat) (x : Signal) (hsetup : t.setup = s.setup)
    (ht : t.signals = s.signals.set n x) (hv : x.value = (s.signals.get n).value)
    (hst : x.status = (s.signals.get n).status) : t.brakeSet = s.brakeSet := by
  let brake := s.setup.general.parkingBrake
  have hentry : (t.signals.get brake).value = (s.signals.get brake).value ∧
      (t.signals.get brake).status = (s.signals.get brake).status := by
    rw [ht]
    by_cases hn : brake = n
    · rw [hn]
      by_cases h128 : n < 128
      · rw [Table.get_set_same _ _ _ h128]
        exact ⟨hv, hst⟩
      · rw [Table.set_past _ _ _ (by omega)]
        exact ⟨rfl, rfl⟩
    · rw [Table.get_set_other _ _ _ _ hn]
      exact ⟨rfl, rfl⟩
  exact brakeSet_of_entry s t hsetup hentry.1 hentry.2

/-- A SERVICE session that was granted under its conditions and whose parking brake is still set stands under them. -/
theorem serviceSound_of_brakeSet (s t : State) (hrun : t.run.state = s.run.state)
    (hmotion : t.doors.motion = s.doors.motion) (hsession : t.shop.session = s.shop.session)
    (hbrake : t.brakeSet = true) (hs : s.serviceSound) : t.serviceSound := by
  rw [serviceSound_iff] at hs ⊢
  intro h
  have hconditions := hs (hsession ▸ h)
  simp only [State.serviceConditions, State.inRun, Bool.and_eq_true] at hconditions ⊢
  rw [hrun, hmotion]
  exact ⟨hconditions.1, hbrake⟩

theorem brakeSet_of_serviceSound (s : State) (hs : s.serviceSound) (h : s.shop.session = .service) :
    s.brakeSet = true := by
  have := (serviceSound_iff s).1 hs h
  simp only [State.serviceConditions, Bool.and_eq_true] at this
  exact this.2

/-- A write of an entry that its readers take up keeps the conditions of a SERVICE session, or ends the session. -/
theorem signalRead_put_serviceSound (n : Nat) (statusChanged : Bool) (x : Signal) (s : State) (hs : s.serviceSound) :
    (signalRead demoteSession n statusChanged (putSignal n x s)).serviceSound := by
  intro h
  have hstopped : (putSignal n x s).shop.session = .service → (putSignal n x s).doors.motion = .stopped := by
    intro k
    obtain ⟨-, hmotion, -⟩ := hs (by simpa using k)
    simpa using hmotion
  obtain ⟨hsame, hbrake⟩ := signalRead_service n statusChanged _ hstopped h
  have hsession : s.shop.session = .service := by simpa using hsame.1.symm.trans h
  refine serviceSound_of_same _ _ hsame ?_ h
  refine serviceSound_of_brakeSet s _ (by simp) (by simp) (by simp) ?_ hs
  by_cases hn : n = s.setup.general.parkingBrake
  · exact hbrake (by simpa using hn)
  · rw [putSignal_brakeSet_other n x s hn]
    exact brakeSet_of_serviceSound s hs hsession

/-- A write of a signal's entry keeps the limits, and the session's conditions among them. -/
theorem writeSignal_keepsSound (n : Nat) (x : Signal) (s : State) : s.keepsSound (writeSignal demoteSession n x s) := by
  refine ⟨writeSignal_keepsLimits _ demoteSession_keepsLimits n x s, fun hs => ?_⟩
  by_cases hc : x.value = (s.signals.get n).value ∧ x.status = (s.signals.get n).status
  · obtain ⟨hv, hst⟩ := hc
    rw [writeSignal_unchanged _ _ _ _ hv hst]
    intro h
    have hsession : s.shop.session = .service := by simpa using h
    refine serviceSound_of_brakeSet s _ (by simp) (by simp) (by simp) ?_ hs h
    rw [brakeSet_of_unchanged s _ n { x with upd := _ } (by simp) (putSignal_signals n x s) hv hst]
    exact brakeSet_of_serviceSound s hs hsession
  · have hmoved := Decidable.not_and_iff_not_or_not.1 hc
    cases hr : s.inRun with
    | true =>
      have hread : writeSignal demoteSession n x s = signalRead demoteSession n _ (putSignal n x s) :=
        if_pos (by simpa [hr] using hmoved)
      rw [hread]
      exact signalRead_put_serviceSound n _ x s hs
    | false =>
      have hput : writeSignal demoteSession n x s = putSignal n x s := if_neg (by simp [hr])
      rw [hput]
      intro h
      obtain ⟨hrun, -⟩ := hs (by simpa using h)
      simp [State.inRun, hrun] at hr

theorem releaseForce_keepsSound (n : Nat) (s : State) : s.keepsSound (releaseForce demoteSession n s) :=
  writeSignal_keepsSound n _ s

theorem deliverValue_keepsSound (n : Nat) (v : Word) (s : State) : s.keepsSound (deliverValue n v s) :=
  writeSignal_keepsSound n _ s

theorem declareFault_keepsSound (n : Nat) (substitute : Option Word) (s : State) :
    s.keepsSound (declareFault n substitute s) := writeSignal_keepsSound n _ s

theorem placeForce_keepsSound (n : Nat) (w : Word) (s : State) : s.keepsSound (placeForce n w s) :=
  writeSignal_keepsSound n _ s

/-- A forced entry whose source goes stale shows what it showed (R7). -/
theorem goStale_keepsSound (n : Nat) (s : State) : s.keepsSound (goStale n s) := by
  by_cases hf : (s.signals.get n).status = .forced
  · rw [goStale_forced n s hf]
    refine ⟨keepsLimits_of_same _ _ (by simp), fun hs h => ?_⟩
    have hsession : s.shop.session = .service := by simpa using h
    refine serviceSound_of_brakeSet s _ (by simp) (by simp) (by simp) ?_ hs h
    have hsame := brakeSet_of_unchanged s (s.setSignals (s.signals.set n (s.signals.get n).gone)) n _ rfl rfl rfl rfl
    exact hsame.trans (brakeSet_of_serviceSound s hs hsession)
  · rw [goStale_unforced n s hf]
    exact writeSignal_keepsSound n _ s

theorem staleExpires_keepsSound (n : Nat) (s : State) : s.keepsSound (staleExpires n s) :=
  onTimer_keepsSound _ _ s fun _ => goStale_keepsSound n _

theorem stopExpires_keepsSound (s : State) : s.keepsSound (stopExpires s) :=
  onTimer_keepsSound _ _ s fun _ => changeMotion_keepsSound _ _

end Sys2Proof.Machine
end

section
/-! PROOFS. O6: the limits through the sense scanner and the body line. -/

namespace Sys2Proof.Machine

/-! ### The sense scanner -/

theorem writeChannel_keepsSound (c : Nat) (x : SenseChannel) (s : State) : s.keepsSound (writeChannel c x s) :=
  (keepsSound_of_same s (putChannel c x s) (by simp [State.sameService])).trans
    (when_keepsSound _ _ _ fun _ => takeChannel_keepsSound c _)

theorem deliverChannel_keepsSound (c : Nat) (x : SenseChannel) (s : State) : s.keepsSound (deliverChannel c x s) := by
  unfold deliverChannel
  split
  · split
    · split
      · exact deliverValue_keepsSound _ _ s
      · exact declareFault_keepsSound _ _ s
    · exact .refl s
  · exact .refl s

theorem faultChanged_keepsSound (c : Nat) (x : SenseChannel) (s : State) : s.keepsSound (faultChanged c x s) :=
  (keepsSound_of_same s (post _ _ _ s) (by simp [State.sameService])).trans (takeSource_keepsSound .senseFault c _)

theorem sampleTaken_keepsSound (c : Nat) (r : SenseChannel × Bool) (s : State) : s.keepsSound (sampleTaken c r s) := by
  have hdelivered := (writeChannel_keepsSound c r.1 s).trans (deliverChannel_keepsSound c r.1 _)
  have hchanged := hdelivered.trans (when_keepsSound (r.1.faultClass ≠ (s.sense.channels.get c).faultClass) _ _
    fun _ => faultChanged_keepsSound c r.1 _)
  exact hchanged.trans (when_keepsSound _ _ _ fun _ => acknowledgeEdge_keepsSound _)

theorem advanceSample_keepsSound (c due : Nat) (s : State) : s.keepsSound (advanceSample c due s) :=
  keepsSound_of_same _ _ (by simp [State.sameService])

theorem sample_keepsSound (c reading : Nat) (s : State) : s.keepsSound (sample c reading s) :=
  onTimer_keepsSound _ _ s fun due => (advanceSample_keepsSound c due _).trans (sampleTaken_keepsSound c _ _)

theorem judgeCheck_keepsSound (c : Nat) (w : WiringCheck) (held measured : SenseChannel) (s : State) :
    s.keepsSound (judgeCheck c w held measured s) := by
  unfold judgeCheck
  dsimp only
  refine State.keepsSound.trans ?_ (when_keepsSound _ _ _ fun _ => faultChanged_keepsSound c _ _)
  refine State.keepsSound.trans ?_ (deliverChannel_keepsSound c held _)
  refine State.keepsSound.trans ?_ (writeChannel_keepsSound c _ _)
  exact keepsSound_of_same _ _ (by simp [State.sameService])

theorem measured_keepsSound (c reading : Nat) (w : WiringCheck) (s : State) :
    s.keepsSound (measured c reading w s) := by
  unfold measured
  dsimp only
  split
  · exact judgeCheck_keepsSound c _ _ _ s
  · exact (writeChannel_keepsSound c _ s).trans (deliverChannel_keepsSound c _ _)

theorem wiringMeasurement_keepsSound (c reading : Nat) (s : State) : s.keepsSound (wiringMeasurement c reading s) := by
  unfold wiringMeasurement
  split
  · exact onTimer_keepsSound _ _ s fun due => (advanceSample_keepsSound c due _).trans (measured_keepsSound c _ _ _)
  · exact .refl s

theorem abortCheck_keepsSound (restart : Bool) (c : Nat) (s : State) : s.keepsSound (abortCheck restart c s) := by
  unfold abortCheck
  dsimp only
  split
  · exact (keepsSound_of_same s (slotFailed _ _ _ _ s) (by simp [State.sameService])).trans
      (writeChannel_keepsSound c _ _)
  · exact .refl s

theorem abortChecks_keepsSound (restart : Bool) (s : State) : s.keepsSound (abortChecks restart s) :=
  forEach_keepsSound _ _ s (abortCheck_keepsSound restart)

theorem supplyMeasured_keepsSound (millivolts : Word) (s : State) : s.keepsSound (supplyMeasured millivolts s) :=
  onTimer_keepsSound _ _ s fun _ =>
    (keepsSound_of_same _ (writeStatus (State.setSense _ _)) (by simp [State.sameService])).trans
      (when_keepsSound _ _ _ fun _ => takeSource_keepsSound .supplyLow 0 _)

theorem supplyLowExpires_keepsSound (s : State) : s.keepsSound (supplyLowExpires s) :=
  onTimer_keepsSound _ _ s fun _ =>
    (keepsSound_of_same _ (writeStatus (State.setSense _ _)) (by simp [State.sameService])).trans
      ((abortChecks_keepsSound true _).trans (takeSource_keepsSound .supplyLow 0 _))

theorem stopSense_keepsSound (s : State) : s.keepsSound (stopSense s) :=
  (abortChecks_keepsSound false s).trans (keepsSound_of_same _ _ (by simp [stopSense, State.sameService]))

/-! ### The one-shot list (R66, R69) -/

/-- A change of the one-shot list that stays within its limit keeps every limit. -/
theorem keepsSound_of_shots (s t : State) (hshots : s.line.oneShots.length ≤ 4 → t.line.oneShots.length ≤ 4)
    (h : (t.warnings = s.warnings ∧ t.shop.forced = s.shop.forced) ∧ s.sameService t) : s.keepsSound t := by
  obtain ⟨⟨hwarnings, hforced⟩, hservice⟩ := h
  refine ⟨⟨?_, ?_, hshots⟩, serviceSound_of_same s t hservice⟩
  · simp only [State.acksSound, hwarnings, imp_self]
  · simp only [State.forcedSound, hforced, imp_self]

/-- A one-shot joins a list that has a place (R66). -/
theorem appendOneShot_keepsSound (o : OneShot) (s : State) (h : s.listFull = false) :
    s.keepsSound (appendOneShot o s) := by
  refine keepsSound_of_shots _ _ (fun _ => ?_) (by simp [State.sameService])
  simp only [State.listFull, decide_eq_false_iff_not] at h
  simp only [appendOneShot_line, List.length_append, List.length_singleton]
  omega

theorem putStation_keepsSound (a : Nat) (x : Station) (s : State) : s.keepsSound (putStation a x s) :=
  keepsSound_of_same _ _ (by simp [State.sameService])

theorem askService_keepsSound (a : Nat) (s : State) : s.keepsSound (askService a s) := by
  unfold askService
  split
  · exact putStation_keepsSound a _ s
  · next h =>
    exact (putStation_keepsSound a { s.line.stations.get a with servicePending := true } s).trans
      (appendOneShot_keepsSound _ _ (Bool.eq_false_iff.2 h))

theorem serviceFlag_keepsSound (a : Nat) (flags : StationFlags) (s : State) : s.keepsSound (serviceFlag a flags s) :=
  when_keepsSound _ _ s fun _ => askService_keepsSound a s

theorem serveDeferred_keepsSound (s : State) : s.keepsSound (serveDeferred s) := by
  unfold serveDeferred
  split
  · split
    · exact .refl s
    · next h =>
      exact (keepsSound_of_same s (s.setLine _) (by simp [State.sameService])).trans
        (appendOneShot_keepsSound _ _ (Bool.eq_false_iff.2 h))
  · exact .refl s

theorem leaveHead_keepsSound (s : State) : s.keepsSound (leaveHead s) := by
  have hdrop : s.keepsSound (s.setLine { s.line with oneShots := s.line.oneShots.drop 1 }) := by
    refine keepsSound_of_shots _ _ (fun h => ?_) (by simp [State.sameService])
    simp only [State.setLine_line, List.length_drop]
    omega
  exact hdrop.trans (serveDeferred_keepsSound _)

theorem endService_keepsSound (a : Nat) (o : LineOutcome) (words : List Word) (s : State) :
    s.keepsSound (endService a o words s) := by
  have hshots : (endService a o words s).line.oneShots = s.line.oneShots := by
    rw [endService_line]
    rfl
  exact keepsSound_of_same _ _ (by simp [State.sameService, hshots])

theorem endOneShot_keepsSound (a : Nat) (o : LineOutcome) (flags : StationFlags) (c : Channel) (attempts : Nat)
    (words : List Word) (s : State) : s.keepsSound (endOneShot a o flags c attempts words s) := by
  unfold endOneShot
  split
  · exact ((leaveHead_keepsSound s).trans (endService_keepsSound _ o words _)).trans (serviceFlag_keepsSound a flags _)
  · refine ((leaveHead_keepsSound s).trans (serviceFlag_keepsSound a flags _)).trans ?_
    exact keepsSound_of_same _ _ (by simp [State.sameService])
  · exact serviceFlag_keepsSound a flags s

theorem emptyList_keepsSound (s : State) : s.keepsSound (emptyList s) := by
  have hshots : (emptyList s).line.oneShots = [] := by
    unfold emptyList
    refine forEach_induct (fun t => t.line.oneShots = []) _ clearPending _ (fun a _ t ht => ?_) (by simp)
    exact when_induct (fun t => t.line.oneShots = []) _ _ t (fun _ => id) ht
  exact keepsSound_of_shots _ _ (fun _ => by simp [hshots]) (by simp [State.sameService])

/-! ### The end of a transaction (R44, R61) -/

theorem takeSummary_keepsSound (s : State) : s.keepsSound (takeSummary s) :=
  when_keepsSound _ _ s fun _ =>
    (keepsSound_of_same s (writeStatus (s.setLine _)) (by simp [State.sameService])).trans
      (takeSource_keepsSound .networkDown 0 _)

theorem channelChanged_keepsSound (c : Channel) (failed : Bool) (s : State) :
    s.keepsSound (channelChanged c failed s) :=
  (keepsSound_of_same s (post _ _ _ s) (by simp [State.sameService])).trans
    ((takeSource_keepsSound .channelFailed (channelCode c) _).trans (takeSummary_keepsSound _))

theorem changeHealth_keepsSound (c : Channel) (h : ChannelHealth) (s : State) : s.keepsSound (changeHealth c h s) :=
  (keepsSound_of_same s (when (h ≠ s.line.health c) writeStatus (s.setLine (s.line.withHealth c h)))
    (by simp [State.sameService])).trans (when_keepsSound _ _ _ fun _ => channelChanged_keepsSound c h.failed _)

theorem moveHealth_keepsSound (made : List (Channel × LineOutcome)) (s : State) : s.keepsSound (moveHealth made s) :=
  moveHealth_induct s.keepsSound made s (fun c x t ht => ht.trans (changeHealth_keepsSound c x t)) (.refl s)

theorem moveProbeHealth_keepsSound (c : Channel) (o : LineOutcome) (s : State) :
    s.keepsSound (moveProbeHealth c o s) := changeHealth_keepsSound c _ s

theorem stationChanged_keepsSound (a : Nat) (x : Station) (s : State) : s.keepsSound (stationChanged a x s) :=
  (keepsSound_of_same s (takeSearch (post .stationChange a x.state.code s))
    (by simp [State.sameService, takeSearch_line])).trans (takeSummary_keepsSound _)

theorem changeStation_keepsSound (a : Nat) (x : Station) (s : State) : s.keepsSound (changeStation a x s) :=
  (putStation_keepsSound a x s).trans
    ((when_keepsSound _ _ _ fun _ => stationChanged_keepsSound a x _).trans
      ((takeSource_keepsSound .stationSilent a _).trans (takeSource_keepsSound .stationFault a _)))

theorem moveStation_keepsSound (a : Nat) (made : List (Channel × LineOutcome)) (flags : StationFlags) (s : State) :
    s.keepsSound (moveStation a made flags s) :=
  moveStation_induct s.keepsSound a made flags s (fun x => changeStation_keepsSound a x s) (.refl s)

theorem deliverWords_keepsSound (e : Nat) (words : List Word) (s : State) : s.keepsSound (deliverWords e words s) :=
  forEach_keepsSound _ _ s fun _ t => when_keepsSound _ _ t fun _ => deliverValue_keepsSound _ _ t

theorem deliverEnd_keepsSound (t : Transaction) (o : LineOutcome) (words : List Word) (s : State) :
    s.keepsSound (deliverEnd t o words s) := by
  unfold deliverEnd
  split
  · exact when_keepsSound _ _ s fun _ => deliverWords_keepsSound _ words s
  · exact when_keepsSound _ _ s fun _ => deliverWords_keepsSound _ words s
  · exact .refl s

theorem logEnd_keepsSound (t : Transaction) (o : LineOutcome) (c : Channel) (attempts : Nat) (flags : StationFlags)
    (words : List Word) (s : State) : s.keepsSound (logEnd t o c attempts flags words s) :=
  keepsSound_of_same _ _ (by simp [State.sameService])

theorem setTransaction_keepsSound (x : Option Transaction) (s : State) :
    s.keepsSound (s.setLine { s.line with transaction := x }) := keepsSound_of_same _ _ (by simp [State.sameService])

theorem endTransaction_keepsSound (t : Transaction) (o : LineOutcome) (flags : StationFlags) (words : List Word)
    (s : State) : s.keepsSound (endTransaction t o flags words s) := by
  have hmoved := (setTransaction_keepsSound none s).trans (moveHealth_keepsSound t.made _)
  have hserved := (hmoved.trans (deliverEnd_keepsSound t o words _)).trans
    (moveStation_keepsSound t.station t.made flags _)
  unfold endTransaction
  refine State.keepsSound.trans ?_ (logEnd_keepsSound ..)
  split
  · exact hserved.trans (endOneShot_keepsSound ..)
  · exact hserved.trans (serviceFlag_keepsSound ..)

theorem endProbe_keepsSound (t : Transaction) (c : Channel) (o : LineOutcome) (flags : StationFlags)
    (words : List Word) (s : State) : s.keepsSound (endProbe t c o flags words s) := by
  have hmoved := (setTransaction_keepsSound none s).trans (moveProbeHealth_keepsSound c o _)
  unfold endProbe
  dsimp only
  refine State.keepsSound.trans ?_ (logEnd_keepsSound ..)
  refine State.keepsSound.trans ?_ (serviceFlag_keepsSound t.station flags _)
  refine State.keepsSound.trans ?_ (when_keepsSound _ _ _ fun _ => changeStation_keepsSound t.station _ _)
  exact hmoved.trans (deliverEnd_keepsSound t o words _)

theorem setProbe_keepsSound (t : Transaction) (o : LineOutcome) (s : State) : s.keepsSound (setProbe t o s) :=
  keepsSound_of_same _ _ (by simp [State.sameService])

theorem attemptEnded_keepsSound (t : Transaction) (c : Channel) (o : LineOutcome) (received : List Byte) (s : State) :
    s.keepsSound (attemptEnded t c o received s) :=
  attemptEnded_induct s.keepsSound t c o received s (fun _ _ => endProbe_keepsSound ..)
    (fun _ _ => (endTransaction_keepsSound ..).trans (setProbe_keepsSound ..))
    (fun _ _ => setTransaction_keepsSound _ s)

/-! ### Attempts and their ends (R43, R59) -/

theorem setPhase_keepsSound (p : LinePhase) (s : State) : s.keepsSound (s.setLine { s.line with phase := p }) :=
  keepsSound_of_same _ _ (by simp [State.sameService])

theorem endAttempt_keepsSound (a : Attempt) (o : LineOutcome) (s : State) : s.keepsSound (endAttempt a o s) := by
  unfold endAttempt
  dsimp only
  split
  · exact ((setPhase_keepsSound _ s).trans (attemptEnded_keepsSound ..)).trans
      (when_keepsSound _ _ _ fun _ => emptyList_keepsSound _)
  · exact setPhase_keepsSound _ s

theorem countOverrun_keepsSound (s : State) : s.keepsSound (countOverrun s) :=
  keepsSound_of_same _ _ (by simp [State.sameService, countOverrun])

theorem skipEntry_keepsSound (e : Nat) (s : State) : s.keepsSound (skipEntry e s) :=
  (logEnd_keepsSound ..).trans (countOverrun_keepsSound _)

theorem startFirst_keepsSound (c : Channel) (x : Transaction) (s : State) : s.keepsSound (startFirst c x s) :=
  keepsSound_of_same _ _ (by simp [State.sameService, startFirst, startAttempt])

theorem runList_keepsSound (s : State) : s.keepsSound (runList s) := by
  unfold runList
  split
  · exact when_keepsSound _ _ s fun _ => startFirst_keepsSound _ _ s
  · exact .refl s

theorem setWalk_keepsSound (l : List Nat) (s : State) : s.keepsSound (s.setLine { s.line with walk := l }) :=
  keepsSound_of_same _ _ (by simp [State.sameService])

theorem walkOn_keepsSound (l : List Nat) (s : State) : s.keepsSound (walkOn l s) := by
  induction l generalizing s with
  | nil => exact (setWalk_keepsSound [] s).trans (runList_keepsSound _)
  | cons e rest ih =>
    unfold walkOn
    split
    · exact (setWalk_keepsSound rest s).trans (startFirst_keepsSound _ _ _)
    · exact (skipEntry_keepsSound e s).trans (ih _)

theorem startNext_keepsSound (s : State) : s.keepsSound (startNext s) :=
  when_keepsSound _ _ s fun _ => walkOn_keepsSound _ s

theorem startMinor_keepsSound (m due : Nat) (s : State) : s.keepsSound (startMinor m due s) :=
  (keepsSound_of_same s (s.setLine _) (by simp [State.sameService])).trans (startNext_keepsSound _)

theorem minorExpires_keepsSound (s : State) : s.keepsSound (minorExpires s) :=
  onTimer_keepsSound _ _ s fun due => startMinor_keepsSound _ due _

theorem responseExpires_keepsSound (s : State) : s.keepsSound (responseExpires s) := by
  unfold responseExpires
  split
  · split
    · exact (reach_keepsSound s _).trans (endAttempt_keepsSound ..)
    · exact .refl s
  · exact .refl s

theorem windowExpires_keepsSound (s : State) : s.keepsSound (windowExpires s) := by
  unfold windowExpires
  split
  · split
    · exact .refl s
    · exact (reach_keepsSound s _).trans (endAttempt_keepsSound ..)
  · exact (reach_keepsSound s _).trans (endAttempt_keepsSound ..)
  · exact .refl s

theorem gapExpires_keepsSound (s : State) : s.keepsSound (gapExpires s) := by
  unfold gapExpires
  split
  · split
    · exact .refl s
    · exact (reach_keepsSound s _).trans (setPhase_keepsSound _ _)
  · exact .refl s

theorem judgeCharacter_keepsSound (a : Attempt) (ends : Nat) (data : Byte) (headerMark stopBit : Bool) (s : State) :
    s.keepsSound (judgeCharacter a ends data headerMark stopBit s) := by
  unfold judgeCharacter
  split
  · exact (reach_keepsSound s ends).trans (setPhase_keepsSound _ _)
  · dsimp only
    split
    · split
      · exact (reach_keepsSound s ends).trans (endAttempt_keepsSound ..)
      · exact (reach_keepsSound s ends).trans (setPhase_keepsSound _ (s.reach ends))
    · exact .refl s

theorem replyCharacterArrives_keepsSound (c : Channel) (gap : Int) (data : Byte) (headerMark stopBit : Bool)
    (s : State) : s.keepsSound (replyCharacterArrives c gap data headerMark stopBit s) := by
  unfold replyCharacterArrives
  split
  · dsimp only
    split_ifs
    · exact .refl s
    · exact responseExpires_keepsSound s
    · exact gapExpires_keepsSound s
    · exact windowExpires_keepsSound s
    · exact judgeCharacter_keepsSound ..
  · exact .refl s

theorem startAttempt_keepsSound (c : Channel) (x : Transaction) (s : State) : s.keepsSound (startAttempt c x s) :=
  keepsSound_of_same _ _ (by simp [State.sameService, startAttempt])

theorem retryDue_keepsSound (x : Transaction) (s : State) : s.keepsSound (retryDue x s) := by
  unfold retryDue
  dsimp only
  split
  · exact startAttempt_keepsSound _ x s
  · exact ((endTransaction_keepsSound ..).trans (countOverrun_keepsSound _)).trans (startNext_keepsSound _)

theorem probeDue_keepsSound (p : Transaction) (s : State) : s.keepsSound (probeDue p s) := by
  have hset : s.keepsSound (s.setLine { s.line with probeNext := none }) :=
    keepsSound_of_same _ _ (by simp [State.sameService])
  unfold probeDue
  dsimp only
  split
  · exact hset.trans (startAttempt_keepsSound _ _ _)
  · exact hset.trans (startNext_keepsSound _)

theorem turnaroundExpires_keepsSound (s : State) : s.keepsSound (turnaroundExpires s) := by
  unfold turnaroundExpires
  split
  · next ends _ =>
    have hidle := (reach_keepsSound s ends).trans (setPhase_keepsSound .idle (s.reach ends))
    dsimp only
    split
    · exact hidle.trans (retryDue_keepsSound _ _)
    · exact hidle.trans (probeDue_keepsSound _ _)
    · exact hidle.trans (startNext_keepsSound _)
  · exact .refl s

theorem endWaiting_keepsSound (s : State) : s.keepsSound (endWaiting s) := by
  unfold endWaiting
  split
  · split
    · exact endTransaction_keepsSound ..
    · exact .refl s
  · exact .refl s

theorem stopLine_keepsSound (s : State) : s.keepsSound (stopLine s) := by
  have hstopped : s.keepsSound (s.setLine { s.line with walk := [], minorNext := none, probeNext := none }) :=
    keepsSound_of_same _ _ (by simp [State.sameService])
  unfold stopLine
  dsimp only
  split
  · exact hstopped
  · exact hstopped.trans ((endWaiting_keepsSound _).trans (emptyList_keepsSound _))

end Sys2Proof.Machine
end

section
/-! PROOFS. O6: the limits through the gauges, the lamps' timers and the workshop line. -/

namespace Sys2Proof.Machine

/-! ### Gauges and the timers of the lamps -/

theorem gaugeExpires_keepsSound (i : Nat) (s : State) : s.keepsSound (gaugeExpires i s) :=
  keepsSound_of_same _ _ (by simp [State.sameService])

theorem lampCheckExpires_keepsSound (s : State) : s.keepsSound (lampCheckExpires s) :=
  keepsSound_of_same _ _ (by simp [State.sameService])

theorem writeStatus_keepsSound (s : State) : s.keepsSound (writeStatus s) :=
  keepsSound_of_same _ _ (by simp [State.sameService])

/-! ### The forced set (R171) -/

/-- A change of the forced set that stays within its limit keeps every limit. -/
theorem keepsSound_of_forced (s t : State) (hforced : s.forcedSound → t.forcedSound)
    (h : (t.warnings = s.warnings ∧ t.line.oneShots = s.line.oneShots) ∧ s.sameService t) : s.keepsSound t := by
  obtain ⟨⟨hwarnings, hshots⟩, hservice⟩ := h
  refine ⟨⟨?_, hforced, ?_⟩, serviceSound_of_same s t hservice⟩
  · simp only [State.acksSound, hwarnings, imp_self]
  · simp only [hshots, imp_self]

theorem joinForced_sorted (n : Nat) (l : List Nat) (h : l.Pairwise (· < ·)) :
    (joinForced n l).Pairwise (· < ·) := by
  induction l with
  | nil => simp [joinForced]
  | cons k rest ih =>
    obtain ⟨hk, hrest⟩ := List.pairwise_cons.1 h
    unfold joinForced
    split_ifs with hlt heq
    · refine List.pairwise_cons.2 ⟨fun m hm => ?_, h⟩
      obtain rfl | hm := List.mem_cons.1 hm
      · exact hlt
      · exact hlt.trans (hk m hm)
    · exact h
    · refine List.pairwise_cons.2 ⟨fun m hm => ?_, ih hrest⟩
      obtain rfl | hm := (mem_joinForced n m rest).1 hm
      · omega
      · exact hk m hm

/-- An index that is there already does not join twice. -/
theorem joinForced_length_le (n : Nat) (l : List Nat) : (joinForced n l).length ≤ l.length + 1 := by
  induction l with
  | nil => simp [joinForced]
  | cons k rest ih =>
    unfold joinForced
    split_ifs <;> simp only [List.length_cons] at * <;> omega

theorem joinForced_of_mem (n : Nat) (l : List Nat) (h : l.Pairwise (· < ·)) (hn : n ∈ l) :
    (joinForced n l).length = l.length := by
  induction l with
  | nil => simp at hn
  | cons k rest ih =>
    obtain ⟨hk, hrest⟩ := List.pairwise_cons.1 h
    unfold joinForced
    obtain rfl | hn := List.mem_cons.1 hn
    · simp
    · have := hk n hn
      rw [if_neg (by omega), if_neg (by omega), List.length_cons, List.length_cons, ih hrest hn]

/-- A force that the limit admits joins the set within its limit (R171). -/
theorem forceAccepted_keepsSound (n : Nat) (w : Word) (s : State)
    (h : (!s.shop.forced.contains n && 8 ≤ s.shop.forced.length) = false) : s.keepsSound (forceAccepted n w s) := by
  have hjoined : s.keepsSound (s.setShop { s.shop with forced := joinForced n s.shop.forced }) := by
    refine keepsSound_of_forced _ _ (fun ⟨hlength, hsorted⟩ => ⟨?_, joinForced_sorted n _ hsorted⟩)
      (by simp [State.sameService])
    change (joinForced n s.shop.forced).length ≤ 8
    by_cases hn : n ∈ s.shop.forced
    · rwa [joinForced_of_mem n _ hsorted hn]
    · have := joinForced_length_le n s.shop.forced
      simp [hn] at h
      omega
  exact (hjoined.trans (placeForce_keepsSound n w _)).trans (writeStatus_keepsSound _)

theorem releaseForces_keepsSound (gone : List Nat) (s : State) : s.keepsSound (releaseForces gone s) := by
  have hleft : s.keepsSound (s.setShop { s.shop with
      forced := s.shop.forced.filter fun n => !gone.contains n }) := by
    refine keepsSound_of_forced _ _ (fun ⟨hlength, hsorted⟩ => ⟨?_, hsorted.filter _⟩) (by simp [State.sameService])
    exact (List.length_filter_le _ _).trans hlength
  exact (hleft.trans (forEach_keepsSound gone _ _ releaseForce_keepsSound)).trans (writeStatus_keepsSound _)

/-! ### Services (R165 to R173) -/

theorem raiseSession_read_keepsSound (s : State) : s.keepsSound (raiseSession .read s) :=
  keepsSound_of_lower _ _ (keepsLimits_of_same _ _ (by simp)) (by simp [raiseSession])

/-- SERVICE is granted under its conditions (R166). -/
theorem raiseSession_service_keepsSound (s : State) (h : s.serviceConditions = true) :
    s.keepsSound (raiseSession .service s) := by
  refine ⟨keepsLimits_of_same _ _ (by simp), fun _ => (serviceSound_iff _).2 fun _ => ?_⟩
  simpa [State.serviceConditions, State.inRun, State.brakeSet, State.usableSignal] using h

theorem grantSession_keepsSound (level : Session) (s : State)
    (h : s.keepsSound (raiseSession level s)) : s.keepsSound (grantSession level s) := by
  unfold grantSession
  split_ifs
  · exact .refl s
  · exact demoteSession_keepsSound s
  · exact h

theorem serveOpenSession_keepsSound (data : List Byte) (s : State) : s.keepsSound (serveOpenSession data s).2.2 := by
  unfold serveOpenSession
  dsimp only
  split_ifs with hrange hconditions hlevel
  · exact .refl s
  · exact .refl s
  · have hmet : s.serviceConditions = true := by simpa [hlevel] using hconditions
    exact (grantSession_keepsSound _ s (raiseSession_service_keepsSound s hmet)).trans
      (keepsSound_of_same _ _ (by simp [State.sameService]))
  · exact (grantSession_keepsSound _ s (raiseSession_read_keepsSound s)).trans
      (keepsSound_of_same _ _ (by simp [State.sameService]))

theorem serveForceSignal_keepsSound (data : List Byte) (s : State) : s.keepsSound (serveForceSignal data s).2.2 := by
  unfold serveForceSignal
  dsimp only
  split_ifs with hrange hprotected hlimit
  · exact .refl s
  · exact .refl s
  · exact .refl s
  · exact forceAccepted_keepsSound _ _ s (Bool.eq_false_iff.2 hlimit)

theorem serveReleaseSignal_keepsSound (data : List Byte) (s : State) :
    s.keepsSound (serveReleaseSignal data s).2.2 := by
  unfold serveReleaseSignal
  dsimp only
  split_ifs
  · exact .refl s
  · exact .refl s
  · exact releaseForces_keepsSound _ s

theorem serveResetDoorCounter_keepsSound (data : List Byte) (s : State) :
    s.keepsSound (serveResetDoorCounter data s).2.2 := by
  unfold serveResetDoorCounter
  split_ifs
  · exact .refl s
  · exact keepsSound_of_same _ _ (by simp [State.sameService, resetCounters])

theorem serveGaugeSweep_keepsSound (set : BitVec 8) (s : State) : s.keepsSound (serveGaugeSweep set s).2.2 :=
  keepsSound_of_same _ _ (by simp [State.sameService])

theorem serveLampCheck_keepsSound (s : State) : s.keepsSound (serveLampCheck s).2.2 := by
  unfold serveLampCheck
  split_ifs
  · exact .refl s
  · exact .refl s
  · exact (keepsSound_of_same s (s.setShop _) (by simp [State.sameService])).trans (startLampCheck_keepsSound _ _)

theorem serveActuatorTest_keepsSound (data : List Byte) (s : State) :
    s.keepsSound (serveActuatorTest data s).2.2 := by
  unfold serveActuatorTest
  split
  · exact serveGaugeSweep_keepsSound _ s
  · exact serveLampCheck_keepsSound s
  · exact keepsSound_of_same _ _ (by simp [State.sameService])
  · exact .refl s
  · exact .refl s

theorem serve_keepsSound (v : Service) (data : List Byte) (s : State) : s.keepsSound (v.serve data s).2.2 := by
  cases v with
  | openSession => exact serveOpenSession_keepsSound data s
  | closeSession => exact endSession_keepsSound .session true s
  | forceSignal => exact serveForceSignal_keepsSound data s
  | releaseSignal => exact serveReleaseSignal_keepsSound data s
  | actuatorTest => exact serveActuatorTest_keepsSound data s
  | resetDoorCounter => exact serveResetDoorCounter_keepsSound data s
  | identify | readSignals | readFaults | readFaultSnapshot | clearFaults | readDoorCounters | readLog =>
    exact keepsSound_of_same _ _ (by simp [State.sameService, Service.serve])

theorem serveRequest_keepsSound (code : Byte) (data : List Byte) (s : State) :
    s.keepsSound (serveRequest code data s).2.2 := by
  unfold serveRequest
  split
  · exact .refl s
  · split
    · exact .refl s
    · exact serve_keepsSound _ data s

/-! ### The receiver (R163, R164) -/

theorem takeRequest_keepsSound (code tag : Byte) (data : List Byte) (s : State) :
    s.keepsSound (takeRequest code tag data s) := by
  have hidle : s.keepsSound (restartIdle s) := keepsSound_of_same _ _ (by simp [State.sameService])
  exact (hidle.trans (serveRequest_keepsSound code data _)).trans
    (keepsSound_of_same _ (State.setShop _ _) (by simp [State.sameService]))

theorem receiveAs_keepsSound (r : Receiver) (s : State) : s.keepsSound (receiveAs r s) :=
  keepsSound_of_same _ _ (by simp [State.sameService])

theorem frameGains_keepsSound (frame : List Byte) (s : State) : s.keepsSound (frameGains frame s) := by
  unfold frameGains frameComplete
  split_ifs
  · exact receiveAs_keepsSound _ s
  · exact takeRequest_keepsSound ..
  · exact receiveAs_keepsSound _ s

theorem receiveCharacter_keepsSound (data : Byte) (error : CharError) (s : State) :
    s.keepsSound (receiveCharacter data error s) := by
  unfold receiveCharacter
  split
  · split_ifs
    · exact receiveAs_keepsSound _ s
    · exact receiveAs_keepsSound _ s
  · split_ifs
    · exact receiveAs_keepsSound _ s
    · exact frameGains_keepsSound _ s
  · exact receiveAs_keepsSound _ s
  · exact .refl s

theorem receiveFrame_keepsSound (frame : List Byte) (s : State) : s.keepsSound (receiveFrame frame s) :=
  when_keepsSound _ _ s fun _ => foldl_keepsSound frame _ s fun t b => receiveCharacter_keepsSound b .none t

theorem sessionExpires_keepsSound (s : State) : s.keepsSound (sessionExpires s) :=
  onTimer_keepsSound _ _ s fun _ => endSession_keepsSound .session false _

end Sys2Proof.Machine
end

section
/-! PROOFS. O6: the limits through the run states, the requests and the host port, and the invariant itself. -/

namespace Sys2Proof.Machine

/-! ### Blocks set anew -/

/-- The warnings, the forced set and the one-shot list are within their limits (R66, R105, R171). -/
def State.withinLimits (s : State) : Prop := s.acksSound ∧ s.forcedSound ∧ s.line.oneShots.length ≤ 4

theorem keepsLimits_of_within (s t : State) (h : t.withinLimits) : s.keepsLimits t := by
  obtain ⟨hacks, hforced, hshots⟩ := h
  exact ⟨fun _ => hacks, fun _ => hforced, fun _ => hshots⟩

theorem State.keepsLimits.within {s t : State} (h : s.keepsLimits t) (hs : s.withinLimits) : t.withinLimits := by
  obtain ⟨hacks, hforced, hshots⟩ := h
  obtain ⟨kacks, kforced, kshots⟩ := hs
  exact ⟨hacks kacks, hforced kforced, hshots kshots⟩

/-- Empty limits: no warning acknowledged, no force, no one-shot. -/
theorem withinLimits_of_empty (s : State) (hacks : ∀ w, w < 96 → (s.warnings.get w).acked = false)
    (hforced : s.shop.forced = []) (hshots : s.line.oneShots = []) : s.withinLimits :=
  ⟨fun w hw => ackSound_of_unacked _ (hacks w hw), by simp [State.forcedSound, hforced], by simp [hshots]⟩

theorem setBlocks_withinLimits (byApply : Bool) (s : State) : (setBlocks byApply s).withinLimits :=
  withinLimits_of_empty _ (fun w hw => by simp [setBlocks, hw, Warning.blanked]) rfl rfl

theorem wakeBlocks_withinLimits (s : State) : (wakeBlocks s).withinLimits :=
  withinLimits_of_empty _ (fun w hw => by simp [wakeBlocks, blankBlocks, hw, Warning.blanked]) rfl rfl

theorem softBlocks_withinLimits (s : State) : (softBlocks s).withinLimits :=
  withinLimits_of_empty _ (fun w hw => by simp [softBlocks, blankBlocks, hw, Warning.blanked]) rfl rfl

theorem reset_withinLimits : State.reset.withinLimits :=
  withinLimits_of_empty _ (fun w hw => by simp [State.reset, hw]) rfl rfl

/-! ### Run states (R195 to R202) -/

theorem startConfigIdle_keepsSound (s : State) : s.keepsSound (startConfigIdle s) :=
  keepsSound_of_same _ _ (by simp [State.sameService])

theorem enterStandby_keepsSound (s : State) : s.keepsSound (enterStandby s) :=
  keepsSound_of_lower _ _
    ((endSession_keepsLimits .session false s).trans (keepsLimits_of_same _ _ (by simp [enterStandby])))
    (by simp [enterStandby, endSession_detached])

theorem standbyIfDue_keepsSound (s : State) : s.keepsSound (standbyIfDue s) :=
  when_keepsSound _ _ s fun _ => enterStandby_keepsSound s

theorem stopBlocks_keepsLimits (s : State) : s.keepsLimits (stopBlocks s) := by
  let u := stopDoors (stopSignals (stopSense (stopLine s)))
  have hsense : s.keepsLimits (stopSense (stopLine s)) := ((stopLine_keepsSound s).trans (stopSense_keepsSound _)).1
  have hdoors : s.keepsLimits u := hsense.trans (keepsLimits_of_same _ u (by simp [u]))
  exact (hdoors.trans (stopWarnings_keepsSound u).1).trans (keepsLimits_of_same _ _ (by simp [stopBlocks, u]))

theorem leaveRun_keepsLimits (new : RunState) (s : State) : s.keepsLimits (leaveRun new s) :=
  ((keepsLimits_of_same s (changeRunState new s) (by simp)).trans (stopBlocks_keepsLimits _)).trans
    (keepsLimits_of_same _ _ (by simp [leaveRun]))

/-- The part leaves RUN with a SERVICE session dropped to READ (R199). -/
theorem toConfig_keepsSound (s : State) : s.keepsSound (toConfig s) :=
  (keepsSound_of_lower _ _ ((leaveRun_keepsLimits .config s).trans (demoteFor_keepsSound .leftRun _).1)
    (demoteFor_lower .leftRun _)).trans (startConfigIdle_keepsSound _)

theorem toShutdown_keepsSound (s : State) : s.keepsSound (toShutdown s) :=
  (keepsSound_of_lower _ _ ((leaveRun_keepsLimits .shutdown s).trans (endSession_keepsLimits .leftRun false _))
    (by simp [endSession_detached])).trans (standbyIfDue_keepsSound _)

/-- Out of RUN no SERVICE session stands, and what keeps the session opens none (R166). -/
theorem keepsSound_outOfRun (s t : State) (hr : s.run.state ≠ .run) (h : s.keepsLimits t)
    (hsession : t.shop.session = s.shop.session) : s.keepsSound t :=
  ⟨h, fun hs => serviceSound_of_lower t fun k => hr (hs (hsession ▸ k)).1⟩

theorem takeBlocks_keepsSound (s : State) : s.keepsSound (takeBlocks s) := by
  let u := forEach (List.range 96) takePriority (takeDuties s)
  have hduties : s.keepsSound (takeDuties s) := keepsSound_of_same _ _ (by simp [State.sameService])
  have hpriorities : s.keepsSound u := hduties.trans (forEach_keepsSound _ _ _ takePriority_keepsSound)
  have hcomposed : s.keepsSound (firstComposition u) :=
    hpriorities.trans (keepsSound_of_same u _ (by simp [State.sameService]))
  exact (hcomposed.trans (takeInterlock_keepsSound _)).trans (forEach_keepsSound _ _ _ takeCondition_keepsSound)

/-- RUN is entered with the blocks set anew, whatever stood before. -/
theorem enterRun_withinLimits (byApply : Bool) (s : State) : (enterRun byApply s).withinLimits := by
  let u := takeBlocks (blocksSet byApply s)
  have hset : (blocksSet byApply s).withinLimits := (writeStatus_keepsSound _).1.within (setBlocks_withinLimits _ _)
  have htaken : u.withinLimits := (takeBlocks_keepsSound _).1.within hset
  have htimers : u.keepsLimits (startRunOn (startLiveness u)) := keepsLimits_of_same _ _ (by simp)
  rw [enterRun_eq]
  exact (htimers.trans (startMinor_keepsSound 0 s.now _).1).within htaken

theorem enterRun_keepsSound (byApply : Bool) (s : State) (hr : s.run.state ≠ .run) :
    s.keepsSound (enterRun byApply s) :=
  keepsSound_outOfRun _ _ hr (keepsLimits_of_within _ _ (enterRun_withinLimits byApply s)) (by simp)

theorem runOn_keepsSound (s : State) : s.keepsSound (runOn s) := by
  unfold runOn
  split
  · exact toShutdown_keepsSound s
  · exact keepsSound_of_same _ _ (by simp [State.sameService])

theorem runOnExpires_keepsSound (s : State) : s.keepsSound (runOnExpires s) :=
  onTimer_keepsSound _ _ s fun _ => toShutdown_keepsSound _

theorem configIdleExpires_keepsSound (s : State) : s.keepsSound (configIdleExpires s) :=
  onTimer_keepsSound _ _ s fun _ => keepsSound_of_same _ (State.setRun _ _) (by simp [State.sameService])

theorem wake_keepsSound (s : State) : s.keepsSound (wake s) := by
  let u := wakeBlocks (s.setRun { s.run with
    runOnTimer := none, configIdleTimer := none, standbyPending := false, applySlot := none })
  have hwoken : u.keepsLimits (wake s) := keepsLimits_of_same u _ (by simp [wake, u])
  exact keepsSound_of_lower _ _ (keepsLimits_of_within _ _ (hwoken.within (wakeBlocks_withinLimits _)))
    (by simp [wake, wakeBlocks])

theorem wakeFromStandby_keepsSound (s : State) : s.keepsSound (wakeFromStandby s) :=
  when_keepsSound _ _ s fun _ => wake_keepsSound s

theorem releaseSampled_keepsSound (d reading samples : Nat) (s : State) :
    s.keepsSound (releaseSampled d reading samples s) := by
  refine when_keepsSound _ _ s fun _ => ?_
  unfold tallyRelease
  split
  · exact wake_keepsSound s
  · exact keepsSound_of_same _ _ (by simp [State.sameService])

theorem ignitionChanged_keepsSound (s : State) : s.keepsSound (ignitionChanged s) := by
  unfold ignitionChanged
  split
  case h_1 => exact wake_keepsSound s
  case h_2 => exact keepsSound_of_same _ _ (by simp [State.sameService])
  case h_3 => exact keepsSound_of_same _ _ (by simp [State.sameService])
  case h_4 hstate _ => exact enterRun_keepsSound false s (by simp [hstate])
  case h_5 => exact startConfigIdle_keepsSound s
  case h_6 => exact runOn_keepsSound s
  case h_7 => exact .refl s

theorem ignitionSampled_keepsSound (on : Bool) (samples : Nat) (s : State) :
    s.keepsSound (ignitionSampled on samples s) := by
  unfold ignitionSampled
  split_ifs
  · exact .refl s
  · exact keepsSound_of_same _ _ (by simp [State.sameService])
  · exact keepsSound_of_same _ _ (by simp [State.sameService])
  · exact (keepsSound_of_same s (writeStatus (s.setRun _)) (by simp [State.sameService])).trans
      (ignitionChanged_keepsSound _)

theorem softReset_keepsSound (s : State) : s.keepsSound (softReset s) := by
  let u := softBlocks (resetEnded s)
  have haborted : u.keepsLimits (softReset s) := keepsLimits_of_same u _ (by simp [softReset_eq, u])
  refine keepsSound_of_lower _ _ (keepsLimits_of_within _ _ (haborted.within (softBlocks_withinLimits _))) ?_
  simp [softReset_eq, resetEnded, endSession_detached]

theorem powerUp_keepsSound (s : State) : s.keepsSound (powerUp s) :=
  keepsSound_of_lower _ _ (keepsLimits_of_within _ _ reset_withinLimits) (by simp [powerUp, State.reset])

/-! ### Requests (R181, R187) -/

theorem refuseRequest_keepsSound (i : Nat) (code : ResultCode) (detail : Nat) (s : State) :
    s.keepsSound (refuseRequest i code detail s) := keepsSound_of_same _ _ (by simp [State.sameService])

theorem slotDone_keepsSound (i : Nat) (data : List Byte) (s : State) : s.keepsSound (slotDone i data s) :=
  keepsSound_of_same _ _ (by simp [State.sameService])

theorem slotTaken_keepsSound (i : Nat) (s : State) : s.keepsSound (setSlotState i .taken s) :=
  keepsSound_of_same _ _ (by simp [State.sameService])

theorem requestEnterConfig_keepsSound (i : Nat) (s : State) : s.keepsSound (requestEnterConfig i s) := by
  unfold requestEnterConfig
  split
  · exact (slotDone_keepsSound i [] s).trans (toConfig_keepsSound _)
  · exact refuseRequest_keepsSound ..

theorem requestStandbyPermit_keepsSound (i : Nat) (s : State) : s.keepsSound (requestStandbyPermit i s) := by
  unfold requestStandbyPermit
  split
  · exact (slotDone_keepsSound i [] s).trans (toShutdown_keepsSound _)
  · exact refuseRequest_keepsSound ..

theorem applyItem_keepsSound (x : SupplyItem) (s : State) : s.keepsSound (applyItem x s) := by
  unfold applyItem
  split
  · exact deliverValue_keepsSound _ _ s
  · exact declareFault_keepsSound _ _ s

theorem applyItems_keepsSound (l : List SupplyItem) (s : State) : s.keepsSound (applyItems l s).1 := by
  induction l generalizing s with
  | nil => exact .refl s
  | cons x rest ih => exact (applyItem_keepsSound x s).trans (ih _)

theorem requestSupplySignal_keepsSound (i : Nat) (s : State) : s.keepsSound (requestSupplySignal i s) := by
  unfold requestSupplySignal
  split_ifs
  · exact refuseRequest_keepsSound ..
  · exact refuseRequest_keepsSound ..
  · split
    · exact refuseRequest_keepsSound ..
    · exact (applyItems_keepsSound _ s).trans (slotDone_keepsSound i _ _)

/-- A transfer is taken where the list has a place (R66, R67). -/
theorem requestStationTransfer_keepsSound (i : Nat) (s : State) : s.keepsSound (requestStationTransfer i s) := by
  have htaken (o : OneShot) (h : ¬s.listFull = true) : s.keepsSound (appendOneShot o (setSlotState i .taken s)) :=
    (slotTaken_keepsSound i s).trans (appendOneShot_keepsSound o _ (by simpa [State.listFull] using h))
  unfold requestStationTransfer
  dsimp only
  split
  · exact refuseRequest_keepsSound ..
  · split
    · exact refuseRequest_keepsSound ..
    · split
      · exact refuseRequest_keepsSound ..
      · split
        · exact refuseRequest_keepsSound ..
        · next hfull => exact htaken _ hfull

theorem requestAcknowledge_keepsSound (i : Nat) (s : State) : s.keepsSound (requestAcknowledge i s) := by
  unfold requestAcknowledge
  dsimp only
  split_ifs
  · exact refuseRequest_keepsSound ..
  · exact refuseRequest_keepsSound ..
  · split
    · exact refuseRequest_keepsSound ..
    · split
      · exact refuseRequest_keepsSound ..
      · next hack => exact (acknowledge_keepsSound _ s hack).trans (slotDone_keepsSound i _ _)

theorem requestLampCheck_keepsSound (i : Nat) (s : State) : s.keepsSound (requestLampCheck i s) := by
  unfold requestLampCheck
  split_ifs
  · exact refuseRequest_keepsSound ..
  · exact refuseRequest_keepsSound ..
  · exact refuseRequest_keepsSound ..
  · exact (slotTaken_keepsSound i s).trans (startLampCheck_keepsSound _ _)

theorem requestWiringCheck_keepsSound (i : Nat) (s : State) : s.keepsSound (requestWiringCheck i s) := by
  unfold requestWiringCheck
  dsimp only
  split_ifs
  · exact refuseRequest_keepsSound ..
  · exact refuseRequest_keepsSound ..
  · exact refuseRequest_keepsSound ..
  · exact refuseRequest_keepsSound ..
  · exact refuseRequest_keepsSound ..
  · exact (slotTaken_keepsSound i s).trans (writeChannel_keepsSound _ _ _)

theorem route_keepsSound (k : RequestKind) (i : Nat) (s : State) : s.keepsSound (k.route i s) := by
  cases k with
  | applySetup => exact keepsSound_of_same _ (requestApplySetup i s) (by simp [State.sameService])
  | enterConfig => exact requestEnterConfig_keepsSound i s
  | standbyPermit => exact requestStandbyPermit_keepsSound i s
  | supplySignal => exact requestSupplySignal_keepsSound i s
  | stationTransfer => exact requestStationTransfer_keepsSound i s
  | acknowledge => exact requestAcknowledge_keepsSound i s
  | gaugeSweep => exact keepsSound_of_same _ (requestGaugeSweep i s) (by simp [State.sameService])
  | lampCheck => exact requestLampCheck_keepsSound i s
  | wiringCheck => exact requestWiringCheck_keepsSound i s
  | clearFaults => exact keepsSound_of_same _ (requestClearFaults i s) (by simp [State.sameService])

theorem takeSlot_keepsSound (i : Nat) (s : State) : s.keepsSound (takeSlot i s) := by
  unfold takeSlot
  split
  · exact refuseRequest_keepsSound ..
  · exact route_keepsSound _ i s

/-! ### The sweep (R181) -/

theorem sweepOn_keepsSound (k : Nat) (s : State) : s.keepsSound (sweepOn k s) :=
  keepsSound_of_same _ _ (by simp [State.sameService])

theorem visitSlot_keepsSound (s : State) : s.keepsSound (visitSlot s) := by
  unfold visitSlot
  split
  · exact (when_keepsSound _ _ s fun _ => takeSlot_keepsSound _ s).trans (sweepOn_keepsSound _ _)
  · exact .refl s

theorem visitSlots_keepsSound (n : Nat) (s : State) : s.keepsSound (visitSlots n s) := by
  induction n generalizing s with
  | zero => exact .refl s
  | succ n ih => exact (visitSlot_keepsSound s).trans (ih _)

theorem setPort_keepsSound (p : Port) (s : State) : s.keepsSound (s.setPort p) :=
  keepsSound_of_same _ _ (by simp [State.sameService])

theorem startSweep_keepsSound (places : Nat) (s : State) : s.keepsSound (startSweep places s) := by
  unfold startSweep
  split
  · exact setPort_keepsSound _ s
  · exact (setPort_keepsSound _ s).trans (visitSlots_keepsSound _ _)

theorem sweepExpires_keepsSound (places : Nat) (s : State) : s.keepsSound (sweepExpires places s) :=
  onTimer_keepsSound _ _ s fun _ => (setPort_keepsSound _ _).trans (startSweep_keepsSound places _)

theorem heldSweepStarts_keepsSound (places : Nat) (s : State) : s.keepsSound (heldSweepStarts places s) :=
  when_keepsSound _ _ s fun _ => (visitSlots_keepsSound 16 s).trans
    (when_keepsSound _ _ _ fun _ => (setPort_keepsSound _ _).trans (startSweep_keepsSound places _))

/-! ### The end of a validation (R198) -/

theorem validationFails_keepsSound (i : Nat) (f : SetupFailure) (s : State) : s.keepsSound (validationFails i f s) :=
  keepsSound_of_same _ _ (by simp [State.sameService])

theorem validationPasses_keepsLimits (i : Nat) (s : State) : s.keepsLimits (validationPasses i s) := by
  let t := writeStatus (s.setRun { s.run with
    applySlot := none, memoryLost := false, lastResult := .ok, lastDetail := 0 })
  let u := enterRun true ((finishSlot i .done .ok 0 [] t).setSetup (Setup.ofMemory s.mem))
  have htold : u.keepsLimits (validationPasses i s) := keepsLimits_of_same u _ (by simp [validationPasses, u, t])
  exact keepsLimits_of_within _ _ (htold.within (enterRun_withinLimits _ _))

theorem validationEnds_keepsLimits (s : State) : s.keepsLimits (validationEnds s) := by
  unfold validationEnds
  split
  · split
    · exact (validationFails_keepsSound ..).1
    · exact validationPasses_keepsLimits _ s
  · exact .refl s

/-- A validation is under way in CONFIG only, where no SERVICE session stands (R166, R198). -/
theorem validationEnds_serviceSound (s : State) (hr : s.runSound) (hs : s.serviceSound) :
    (validationEnds s).serviceSound := by
  cases h : s.run.applySlot with
  | none =>
    simp only [validationEnds, h]
    exact hs
  | some i =>
    obtain ⟨hvalidation, -⟩ := hr
    obtain ⟨hconfig, -⟩ := hvalidation (by simp [h])
    exact (keepsSound_outOfRun s _ (by simp [hconfig]) (validationEnds_keepsLimits s) (by simp)).2 hs

/-! ### The host port (R175 to R183) -/

theorem setDisplayLost_keepsSound (lost : Bool) (s : State) : s.keepsSound (setDisplayLost lost s) :=
  when_keepsSound _ _ s fun _ =>
    ((setPort_keepsSound _ s).trans (takeSource_keepsSound .displayLost 0 _)).trans (compose_keepsSound false _)

theorem heartbeat_keepsSound (s : State) : s.keepsSound (heartbeat s) :=
  (when_keepsSound s.inRun startLiveness s fun _ => setPort_keepsSound _ s).trans (setDisplayLost_keepsSound false _)

theorem livenessExpires_keepsSound (s : State) : s.keepsSound (livenessExpires s) :=
  onTimer_keepsSound _ _ s fun _ => (setPort_keepsSound _ _).trans (setDisplayLost_keepsSound true _)

theorem refuseWrite_keepsSound (addr : BitVec 14) (s : State) : s.keepsSound (refuseWrite addr s) :=
  keepsSound_of_same _ _ (by simp [State.sameService])

theorem registerWrite_keepsSound (addr : BitVec 14) (en : ByteEnable) (data : Word) (places : Nat) (s : State) :
    s.keepsSound (registerWrite addr en data places s) := by
  unfold registerWrite
  split
  · exact setPort_keepsSound _ s
  · exact (setPort_keepsSound _ s).trans (when_keepsSound _ _ _ fun _ => softReset_keepsSound _)
  · exact (heartbeat_keepsSound s).trans (startSweep_keepsSound places _)
  · unfold writeNoticeRead
    dsimp only
    split
    · exact (setPort_keepsSound _ s).trans (heartbeat_keepsSound _)
    · exact (refuseWrite_keepsSound addr s).trans (heartbeat_keepsSound _)
  · exact refuseWrite_keepsSound addr s

theorem takeWrite_keepsSound (addr : BitVec 14) (en : ByteEnable) (data : Word) (places : Nat) (s : State) :
    s.keepsSound (takeWrite addr en data places s) := by
  unfold takeWrite memoryWrite
  split_ifs
  · exact keepsSound_of_same _ _ (by simp [State.sameService])
  · exact refuseWrite_keepsSound addr s
  · exact registerWrite_keepsSound addr en data places s

theorem hostWrite_keepsSound (addr : BitVec 14) (en : ByteEnable) (data : Word) (places : Nat) (s : State) :
    s.keepsSound (hostWrite addr en data places s) :=
  when_keepsSound _ _ s fun _ => takeWrite_keepsSound addr en data places s

/-! ### Commands and steps -/

theorem whenProof_keepsSound (l : Nat) (old : ProofState → Bool) (new : ProofState) (f : State → State) (s : State)
    (h : s.keepsSound (f s)) : s.keepsSound (whenProof l old new f s) := by
  unfold whenProof
  split
  · exact h
  · exact .refl s

theorem sweepMoves_keepsSound (s : State) : s.keepsSound (sweepMoves s) := by
  unfold sweepMoves
  split_ifs
  · exact visitSlot_keepsSound s
  · exact setPort_keepsSound _ s
  · exact .refl s

theorem tick_keepsSound (s : State) : s.keepsSound (tick s) :=
  when_keepsSound _ _ s fun _ =>
    ((keepsSound_of_same s (s.setNow (s.now + 1)) (by simp [State.sameService])).trans (sweepMoves_keepsSound _)).trans
      (standbyIfDue_keepsSound _)

/-- A GAUGE_UPDATE that parks the last gauge brings the STANDBY that waits for it (R197, R200). -/
theorem gaugeUpdate_keepsSound (i : Nat) (s : State) :
    s.keepsSound (if (gaugeExpires i s).allParked && !s.allParked then standbyIfDue (gaugeExpires i s)
      else gaugeExpires i s) := by
  split
  · exact (gaugeExpires_keepsSound i s).trans (standbyIfDue_keepsSound _)
  · exact gaugeExpires_keepsSound i s

/-- What a command keeps where the timers of the run-state logic are sound. -/
def State.keepsTimed (s t : State) : Prop := s.keepsLimits t ∧ (s.runSound → s.serviceSound → t.serviceSound)

theorem keepsTimed_of_sound {s t : State} (h : s.keepsSound t) : s.keepsTimed t := ⟨h.1, fun _ => h.2⟩

theorem exec_keepsTimed (c : Instr) (s t : State) (h : exec c s = .next t) : s.keepsTimed t := by
  cases c
  case setupValidationEnd =>
    cases h
    exact ⟨validationEnds_keepsLimits s, validationEnds_serviceSound s⟩
  all_goals
    refine keepsTimed_of_sound ?_
    cases h
  case hostMemoryWrite | withdrawRequest | releaseSlot | portRegisterWrite | clearNoticeOverflow | clearWriteRefused
      | intEnable | softReset | attention | noticeRead =>
    exact hostWrite_keepsSound ..
  case postRequest slot kind =>
    cases kind with
    | none => exact hostWrite_keepsSound ..
    | some k => exact hostWrite_keepsSound ..
  case sweepTimerExpiry places => exact sweepExpires_keepsSound places s
  case heldSweepStart places => exact heldSweepStarts_keepsSound places s
  case livenessTimerExpiry => exact livenessExpires_keepsSound s
  case staleExpiry signal => exact staleExpires_keepsSound signal s
  case senseSample channel reading => exact sample_keepsSound channel reading.toNat s
  case debounceChange | senseFaultEntry | senseHeal => exact when_keepsSound _ _ s fun _ => sample_keepsSound _ _ s
  case wiringCheckMeasurement channel reading => exact wiringMeasurement_keepsSound channel reading.toNat s
  case supplyMeasurement millivolts => exact supplyMeasured_keepsSound millivolts s
  case supplyLowTimerExpiry => exact supplyLowExpires_keepsSound s
  case ignitionStateChange on samples => exact ignitionSampled_keepsSound on samples s
  case minorCycleStart => exact minorExpires_keepsSound s
  case replyCharacter => exact replyCharacterArrives_keepsSound ..
  case responseTimeout => exact responseExpires_keepsSound s
  case replyGapTimeout => exact gapExpires_keepsSound s
  case attemptWindowClose => exact windowExpires_keepsSound s
  case turnaroundEnd => exact turnaroundExpires_keepsSound s
  case agreeTimerExpiry door => exact agreeExpires_keepsSound door s
  case stopTimerExpiry => exact stopExpires_keepsSound s
  case releaseTimerExpiry => exact releaseExpires_keepsSound s
  case onDelayExpiry | offDelayExpiry => exact onTimer_keepsSound _ _ s fun _ => warningDelayExpires_keepsSound _ _
  case proofTimerExpiry lamp milliamps => exact proofExpires_keepsSound lamp milliamps s
  case lampOpenLoad | lampProofHealed => exact whenProof_keepsSound _ _ _ _ s (proofExpires_keepsSound _ _ s)
  case lampOvercurrent lamp => exact overcurrent_keepsSound lamp s
  case lampShorted lamp => exact whenProof_keepsSound _ _ _ _ s (overcurrent_keepsSound lamp s)
  case lampCheckTimerExpiry => exact lampCheckExpires_keepsSound s
  case gaugeUpdate gauge => exact gaugeUpdate_keepsSound gauge s
  case workshopFrameDiscard | workshopCharacterReceived =>
    exact when_keepsSound _ _ s fun _ => receiveCharacter_keepsSound _ _ s
  case unknownService | identify | openSession | closeSession | readSignals | readFaults | readFaultSnapshot
      | workshopClearFaults | forceSignal | releaseSignal | actuatorTestGaugeSweep | actuatorTestLampCheck
      | actuatorTestChime | actuatorTestStatus | readDoorCounters | resetDoorCounter | readLog =>
    exact receiveFrame_keepsSound _ s
  case sessionIdleTimerExpiry => exact sessionExpires_keepsSound s
  case releaseChannelWake => exact releaseSampled_keepsSound ..
  case workshopLineWake => exact wakeFromStandby_keepsSound s
  case configIdleTimerExpiry => exact configIdleExpires_keepsSound s
  case standbyEntry => exact standbyIfDue_keepsSound s
  case runOnTimerExpiry => exact runOnExpires_keepsSound s
  case powerOn => exact powerUp_keepsSound s
  case frequencyEdge | flashPhaseChange | overcurrentRetryExpiry | sounderPhaseChange | chimeToneEnd | testToneEnd
      | holdTimerExpiry | workshopGapTimeout | workshopResyncGap | answerEnd =>
    exact keepsSound_of_same _ _ (by simp [State.sameService])

/-- The queue of commands takes no part in the limits. -/
theorem setPending_keepsTimed (s t : State) (l : List Instr) (h : (s.setPending l).keepsTimed t) : s.keepsTimed t := h

theorem step_keepsTimed (s t : State) (h : step s = .next t) : s.keepsTimed t := by
  unfold step at h
  split at h
  · cases h
    exact keepsTimed_of_sound (tick_keepsSound s)
  · exact setPending_keepsTimed s t _ (exec_keepsTimed _ _ t h)

/-- Settles O6: each operation keeps the limits, and a SERVICE session outlives only what leaves its conditions. -/
theorem stepsKeepAcknowledgementsAndLimits : Obligations.StepsKeepAcknowledgementsAndLimits := by
  unfold Obligations.StepsKeepAcknowledgementsAndLimits
  intro s t h
  obtain ⟨⟨hacks, hforced, hshots⟩, hservice⟩ := step_keepsTimed s t h
  exact ⟨hacks, hforced, hshots, hservice⟩

end Sys2Proof.Machine
end

section
/-! PROOFS. O35: the message log, which of the line's steps write it, and what a record and its notices are. -/

namespace Sys2Proof.Machine

/-! ### What keeps the message log -/

/-- The message log with its head and its wrap count, all else blank (R71, R72). -/
def BodyLine.messages (b : BodyLine) : BodyLine := { log := b.log, logHead := b.logHead, logWrap := b.logWrap }

theorem messages_iff (b d : BodyLine) :
    d.messages = b.messages ↔ d.log = b.log ∧ d.logHead = b.logHead ∧ d.logWrap = b.logWrap := by
  simp [BodyLine.messages]

@[simp] theorem when_messages (c : Bool) (f : State → State) (s : State)
    (h : ∀ t, (f t).line.messages = t.line.messages) : (when c f s).line.messages = s.line.messages :=
  when_keeps (·.line.messages) c f s h

@[simp] theorem withHealth_messages (b : BodyLine) (c : Channel) (h : ChannelHealth) :
    (b.withHealth c h).messages = b.messages := by
  cases c <;> rfl

@[simp] theorem changeHealth_messages (c : Channel) (h : ChannelHealth) (s : State) :
    (changeHealth c h s).line.messages = s.line.messages := by
  rw [changeHealth_line]
  split
  · exact withHealth_messages s.line c h
  · exact withHealth_messages s.line c h

@[simp] theorem moveHealth_messages (made : List (Channel × LineOutcome)) (s : State) :
    (moveHealth made s).line.messages = s.line.messages :=
  moveHealth_induct (fun t => t.line.messages = s.line.messages) made s
    (fun c h t ht => (changeHealth_messages c h t).trans ht) rfl

@[simp] theorem changeStation_messages (a : Nat) (x : Station) (s : State) :
    (changeStation a x s).line.messages = s.line.messages := by
  rw [changeStation_line]
  split
  · rfl
  · rw [stationChanged_line, takeSearch_line]
    rfl

@[simp] theorem moveStation_messages (a : Nat) (made : List (Channel × LineOutcome)) (flags : StationFlags)
    (s : State) : (moveStation a made flags s).line.messages = s.line.messages :=
  moveStation_induct (fun t => t.line.messages = s.line.messages) a made flags s
    (fun x => changeStation_messages a x s) rfl

@[simp] theorem serviceFlag_messages (a : Nat) (flags : StationFlags) (s : State) :
    (serviceFlag a flags s).line.messages = s.line.messages := by
  refine when_messages _ _ s fun t => ?_
  unfold askService
  split <;> rfl

@[simp] theorem leaveHead_messages (s : State) : (leaveHead s).line.messages = s.line.messages := by
  unfold leaveHead serveDeferred
  split
  · split <;> rfl
  · rfl

@[simp] theorem endOneShot_messages (a : Nat) (o : LineOutcome) (flags : StationFlags) (c : Channel) (attempts : Nat)
    (words : List Word) (s : State) : (endOneShot a o flags c attempts words s).line.messages = s.line.messages := by
  unfold endOneShot
  split
  · rw [serviceFlag_messages, endService_line]
    exact leaveHead_messages s
  · simp
  · exact serviceFlag_messages a flags s

@[simp] theorem setProbe_messages (x : Transaction) (o : LineOutcome) (s : State) :
    (setProbe x o s).line.messages = s.line.messages := by
  unfold setProbe
  split <;> rfl

theorem stationTold_messages (x : Transaction) (o : LineOutcome) (flags : StationFlags) (words : List Word)
    (s : State) : (stationTold x o flags words s).line.messages = s.line.messages := by
  simp only [stationTold, moveStation_messages, deliverEnd_frame, moveHealth_messages]
  rfl

theorem probeTold_messages (x : Transaction) (c : Channel) (o : LineOutcome) (flags : StationFlags)
    (words : List Word) (s : State) : (probeTold x c o flags words s).line.messages = s.line.messages := by
  refine probeTold_induct (fun t => t.line.messages = s.line.messages) x c o flags words s
    (fun y u hu => (changeStation_messages _ y u).trans hu) ?_
  simp only [deliverEnd_frame, moveProbeHealth, changeHealth_messages]
  rfl

/-! ### A record at the head (R71, R72) -/

theorem appendLog_line (r : LogRecord) (s : State) :
    (appendLog r s).line = { s.line with
      log := s.line.log.set s.line.logHead.toNat { r with upd := bump (s.line.log.get s.line.logHead.toNat).upd }
      logHead := s.line.logHead + 1#8
      logWrap := if s.line.logHead = 255#8 then s.line.logWrap + 1#16 else s.line.logWrap } := by
  unfold appendLog
  dsimp only
  split
  · rfl
  · split <;> rfl

/-- A notice that has not found the ring full is the last one in it (R182). -/
theorem post_ring_last (kind : NoticeKind) (index detail : Nat) (s : State)
    (h : (post kind index detail s).unread ≠ 127#7) :
    (post kind index detail s).port.ring.get ((post kind index detail s).port.noticeWrite - 1#7).toNat =
      { kind, index := byteOf index, detail := BitVec.ofNat 16 detail, time := s.time } := by
  have hroom : s.unread ≠ 127#7 := by
    intro hfull
    refine h ?_
    have hover : (post kind index detail s).port = { s.port with noticeOverflow := true } := if_pos hfull
    rw [State.unread, hover]
    exact hfull
  have hwrite : (post kind index detail s).port.noticeWrite = s.port.noticeWrite + 1#7 := by
    have hplaces : ¬(s.port.noticeWrite - s.port.noticeRead = 127#7) := hroom
    rw [post, State.setPort_port, Port.posted, if_neg hplaces]
  rw [hwrite, BitVec.add_sub_cancel]
  exact (post_holdsNotice_new kind index detail s hroom).1

/-- In `t` the log of `s` has taken the record `r` at its head, and what follows a head that comes to half or round has
followed (R72). -/
def State.logsRecord (s t : State) (r : LogRecord) : Prop :=
  t.line.log = s.line.log.set s.line.logHead.toNat { r with upd := (s.line.log.get s.line.logHead.toNat).upd + 2#8 } ∧
    t.line.logHead = s.line.logHead + 1#8 ∧
    t.line.logWrap = (if s.line.logHead = 255#8 then s.line.logWrap + 1#16 else s.line.logWrap) ∧
    (s.line.logHead = 127#8 → t.unread ≠ 127#7 →
      t.port.ring.get (t.port.noticeWrite - 1#7).toNat =
        { kind := .logHalf, index := 0#8, detail := 0#16, time := t.time }) ∧
    (s.line.logHead = 255#8 → t.unread ≠ 127#7 →
      t.port.ring.get (t.port.noticeWrite - 1#7).toNat =
        { kind := .logWrap, index := 0#8, detail := 0#16, time := t.time })

theorem appendLog_logsRecord (r : LogRecord) (s : State) : s.logsRecord (appendLog r s) r := by
  simp only [State.logsRecord, appendLog_line, bump, true_and]
  unfold appendLog
  dsimp only
  constructor
  · intro hhead
    rw [if_pos hhead]
    exact post_ring_last .logHalf 0 0 _
  · intro hhead
    rw [if_neg (by simp [hhead]), if_pos hhead]
    exact post_ring_last .logWrap 0 0 _

/-- The log, the notices and the time are all that a taken record reads. -/
theorem logsRecord_of_same (s v u t : State) (r : LogRecord) (hbefore : v.line.messages = s.line.messages)
    (hafter : t.line.messages = u.line.messages) (hport : t.port = u.port) (hnow : t.now = u.now)
    (h : v.logsRecord u r) : s.logsRecord t r := by
  obtain ⟨hlog, hhead, hwrap⟩ := (messages_iff _ _).1 hbefore
  obtain ⟨klog, khead, kwrap⟩ := (messages_iff _ _).1 hafter
  simpa only [State.logsRecord, State.unread, State.time, State.ms, hlog, hhead, hwrap, klog, khead, kwrap, hport,
    hnow] using h

/-! ### What is logged (R71) -/

theorem logEnd_logged (x : Transaction) (o : LineOutcome) (c : Channel) (attempts : Nat) (flags : StationFlags)
    (words : List Word) (s : State) (h : s.logged x o attempts = true) :
    s.logsRecord (logEnd x o c attempts flags words s)
      ((logEnd x o c attempts flags words s).recordOf x o c attempts flags words) := by
  have hlogs : logEnd x o c attempts flags words s = appendLog (s.recordOf x o c attempts flags words) s := by
    rw [logEnd, h, when_true]
  have htime : (logEnd x o c attempts flags words s).time = s.time := by simp [State.time, State.ms]
  have hrecord : (logEnd x o c attempts flags words s).recordOf x o c attempts flags words =
      s.recordOf x o c attempts flags words := by
    simp only [State.recordOf, htime]
  rw [hrecord, hlogs]
  exact appendLog_logsRecord _ s

theorem logEnd_unlogged (x : Transaction) (o : LineOutcome) (c : Channel) (attempts : Nat) (flags : StationFlags)
    (words : List Word) (s : State) (h : s.logged x o attempts = false) :
    logEnd x o c attempts flags words s = s := by
  rw [logEnd, h, when_false]

/-- The attempts that an end logs: those of its transaction, and one of a probe (R71). -/
def Transaction.attempts (x : Transaction) : Nat :=
  match x.purpose with
  | .probe _ => 1
  | _ => x.made.length + 1

/-- The policy of the entry decides, and a one-shot is always logged (R71). -/
theorem logged_iff (s : State) (x : Transaction) (o : LineOutcome) :
    s.logged x o x.attempts = true ↔
      x.purpose = .oneShot ∨
        (∃ e, x.purpose = .entry e ∧ ((s.setup.schedule.get e).logPolicy = .always ∨
          ((s.setup.schedule.get e).logPolicy = .errors ∧ (o ≠ .ok ∨ 1 < x.made.length + 1)))) ∨
        (∃ e, x.purpose = .probe e ∧ ((s.setup.schedule.get e).logPolicy = .always ∨
          ((s.setup.schedule.get e).logPolicy = .errors ∧ o ≠ .ok))) := by
  unfold State.logged Transaction.attempts
  cases x.purpose with
  | entry e => cases hp : (s.setup.schedule.get e).logPolicy <;> simp [LogPolicy.logs, hp]
  | probe e => cases hp : (s.setup.schedule.get e).logPolicy <;> simp [LogPolicy.logs, hp]
  | oneShot => simp

end Sys2Proof.Machine
end

section
/-! PROOFS. O35: the end of an attempt with its log record and its slot. -/

namespace Sys2Proof.Machine

/-! ### The record of an end (R71) -/

/-- The end of a transaction or of a probe is logged last, with nothing logged before it and no notice after it. -/
theorem attemptEnded_logEnd (x : Transaction) (c : Channel) (o : LineOutcome) (received : List Byte) (s : State)
    (h : (∃ e, x.purpose = .probe e) ∨ s.ends x o) :
    ∃ v, v.line.messages = s.line.messages ∧ v.setup = s.setup ∧
      let u := logEnd x o c x.attempts (replyHandover x o received).1 (replyHandover x o received).2 v
      let t := attemptEnded x c o received s
      t.line.messages = u.line.messages ∧ t.port = u.port ∧ t.now = u.now := by
  let flags := (replyHandover x o received).1
  let words := (replyHandover x o received).2
  by_cases hp : ∃ e, x.purpose = .probe e
  · obtain ⟨e, he⟩ := hp
    have hattempts : x.attempts = 1 := by simp [Transaction.attempts, he]
    refine ⟨serviceFlag x.station flags (probeTold x c o flags words s), ?_, by simp [probeTold], ?_⟩
    · rw [serviceFlag_messages, probeTold_messages]
    · rw [attemptEnded_probe x c o received s e he, endProbe_eq, hattempts]
      exact ⟨rfl, rfl, rfl⟩
  · have hends := h.resolve_left hp
    have hattempts : x.attempts = x.made.length + 1 := by
      unfold Transaction.attempts
      split
      · next e he => exact absurd ⟨e, he⟩ hp
      · rfl
    let told := stationTold (x.after c o) o flags words s
    let closed := if x.purpose = .oneShot then endOneShot x.station o flags c (x.made.length + 1) words told
      else serviceFlag x.station flags told
    have hclosed : closed.line.messages = s.line.messages ∧ closed.setup = s.setup := by
      have htold : told.setup = s.setup := by simp [told, stationTold]
      unfold closed
      split
      · exact ⟨(endOneShot_messages ..).trans (stationTold_messages ..), by simp [htold]⟩
      · exact ⟨(serviceFlag_messages ..).trans (stationTold_messages ..), by simp [htold]⟩
    refine ⟨closed, hclosed.1, hclosed.2, ?_⟩
    rw [attemptEnded_ends x c o received s (fun e he => hp ⟨e, he⟩) hends, hattempts]
    exact ⟨setProbe_messages .., (setProbe_frame ..).2.2.2.1, by simp [endTransaction_eq]; rfl⟩

/-- An end that is logged, in RUN (R71, R72). -/
theorem endAttempt_logged (a : Attempt) (o : LineOutcome) (x : Transaction) (s : State)
    (hx : s.line.transaction = some x) (hr : s.run.state = .run) (h : (∃ e, x.purpose = .probe e) ∨ s.ends x o)
    (hl : s.logged x o x.attempts = true) :
    s.logsRecord (endAttempt a o s) ((endAttempt a o s).recordOf x o a.channel x.attempts
      (replyHandover x o a.received).1 (replyHandover x o a.received).2) := by
  obtain ⟨v, hbefore, hsetup, hafter, hport, hnow⟩ := attemptEnded_logEnd x a.channel o a.received s.turned h
  have hlv : v.logged x o x.attempts = true := by
    rw [← hl]
    simp only [State.logged, hsetup]
    rfl
  rw [endAttempt_inRun a o x s hx hr]
  have hlogs := logsRecord_of_same s v _ _ _ hbefore hafter hport hnow (logEnd_logged _ _ a.channel _ _ _ v hlv)
  have htime : (attemptEnded x a.channel o a.received s.turned).time = (logEnd x o a.channel x.attempts
      (replyHandover x o a.received).1 (replyHandover x o a.received).2 v).time := by
    simp only [State.time, State.ms, hnow]
  simpa only [State.recordOf, htime] using hlogs

/-- An attempt that is followed by a retry, or whose end its policy does not log, leaves the log (R44, R71). -/
theorem endAttempt_unlogged (a : Attempt) (o : LineOutcome) (x : Transaction) (s : State)
    (hx : s.line.transaction = some x) (hr : s.run.state = .run)
    (h : ¬(((∃ e, x.purpose = .probe e) ∨ s.ends x o) ∧ s.logged x o x.attempts = true)) :
    (endAttempt a o s).line.messages = s.line.messages := by
  rw [endAttempt_inRun a o x s hx hr]
  by_cases hends : (∃ e, x.purpose = .probe e) ∨ s.ends x o
  · obtain ⟨v, hbefore, hsetup, hafter, -⟩ := attemptEnded_logEnd x a.channel o a.received s.turned hends
    have hlv : v.logged x o x.attempts = false := by
      rw [← Bool.not_eq_true]
      refine fun hlv => h ⟨hends, ?_⟩
      rw [← hlv]
      simp only [State.logged, hsetup]
      rfl
    rw [logEnd_unlogged _ _ _ _ _ _ v hlv] at hafter
    exact hafter.trans hbefore
  · obtain ⟨hp, hnot⟩ := not_or.1 hends
    rw [attemptEnded_retries x a.channel o a.received s.turned (fun e he => hp ⟨e, he⟩) hnot]
    rfl

/-- The words of a log record: those sent by a DELIVER, or those of an OK FETCH (R71). -/
theorem loggedWords_eq (x : Transaction) (o : LineOutcome) (attempts : Nat) (received : List Byte)
    (hmade : attempts ≠ 0) :
    x.loggedWords o attempts (replyHandover x o received).2 =
      if x.dir = .deliver then x.words else if o = .ok then replyWords x.length received else [] := by
  cases hd : x.dir with
  | deliver => simp [Transaction.loggedWords, hd, hmade]
  | fetch =>
    by_cases ho : o = .ok
    · simp [Transaction.loggedWords, replyHandover, hd, ho]
    · simp [Transaction.loggedWords, hd, ho]

theorem Transaction.attempts_pos (x : Transaction) : x.attempts ≠ 0 := by
  unfold Transaction.attempts
  split <;> simp

/-! ### The end of a STATION_TRANSFER (R68) -/

/-- The exchange memory after a transfer's end is that of the end of its request alone. -/
theorem endAttempt_transfer (a : Attempt) (o : LineOutcome) (x : Transaction) (s : State)
    (hx : s.line.transaction = some x) (hr : s.run.state = .run) (hp : x.purpose = .oneShot) (hends : s.ends x o)
    (k b n l : Nat) (d : Direction) (ws : List Word) (rest : List OneShot)
    (h : s.line.oneShots = .transfer k b n d l ws :: rest) :
    ∃ w : State, w.mem = s.mem ∧ (endAttempt a o s).mem = (endTransfer k o (replyHandover x o a.received).1 a.channel
      (x.made.length + 1) (replyHandover x o a.received).2 w).mem := by
  let flags := (replyHandover x o a.received).1
  let words := (replyHandover x o a.received).2
  let told := stationTold (x.after a.channel o) o flags words s.turned
  have hdelivers (q : State) : deliverEnd (x.after a.channel o) o words q = q :=
    deliverEnd_none _ _ _ _ (.inr (.inl hp))
  have hmem : told.mem = s.mem := by
    simp only [told, stationTold, hdelivers]
    simp [State.turned]
  have hshots : told.line.oneShots = .transfer k b n d l ws :: rest := by
    simp only [told, stationTold, hdelivers]
    simpa [State.turned] using h
  have hend : endOneShot x.station o flags a.channel (x.made.length + 1) words told =
      endTransfer k o flags a.channel (x.made.length + 1) words (serviceFlag x.station flags (leaveHead told)) := by
    simp only [endOneShot, hshots]
  refine ⟨serviceFlag x.station flags (leaveHead told), by simp [hmem], ?_⟩
  rw [endAttempt_inRun a o x s hx hr, attemptEnded_ends x a.channel o a.received s.turned
    (fun e he => by simp [hp] at he) hends, endTransaction_eq,
    if_pos (show (x.after a.channel o).purpose = .oneShot from hp), ← hend]
  simp only [setProbe_frame, logEnd_frame]
  rfl

theorem padTo_getD_of_lt (n j : Nat) (l : List Byte) (hj : j < l.length) (hn : j < n) :
    (padTo n l).getD j 0#8 = l.getD j 0#8 := by
  rw [padTo, List.getD_eq_getElem?_getD, List.getElem?_take_of_lt hn, List.getElem?_append_left hj,
    List.getD_eq_getElem?_getD]

/-- Word `i` of a result body, after its four bytes (R68). -/
theorem transferBody_word (o : LineOutcome) (flags : StationFlags) (c : Channel) (attempts i : Nat)
    (words : List Word) (hi : i < words.length) (h16 : i < 16) :
    wordOfBytes ((padTo 56 (transferBody o flags c attempts words)).getD (4 + 2 * i) 0#8)
      ((padTo 56 (transferBody o flags c attempts words)).getD (5 + 2 * i) 0#8) = words.getD i 0#16 := by
  have hlen := flatMap_wordBytes_length words
  have hbody (j : Nat) (hj : j < 2 * words.length) (h52 : j < 52) :
      (padTo 56 (transferBody o flags c attempts words)).getD (4 + j) 0#8 = (words.flatMap wordBytes).getD j 0#8 := by
    have hlt : 4 + j < (transferBody o flags c attempts words).length := by
      simp only [transferBody, List.length_append, List.length_cons, List.length_nil, hlen]
      omega
    rw [padTo_getD_of_lt _ _ _ hlt (by omega), transferBody, List.getD_append_right _ _ _ _ (by simp)]
    congr 1
    simp
  rw [show 5 + 2 * i = 4 + (2 * i + 1) by omega, hbody _ (by omega) (by omega), hbody _ (by omega) (by omega)]
  exact flatMap_wordBytes_get words i hi

/-- A transfer that ends well: DONE with its outcome, flags, channel, attempts and words (R68). -/
theorem endTransfer_done (k : Nat) (o : LineOutcome) (flags : StationFlags) (c : Channel) (attempts : Nat)
    (words : List Word) (w t : State) (hw : w.memorySound) (ho : o.good = true)
    (hmem : t.mem = (endTransfer k o flags c attempts words w).mem) :
    t.slotState k = .done ∧ Memory.read t.mem (slotBase k + 3) = 0#8 ∧
      (List.range 4).map (fun j => Memory.read t.mem (slotBase k + 8 + j)) =
        [byteOf o.code, flags.byte, byteOf (channelCode c), byteOf attempts] ∧
      ∀ i, i < words.length → i < 16 →
        wordOfBytes (Memory.read t.mem (slotBase k + 12 + 2 * i)) (Memory.read t.mem (slotBase k + 13 + 2 * i)) =
          words.getD i 0#16 := by
  let body := transferBody o flags c attempts words
  have hdone : t.mem = (slotDone k body w).mem := by
    rw [hmem, endTransfer, if_pos ho]
  have hread (j : Nat) (hj : j < 56) := slotDone_read_body k body w hw j hj
  rw [slotState_of_mem _ _ k hdone, hdone]
  refine ⟨slotDone_slotState k _ w hw, ?_, ?_, fun i hi h16 => ?_⟩
  · rw [slotDone_mem, finishSlot_read _ _ _ _ _ _ hw 3 (by decide)]
    rfl
  · simp only [List.range_succ, List.range_zero, List.nil_append, List.map_cons, List.map_nil, List.cons_append,
      hread 0 (by decide), hread 1 (by decide), hread 2 (by decide), hread 3 (by decide)]
    rfl
  · rw [show slotBase k + 12 + 2 * i = slotBase k + 8 + (4 + 2 * i) by omega,
      show slotBase k + 13 + 2 * i = slotBase k + 8 + (5 + 2 * i) by omega, hread _ (by omega), hread _ (by omega)]
    exact transferBody_word o flags c attempts i words hi h16

/-- A transfer that fails: FAILED with NO_REPLY, its outcome in the detail (R68). -/
theorem endTransfer_failed (k : Nat) (o : LineOutcome) (flags : StationFlags) (c : Channel) (attempts : Nat)
    (words : List Word) (w t : State) (hw : w.memorySound) (ho : o.good = false)
    (hmem : t.mem = (endTransfer k o flags c attempts words w).mem) :
    t.slotState k = .failed ∧ Memory.read t.mem (slotBase k + 3) = byteOf ResultCode.noReply.code ∧
      Memory.read t.mem (slotBase k + 6) = byteOf o.code ∧
      Memory.read t.mem (slotBase k + 8) = byteOf (channelCode c) ∧
      Memory.read t.mem (slotBase k + 9) = byteOf attempts := by
  have hfailed : t.mem = (slotFailed k .noReply o.code [byteOf (channelCode c), byteOf attempts] w).mem := by
    rw [hmem, endTransfer, if_neg (Bool.eq_false_iff.1 ho)]
  rw [slotState_of_mem _ _ k hfailed, hfailed]
  refine ⟨slotFailed_slotState k _ _ _ w hw, slotFailed_read_code k _ _ _ w hw, ?_, ?_, ?_⟩
  · rw [slotFailed_mem, finishSlot_read _ _ _ _ _ _ hw 6 (by decide)]
    exact wordOf_getD_low _
  · rw [slotFailed_mem, finishSlot_read _ _ _ _ _ _ hw 8 (by decide)]
    rfl
  · rw [slotFailed_mem, finishSlot_read _ _ _ _ _ _ hw 9 (by decide)]
    rfl

end Sys2Proof.Machine
end

section
/-! PROOFS. O35: the entries that are SKIPPED, and the statement. -/

namespace Sys2Proof.Machine

/-! ### SKIPPED (R60) -/

/-- The record that stands at the head's place once it is taken. -/
theorem logsRecord_head (s t : State) (r : LogRecord) (h : s.logsRecord t r) :
    t.line.log.get s.line.logHead.toNat = { r with upd := (s.line.log.get s.line.logHead.toNat).upd + 2#8 } := by
  rw [h.1]
  exact Table.get_set_same _ _ _ s.line.logHead.isLt

/-- A SKIPPED entry is not OK, so that both policies that log log it (R60, R71). -/
theorem skipped_logged (s : State) (x : Transaction) (e attempts : Nat) (hp : x.purpose = .entry e)
    (h : (s.setup.schedule.get e).logPolicy = .always ∨ (s.setup.schedule.get e).logPolicy = .errors) :
    s.logged x .skipped attempts = true := by
  simp only [State.logged, hp]
  obtain h | h := h
  · simp [h, LogPolicy.logs]
  · simp [h, LogPolicy.logs]

/-- The record of a SKIPPED entry, with as many attempts as were made (R60, R71). -/
theorem skipped_recorded (s : State) (x : Transaction) (c : Channel) (e attempts : Nat) (hp : x.purpose = .entry e)
    (h : (s.setup.schedule.get e).logPolicy = .always ∨ (s.setup.schedule.get e).logPolicy = .errors) :
    let t := logEnd x .skipped c attempts {} [] s
    let r := t.line.log.get s.line.logHead.toNat
    r.outcome = .skipped ∧ r.attempts = attempts ∧ r.entry = e ∧ r.channel = c ∧
      t.line.logHead = s.line.logHead + 1#8 := by
  have hlogs := logEnd_logged x .skipped c attempts {} [] s (skipped_logged s x e attempts hp h)
  have hentry : x.purpose.entryIndex = e := by rw [hp, Purpose.entryIndex]
  dsimp only
  rw [logsRecord_head _ _ _ hlogs]
  exact ⟨rfl, rfl, hentry, rfl, hlogs.2.1⟩

theorem countOverrun_line (s : State) :
    (countOverrun s).line = { s.line with overrun := min (s.line.overrun + 1) 65535 } := rfl

/-- A walk of one entry that does not fit, with no one-shot listed, skips it and comes to an end (R59, R60). -/
theorem walkOn_skips (e : Nat) (s : State) (hf : s.fits (s.setup.schedule.get e).length = false)
    (ho : s.line.oneShots = []) :
    walkOn [e] s = (skipEntry e s).setLine { (skipEntry e s).line with walk := [] } := by
  have hshots : (skipEntry e s).line.oneShots = [] := by
    rw [skipEntry_line]
    exact ho
  rw [walkOn, hf, if_neg (by simp), walkOn, runList]
  simp only [State.setLine_line, hshots]

/-- The line after an entry that is skipped at the start of its minor cycle. -/
theorem walkOn_skips_line (e : Nat) (s : State) (hf : s.fits (s.setup.schedule.get e).length = false)
    (ho : s.line.oneShots = []) :
    let t := walkOn [e] s
    t.line.phase = s.line.phase ∧ t.line.transaction = s.line.transaction ∧
      t.line.overrun = min (s.line.overrun + 1) 65535 ∧ t.line.stations = s.line.stations ∧
      t.line.search = s.line.search ∧
      t.line.messages = (logEnd (s.entryTransaction e) .skipped s.entryChannel 0 {} [] s).line.messages := by
  simp only [walkOn_skips e s hf ho, State.setLine_line]
  rw [skipEntry_line]
  exact ⟨rfl, rfl, rfl, rfl, rfl, rfl⟩

/-- A retry that does not fit ends its transaction with the log record as its last step: the health stays, no word is
delivered, and the station's record moves (R44, R47, R60). -/
theorem endTransaction_skipped (x : Transaction) (c : Channel) (o : LineOutcome) (made : List (Channel × LineOutcome))
    (s : State) (e : Nat) (hp : x.purpose = .entry e) (hm : x.made = (c, o) :: made) (ho : o.good = false) :
    endTransaction x .skipped {} [] s =
      logEnd x .skipped c x.made.length {} []
        (moveStation x.station x.made {} (s.setLine { s.line with transaction := none })) := by
  have htold : stationTold x .skipped {} [] s =
      moveStation x.station x.made {} (s.setLine { s.line with transaction := none }) := by
    rw [stationTold, deliverEnd_none _ _ _ _ (.inr (.inr (.inl (by simp)))), hm, moveHealth_failed _ _ _ _ ho]
  have hflag (q : State) : serviceFlag x.station {} q = q := serviceFlag_rests _ _ q (.inr (.inl rfl))
  have hchannel : finalChannel x.made s.normalChannel = c := by rw [hm, finalChannel]
  rw [endTransaction_eq, if_neg (by simp [hp]), hflag, htold, hchannel]

/-- The counts of an enabled station whose transaction has failed (R63). -/
theorem moveStation_failed (a : Nat) (c : Channel) (o : LineOutcome) (made : List (Channel × LineOutcome))
    (flags : StationFlags) (s : State) (ho : o.good = false) (he : (s.setup.stations.get a).enabled = true) :
    let z := (moveStation a ((c, o) :: made) flags s).line.stations.get a
    z.failures = min ((s.line.stations.get a).failures + 1) 255 ∧
      z.failed = min ((s.line.stations.get a).failed + 1) 65535 := by
  have hmoves : moveStation a ((c, o) :: made) flags s =
      changeStation a ((s.line.stations.get a).failedEnd (s.setup.stations.get a).silentLimit) s := by
    simp only [moveStation, he, ho, when_true]
    rfl
  simp only [hmoves]
  rw [changeStation_get_same _ _ _ (station_of_enabled _ _ he)]
  exact ⟨rfl, rfl⟩

/-- A retry that does not fit, with nothing left to walk: its transaction ends, and the overrun counts (R60). -/
theorem turnaroundEnd_skips (s : State) (ends next e : Nat) (x : Transaction) (c : Channel) (o : LineOutcome)
    (made : List (Channel × LineOutcome)) (hr : s.run.state = .run) (hp : s.line.phase = .turnaround ends)
    (hx : s.line.transaction = some x) (he : x.purpose = .entry e) (hm : x.made = (c, o) :: made)
    (ho : o.good = false) (hn : s.line.minorNext = some next) (hw : s.line.walk = []) (hshots : s.line.oneShots = [])
    (hlate : next < max s.now ends + attemptBudget s.setup.settings.timeoutCode x.length) :
    exec .turnaroundEnd s = .next (countOverrun (logEnd x .skipped c x.made.length {} []
      (moveStation x.station x.made {}
        ((s.freed ends).setLine { (s.freed ends).line with transaction := none })))) := by
  let q := s.freed ends
  let u := countOverrun (endTransaction x .skipped {} [] q)
  have hfits : q.fits x.length = false := by
    rw [← Bool.not_eq_true, fits_budget q x.length next hn]
    exact Nat.not_le.2 hlate
  have hends := endTransaction_skipped x c o made q e he hm ho
  have hwalk : u.line.walk = [] := by
    have hcourse := (endTransaction_kept x .skipped {} [] q).1
    exact ((course_iff _ _).1 hcourse).2.2.2.1.trans hw
  have hlist : u.line.oneShots = [] := by
    have hq : q.line.oneShots = [] := hshots
    simpa [u, countOverrun_line, hends] using hq
  have hrun : u.run.state = .run := by simpa [u, q, State.freed] using hr
  have hnothing : retryDue x q = u := by
    rw [retryDue, hfits, if_neg (by simp)]
    change startNext u = u
    rw [startNext_inRun u hrun, walkOn_nothing u hwalk hlist]
  rw [turnaroundEnd_exec s ends hp, hx]
  change Host.Outcome.next (retryDue x q) = _
  rw [hnothing]
  simp only [u, hends]
  rfl

/-! ### The statement -/

/-- The words that an OK fetch hands on, each of its two characters (R42, R193). -/
theorem replyHandover_words (x : Transaction) (received : List Byte) (hd : x.dir = .fetch)
    (hc : replyComplete .fetch x.length received = true) (ho : judgeReply x.station received = .ok) :
    (replyHandover x (judgeReply x.station received) received).2 = (List.range x.length).map fun i =>
      wordOfBytes (received.getD (2 + 2 * i) 0#8) (received.getD (3 + 2 * i) 0#8) := by
  rw [ho, replyHandover_fetched x _ hd, replyWords_eq _ _ (replyComplete_length x.station x.length _ hc ho)]

/-- The record that the statement writes out (R71). -/
theorem recordOf_reply (x : Transaction) (o : LineOutcome) (c : Channel) (received : List Byte) (t : State) (upd : Byte)
    (hc : replyComplete x.dir x.length received = true) (ho : o = judgeReply x.station received) :
    let sent := if x.dir = .deliver then x.words
      else if o = .ok then (List.range x.length).map fun i =>
        wordOfBytes (received.getD (2 + 2 * i) 0#8) (received.getD (3 + 2 * i) 0#8)
      else []
    { t.recordOf x o c x.attempts (replyHandover x o received).1 (replyHandover x o received).2 with upd } =
      { upd
        entry := (match x.purpose with
          | .entry e => e
          | .probe e => e
          | .oneShot => 255)
        time := t.time, station := x.station, block := x.block, dir := x.dir, length := x.length
        probe := (match x.purpose with
          | .probe _ => true
          | _ => false)
        channel := c
        attempts := (match x.purpose with
          | .probe _ => 1
          | _ => x.made.length + 1)
        outcome := o
        flags := if o.good = true then .ofByte (received.getD 1 0#8) else {}
        word0 := sent.getD 0 0#16, word1 := sent.getD 1 0#16 } := by
  have hwords := loggedWords_eq x o x.attempts received x.attempts_pos
  have hfetched : (if x.dir = .deliver then x.words else if o = .ok then replyWords x.length received else []) =
      if x.dir = .deliver then x.words
      else if o = .ok then (List.range x.length).map fun i =>
        wordOfBytes (received.getD (2 + 2 * i) 0#8) (received.getD (3 + 2 * i) 0#8)
      else [] := by
    cases hd : x.dir with
    | deliver => rfl
    | fetch =>
      by_cases hok : o = .ok
      · rw [replyWords_eq _ _ (replyComplete_length x.station x.length received (hd ▸ hc) (ho ▸ hok))]
      · simp [hok]
  dsimp only
  rw [← hfetched, ← hwords]
  rfl

/-- Settles O35: an end is logged last, and a one-shot's slot is answered before it; a skipped entry is logged with no
attempt of its own. -/
theorem endsAreLoggedAndAnswered : Obligations.EndsAreLoggedAndAnswered := by
  refine ⟨fun s a x gap data h hr => ?reply, fun s due e hr hp hn hdue hshots hlate => ?skipped,
    fun s ends next e x c o made hr hp hx he hm ho hn hw hshots hlate => ?retry⟩
  case reply =>
    refine ⟨_, lastCharacter_exec s a x gap data h, ?_⟩
    obtain ⟨-, hx, -, -, -, -, hcomplete⟩ := h
    let q := s.reach (a.lastEnd + gap + 44)
    let o := judgeReply x.station (a.received ++ [data])
    let b := a.completed gap data
    have hends (hor : o.good = true ∨ x.retries ≤ x.made.length) : q.ends x o := by
      obtain hgood | hleft := hor
      · exact .inl hgood
      · exact .inr (.inl hleft)
    have hlogged := logged_iff q x o
    dsimp only
    refine ⟨fun hended hlog => ?logged, fun hnot => ?unlogged,
      fun k n bl d l ws rest hshot hlist hsound hended => ?transfer⟩
    case logged =>
      have hrecord := endAttempt_logged b o x q hx hr (hended.imp_right hends) (hlogged.2 hlog)
      rw [State.logsRecord, recordOf_reply x o b.channel b.received _ _ hcomplete rfl] at hrecord
      exact hrecord
    case unlogged =>
      have hsame := endAttempt_unlogged b o x q hx hr fun ⟨hended, hlog⟩ => hnot ⟨?_, hlogged.1 hlog⟩
      · exact (messages_iff _ _).1 hsame
      · obtain hprobe | hgood | hleft | hrun := hended
        · exact .inl hprobe
        · exact .inr (.inl hgood)
        · exact .inr (.inr hleft)
        · exact absurd hr hrun
    case transfer =>
      have hended := hends (hended.resolve_left (by simp [hshot]))
      obtain ⟨w, hw, hmem⟩ := endAttempt_transfer b o x q hx hr hshot hended k n bl l d ws rest hlist
      have hwsound : w.memorySound := memorySound_of_mem s w hw hsound
      refine ⟨fun hgood => ?_, fun hbad => endTransfer_failed k o _ _ _ _ w _ hwsound hbad hmem⟩
      obtain ⟨hstate, hcode, hbody, hwords⟩ := endTransfer_done k o _ _ _ _ w _ hwsound hgood hmem
      rw [replyHandover_good x o b.received hgood] at hbody
      refine ⟨hstate, hcode, hbody, fun hok hd i hi h16 => ?_⟩
      have hreply : (replyHandover x o b.received).2 = _ := replyHandover_words x b.received hd (hd ▸ hcomplete) hok
      rw [hreply] at hwords
      exact hwords i (by simpa using hi) h16
  case skipped =>
    let q := (s.reach due).minorStarted ((s.line.minor + 1) % 8) due
    have hfits : q.fits (q.setup.schedule.get e).length = false := by
      rw [← Bool.not_eq_true, fits_budget q _ _ rfl]
      exact Nat.not_le.2 hlate
    obtain ⟨hphase, htransaction, hoverrun, hstations, hsearch, hmessages⟩ := walkOn_skips_line e q hfits hshots
    have hq : s.changesOnly q [.clock, .line] := State.changesOnly_of _ _ _ (by simp [q, State.minorStarted])
    have honly := walkOn_changesOnly [e] q
    refine ⟨walkOn [e] q, by rw [minorCycleStart_exec s due hr hp hn, hdue], hphase.trans hp, htransaction, hoverrun,
      hstations, fun hpolicy => ?_, fun hpolicy => ?_,
      State.changesOnly_trans _ q _ _ (State.changesOnly_mono _ _ _ _ hq (by simp))
        (State.changesOnly_mono _ _ _ _ honly (by simp))⟩
    · have hrecord := skipped_recorded q (q.entryTransaction e) q.entryChannel e 0 rfl hpolicy
      obtain ⟨hlog, hhead, -⟩ := (messages_iff _ _).1 hmessages
      dsimp only
      rw [hlog, hhead, hsearch]
      exact hrecord
    · have hnever : q.logged (q.entryTransaction e) .skipped 0 = false := by
        simp only [State.logged, State.entryTransaction, show (q.setup.schedule.get e).logPolicy = _ from hpolicy]
        rfl
      rw [logEnd_unlogged _ _ _ _ _ _ q hnever] at hmessages
      exact ((messages_iff _ _).1 hmessages).1
  case retry =>
    let q := (s.freed ends).setLine { (s.freed ends).line with transaction := none }
    let v := moveStation x.station x.made {} q
    let u := logEnd x .skipped c x.made.length {} [] v
    have hcourse : u.line.course = q.line.course := by simp [u, v]
    obtain ⟨-, -, -, -, hphase, -, -, hoverrun⟩ := (course_iff _ _).1 hcourse
    have htransaction : u.line.transaction = none := by simp [u, v, q]
    have hmessages : v.line.messages = q.line.messages := by simp [v]
    obtain ⟨-, hhead, -⟩ := (messages_iff _ _).1 hmessages
    refine ⟨countOverrun u, turnaroundEnd_skips s ends next e x c o made hr hp hx he hm ho hn hw hshots hlate,
      by simp [u, v, q, State.freed], hphase, htransaction, congrArg (fun n => min (n + 1) 65535) hoverrun,
      by simp [u, v, q, State.freed], fun hpolicy => ?_, fun henabled => ?_⟩
    · have hsetup : v.setup = s.setup := by simp [v, q, State.freed]
      have hrecord := skipped_recorded v x c e x.made.length he (hsetup ▸ hpolicy)
      rw [hhead] at hrecord
      exact hrecord
    · have hstations : u.line.stations = v.line.stations := (logEnd_kept ..).2.2.1
      rw [countOverrun_line, hstations]
      simp only [v, hm]
      exact moveStation_failed x.station c o made {} q ho henabled

end Sys2Proof.Machine
end

section
/-! PROOFS. Shared by the statements on the interlock: what the demand conditions and the override read, and what a
taking of the interlock leaves (R92 to R95). -/

namespace Sys2Proof.Machine

/-! ### The conditions (R92, R94) -/

theorem demandConditions_iff (s : State) :
    s.demandConditions = true ↔
      ∃ d, (d < 4 ∧ (s.setup.doors.get d).enabled = true) ∧ (s.doors.doors.get d).proven = false := by
  simp only [State.demandConditions, List.any_eq_true, mem_enabledDoors, State.doorOpen, Bool.and_eq_true,
    Bool.not_eq_true']
  exact exists_congr fun d => and_congr_right fun h => and_iff_right h.2

/-- The conditions read the setup and the proven-closed flags alone. -/
theorem demandConditions_congr (s t : State) (hsetup : t.setup = s.setup)
    (hproven : ∀ d, d < 4 → (t.doors.doors.get d).proven = (s.doors.doors.get d).proven) :
    t.demandConditions = s.demandConditions := by
  rw [Bool.eq_iff_iff, demandConditions_iff, demandConditions_iff, hsetup]
  exact exists_congr fun d => and_congr_right fun h => by rw [hproven d h.1]

theorem overrideActive_iff (s : State) :
    s.overrideActive = true ↔
      s.setup.general.override ≠ 255 ∧ (s.sense.channels.get s.setup.general.override).showsOne := by
  simp [State.overrideActive, SenseChannel.showsOne_iff, and_assoc]

theorem SenseChannel.showsOne_congr (x y : SenseChannel) (h : y.doorItems = x.doorItems) :
    y.showsOne ↔ x.showsOne := by
  simp only [SenseChannel.doorItems, Prod.mk.injEq, decide_eq_decide, not_iff_not] at h
  obtain ⟨hlogical, hsettled, hfault, hcheck⟩ := h
  have hnone : y.check = none ↔ x.check = none := by
    rw [← Option.isNone_iff_eq_none, ← Option.isNone_iff_eq_none, ← Option.not_isSome, ← Option.not_isSome, hcheck]
  simp only [SenseChannel.showsOne, hlogical, hsettled, hfault, hnone]

/-- The override reads the setup and what its channel's entry gives the doors alone. -/
theorem overrideActive_congr (s t : State) (hsetup : t.setup = s.setup)
    (hitems : (t.sense.channels.get s.setup.general.override).doorItems =
      (s.sense.channels.get s.setup.general.override).doorItems) : t.overrideActive = s.overrideActive := by
  rw [Bool.eq_iff_iff, overrideActive_iff, overrideActive_iff, hsetup, SenseChannel.showsOne_congr _ _ hitems]

/-! ### A taking of the interlock (R93) -/

/-- The fields of the motion and interlock record that a taking writes, and those of it that it does not. -/
theorem takeInterlock_unit_fields (s : State) :
    (takeInterlock s).doors.interlock = s.interlockTaken.interlock ∧
      (takeInterlock s).doors.releaseTimer = s.interlockTaken.releaseTimer ∧
      (takeInterlock s).doors.override = s.overrideActive ∧ (takeInterlock s).doors.reasons = s.reasons ∧
      (takeInterlock s).doors.releaseDelay = s.doors.releaseDelay ∧
      (takeInterlock s).doors.motion = s.doors.motion := by
  rw [takeInterlock_unit]
  exact ⟨rfl, rfl, rfl, rfl, rfl, rfl⟩

theorem takeInterlock_conditions (s : State) :
    (takeInterlock s).demandConditions = s.demandConditions ∧ (takeInterlock s).overrideActive = s.overrideActive :=
  ⟨demandConditions_congr _ _ (by simp) (by simp), overrideActive_congr _ _ (by simp) (by simp)⟩

theorem interlockTaken_demands (s : State) (h : s.demandConditions = true) :
    s.interlockTaken.interlock = (if s.overrideActive = true then .overridden else .demand) ∧
      s.interlockTaken.releaseTimer = none := by
  simp [State.interlockTaken, interlockMove, h]

theorem interlockTaken_ends (s : State) (h : s.demandConditions = false)
    (hi : s.doors.interlock = .demand ∨ s.doors.interlock = .overridden) :
    (s.doors.releaseDelay = 0 → s.interlockTaken.interlock = .released) ∧
      (s.doors.releaseDelay ≠ 0 → s.interlockTaken.interlock = .releasing ∧
        s.interlockTaken.releaseTimer = some (s.now + 1000 * s.doors.releaseDelay)) := by
  obtain hi | hi := hi <;>
    exact ⟨fun hz => by simp [State.interlockTaken, interlockMove, h, hi, releaseStart, hz],
      fun hz => by simp [State.interlockTaken, interlockMove, h, hi, releaseStart, hz]⟩

theorem interlockTaken_stands (s : State) (h : s.demandConditions = false)
    (hi : s.doors.interlock = .releasing ∨ s.doors.interlock = .released) :
    s.interlockTaken.interlock = s.doors.interlock ∧ s.interlockTaken.releaseTimer = s.doors.releaseTimer := by
  obtain hi | hi := hi <;> simp [State.interlockTaken, interlockMove, h, hi]

/-- With no demand the interlock is on its way to RELEASED or there. -/
theorem interlockTaken_releases (s : State) (h : s.demandConditions = false) :
    s.interlockTaken.interlock = .releasing ∨ s.interlockTaken.interlock = .released := by
  have hends (hi : s.doors.interlock = .demand ∨ s.doors.interlock = .overridden) :
      s.interlockTaken.interlock = .releasing ∨ s.interlockTaken.interlock = .released := by
    obtain ⟨hzero, hdelay⟩ := interlockTaken_ends s h hi
    by_cases hz : s.doors.releaseDelay = 0
    · exact .inr (hzero hz)
    · exact .inl (hdelay hz).1
  have hstands (hi : s.doors.interlock = .releasing ∨ s.doors.interlock = .released) :
      s.interlockTaken.interlock = .releasing ∨ s.interlockTaken.interlock = .released := by
    rwa [(interlockTaken_stands s h hi).1]
  cases hi : s.doors.interlock with
  | demand => exact hends (.inl hi)
  | overridden => exact hends (.inr hi)
  | releasing => exact hstands (.inl hi)
  | released => exact hstands (.inr hi)

/-- A taking of the interlock makes the rule of R95 true, whatever stood before. -/
theorem takeInterlock_brakeProven (s : State) : (takeInterlock s).brakeProven := by
  intro _
  obtain ⟨hinterlock, -⟩ := takeInterlock_unit_fields s
  obtain ⟨hconditions, hactive⟩ := takeInterlock_conditions s
  rw [hinterlock, hconditions, hactive]
  cases h : s.demandConditions with
  | true =>
    rw [(interlockTaken_demands s h).1]
    cases s.overrideActive <;> simp
  | false =>
    obtain hi | hi := interlockTaken_releases s h <;> simp [hi]

end Sys2Proof.Machine
end

section
/-! PROOFS. O4: the two rules of the stop-brake demand, and how they pass through doors, signals and motion. -/

namespace Sys2Proof.Machine

/-! ### The rules of the demand (R95) -/

/-- From `s` to `t` the demand is held outside RUN, and released in RUN only where R95 lets it. -/
def State.keepsBrake (s t : State) : Prop := (s.brakeHeld → t.brakeHeld) ∧ (s.brakeProven → t.brakeProven)

/-- Both rules stand. -/
def State.brakeSafe (s : State) : Prop := s.brakeHeld ∧ s.brakeProven

/-- What the rules read is the same in two states. -/
def State.sameBrake (s t : State) : Prop :=
  t.run.state = s.run.state ∧ t.setup = s.setup ∧ t.sense.channels = s.sense.channels ∧
    t.doors.doors = s.doors.doors ∧ t.doors.interlock = s.doors.interlock

theorem State.keepsBrake.refl (s : State) : s.keepsBrake s := ⟨id, id⟩

theorem State.keepsBrake.trans {s t u : State} (h : s.keepsBrake t) (k : t.keepsBrake u) : s.keepsBrake u :=
  ⟨k.1 ∘ h.1, k.2 ∘ h.2⟩

theorem keepsBrake_of_safe (s t : State) (h : t.brakeSafe) : s.keepsBrake t := ⟨fun _ => h.1, fun _ => h.2⟩

theorem State.keepsBrake.safe {s t : State} (h : s.keepsBrake t) (hs : s.brakeSafe) : t.brakeSafe :=
  ⟨h.1 hs.1, h.2 hs.2⟩

theorem brakeHeld_iff (s : State) :
    s.brakeHeld ↔ (s.run.state ≠ .run →
      s.doors.interlock = .demand ∧ ∀ d, d < 4 → (s.doors.doors.get d).agreeTimer = none) := by
  unfold State.brakeHeld
  refine imp_congr_right fun _ => and_congr_right fun _ => ?_
  simp only [List.all_eq_true, Option.isNone_iff_eq_none]
  constructor
  · intro h d hd
    have hlt : d < s.doors.doors.cells.length := by rwa [s.doors.doors.size]
    rw [Table.get, List.getD_eq_getElem _ _ hlt]
    exact h _ (List.getElem_mem hlt)
  · intro h x hx
    obtain ⟨d, hlt, rfl⟩ := List.getElem_of_mem hx
    rw [← List.getD_eq_getElem _ default hlt]
    exact h d (by rwa [s.doors.doors.size] at hlt)

/-- A change that leaves the interlock, the conditions and the override, and starts no agree timer, keeps both rules. -/
theorem keepsBrake_of_items (s t : State) (hrun : t.run.state = s.run.state)
    (hinterlock : t.doors.interlock = s.doors.interlock) (hconditions : t.demandConditions = s.demandConditions)
    (hactive : t.overrideActive = s.overrideActive)
    (htimer : ∀ d, d < 4 → (s.doors.doors.get d).agreeTimer = none → (t.doors.doors.get d).agreeTimer = none) :
    s.keepsBrake t := by
  constructor
  · rw [brakeHeld_iff, brakeHeld_iff, hrun, hinterlock]
    exact fun h hr => ⟨(h hr).1, fun d hd => htimer d hd ((h hr).2 d hd)⟩
  · simp only [State.brakeProven, hrun, hinterlock, hconditions, hactive, imp_self]

theorem keepsBrake_of_same (s t : State) (h : s.sameBrake t) : s.keepsBrake t := by
  obtain ⟨hrun, hsetup, hchannels, hdoors, hinterlock⟩ := h
  refine keepsBrake_of_items s t hrun hinterlock ?_ ?_ ?_
  · exact demandConditions_congr s t hsetup fun d _ => by rw [hdoors]
  · exact overrideActive_congr s t hsetup (by rw [hchannels])
  · exact fun d _ h => by rwa [hdoors]

/-- In RUN the rule of the proven doors is all that is asked. -/
theorem brakeSafe_inRun (s : State) (hr : s.run.state = .run) (h : s.brakeProven) : s.brakeSafe :=
  ⟨fun k => absurd hr k, h⟩

/-- Outside RUN a demand without an agree timer is all that is asked. -/
theorem brakeSafe_outOfRun (s : State) (hr : s.run.state ≠ .run) (hinterlock : s.doors.interlock = .demand)
    (htimer : ∀ d, d < 4 → (s.doors.doors.get d).agreeTimer = none) : s.brakeSafe :=
  ⟨(brakeHeld_iff s).2 fun _ => ⟨hinterlock, htimer⟩, fun k => absurd k hr⟩

/-! ### Through the combinators -/

theorem when_keepsBrake (c : Bool) (f : State → State) (s : State) (h : c = true → s.keepsBrake (f s)) :
    s.keepsBrake (when c f s) := when_induct s.keepsBrake c f s (fun hc _ => h hc) (.refl s)

theorem forEach_keepsBrake (l : List Nat) (f : Nat → State → State) (s : State)
    (h : ∀ i t, State.keepsBrake t (f i t)) : s.keepsBrake (forEach l f s) :=
  forEach_induct s.keepsBrake l f s (fun i _ t ht => ht.trans (h i t)) (.refl s)

theorem reach_keepsBrake (s : State) (due : Nat) : s.keepsBrake (s.reach due) :=
  keepsBrake_of_same _ _ (by simp [State.sameBrake])

theorem onTimer_keepsBrake (timer : Option Nat) (f : Nat → State → State) (s : State)
    (h : ∀ d, timer = some d → (s.reach d).keepsBrake (f d (s.reach d))) : s.keepsBrake (onTimer timer f s) := by
  cases timer with
  | none => exact .refl s
  | some due => exact (reach_keepsBrake s due).trans (h due rfl)

/-! ### Doors and the interlock -/

theorem takeInterlock_inRun (s : State) (hr : s.run.state = .run) : (takeInterlock s).brakeSafe :=
  brakeSafe_inRun _ (by simpa using hr) (takeInterlock_brakeProven s)

/-- The write of a door's record in RUN ends in a taking of the interlock. -/
theorem doorWritten_inRun (d : Nat) (old new : Door) (s : State) (hr : s.run.state = .run) :
    (doorWritten d old new s).brakeSafe := by
  have htaken := takeInterlock_inRun (takeDoorSources d
    (when (new.state ≠ old.state) (post .doorChange d new.state.code) s)) (by simpa using hr)
  exact (when_keepsBrake _ _ _ fun _ => keepsBrake_of_same _ _ (by simp [State.sameBrake])).safe htaken

theorem takeDoor_keepsBrake (d : Nat) (s : State) : s.keepsBrake (takeDoor d s) := by
  refine when_keepsBrake _ _ s fun h => keepsBrake_of_safe _ _ (doorWritten_inRun d _ _ _ ?_)
  simp only [State.inRun, Bool.and_eq_true, decide_eq_true_eq] at h
  simpa using h.1

theorem takeDoors_keepsBrake (l : List Nat) (s : State) : s.keepsBrake (forEach l takeDoor s) :=
  forEach_keepsBrake l takeDoor s takeDoor_keepsBrake

/-- A door replaced by one that is proven as it was, and whose agree timer is the same. -/
theorem putDoor_keepsBrake (d : Nat) (x : Door) (s : State) (hproven : x.proven = (s.doors.doors.get d).proven)
    (htimer : x.agreeTimer = (s.doors.doors.get d).agreeTimer) : s.keepsBrake (putDoor d x s) := by
  have hget (e : Nat) (he : e < 4) : ((putDoor d x s).doors.doors.get e).proven = (s.doors.doors.get e).proven ∧
      ((putDoor d x s).doors.doors.get e).agreeTimer = (s.doors.doors.get e).agreeTimer := by
    by_cases h : e = d
    · subst h
      obtain ⟨w, u, hx⟩ := putDoor_get_same e x s he
      rw [hx]
      exact ⟨hproven, htimer⟩
    · rw [putDoor_get_other d e x s h]
      exact ⟨rfl, rfl⟩
  exact keepsBrake_of_items _ _ (by simp) (by simp) (demandConditions_congr _ _ (by simp) fun e he => (hget e he).1)
    (overrideActive_congr _ _ (by simp) (by simp)) fun e he h => (hget e he).2.trans h

theorem takeLatch_keepsBrake (d : Nat) (s : State) : s.keepsBrake (takeLatch d s) :=
  when_keepsBrake _ _ s fun _ => putDoor_keepsBrake d _ s (by simp) (by simp)

/-- The agree timer runs in RUN alone, and its expiry ends in a taking of the interlock (R84). -/
theorem agreeExpires_keepsBrake (d : Fin 4) (s : State) : s.keepsBrake (agreeExpires d s) := by
  by_cases hr : s.run.state = .run
  · exact onTimer_keepsBrake _ _ s fun due _ => keepsBrake_of_safe _ _ (doorWritten_inRun d _ _ _ (by simpa using hr))
  · refine ⟨fun h => ?_, fun _ k => absurd (by simpa using k) hr⟩
    have hnone := (((brakeHeld_iff s).1 h) hr).2 d d.isLt
    rw [agreeExpires, hnone]
    exact h

/-- The release timer releases a RELEASING interlock: one that no open door demands (R93). -/
theorem releaseExpires_keepsBrake (s : State) : s.keepsBrake (releaseExpires s) := by
  refine onTimer_keepsBrake _ _ s fun due _ => State.keepsBrake.trans ?_
    (when_keepsBrake _ _ _ fun _ => keepsBrake_of_same _ _ (by simp [State.sameBrake]))
  by_cases hi : (s.reach due).doors.interlock = .releasing
  · rw [if_pos hi]
    constructor
    · intro h hr
      rw [(h (by simpa using hr)).1] at hi
      cases hi
    · intro h hr
      have hopen := (h (by simpa using hr)).1 (.inl hi)
      exact ⟨fun _ => (demandConditions_congr _ _ (by simp) (fun _ _ => rfl)).trans hopen, fun k => by cases k⟩
  · rw [if_neg hi]
    exact keepsBrake_of_same _ _ ⟨by simp, by simp, by simp, rfl, rfl⟩

/-! ### Signals, motion and the workshop session -/

theorem readBefore_keepsBrake (n : Nat) (statusChanged : Bool) (s : State) :
    s.keepsBrake (readBefore n statusChanged s) :=
  State.keepsBrake.trans (keepsBrake_of_same s _ (by simp [State.sameBrake]))
    (takeDoors_keepsBrake _ (when statusChanged (takeUpStatus n) (when (n = s.setup.general.dimmer) takeDuties s)))

section Demotions

variable (demote : State → State) (hd : ∀ t : State, t.keepsBrake (demote t))
include hd

theorem leaveStopped_keepsBrake (s : State) : s.keepsBrake (leaveStopped demote s) :=
  (keepsBrake_of_same s _ (by simp [State.sameBrake])).trans
    (hd (endLampCheck .refusedMoving .moving (sweepsMeetMotion s)))

theorem handMotion_keepsBrake (old : Motion) (s : State) : s.keepsBrake (handMotion demote old s) :=
  ((forEach_keepsBrake (List.range 4) takeLatch s takeLatch_keepsBrake).trans
    (keepsBrake_of_same _ _ (by simp [State.sameBrake]))).trans
      (when_keepsBrake _ _ _ fun _ => leaveStopped_keepsBrake demote hd _)

/-- Motion moves the interlock by no other way than the forces that a demotion releases. -/
theorem changeMotion_keepsBrake (x : DoorUnit) (s : State) (hdoors : x.doors = s.doors.doors)
    (hinterlock : x.interlock = s.doors.interlock) : s.keepsBrake (changeMotion demote x s) :=
  (keepsBrake_of_same s (putMotion x s) ⟨by simp, by simp, by simp, hdoors, hinterlock⟩).trans
    (when_keepsBrake _ _ _ fun _ => handMotion_keepsBrake demote hd _ _)

theorem signalRead_keepsBrake (n : Nat) (statusChanged : Bool) (s : State) :
    s.keepsBrake (signalRead demote n statusChanged s) := by
  rw [signalRead_eq]
  have speed := (readBefore_keepsBrake n statusChanged s).trans
    (when_keepsBrake (s.setup.general.isSpeed n) (takeSpeed demote) _
      fun _ => changeMotion_keepsBrake demote hd _ _ rfl rfl)
  have brake := speed.trans (when_keepsBrake (n = s.setup.general.parkingBrake && !s.brakeSet) demote _ fun _ => hd _)
  exact brake.trans (keepsBrake_of_same _ _ (by simp [State.sameBrake]))

theorem writeSignal_keepsBrake (n : Nat) (x : Signal) (s : State) : s.keepsBrake (writeSignal demote n x s) :=
  (keepsBrake_of_same s (putSignal n x s) (by simp [State.sameBrake])).trans
    (when_keepsBrake _ _ _ fun _ => signalRead_keepsBrake demote hd n _ _)

end Demotions

/-- The readers of released forces demote nothing further (R168). -/
theorem lowerSession_keepsBrake (level : Session) (cause : EndCause) (s : State) :
    s.keepsBrake (lowerSession level cause s) := by
  let u := s.setShop { s.shop with session := level }
  have hentries : s.keepsBrake (releaseEntries s.shop.forced u) := keepsBrake_of_same _ _ (by simp [u, State.sameBrake])
  have hreleased : s.keepsBrake (releaseTogether s.shop.forced u) :=
    hentries.trans (forEach_keepsBrake _ _ _ fun n t => when_keepsBrake _ _ t
      fun _ => signalRead_keepsBrake id .refl n _ t)
  exact hreleased.trans (keepsBrake_of_same _ _ (by simp [lowerSession, State.sameBrake, u]))

theorem demoteFor_keepsBrake (cause : EndCause) (s : State) : s.keepsBrake (demoteFor cause s) :=
  when_keepsBrake _ _ s fun _ => lowerSession_keepsBrake .read cause s

theorem endSession_keepsBrake (cause : EndCause) (byClose : Bool) (s : State) :
    s.keepsBrake (endSession cause byClose s) :=
  when_keepsBrake _ _ s fun _ => (keepsBrake_of_same s _ (by simp [State.sameBrake])).trans
    (lowerSession_keepsBrake .detached cause _)

/-- Every write of a signal from outside a demotion: a delivery, a fault, a force and its release (R5 to R9). -/
theorem signalWrite_keepsBrake (n : Nat) (x : Signal) (s : State) : s.keepsBrake (writeSignal demoteSession n x s) :=
  writeSignal_keepsBrake _ (demoteFor_keepsBrake .session) n x s

theorem staleExpires_keepsBrake (n : Nat) (s : State) : s.keepsBrake (staleExpires n s) := by
  refine onTimer_keepsBrake _ _ s fun due _ => ?_
  unfold goStale
  dsimp only
  split
  · exact keepsBrake_of_same _ _ (by simp [State.sameBrake])
  · exact signalWrite_keepsBrake n _ _

theorem stopExpires_keepsBrake (s : State) : s.keepsBrake (stopExpires s) :=
  onTimer_keepsBrake _ _ s fun _ _ => changeMotion_keepsBrake _ (demoteFor_keepsBrake .session) _ _ rfl rfl

end Sys2Proof.Machine
end

section
/-! PROOFS. O4: the demand through the sense scanner, the body line and the workshop line. -/

namespace Sys2Proof.Machine

/-! ### The sense scanner -/

/-- An entry replaced by one that gives the override input the same leaves the override as it was. -/
theorem setChannel_keepsBrake (c : Nat) (x : SenseChannel) (s t : State) (hrun : t.run.state = s.run.state)
    (hsetup : t.setup = s.setup) (hdoors : t.doors = s.doors) (hset : t.sense.channels = s.sense.channels.set c x)
    (hitems : c = s.setup.general.override → x.doorItems = (s.sense.channels.get c).doorItems) : s.keepsBrake t := by
  refine keepsBrake_of_items _ _ hrun (by rw [hdoors]) (demandConditions_congr _ _ hsetup fun _ _ => by rw [hdoors])
    (overrideActive_congr _ _ hsetup ?_) fun _ _ h => by rwa [hdoors]
  rw [hset]
  by_cases h : s.setup.general.override = c
  · by_cases hc : c < 48
    · rw [h, Table.get_set_same _ _ _ hc, hitems h.symm]
    · rw [Table.set_past _ _ _ (by omega)]
  · rw [Table.get_set_other _ _ _ _ h]

theorem putChannel_keepsBrake (c : Nat) (x : SenseChannel) (s : State)
    (hitems : c = s.setup.general.override → x.doorItems = (s.sense.channels.get c).doorItems) :
    s.keepsBrake (putChannel c x s) := setChannel_keepsBrake c _ s _ rfl rfl rfl rfl hitems

/-- A write that changes what the override input reads has the interlock taken (R94). -/
theorem writeChannel_keepsBrake (c : Nat) (x : SenseChannel) (s : State) : s.keepsBrake (writeChannel c x s) := by
  by_cases hsame : x.doorItems = (s.sense.channels.get c).doorItems
  · rw [writeChannel, decide_eq_false (not_not.2 hsame)]
    exact putChannel_keepsBrake c x s fun _ => hsame
  · rw [writeChannel, decide_eq_true hsame, when_true]
    by_cases hc : c = s.setup.general.override
    · by_cases hr : s.run.state = .run
      · have htaken : (takeChannel c (putChannel c x s)).brakeSafe := by
          have hcond : ((putChannel c x s).inRun && (putChannel c x s).setup.general.override = c) = true := by
            simp [State.inRun, hr, hc]
          rw [takeChannel, hcond, when_true]
          exact takeInterlock_inRun _ (by simp [hr])
        exact keepsBrake_of_safe _ _ htaken
      · exact ⟨fun h => (takeDoors_keepsBrake _ (putChannel c x s)).trans
          (when_keepsBrake _ _ _ fun k => absurd (by simpa [State.inRun] using k) (by simp [hr])) |>.1 h,
          fun _ k => absurd (by simpa using k) hr⟩
    · exact (putChannel_keepsBrake c x s fun h => absurd h hc).trans ((takeDoors_keepsBrake _ _).trans
        (when_keepsBrake _ _ _ fun k => absurd (by simpa [State.inRun] using k) (by simp [Ne.symm hc])))

theorem deliverChannel_keepsBrake (c : Nat) (x : SenseChannel) (s : State) : s.keepsBrake (deliverChannel c x s) := by
  unfold deliverChannel
  split
  · split
    · split
      · exact signalWrite_keepsBrake _ _ s
      · exact signalWrite_keepsBrake _ _ s
    · exact .refl s
  · exact .refl s

theorem sampleTaken_keepsBrake (c : Nat) (r : SenseChannel × Bool) (s : State) : s.keepsBrake (sampleTaken c r s) :=
  ((writeChannel_keepsBrake c r.1 s).trans (deliverChannel_keepsBrake c r.1 _)).trans
    (keepsBrake_of_same _ _ (by simp [sampleTaken, State.sameBrake]))

theorem advanceSample_keepsBrake (c due : Nat) (s : State) : s.keepsBrake (advanceSample c due s) :=
  setChannel_keepsBrake c _ s _ rfl rfl rfl rfl fun _ => rfl

theorem sample_keepsBrake (c reading : Nat) (s : State) : s.keepsBrake (sample c reading s) :=
  onTimer_keepsBrake _ _ s fun due _ => (advanceSample_keepsBrake c due _).trans (sampleTaken_keepsBrake c _ _)

theorem edge_keepsBrake (c after : Nat) (s : State) : s.keepsBrake (edge c after s) :=
  when_keepsBrake _ _ s fun _ => setChannel_keepsBrake c _ s _ rfl rfl rfl rfl fun _ => rfl

theorem measured_keepsBrake (c reading : Nat) (w : WiringCheck) (s : State) :
    s.keepsBrake (measured c reading w s) := by
  unfold measured judgeCheck
  dsimp only
  split
  · refine State.keepsBrake.trans ?_ (when_keepsBrake _ _ _ fun _ => keepsBrake_of_same _ _ (by simp [State.sameBrake]))
    refine State.keepsBrake.trans ?_ (deliverChannel_keepsBrake c _ _)
    exact (keepsBrake_of_same s _ (by simp [State.sameBrake])).trans (writeChannel_keepsBrake c _ _)
  · exact (writeChannel_keepsBrake c _ s).trans (deliverChannel_keepsBrake c _ _)

theorem wiringMeasurement_keepsBrake (c reading : Nat) (s : State) : s.keepsBrake (wiringMeasurement c reading s) := by
  unfold wiringMeasurement
  split
  · exact onTimer_keepsBrake _ _ s fun due _ => (advanceSample_keepsBrake c due _).trans (measured_keepsBrake c _ _ _)
  · exact .refl s

theorem abortCheck_keepsBrake (restart : Bool) (c : Nat) (s : State) : s.keepsBrake (abortCheck restart c s) := by
  unfold abortCheck
  dsimp only
  split
  · exact (keepsBrake_of_same s (slotFailed _ _ _ _ s) (by simp [State.sameBrake])).trans
      (writeChannel_keepsBrake c _ _)
  · exact .refl s

theorem supplyLowExpires_keepsBrake (s : State) : s.keepsBrake (supplyLowExpires s) :=
  onTimer_keepsBrake _ _ s fun due _ => by
    let low := writeStatus ((s.reach due).setSense { (s.reach due).sense with supplyLow := true, lowTimer := none })
    have hlow : (s.reach due).keepsBrake low := keepsBrake_of_same _ _ (by simp [low, State.sameBrake])
    have haborted : low.keepsBrake (abortChecks true low) := forEach_keepsBrake _ _ _ (abortCheck_keepsBrake true)
    exact (hlow.trans haborted).trans (keepsBrake_of_same _ _ (by simp [low, State.sameBrake]))

/-! ### The body line: of all it does, the delivery of fetched words alone reaches the doors (R61, R62) -/

theorem deliverEnd_keepsBrake (t : Transaction) (o : LineOutcome) (words : List Word) (s : State) :
    s.keepsBrake (deliverEnd t o words s) := by
  have hwords (e : Nat) : s.keepsBrake (deliverWords e words s) :=
    forEach_keepsBrake _ _ s fun _ t => when_keepsBrake _ _ t fun _ => signalWrite_keepsBrake _ _ t
  unfold deliverEnd
  split
  · exact when_keepsBrake _ _ s fun _ => hwords _
  · exact when_keepsBrake _ _ s fun _ => hwords _
  · exact .refl s

theorem endTransaction_keepsBrake (t : Transaction) (o : LineOutcome) (flags : StationFlags) (words : List Word)
    (s : State) : s.keepsBrake (endTransaction t o flags words s) := by
  have hdelivered : s.keepsBrake (deliverEnd t o words
      (moveHealth t.made (s.setLine { s.line with transaction := none }))) :=
    (keepsBrake_of_same _ _ (by simp [State.sameBrake])).trans (deliverEnd_keepsBrake t o words _)
  unfold endTransaction
  refine hdelivered.trans (keepsBrake_of_same _ _ ?_)
  split <;> simp [State.sameBrake]

theorem endProbe_keepsBrake (t : Transaction) (c : Channel) (o : LineOutcome) (flags : StationFlags)
    (words : List Word) (s : State) : s.keepsBrake (endProbe t c o flags words s) := by
  have hdelivered : s.keepsBrake (deliverEnd t o words
      (moveProbeHealth c o (s.setLine { s.line with transaction := none }))) :=
    (keepsBrake_of_same _ _ (by simp [State.sameBrake])).trans (deliverEnd_keepsBrake t o words _)
  exact hdelivered.trans (keepsBrake_of_same _ _ (by simp [endProbe, State.sameBrake]))

theorem endAttempt_keepsBrake (a : Attempt) (o : LineOutcome) (s : State) : s.keepsBrake (endAttempt a o s) := by
  have hended (t : Transaction) (c : Channel) (received : List Byte) (u : State) :
      u.keepsBrake (attemptEnded t c o received u) :=
    attemptEnded_induct u.keepsBrake t c o received u (fun _ _ => endProbe_keepsBrake ..)
      (fun _ _ => (endTransaction_keepsBrake (t.after c o) o (replyHandover t o received).1
        (replyHandover t o received).2 u).trans (keepsBrake_of_same _ _ (by simp [State.sameBrake])))
      (fun _ _ => keepsBrake_of_same _ _ (by simp [State.sameBrake]))
  have hturned (p : LinePhase) : s.keepsBrake (s.setLine { s.line with phase := p }) :=
    keepsBrake_of_same _ _ (by simp [State.sameBrake])
  unfold endAttempt
  dsimp only
  split
  · exact ((hturned _).trans (hended ..)).trans
      (when_keepsBrake _ _ _ fun _ => keepsBrake_of_same _ _ (by simp [State.sameBrake]))
  · exact hturned _

theorem endAttempt_at_keepsBrake (a : Attempt) (o : LineOutcome) (due : Nat) (s : State) :
    s.keepsBrake (endAttempt a o (s.reach due)) := (reach_keepsBrake s due).trans (endAttempt_keepsBrake a o _)

theorem responseExpires_keepsBrake (s : State) : s.keepsBrake (responseExpires s) := by
  unfold responseExpires
  split
  · split
    · exact endAttempt_at_keepsBrake ..
    · exact .refl s
  · exact .refl s

theorem windowExpires_keepsBrake (s : State) : s.keepsBrake (windowExpires s) := by
  unfold windowExpires
  split
  · split
    · exact .refl s
    · exact endAttempt_at_keepsBrake ..
  · exact endAttempt_at_keepsBrake ..
  · exact .refl s

theorem judgeCharacter_keepsBrake (a : Attempt) (ends : Nat) (data : Byte) (headerMark stopBit : Bool) (s : State) :
    s.keepsBrake (judgeCharacter a ends data headerMark stopBit s) := by
  unfold judgeCharacter
  split
  · exact keepsBrake_of_same _ _ (by simp [State.sameBrake])
  · dsimp only
    split
    · split
      · exact endAttempt_at_keepsBrake ..
      · exact keepsBrake_of_same _ _ (by simp [State.sameBrake])
    · exact .refl s

theorem replyCharacterArrives_keepsBrake (c : Channel) (gap : Int) (data : Byte) (headerMark stopBit : Bool)
    (s : State) : s.keepsBrake (replyCharacterArrives c gap data headerMark stopBit s) := by
  unfold replyCharacterArrives
  split
  · dsimp only
    split_ifs
    · exact .refl s
    · exact responseExpires_keepsBrake s
    · exact keepsBrake_of_same _ _ (by simp [State.sameBrake])
    · exact windowExpires_keepsBrake s
    · exact judgeCharacter_keepsBrake ..
  · exact .refl s

theorem turnaroundExpires_keepsBrake (s : State) : s.keepsBrake (turnaroundExpires s) := by
  have hretry (x : Transaction) (u : State) : u.keepsBrake (retryDue x u) := by
    unfold retryDue
    dsimp only
    split
    · exact keepsBrake_of_same _ _ (by simp [State.sameBrake])
    · exact (endTransaction_keepsBrake x .skipped {} [] u).trans
        (keepsBrake_of_same _ _ (by simp [State.sameBrake]))
  unfold turnaroundExpires
  split
  · next ends _ =>
    have hidle : s.keepsBrake ((s.reach ends).setLine { s.line with phase := .idle }) :=
      keepsBrake_of_same _ _ (by simp [State.sameBrake])
    dsimp only
    split
    · exact hidle.trans (hretry _ _)
    · exact hidle.trans (keepsBrake_of_same _ _ (by simp [State.sameBrake]))
    · exact hidle.trans (keepsBrake_of_same _ _ (by simp [State.sameBrake]))
  · exact .refl s

/-! ### The workshop line (R163 to R173) -/

theorem serveOpenSession_keepsBrake (data : List Byte) (s : State) : s.keepsBrake (serveOpenSession data s).2.2 := by
  have hgrant (level : Session) : s.keepsBrake (grantSession level s) := by
    unfold grantSession
    split_ifs
    · exact .refl s
    · exact demoteFor_keepsBrake .session s
    · exact keepsBrake_of_same _ _ (by simp [State.sameBrake])
  unfold serveOpenSession
  dsimp only
  split_ifs
  · exact .refl s
  · exact .refl s
  · exact (hgrant .service).trans (keepsBrake_of_same _ _ (by simp [State.sameBrake]))
  · exact (hgrant .read).trans (keepsBrake_of_same _ _ (by simp [State.sameBrake]))

theorem forceAccepted_keepsBrake (n : Nat) (w : Word) (s : State) : s.keepsBrake (forceAccepted n w s) := by
  let joined := s.setShop { s.shop with forced := joinForced n s.shop.forced }
  have hjoined : s.keepsBrake joined := keepsBrake_of_same _ _ (by simp [joined, State.sameBrake])
  have hplaced : joined.keepsBrake (placeForce n w joined) := signalWrite_keepsBrake n _ joined
  exact (hjoined.trans hplaced).trans (keepsBrake_of_same _ _ (by simp [forceAccepted, joined, State.sameBrake]))

theorem releaseForces_keepsBrake (gone : List Nat) (s : State) : s.keepsBrake (releaseForces gone s) := by
  let left := s.setShop { s.shop with forced := s.shop.forced.filter fun n => !gone.contains n }
  have hleft : s.keepsBrake left := keepsBrake_of_same _ _ (by simp [left, State.sameBrake])
  have hreleased : left.keepsBrake (forEach gone (releaseForce demoteSession) left) :=
    forEach_keepsBrake _ _ _ fun n t => signalWrite_keepsBrake n _ t
  exact (hleft.trans hreleased).trans (keepsBrake_of_same _ _ (by simp [releaseForces, left, State.sameBrake]))

theorem serveForceSignal_keepsBrake (data : List Byte) (s : State) : s.keepsBrake (serveForceSignal data s).2.2 := by
  unfold serveForceSignal
  dsimp only
  split_ifs
  · exact .refl s
  · exact .refl s
  · exact .refl s
  · exact forceAccepted_keepsBrake _ _ s

theorem serveReleaseSignal_keepsBrake (data : List Byte) (s : State) :
    s.keepsBrake (serveReleaseSignal data s).2.2 := by
  unfold serveReleaseSignal
  dsimp only
  split_ifs
  · exact .refl s
  · exact .refl s
  · exact releaseForces_keepsBrake _ s

/-- A clear of a door's counts leaves its proof and its agree timer (R86). -/
theorem resetCounters_keepsBrake (d : Nat) (s : State) : s.keepsBrake (resetCounters d s) := by
  have hget (e : Nat) (he : e < 4) :
      ((resetCounters d s).doors.doors.get e).proven = (s.doors.doors.get e).proven ∧
        ((resetCounters d s).doors.doors.get e).agreeTimer = (s.doors.doors.get e).agreeTimer := by
    by_cases h : e = d
    · subst h
      simp [resetCounters, he]
    · simp [resetCounters, Table.get_set_other _ _ _ _ h]
  exact keepsBrake_of_items _ _ (by simp) (by simp) (demandConditions_congr _ _ (by simp) fun e he => (hget e he).1)
    (overrideActive_congr _ _ (by simp) (by simp)) fun e he h => (hget e he).2.trans h

theorem serveActuatorTest_keepsBrake (data : List Byte) (s : State) :
    s.keepsBrake (serveActuatorTest data s).2.2 := by
  unfold serveActuatorTest
  split <;> exact keepsBrake_of_same _ _ (by simp [State.sameBrake])

theorem serve_keepsBrake (v : Service) (data : List Byte) (s : State) : s.keepsBrake (v.serve data s).2.2 := by
  cases v with
  | openSession => exact serveOpenSession_keepsBrake data s
  | closeSession => exact endSession_keepsBrake .session true s
  | forceSignal => exact serveForceSignal_keepsBrake data s
  | releaseSignal => exact serveReleaseSignal_keepsBrake data s
  | resetDoorCounter =>
    change s.keepsBrake (serveResetDoorCounter data s).2.2
    unfold serveResetDoorCounter
    split_ifs
    · exact .refl s
    · exact resetCounters_keepsBrake _ s
  | actuatorTest => exact serveActuatorTest_keepsBrake data s
  | identify | readSignals | readFaults | readFaultSnapshot | clearFaults | readDoorCounters | readLog =>
    exact keepsBrake_of_same _ _ (by simp [State.sameBrake, Service.serve])

theorem takeRequest_keepsBrake (code tag : Byte) (data : List Byte) (s : State) :
    s.keepsBrake (takeRequest code tag data s) := by
  have hserved (u : State) : u.keepsBrake (serveRequest code data u).2.2 := by
    unfold serveRequest
    split
    · exact .refl u
    · split
      · exact .refl u
      · exact serve_keepsBrake _ data u
  have hidle : s.keepsBrake (restartIdle s) := keepsBrake_of_same _ _ (by simp [State.sameBrake])
  exact (hidle.trans (hserved _)).trans (keepsBrake_of_same _ (State.setShop _ _) (by simp [State.sameBrake]))

theorem receiveAs_keepsBrake (r : Receiver) (s : State) : s.keepsBrake (receiveAs r s) :=
  keepsBrake_of_same _ _ (by simp [State.sameBrake])

theorem receiveCharacter_keepsBrake (data : Byte) (error : CharError) (s : State) :
    s.keepsBrake (receiveCharacter data error s) := by
  have hgains (frame : List Byte) : s.keepsBrake (frameGains frame s) := by
    unfold frameGains frameComplete
    split_ifs
    · exact receiveAs_keepsBrake _ s
    · exact takeRequest_keepsBrake ..
    · exact receiveAs_keepsBrake _ s
  unfold receiveCharacter
  split
  · split_ifs <;> exact receiveAs_keepsBrake _ s
  · split_ifs
    · exact receiveAs_keepsBrake _ s
    · exact hgains _
  · exact receiveAs_keepsBrake _ s
  · exact .refl s

theorem receiveFrame_keepsBrake (frame : List Byte) (s : State) : s.keepsBrake (receiveFrame frame s) :=
  when_keepsBrake _ _ s fun _ =>
    foldl_induct s.keepsBrake frame _ s (fun b _ t ht => ht.trans (receiveCharacter_keepsBrake b .none t)) (.refl s)

theorem sessionExpires_keepsBrake (s : State) : s.keepsBrake (sessionExpires s) :=
  onTimer_keepsBrake _ _ s fun _ _ => endSession_keepsBrake .session false _

end Sys2Proof.Machine
end

section
/-! PROOFS. O4: the demand through the run states, the requests and the host port, and the statement. -/

namespace Sys2Proof.Machine

/-! ### Run states (R195 to R202) -/

theorem DoorUnit.blanked_interlock (u : DoorUnit) (time : Time) (delay : Nat) :
    (u.blanked time delay).interlock = .demand := rfl

theorem DoorUnit.blanked_agreeTimer (u : DoorUnit) (time : Time) (delay d : Nat) (hd : d < 4) :
    ((u.blanked time delay).doors.get d).agreeTimer = none := by
  simp [DoorUnit.blanked, hd, Door.blanked]

/-- Blanked doors outside RUN hold the demand. -/
theorem brakeSafe_of_blanked (s : State) (u : DoorUnit) (time : Time) (delay : Nat) (hr : s.run.state ≠ .run)
    (hdoors : s.doors = u.blanked time delay) : s.brakeSafe := by
  refine brakeSafe_outOfRun s hr (by rw [hdoors, DoorUnit.blanked_interlock]) fun d hd => ?_
  rw [hdoors, DoorUnit.blanked_agreeTimer _ _ _ _ hd]

/-- RUN is left with a demand and no agree timer. -/
theorem stopDoors_demands (s : State) :
    (stopDoors s).doors.interlock = .demand ∧ ∀ d, d < 4 → ((stopDoors s).doors.doors.get d).agreeTimer = none := by
  refine ⟨rfl, fun d hd => ?_⟩
  have hdoors : (stopDoors s).doors.doors = s.doors.doors.map fun x => { x with agreeTimer := none } := rfl
  rw [hdoors, Table.get_map _ _ _ hd]

/-- Whatever stood before, the doors as RUN is left demand the brake, and no agree timer runs (R95). -/
theorem leaveRun_brakeSafe (new : RunState) (s : State) (hnew : new ≠ .run) : (leaveRun new s).brakeSafe := by
  let u := stopDoors (stopSignals (stopSense (stopLine (changeRunState new s))))
  obtain ⟨hinterlock, htimer⟩ := stopDoors_demands (stopSignals (stopSense (stopLine (changeRunState new s))))
  have hstopped : u.brakeSafe := brakeSafe_outOfRun u (by simpa [u] using hnew) hinterlock htimer
  exact (keepsBrake_of_same u _ (by simp [State.sameBrake, leaveRun, stopBlocks, u])).safe hstopped

theorem startConfigIdle_keepsBrake (s : State) : s.keepsBrake (startConfigIdle s) :=
  keepsBrake_of_same _ _ (by simp [State.sameBrake])

/-- STANDBY is entered from outside RUN alone. -/
theorem enterStandby_keepsBrake (s : State) (hr : s.run.state ≠ .run) : s.keepsBrake (enterStandby s) := by
  let u := endSession .session false s
  have hended : s.keepsBrake u := endSession_keepsBrake .session false s
  have hstate : u.run.state = s.run.state := by simp [u]
  have hdoors : (enterStandby s).doors = u.doors := by simp [enterStandby, u]
  have hstandby : (enterStandby s).run.state = .standby := by simp [enterStandby]
  constructor
  · intro h
    obtain ⟨hinterlock, htimer⟩ := (brakeHeld_iff u).1 (hended.1 h) (hstate ▸ hr)
    rw [brakeHeld_iff, hdoors]
    exact fun _ => ⟨hinterlock, htimer⟩
  · intro _ k
    rw [hstandby] at k
    cases k

theorem standbyIfDue_keepsBrake (s : State) : s.keepsBrake (standbyIfDue s) := by
  refine when_keepsBrake _ _ s fun h => enterStandby_keepsBrake s fun hr => ?_
  simp [State.standbyDue, hr] at h

theorem toConfig_brakeSafe (s : State) : (toConfig s).brakeSafe :=
  ((demoteFor_keepsBrake .leftRun _).trans (startConfigIdle_keepsBrake _)).safe
    (leaveRun_brakeSafe .config s (by decide))

theorem toShutdown_brakeSafe (s : State) : (toShutdown s).brakeSafe :=
  ((endSession_keepsBrake .leftRun false _).trans (standbyIfDue_keepsBrake _)).safe
    (leaveRun_brakeSafe .shutdown s (by decide))

/-- RUN is entered with a taking of the interlock, whatever stood before. -/
theorem enterRun_brakeSafe (byApply : Bool) (s : State) : (enterRun byApply s).brakeSafe := by
  let u := takeInterlock (composedFirst (blocksSet byApply s))
  have hstate : (composedFirst (blocksSet byApply s)).run.state = .run := by simp [composedFirst, blocksSet]
  have hafter : u.sameBrake (enterRun byApply s) := by
    simp [State.sameBrake, enterRun_eq, takeBlocks_eq, u]
  exact (keepsBrake_of_same u _ hafter).safe (takeInterlock_inRun _ hstate)

theorem enterRun_keepsBrake (byApply : Bool) (s : State) : s.keepsBrake (enterRun byApply s) :=
  keepsBrake_of_safe _ _ (enterRun_brakeSafe byApply s)

theorem toShutdown_keepsBrake (s : State) : s.keepsBrake (toShutdown s) :=
  keepsBrake_of_safe _ _ (toShutdown_brakeSafe s)

theorem runOn_keepsBrake (s : State) : s.keepsBrake (runOn s) := by
  unfold runOn
  split
  · exact toShutdown_keepsBrake s
  · exact keepsBrake_of_same _ _ (by simp [State.sameBrake])

theorem runOnExpires_keepsBrake (s : State) : s.keepsBrake (runOnExpires s) :=
  onTimer_keepsBrake _ _ s fun _ _ => toShutdown_keepsBrake _

theorem configIdleExpires_keepsBrake (s : State) : s.keepsBrake (configIdleExpires s) :=
  onTimer_keepsBrake _ _ s fun _ _ => keepsBrake_of_same _ (State.setRun _ _) (by simp [State.sameBrake])

/-- The wake blanks the doors (R96). -/
theorem wake_keepsBrake (s : State) : s.keepsBrake (wake s) := by
  let u := s.setRun { s.run with
    runOnTimer := none, configIdleTimer := none, standbyPending := false, applySlot := none }
  refine keepsBrake_of_safe _ _ (brakeSafe_of_blanked _ u.doors 0#32 u.doors.releaseDelay (by simp [wake]) ?_)
  simp [wake, wakeBlocks, blankBlocks, u]

theorem wakeFromStandby_keepsBrake (s : State) : s.keepsBrake (wakeFromStandby s) :=
  when_keepsBrake _ _ s fun _ => wake_keepsBrake s

theorem releaseSampled_keepsBrake (d reading samples : Nat) (s : State) :
    s.keepsBrake (releaseSampled d reading samples s) := by
  refine when_keepsBrake _ _ s fun _ => ?_
  unfold tallyRelease
  split
  · exact wake_keepsBrake s
  · exact keepsBrake_of_same _ _ (by simp [State.sameBrake])

theorem ignitionChanged_keepsBrake (s : State) : s.keepsBrake (ignitionChanged s) := by
  unfold ignitionChanged
  split
  case h_1 => exact wake_keepsBrake s
  case h_2 => exact keepsBrake_of_same _ _ (by simp [State.sameBrake])
  case h_3 => exact keepsBrake_of_same _ _ (by simp [State.sameBrake])
  case h_4 => exact enterRun_keepsBrake false s
  case h_5 => exact startConfigIdle_keepsBrake s
  case h_6 => exact runOn_keepsBrake s
  case h_7 => exact .refl s

theorem ignitionSampled_keepsBrake (on : Bool) (samples : Nat) (s : State) :
    s.keepsBrake (ignitionSampled on samples s) := by
  unfold ignitionSampled
  split_ifs
  · exact .refl s
  · exact keepsBrake_of_same _ _ (by simp [State.sameBrake])
  · exact keepsBrake_of_same _ _ (by simp [State.sameBrake])
  · exact (keepsBrake_of_same s (ignitionSet on s) (by simp [State.sameBrake, ignitionSet])).trans
      (ignitionChanged_keepsBrake _)

/-- A soft reset blanks the doors (R96, R201). -/
theorem softReset_keepsBrake (s : State) : s.keepsBrake (softReset s) := by
  obtain ⟨-, hdoors, -⟩ := softBlocks_values (resetEnded s)
  refine keepsBrake_of_safe _ _ (brakeSafe_of_blanked _ (resetEnded s).doors 0#32 (resetEnded s).doors.releaseDelay
    (by simp [softReset]) ?_)
  simp [softReset_eq, hdoors]

theorem reset_brakeSafe : State.reset.brakeSafe :=
  brakeSafe_outOfRun _ (by decide) rfl (by decide)

theorem powerUp_keepsBrake (s : State) : s.keepsBrake (powerUp s) :=
  keepsBrake_of_safe _ _ ((keepsBrake_of_same State.reset _ (by simp [State.sameBrake, powerUp])).safe reset_brakeSafe)

/-! ### Requests (R181, R187) -/

theorem refuseRequest_keepsBrake (i : Nat) (code : ResultCode) (detail : Nat) (s : State) :
    s.keepsBrake (refuseRequest i code detail s) := keepsBrake_of_same _ _ (by simp [State.sameBrake])

theorem requestEnterConfig_keepsBrake (i : Nat) (s : State) : s.keepsBrake (requestEnterConfig i s) := by
  unfold requestEnterConfig
  split
  · exact keepsBrake_of_safe _ _ (toConfig_brakeSafe _)
  · exact refuseRequest_keepsBrake ..

theorem requestStandbyPermit_keepsBrake (i : Nat) (s : State) : s.keepsBrake (requestStandbyPermit i s) := by
  unfold requestStandbyPermit
  split
  · exact keepsBrake_of_safe _ _ (toShutdown_brakeSafe _)
  · exact refuseRequest_keepsBrake ..

theorem applyItem_keepsBrake (x : SupplyItem) (s : State) : s.keepsBrake (applyItem x s) := by
  unfold applyItem
  split
  · exact signalWrite_keepsBrake _ _ s
  · exact signalWrite_keepsBrake _ _ s

theorem applyItems_keepsBrake (l : List SupplyItem) (s : State) : s.keepsBrake (applyItems l s).1 := by
  induction l generalizing s with
  | nil => exact .refl s
  | cons x rest ih => exact (applyItem_keepsBrake x s).trans (ih _)

theorem requestSupplySignal_keepsBrake (i : Nat) (s : State) : s.keepsBrake (requestSupplySignal i s) := by
  unfold requestSupplySignal
  split_ifs
  · exact refuseRequest_keepsBrake ..
  · exact refuseRequest_keepsBrake ..
  · split
    · exact refuseRequest_keepsBrake ..
    · exact (applyItems_keepsBrake (s.supplyItems i) s).trans
        (keepsBrake_of_same _ _ (by simp [State.sameBrake]))

theorem requestWiringCheck_keepsBrake (i : Nat) (s : State) : s.keepsBrake (requestWiringCheck i s) := by
  unfold requestWiringCheck
  dsimp only
  split_ifs
  · exact refuseRequest_keepsBrake ..
  · exact refuseRequest_keepsBrake ..
  · exact refuseRequest_keepsBrake ..
  · exact refuseRequest_keepsBrake ..
  · exact refuseRequest_keepsBrake ..
  · exact (keepsBrake_of_same s (setSlotState i .taken s) (by simp [State.sameBrake])).trans
      (writeChannel_keepsBrake _ _ _)

theorem route_keepsBrake (k : RequestKind) (i : Nat) (s : State) : s.keepsBrake (k.route i s) := by
  cases k with
  | applySetup => exact keepsBrake_of_same _ (requestApplySetup i s) (by simp [State.sameBrake])
  | enterConfig => exact requestEnterConfig_keepsBrake i s
  | standbyPermit => exact requestStandbyPermit_keepsBrake i s
  | supplySignal => exact requestSupplySignal_keepsBrake i s
  | stationTransfer => exact keepsBrake_of_same _ (requestStationTransfer i s) (by simp [State.sameBrake])
  | acknowledge => exact keepsBrake_of_same _ (requestAcknowledge i s) (by simp [State.sameBrake])
  | gaugeSweep => exact keepsBrake_of_same _ (requestGaugeSweep i s) (by simp [State.sameBrake])
  | lampCheck => exact keepsBrake_of_same _ (requestLampCheck i s) (by simp [State.sameBrake])
  | wiringCheck => exact requestWiringCheck_keepsBrake i s
  | clearFaults => exact keepsBrake_of_same _ (requestClearFaults i s) (by simp [State.sameBrake])

theorem takeSlot_keepsBrake (i : Nat) (s : State) : s.keepsBrake (takeSlot i s) := by
  unfold takeSlot
  split
  · exact refuseRequest_keepsBrake ..
  · exact route_keepsBrake _ i s

/-! ### The sweep and the host port (R175 to R183) -/

theorem visitSlot_keepsBrake (s : State) : s.keepsBrake (visitSlot s) := by
  unfold visitSlot
  split
  · next k _ =>
    exact (when_keepsBrake (s.slotState k = .posted) (takeSlot k) s fun _ => takeSlot_keepsBrake k s).trans
      (keepsBrake_of_same _ _ (by simp [State.sameBrake]))
  · exact .refl s

theorem visitSlots_keepsBrake (n : Nat) (s : State) : s.keepsBrake (visitSlots n s) := by
  induction n generalizing s with
  | zero => exact .refl s
  | succ n ih => exact (visitSlot_keepsBrake s).trans (ih _)

theorem setPort_keepsBrake (p : Port) (s : State) : s.keepsBrake (s.setPort p) :=
  keepsBrake_of_same _ _ (by simp [State.sameBrake])

theorem startSweep_keepsBrake (places : Nat) (s : State) : s.keepsBrake (startSweep places s) := by
  unfold startSweep
  split
  · exact setPort_keepsBrake _ s
  · exact (setPort_keepsBrake _ s).trans (visitSlots_keepsBrake _ _)

theorem sweepExpires_keepsBrake (places : Nat) (s : State) : s.keepsBrake (sweepExpires places s) :=
  onTimer_keepsBrake _ _ s fun _ _ => (setPort_keepsBrake _ _).trans (startSweep_keepsBrake places _)

theorem heldSweepStarts_keepsBrake (places : Nat) (s : State) : s.keepsBrake (heldSweepStarts places s) :=
  when_keepsBrake _ _ s fun _ => (visitSlots_keepsBrake 16 s).trans
    (when_keepsBrake _ _ _ fun _ => (setPort_keepsBrake _ _).trans (startSweep_keepsBrake places _))

theorem validationPasses_keepsBrake (i : Nat) (s : State) : s.keepsBrake (validationPasses i s) := by
  let t := writeStatus (s.setRun { s.run with
    applySlot := none, memoryLost := false, lastResult := .ok, lastDetail := 0 })
  let u := enterRun true ((finishSlot i .done .ok 0 [] t).setSetup (Setup.ofMemory s.mem))
  have htold : u.sameBrake (validationPasses i s) := by simp [State.sameBrake, validationPasses, u, t]
  exact keepsBrake_of_safe _ _ ((keepsBrake_of_same u _ htold).safe (enterRun_brakeSafe _ _))

theorem validationEnds_keepsBrake (s : State) : s.keepsBrake (validationEnds s) := by
  unfold validationEnds
  split
  · split
    · exact keepsBrake_of_same _ (validationFails _ _ s) (by simp [State.sameBrake])
    · exact validationPasses_keepsBrake _ s
  · exact .refl s

theorem heartbeat_keepsBrake (s : State) : s.keepsBrake (heartbeat s) :=
  keepsBrake_of_same _ _ (by simp [State.sameBrake])

theorem registerWrite_keepsBrake (addr : BitVec 14) (en : ByteEnable) (data : Word) (places : Nat) (s : State) :
    s.keepsBrake (registerWrite addr en data places s) := by
  unfold registerWrite
  split
  · exact setPort_keepsBrake _ s
  · exact (setPort_keepsBrake _ s).trans (when_keepsBrake _ _ _ fun _ => softReset_keepsBrake _)
  · exact (heartbeat_keepsBrake s).trans (startSweep_keepsBrake places _)
  · exact keepsBrake_of_same _ (writeNoticeRead _ _ s) (by simp [State.sameBrake])
  · exact keepsBrake_of_same _ (refuseWrite _ s) (by simp [State.sameBrake])

theorem takeWrite_keepsBrake (addr : BitVec 14) (en : ByteEnable) (data : Word) (places : Nat) (s : State) :
    s.keepsBrake (takeWrite addr en data places s) := by
  unfold takeWrite memoryWrite
  split_ifs
  · exact keepsBrake_of_same _ _ (by simp [State.sameBrake])
  · exact keepsBrake_of_same _ _ (by simp [State.sameBrake])
  · exact registerWrite_keepsBrake addr en data places s

theorem hostWrite_keepsBrake (addr : BitVec 14) (en : ByteEnable) (data : Word) (places : Nat) (s : State) :
    s.keepsBrake (hostWrite addr en data places s) :=
  when_keepsBrake _ _ s fun _ => takeWrite_keepsBrake addr en data places s

/-! ### Commands and steps -/

theorem sweepMoves_keepsBrake (s : State) : s.keepsBrake (sweepMoves s) := by
  unfold sweepMoves
  split_ifs
  · exact visitSlot_keepsBrake s
  · exact setPort_keepsBrake _ s
  · exact .refl s

theorem tick_keepsBrake (s : State) : s.keepsBrake (tick s) :=
  when_keepsBrake _ _ s fun _ =>
    ((keepsBrake_of_same s (s.setNow (s.now + 1)) (by simp [State.sameBrake])).trans (sweepMoves_keepsBrake _)).trans
      (standbyIfDue_keepsBrake _)

/-- A GAUGE_UPDATE that parks the last gauge brings the STANDBY that waits for it (R197, R200). -/
theorem gaugeUpdate_keepsBrake (i : Nat) (s : State) :
    s.keepsBrake (if (gaugeExpires i s).allParked && !s.allParked then standbyIfDue (gaugeExpires i s)
      else gaugeExpires i s) := by
  have hexpired : s.keepsBrake (gaugeExpires i s) := keepsBrake_of_same _ _ (by simp [State.sameBrake])
  split
  · exact hexpired.trans (standbyIfDue_keepsBrake _)
  · exact hexpired

theorem supplyMeasured_keepsBrake (millivolts : Word) (s : State) : s.keepsBrake (supplyMeasured millivolts s) :=
  onTimer_keepsBrake _ _ s fun _ _ => keepsBrake_of_same _ _ (by simp [State.sameBrake, SenseUnit.supplied])

theorem whenProof_keepsBrake (l : Nat) (old : ProofState → Bool) (new : ProofState) (f : State → State) (s : State)
    (h : s.sameBrake (f s)) : s.keepsBrake (whenProof l old new f s) := by
  unfold whenProof
  split
  · exact keepsBrake_of_same _ _ h
  · exact .refl s

theorem exec_keepsBrake (c : Instr) (s t : State) (h : exec c s = .next t) : s.keepsBrake t := by
  cases c
  all_goals cases h
  case hostMemoryWrite | withdrawRequest | releaseSlot | portRegisterWrite | clearNoticeOverflow | clearWriteRefused
      | intEnable | softReset | attention | noticeRead =>
    exact hostWrite_keepsBrake ..
  case postRequest slot kind =>
    cases kind with
    | none => exact hostWrite_keepsBrake ..
    | some k => exact hostWrite_keepsBrake ..
  case sweepTimerExpiry places => exact sweepExpires_keepsBrake places s
  case heldSweepStart places => exact heldSweepStarts_keepsBrake places s
  case setupValidationEnd => exact validationEnds_keepsBrake s
  case staleExpiry signal => exact staleExpires_keepsBrake signal s
  case senseSample channel reading => exact sample_keepsBrake channel reading.toNat s
  case frequencyEdge => exact edge_keepsBrake _ _ s
  case debounceChange | senseFaultEntry | senseHeal => exact when_keepsBrake _ _ s fun _ => sample_keepsBrake _ _ s
  case wiringCheckMeasurement channel reading => exact wiringMeasurement_keepsBrake channel reading.toNat s
  case supplyMeasurement millivolts => exact supplyMeasured_keepsBrake millivolts s
  case lampOpenLoad | lampProofHealed | lampShorted =>
    exact whenProof_keepsBrake _ _ _ _ s (by simp [State.sameBrake])
  case supplyLowTimerExpiry => exact supplyLowExpires_keepsBrake s
  case ignitionStateChange on samples => exact ignitionSampled_keepsBrake on samples s
  case replyCharacter => exact replyCharacterArrives_keepsBrake ..
  case responseTimeout => exact responseExpires_keepsBrake s
  case attemptWindowClose => exact windowExpires_keepsBrake s
  case turnaroundEnd => exact turnaroundExpires_keepsBrake s
  case agreeTimerExpiry door => exact agreeExpires_keepsBrake door s
  case stopTimerExpiry => exact stopExpires_keepsBrake s
  case releaseTimerExpiry => exact releaseExpires_keepsBrake s
  case gaugeUpdate gauge => exact gaugeUpdate_keepsBrake gauge s
  case workshopFrameDiscard | workshopCharacterReceived =>
    exact when_keepsBrake _ _ s fun _ => receiveCharacter_keepsBrake _ _ s
  case unknownService | identify | openSession | closeSession | readSignals | readFaults | readFaultSnapshot
      | workshopClearFaults | forceSignal | releaseSignal | actuatorTestGaugeSweep | actuatorTestLampCheck
      | actuatorTestChime | actuatorTestStatus | readDoorCounters | resetDoorCounter | readLog =>
    exact receiveFrame_keepsBrake _ s
  case sessionIdleTimerExpiry => exact sessionExpires_keepsBrake s
  case releaseChannelWake => exact releaseSampled_keepsBrake ..
  case workshopLineWake => exact wakeFromStandby_keepsBrake s
  case configIdleTimerExpiry => exact configIdleExpires_keepsBrake s
  case standbyEntry => exact standbyIfDue_keepsBrake s
  case runOnTimerExpiry => exact runOnExpires_keepsBrake s
  case powerOn => exact powerUp_keepsBrake s
  case livenessTimerExpiry | minorCycleStart | onDelayExpiry | offDelayExpiry | proofTimerExpiry
      | replyGapTimeout | lampOvercurrent | lampCheckTimerExpiry | flashPhaseChange
      | overcurrentRetryExpiry | sounderPhaseChange | chimeToneEnd | testToneEnd | holdTimerExpiry
      | workshopGapTimeout | workshopResyncGap | answerEnd =>
    exact keepsBrake_of_same _ _ (by simp [State.sameBrake])

/-- The queue of commands takes no part in the demand. -/
theorem setPending_keepsBrake (s t : State) (l : List Instr) (h : (s.setPending l).keepsBrake t) : s.keepsBrake t := h

theorem step_keepsBrake (s t : State) (h : step s = .next t) : s.keepsBrake t := by
  unfold step at h
  split at h
  · cases h
    exact tick_keepsBrake s
  · exact setPending_keepsBrake s t _ (exec_keepsBrake _ _ t h)

theorem stopBrakeDemand_of_held (s : State) (h : s.brakeHeld) (hr : s.run.state ≠ .run) : s.stopBrakeDemand = true := by
  simp [State.stopBrakeDemand, (h hr).1]

/-- A release of the demand under the rule of R95 has the doors proven closed, or the override active. -/
theorem released_of_brakeProven (s : State) (h : s.brakeProven) (hr : s.run.state = .run)
    (hreleased : s.stopBrakeDemand = false) :
    (∀ d, d < 4 → (s.setup.doors.get d).enabled = true → (s.doors.doors.get d).proven = true) ∨
      s.overrideActive = true := by
  obtain ⟨hproven, hoverridden⟩ := h hr
  cases hi : s.doors.interlock with
  | demand => simp [State.stopBrakeDemand, hi] at hreleased
  | releasing => simp [State.stopBrakeDemand, hi] at hreleased
  | overridden => exact .inr (hoverridden hi).2
  | released =>
    have hclosed := hproven (.inr hi)
    refine .inl fun d hd henabled => ?_
    by_contra hopen
    rw [(demandConditions_iff s).2 ⟨d, ⟨hd, henabled⟩, by simpa using hopen⟩] at hclosed
    cases hclosed

/-- Settles O4: of the state that the two rules read, every part of the model leaves what it was, ends in a taking of
the interlock, or blanks the doors as RUN is left. -/
theorem stepsKeepBrakeHeld : Obligations.StepsKeepBrakeHeld := by
  unfold Obligations.StepsKeepBrakeHeld
  intro s t h
  obtain ⟨hheld, hproven⟩ := step_keepsBrake s t h
  exact ⟨fun hs => ⟨hheld hs, stopBrakeDemand_of_held t (hheld hs)⟩,
    fun hs => ⟨hproven hs, released_of_brakeProven t (hproven hs)⟩⟩

end Sys2Proof.Machine
end

section
/-! PROOFS. O7: the state after reset. -/

namespace Sys2Proof.Machine

/-- The CONFIG idle timer runs from reset; no other timer of the run-state logic and no validation does. -/
theorem reset_timers : State.reset.run.state = .config ∧ State.reset.run.ignition = false ∧
    State.reset.run.applySlot = none ∧ State.reset.run.runOnTimer = none ∧
      State.reset.run.standbyPending = false ∧ State.reset.port.livenessTimer = none :=
  ⟨rfl, rfl, rfl, rfl, rfl, rfl⟩

theorem reset_runSound : State.reset.runSound := by
  obtain ⟨hconfig, hoff, happly, hrunOn, hpending, hliveness⟩ := reset_timers
  refine ⟨fun h => ?_, fun h => ?_, fun _ => ⟨hconfig, hoff⟩, fun _ => ⟨hconfig, hoff⟩, fun h => ?_⟩
  · simp [happly] at h
  · simp [hrunOn] at h
  · simp [hliveness] at h

theorem reset_serviceSound : State.reset.serviceSound :=
  serviceSound_of_lower _ (show Session.detached ≠ .service by decide)

/-- Settles O7: the part stands in CONFIG with a demand and no agree timer, every list empty and no session. -/
theorem resetIsSound : Obligations.ResetIsSound := by
  unfold Obligations.ResetIsSound
  obtain ⟨hheld, hproven⟩ := reset_brakeSafe
  obtain ⟨hacks, hforced, hshots⟩ := reset_withinLimits
  exact ⟨reset_memorySound, hheld, hproven, reset_runSound, hacks, hforced, hshots, reset_serviceSound⟩

end Sys2Proof.Machine
end

section
/-! PROOFS. O38: the obstruction count through a change of a door's state and through the blankings. -/

namespace Sys2Proof.Machine

theorem Door.moved_obstructions (x : Door) (new : DoorState) (time : Time) :
    (x.moved new time).obstructions =
      if x.state = .closing ∧ new = .reversing then min (x.obstructions + 1) 65535 else x.obstructions := by
  by_cases h : new = x.state
  · subst h
    have hnever : ¬(x.state = .closing ∧ x.state = .reversing) := fun ⟨hc, hr⟩ => by simp [hc] at hr
    rw [Door.moved_same, if_neg hnever]
  · exact (Door.moved_other x new time h).2

theorem DoorUnit.blanked_obstructions (u : DoorUnit) (time : Time) (delay d : Nat) (hd : d < 4) :
    ((u.blanked time delay).doors.get d).obstructions = (u.doors.get d).obstructions := by
  simp [DoorUnit.blanked, hd, Door.blanked]

theorem setBlocks_doors (byApply : Bool) (s : State) :
    (setBlocks byApply s).doors = s.doors.blanked s.time s.setup.releaseDelay := by
  simp [setBlocks, State.time, State.ms]

theorem wakeBlocks_doors (s : State) : (wakeBlocks s).doors = s.doors.blanked 0#32 s.doors.releaseDelay := by
  simp [wakeBlocks, blankBlocks, quietShop]

theorem reset_obstructions (d : Nat) (hd : d < 4) : (State.reset.doors.doors.get d).obstructions = 0 := by
  simp [State.reset, hd]

/-- Settles O38: the count moves with the door's state alone, and every blanking carries it over. -/
theorem obstructionsAreCounted : Obligations.ObstructionsAreCounted := by
  unfold Obligations.ObstructionsAreCounted
  refine ⟨fun x new time => ⟨fun hold hnew _ => ?_, fun h => ?_⟩,
    fun u time delay d hd => DoorUnit.blanked_obstructions u time delay d hd, fun s d hd => ⟨?_, ?_, fun b => ?_, ?_⟩⟩
  · rw [Door.moved_obstructions, if_pos ⟨hold, hnew⟩]
  · rw [Door.moved_obstructions, if_neg h]
  · rw [wakeBlocks_doors, DoorUnit.blanked_obstructions _ _ _ d hd]
  · obtain ⟨-, hdoors, -⟩ := softBlocks_values s
    rw [hdoors, DoorUnit.blanked_obstructions _ _ _ d hd]
  · rw [setBlocks_doors, DoorUnit.blanked_obstructions _ _ _ d hd]
  · intro t h
    cases h
    exact reset_obstructions d hd

end Sys2Proof.Machine
end

section
/-! PROOFS. O37: the expiry of the agree timer. -/

namespace Sys2Proof.Machine

/-- The door's record as its agree timer leaves it: the latch on its other side, proof and the MOVING_OPEN latch taken
afresh (R84). -/
def Door.swung (x : Door) (rampOut : Bool) (m : Motion) : Door :=
  let y := ({ x with agreeTimer := none, disagree := !x.disagree } : Door).reproven rampOut
  if y.proven = x.proven then y else y.latched m

theorem Door.swung_frame (x : Door) (rampOut : Bool) (m : Motion) :
    (x.swung rampOut m).agreeTimer = none ∧ (x.swung rampOut m).disagree = !x.disagree ∧
      (x.swung rampOut m).state = x.state ∧ (x.swung rampOut m).obstructions = x.obstructions := by
  unfold Door.swung
  dsimp only
  split <;> simp

theorem Door.swung_proven (x : Door) (rampOut : Bool) (m : Motion) :
    (x.swung rampOut m).proven = true ↔ x.state = .closedLocked ∧ rampOut = false ∧ x.disagree = true := by
  unfold Door.swung
  dsimp only
  split <;> simp [Door.proof, and_assoc]

theorem Door.latched_count (x : Door) (m : Motion) :
    (x.latched m).cycles = x.cycles ∧ (x.latched m).opened = x.opened := by
  unfold Door.latched
  split_ifs <;> exact ⟨rfl, rfl⟩

/-- Proof that an opened door gains counts a cycle and takes the mark back (R86). -/
theorem Door.reproven_counts (x : Door) (rampOut : Bool) (hproof : x.proof rampOut = true) (hold : x.proven = false)
    (hopened : x.opened = true) :
    (x.reproven rampOut).cycles = saturate 4294967295 x.cycles ∧ (x.reproven rampOut).opened = false := by
  simp [Door.reproven, hproof, hold, hopened]

theorem Door.swung_counts (x : Door) (rampOut : Bool) (m : Motion) (hproven : (x.swung rampOut m).proven = true)
    (hold : x.proven = false) (hopened : x.opened = true) :
    (x.swung rampOut m).cycles = saturate 4294967295 x.cycles ∧ (x.swung rampOut m).opened = false := by
  let z : Door := { x with agreeTimer := none, disagree := !x.disagree }
  have hproof : z.proof rampOut = true := by
    obtain ⟨hstate, hramp, hdisagree⟩ := (Door.swung_proven x rampOut m).1 hproven
    simp [z, Door.proof, hstate, hramp, hdisagree]
  obtain ⟨hcycles, hmark⟩ := Door.reproven_counts z rampOut hproof hold hopened
  unfold Door.swung
  dsimp only
  split
  · exact ⟨hcycles, hmark⟩
  · obtain ⟨hc, ho⟩ := Door.latched_count (z.reproven rampOut) m
    exact ⟨hc.trans hcycles, ho.trans hmark⟩

theorem agreeExpires_due (d : Nat) (s : State) (due : Nat) (h : (s.doors.doors.get d).agreeTimer = some due) :
    agreeExpires d s = doorWritten d (s.doors.doors.get d) ((s.doors.doors.get d).swung (s.rampOut d) s.doors.motion)
      (putDoor d ((s.doors.doors.get d).swung (s.rampOut d) s.doors.motion) (s.reach due)) := by
  rw [agreeExpires, h]
  rfl

/-- Settles O37: of the four records the expiry replaces the door's own. -/
theorem agreeTimerMovesTheLatch : Obligations.AgreeTimerMovesTheLatch := by
  unfold Obligations.AgreeTimerMovesTheLatch
  intro d s due h
  let x := s.doors.doors.get d
  let y := x.swung (s.rampOut d) s.doors.motion
  have hexpired := agreeExpires_due d s due h
  have hdoors : (agreeExpires d s).doors.doors = (putDoor d y (s.reach due)).doors.doors := by simp [hexpired, x, y]
  obtain ⟨w, u, hget⟩ := putDoor_get_same d y (s.reach due) d.isLt
  obtain ⟨htimer, hdisagree, hstate, hobstructions⟩ := Door.swung_frame x (s.rampOut d) s.doors.motion
  refine ⟨agreeExpires d s, rfl, by simp [hexpired, State.reach], ?_⟩
  rw [hdoors, hget]
  refine ⟨htimer, hdisagree, hstate, Door.swung_proven x _ _, fun hproven hold hopened hlimit => ?_, hobstructions,
    fun e he => ?_, State.changesOnly_of _ _ _ (by simp [warningParts])⟩
  · obtain ⟨hcycles, hmark⟩ := Door.swung_counts x _ _ hproven hold hopened
    exact ⟨hcycles.trans (Nat.min_eq_left hlimit), hmark⟩
  · exact putDoor_get_other d e y _ he

end Sys2Proof.Machine
end

section
/-! PROOFS. O39: a taking of the interlock, what a sample of a door's channel or of the override leaves of it, and the
expiry of the release timer. -/

namespace Sys2Proof.Machine

/-! ### What a taking reads and writes -/

theorem reasons_iff (s : State) :
    (s.reasons.door = true ↔ ∃ d, (d < 4 ∧ (s.setup.doors.get d).enabled = true) ∧
      (((s.doors.doors.get d).state ≠ .closedLocked ∧ (s.doors.doors.get d).state ≠ .released) ∨
        (s.doors.doors.get d).disagree = true)) ∧
    (s.reasons.ramp = true ↔ ∃ d, (d < 4 ∧ (s.setup.doors.get d).enabled = true) ∧
      (s.setup.doors.get d).ramp ≠ 255 ∧ ¬(s.sense.channels.get (s.setup.doors.get d).ramp).showsOne) ∧
    (s.reasons.release = true ↔ ∃ d, (d < 4 ∧ (s.setup.doors.get d).enabled = true) ∧
      (s.doors.doors.get d).state = .released) := by
  simp [State.reasons, State.doorReason, List.any_eq_true, mem_enabledDoors, rampOut_iff]

theorem reasons_congr (s t : State) (hsetup : t.setup = s.setup) (hsense : t.sense = s.sense)
    (hdoors : t.doors.doors = s.doors.doors) : t.reasons = s.reasons := by
  have hramp : t.rampOut = s.rampOut := by
    funext d
    rw [Bool.eq_iff_iff, rampOut_iff, rampOut_iff, hsetup, hsense]
  have hdoor : t.doorReason = s.doorReason := by
    funext d
    simp only [State.doorReason, hdoors]
  simp only [State.reasons, hsetup, hdoors, hramp, hdoor]

/-! ### An interlock that stands as a taking leaves it (R92 to R94) -/

/-- The interlock is where a taking of it in this state can have left it. -/
def State.interlockStands (s : State) : Prop :=
  (s.demandConditions = true →
    s.doors.interlock = (if s.overrideActive = true then .overridden else .demand) ∧ s.doors.releaseTimer = none) ∧
  (s.demandConditions = false → s.doors.interlock = .released ∨ s.doors.interlock = .releasing) ∧
  s.doors.override = s.overrideActive ∧ s.doors.reasons = s.reasons

/-- With no release delay nothing is on its way to RELEASED. -/
def State.releasesAtOnce (s : State) : Prop := s.doors.releaseDelay = 0 → s.doors.interlock ≠ .releasing

theorem interlockStands_congr (s t : State) (hsetup : t.setup = s.setup) (hsense : t.sense = s.sense)
    (hdoors : t.doors = s.doors) (h : s.interlockStands) : t.interlockStands := by
  have hconditions := demandConditions_congr s t hsetup fun _ _ => by rw [hdoors]
  have hactive := overrideActive_congr s t hsetup (by rw [hsense])
  have hreasons := reasons_congr s t hsetup hsense (by rw [hdoors])
  rwa [State.interlockStands, hconditions, hactive, hreasons, hdoors]

theorem takeInterlock_stands (s : State) : (takeInterlock s).interlockStands := by
  obtain ⟨hinterlock, htimer, hoverride, hreasons, -⟩ := takeInterlock_unit_fields s
  obtain ⟨hconditions, hactive⟩ := takeInterlock_conditions s
  rw [State.interlockStands, hinterlock, htimer, hoverride, hreasons, hconditions, hactive,
    reasons_congr s (takeInterlock s) (by simp) (by simp) (by simp)]
  exact ⟨interlockTaken_demands s, fun h => (interlockTaken_releases s h).symm, rfl, rfl⟩

theorem takeInterlock_releasesAtOnce (s : State) (h : s.releasesAtOnce) : (takeInterlock s).releasesAtOnce := by
  obtain ⟨hinterlock, -, -, -, hdelay, -⟩ := takeInterlock_unit_fields s
  intro hz
  rw [hdelay] at hz
  rw [hinterlock]
  cases hconditions : s.demandConditions with
  | true =>
    rw [(interlockTaken_demands s hconditions).1]
    split <;> simp
  | false =>
    cases hi : s.doors.interlock with
    | demand => simp [(interlockTaken_ends s hconditions (.inl hi)).1 hz]
    | overridden => simp [(interlockTaken_ends s hconditions (.inr hi)).1 hz]
    | releasing => exact absurd hi (h hz)
    | released => simp [(interlockTaken_stands s hconditions (.inr hi)).1, hi]

/-- The write of a door's record ends in a taking of the interlock. -/
theorem doorWritten_doors (d : Nat) (old new : Door) (s : State) :
    ∃ u, doorWritten d old new s = when (new.proven ≠ old.proven) (compose false) (takeInterlock u) ∧
      u.doors = s.doors :=
  ⟨_, rfl, by simp⟩

theorem doorWritten_stands (d : Nat) (old new : Door) (s : State) : (doorWritten d old new s).interlockStands := by
  obtain ⟨u, hu, -⟩ := doorWritten_doors d old new s
  rw [hu]
  exact interlockStands_congr (takeInterlock u) _ (by simp) (by simp) (by simp) (takeInterlock_stands u)

theorem doorWritten_releasesAtOnce (d : Nat) (old new : Door) (s : State) (h : s.releasesAtOnce) :
    (doorWritten d old new s).releasesAtOnce := by
  obtain ⟨u, hu, hdoors⟩ := doorWritten_doors d old new s
  have htaken := takeInterlock_releasesAtOnce u (by rwa [State.releasesAtOnce, hdoors])
  have hsame : (doorWritten d old new s).doors = (takeInterlock u).doors := by simp [hu]
  rwa [State.releasesAtOnce, hsame]

theorem takeDoor_releasesAtOnce (d : Nat) (s : State) (h : s.releasesAtOnce) : (takeDoor d s).releasesAtOnce :=
  when_induct State.releasesAtOnce _ _ s (fun _ h => doorWritten_releasesAtOnce d _ _ (putDoor d (s.doorTaken d) s) h) h

/-- A walk of takings that comes to an enabled door leaves the interlock taken. -/
theorem takeDoors_interlockStands (l : List Nat) (d : Nat) (s : State) (hl : l.Nodup) (hdl : d ∈ l)
    (hr : s.run.state = .run) (he : (s.setup.doors.get d).enabled = true) :
    (forEach l takeDoor s).interlockStands := by
  refine forEach_reaches (fun t => t.run = s.run ∧ t.setup = s.setup) State.interlockStands l takeDoor s d hdl hl
    ⟨rfl, rfl⟩ (fun i _ _ t ht => by simpa using ht) (fun t ht => ?_) (fun i _ _ t ht => ?_)
  · obtain ⟨hrun, hset⟩ := ht
    have htaken : (t.inRun && (t.setup.doors.get d).enabled) = true := by simp [State.inRun, hrun, hr, hset, he]
    rw [takeDoor, htaken, when_true]
    exact doorWritten_stands ..
  · exact when_induct State.interlockStands _ _ t (fun _ _ => doorWritten_stands ..) ht

/-! ### A sample (R81, R94) -/

/-- Channel `c` is read by the override or by an enabled door. -/
def Setup.readsInterlock (u : Setup) (c : Nat) : Prop :=
  u.general.override = c ∨ ∃ d, d < 4 ∧ (u.doors.get d).enabled = true ∧ c ∈ (u.doors.get d).channels

theorem takeChannel_interlock (c : Nat) (s : State) (hr : s.run.state = .run) (hc : s.setup.readsInterlock c) :
    (takeChannel c s).interlockStands ∧ (s.releasesAtOnce → (takeChannel c s).releasesAtOnce) := by
  have hdoors (h : s.releasesAtOnce) : (forEach (s.doorsOfChannel c) takeDoor s).releasesAtOnce :=
    forEach_induct State.releasesAtOnce _ takeDoor s (fun d _ t ht => takeDoor_releasesAtOnce d t ht) h
  refine ⟨?_, fun h => when_induct State.releasesAtOnce _ _ _ (fun _ => takeInterlock_releasesAtOnce _) (hdoors h)⟩
  by_cases hover : s.setup.general.override = c
  · have htaken : (s.inRun && s.setup.general.override = c) = true := by simp [State.inRun, hr, hover]
    rw [takeChannel, htaken, when_true]
    exact takeInterlock_stands _
  · obtain ⟨d, hd, he, hdc⟩ := hc.resolve_left hover
    exact when_induct State.interlockStands _ _ _ (fun _ _ => takeInterlock_stands _)
      (takeDoors_interlockStands (s.doorsOfChannel c) d s ((enabledDoors_nodup _).filter _)
        (by simp [State.doorsOfChannel, mem_enabledDoors, hd, he, hdc]) hr he)

/-- What follows the write of an entry whose channel feeds no signal that the doors read leaves the doors. -/
theorem sampleTaken_doors_of_readsNoDoor (c : Nat) (r : SenseChannel × Bool) (s : State)
    (h : ∀ n, s.signalOfChannel c = some n → s.setup.readsNoDoor n) :
    (sampleTaken c r s).doors = (writeChannel c r.1 s).doors := by
  let w := writeChannel c r.1 s
  have hfeed : w.signalOfChannel c = s.signalOfChannel c := by simp [w, State.signalOfChannel]
  rw [sampleTaken_doors]
  cases hn : w.signalOfChannel c with
  | none => simp [deliverChannel, w, hn]
  | some n =>
    obtain hsame | ⟨y, hy⟩ := deliverChannel_eq c n r.1 w hn
    · rw [hsame]
    · rw [hy]
      exact writeSignal_readsNoDoor_doors n y w (by simpa [w] using h n (hfeed ▸ hn))

theorem sampleTaken_interlock (c : Nat) (r : SenseChannel × Bool) (s : State) (hr : s.run.state = .run)
    (hc : s.setup.readsInterlock c) (hn : ∀ n, s.signalOfChannel c = some n → s.setup.readsNoDoor n)
    (hitems : r.1.doorItems ≠ (s.sense.channels.get c).doorItems) :
    (sampleTaken c r s).interlockStands ∧ (s.releasesAtOnce → (sampleTaken c r s).releasesAtOnce) := by
  have hdoors := sampleTaken_doors_of_readsNoDoor c r s hn
  obtain ⟨-, hsense⟩ := sampleTaken_signals c r s
  obtain ⟨hstands, honce⟩ := takeChannel_interlock c (putChannel c r.1 s) (by simpa using hr) hc
  have hwritten : writeChannel c r.1 s = takeChannel c (putChannel c r.1 s) := by
    rw [writeChannel, decide_eq_true hitems, when_true]
  rw [← hwritten] at hstands honce
  refine ⟨interlockStands_congr _ _ (by simp) hsense hdoors hstands, fun h => ?_⟩
  rw [State.releasesAtOnce, hdoors]
  exact honce h

/-! ### The release timer (R93, R95) -/

theorem releaseExpires_due (s : State) (due : Nat) (h : s.doors.releaseTimer = some due)
    (hi : s.doors.interlock = .releasing) :
    releaseExpires s = takeSource .interlockOverridden 0
      (putMotion { s.doors with
        interlock := .released, releaseTimer := none, interlockTime := (s.reach due).time } (s.reach due)) := by
  have hi : (s.reach due).doors.interlock = .releasing := hi
  rw [releaseExpires, h, onTimer_some, decide_eq_true hi, when_true, if_pos hi]
  rfl

/-- Settles O39: a taking writes what it reads, the last taking that a sample brings is of the channel's doors or of
the override, and the release timer moves the interlock alone. -/
theorem interlockFollowsTheConditions : Obligations.InterlockFollowsTheConditions := by
  unfold Obligations.InterlockFollowsTheConditions
  refine ⟨fun s => ?taking, fun c reading s due hr hcheck hdue hc hfeed => ?sampled, fun s due h hi => ?released⟩
  case taking =>
    obtain ⟨hinterlock, htimer, hoverride, hreasons, -, hmotion⟩ := takeInterlock_unit_fields s
    obtain ⟨hdoor, hramp, hrelease⟩ := reasons_iff s
    dsimp only
    rw [hinterlock, htimer, hoverride, hreasons, hmotion, takeInterlock_doors_doors]
    refine ⟨fun h ha => ?_, fun h ha => ?_, interlockTaken_ends s, interlockTaken_stands s,
      ⟨demandConditions_iff s, overrideActive_iff s, rfl, hdoor, hramp, hrelease⟩, rfl, rfl⟩
    · simpa [ha] using interlockTaken_demands s h
    · simpa [ha] using interlockTaken_demands s h
  case sampled =>
    let q := advanceSample c due (s.reach due)
    let r := q.sampleOf c reading.toNat
    refine ⟨sampleTaken c r q, congrArg _ (sample_eq c reading.toNat s due hr hcheck hdue), fun hm => ?_⟩
    obtain ⟨u, hu⟩ := writeChannel_entry c r.1 q c.isLt
    have hsense : (sampleTaken c r q).sense.channels.get c = { r.1 with upd := u } := by
      rw [(sampleTaken_signals c r q).2, hu]
    have hitems : r.1.doorItems ≠ (q.sense.channels.get c).doorItems := by
      have hold : (q.sense.channels.get c).doorItems = (s.sense.channels.get c).doorItems := by
        simp [q, advanceSample, Table.get_set_same, SenseChannel.doorItems]
      rw [hold]
      rw [hsense] at hm
      exact SenseChannel.doorItems_of_movesDoors _ _ hm
    have hfeed : ∀ n, q.signalOfChannel c = some n → q.setup.readsNoDoor n := by
      simpa [q, State.signalOfChannel] using hfeed
    obtain ⟨⟨hdemands, hreleases, hoverride, hreasons⟩, honce⟩ :=
      sampleTaken_interlock c r q (by simpa [q] using hr) (by simpa [q, Setup.readsInterlock] using hc) hfeed hitems
    have hdoors := sampleTaken_doors_of_readsNoDoor c r q hfeed
    have hmotion : (sampleTaken c r q).doors.motion = s.doors.motion := by
      have hkept := writeChannel_motionItems c r.1 q
      simp only [DoorUnit.motionItems, Prod.mk.injEq] at hkept
      rw [hdoors, hkept.1]
      simp [q]
    refine ⟨hdemands, fun h => ⟨hreleases h, fun hz hi => ?_⟩, hoverride, hreasons, hmotion⟩
    exact (hreleases h).resolve_right (honce (fun _ => by simpa [q] using hi) hz)
  case released =>
    refine ⟨releaseExpires s, rfl, ?_⟩
    have hexpired := releaseExpires_due s due h hi
    have hframe : s.changesOnly (releaseExpires s) (.doors :: warningParts) :=
      State.changesOnly_of _ _ _ (by simp [warningParts])
    have hdoors : (releaseExpires s).doors = (putMotion { s.doors with
        interlock := .released, releaseTimer := none, interlockTime := (s.reach due).time } (s.reach due)).doors := by
      simp [hexpired]
    have hnow : (releaseExpires s).now = max s.now due := by simp [hexpired, State.reach]
    have htime : (releaseExpires s).time = (s.reach due).time := by simp only [State.time, State.ms, hnow]; rfl
    have hreleased : (releaseExpires s).doors.interlock = .released := by rw [hdoors]; rfl
    refine ⟨hnow, hreleased, ?_, by simp [State.stopBrakeDemand, hreleased], ?_, ?_, ?_, ?_, hframe⟩
    · rw [hdoors]; rfl
    · rw [hdoors, htime]; rfl
    · rw [hdoors]; rfl
    · rw [hdoors]; rfl
    · rw [hdoors]; rfl

end Sys2Proof.Machine
end

section
/-! PROOFS. O42: the value of a signal test and the truth of an internal source. -/

namespace Sys2Proof.Machine

/-! ### Signal tests (R101, R102) -/

theorem and_ne_zero_iff (a b : Word) :
    a &&& b ≠ 0#16 ↔ ∃ k, k < 16 ∧ a.getLsbD k = true ∧ b.getLsbD k = true := by
  constructor
  · intro h
    by_contra hnone
    refine h (BitVec.eq_of_getLsbD_eq fun k hk => ?_)
    rw [BitVec.getLsbD_and, BitVec.getLsbD_zero, Bool.eq_false_iff, Ne, Bool.and_eq_true]
    exact fun hbits => hnone ⟨k, hk, hbits⟩
  · rintro ⟨k, -, ha, hb⟩ hzero
    have hbit : (a &&& b).getLsbD k = true := by rw [BitVec.getLsbD_and, ha, hb]; rfl
    rw [hzero, BitVec.getLsbD_zero] at hbit
    cases hbit

theorem conditionOf_signalTest (s : State) (w : Nat) (h : (s.setup.warnings.get w).kind = .signalTest) :
    s.conditionOf w = signalTest (s.setup.warnings.get w) (s.warnings.get w).condition
      (s.signals.get (s.setup.warnings.get w).index) := by
  simp [State.conditionOf, h]

theorem signalTest_notValid (u : WarningSetup) (present : Bool) (g : Signal) (h : u.operator = .notValid) :
    signalTest u present g = true ↔ ¬(g.status = .valid ∨ g.status = .forced) := by
  rw [signalTest, if_pos h, Bool.not_eq_true', ← Bool.not_eq_true, usable_iff]

/-- An operator that compares a value. -/
def Operator.compares (o : Operator) : Prop := o ∈ [.above, .below, .equal, .notEqual, .bitsAny]

theorem Operator.compares_ne (o : Operator) (h : o.compares) : o ≠ .notValid := by
  rintro rfl
  simp [Operator.compares] at h

theorem signalTest_usable (u : WarningSetup) (present : Bool) (g : Signal) (h : u.operator ≠ .notValid)
    (hg : g.status = .valid ∨ g.status = .forced) : signalTest u present g = valueTest u present g.value := by
  obtain hg | hg := hg <;> simp [signalTest, h, hg]

theorem signalTest_stale (u : WarningSetup) (present : Bool) (g : Signal) (h : u.operator ≠ .notValid)
    (hg : g.status = .stale) : signalTest u present g = present := by
  simp [signalTest, h, hg]

theorem signalTest_lost (u : WarningSetup) (present : Bool) (g : Signal) (h : u.operator ≠ .notValid)
    (hg : g.status = .fault ∨ g.status = .noData ∨ g.status = .notConfigured) : signalTest u present g = false := by
  obtain hg | hg | hg := hg <;> simp [signalTest, h, hg]

theorem valueTest_above (u : WarningSetup) (v : Word) (h : u.operator = .above) :
    (valueTest u false v = true ↔ v.toInt > u.threshold) ∧
      (¬valueTest u true v = true ↔ v.toInt ≤ u.threshold - u.hysteresis) := by
  simp [valueTest, h]

theorem valueTest_below (u : WarningSetup) (v : Word) (h : u.operator = .below) :
    (valueTest u false v = true ↔ v.toInt < u.threshold) ∧
      (¬valueTest u true v = true ↔ v.toInt ≥ u.threshold + u.hysteresis) := by
  simp [valueTest, h]

theorem valueTest_equal (u : WarningSetup) (present : Bool) (v : Word) (h : u.operator = .equal) :
    valueTest u present v = true ↔ v.toInt = u.threshold := by
  simp [valueTest, h]

theorem valueTest_notEqual (u : WarningSetup) (present : Bool) (v : Word) (h : u.operator = .notEqual) :
    valueTest u present v = true ↔ v.toInt ≠ u.threshold := by
  simp [valueTest, h]

theorem valueTest_bitsAny (u : WarningSetup) (present : Bool) (v : Word) (h : u.operator = .bitsAny) :
    valueTest u present v = true ↔
      ∃ k, k < 16 ∧ v.getLsbD k = true ∧ (BitVec.ofInt 16 u.threshold).getLsbD k = true := by
  rw [← and_ne_zero_iff]
  simp [valueTest, h]

/-! ### Internal sources (R91, R103) -/

/-- A condition value reads the truth at the index, or with 255 anywhere in the range (R103). -/
def readsInRange (index low high : Nat) (truth : Nat → Prop) (holds : Prop) : Prop :=
  (low ≤ index → index < high → (holds ↔ truth index)) ∧
    (index = 255 → (holds ↔ ∃ i, low ≤ i ∧ i < high ∧ truth i))

theorem mem_drop_range (low high i : Nat) : i ∈ (List.range high).drop low ↔ low ≤ i ∧ i < high := by
  rw [List.mem_drop_iff_getElem]
  constructor
  · rintro ⟨j, hj, rfl⟩
    simp only [List.length_range, List.getElem_range] at hj ⊢
    omega
  · rintro ⟨hl, hh⟩
    exact ⟨i - low, by simp only [List.length_range]; omega, by simp only [List.getElem_range]; omega⟩

theorem sourceTrue_readsInRange (s : State) (src : Source) (index low high : Nat) (truth : Nat → Prop)
    (hrange : src.range = some (low, high)) (hhigh : high ≤ 255)
    (htruth : ∀ i, s.sourceAt src i = true ↔ truth i) :
    readsInRange index low high truth (s.sourceTrue src index = true) := by
  constructor
  · intro _ hi
    have hother : index ≠ 255 := by omega
    simp [State.sourceTrue, hrange, hother, htruth]
  · intro hany
    simp [State.sourceTrue, hrange, hany, List.any_eq_true, mem_drop_range, htruth, and_assoc]

theorem conditionOf_internal (s : State) (w : Nat) (h : (s.setup.warnings.get w).kind = .internal) :
    s.conditionOf w = s.sourceTrue (s.setup.warnings.get w).source (s.setup.warnings.get w).index := by
  simp [State.conditionOf, h]

/-- A source of the doors is true of an enabled door alone (R91). -/
theorem sourceTrue_ofDoor (s : State) (src : Source) (index : Nat) (truth : Nat → Prop)
    (hrange : src.range = some (0, 4))
    (htruth : ∀ d, s.sourceAt src d = true ↔ (s.setup.doors.get d).enabled = true ∧ truth d) :
    readsInRange index 0 4 (fun d => (s.setup.doors.get d).enabled = true ∧ truth d)
      (s.sourceTrue src index = true) :=
  sourceTrue_readsInRange s src index 0 4 _ hrange (by decide) htruth

/-- Settles O42: the signal tests by operator and status, the internal warnings source by source. -/
theorem conditionsFollowSignalsAndSources : Obligations.ConditionsFollowSignalsAndSources := by
  unfold Obligations.ConditionsFollowSignalsAndSources
  intro s w
  refine ⟨fun hkind => ?signal, fun hkind => ?internal⟩
  case signal =>
    rw [conditionOf_signalTest s w hkind]
    generalize s.setup.warnings.get w = u
    generalize s.signals.get u.index = g
    generalize (s.warnings.get w).condition = present
    refine ⟨fun husable => ⟨fun ho => ?_, fun ho => ?_, fun ho => ?_, fun ho => ?_, fun ho => ?_⟩,
      fun ho => ⟨fun hg => ?_, fun hg => ?_⟩, signalTest_notValid u present g⟩
    · rw [signalTest_usable u present g (by simp [ho]) husable]
      obtain ⟨hrise, hfall⟩ := valueTest_above u g.value ho
      exact ⟨fun hp => hp ▸ hrise, fun hp => hp ▸ hfall⟩
    · rw [signalTest_usable u present g (by simp [ho]) husable]
      obtain ⟨hfall, hrise⟩ := valueTest_below u g.value ho
      exact ⟨fun hp => hp ▸ hfall, fun hp => hp ▸ hrise⟩
    · rw [signalTest_usable u present g (by simp [ho]) husable]
      exact valueTest_equal u present g.value ho
    · rw [signalTest_usable u present g (by simp [ho]) husable]
      exact valueTest_notEqual u present g.value ho
    · rw [signalTest_usable u present g (by simp [ho]) husable]
      exact valueTest_bitsAny u present g.value ho
    · rw [signalTest_stale u present g (Operator.compares_ne _ ho) hg]
    · simp [signalTest_lost u present g (Operator.compares_ne _ ho) hg]
  case internal =>
    dsimp only
    rw [conditionOf_internal s w hkind]
    generalize (s.setup.warnings.get w).index = index
    refine ⟨fun hs => ?_, fun hs => ?_, fun hs => ?_, fun hs => ?_, fun hs => ?_, fun hs => ?_, fun hs => ?_,
      fun hs => ?_, fun hs => ?_, fun hs => ?_, fun hs => ?_, fun hs => ?_, fun hs => ?_, fun hs => ?_, fun hs => ?_,
      fun hs => ?_, fun hs => ?_⟩ <;> rw [hs]
    · exact sourceTrue_ofDoor s .doorNotClosed index (fun d => (s.doors.doors.get d).proven = false) rfl
        fun d => by simp [State.sourceAt, State.doorSource]
    · exact sourceTrue_ofDoor s .doorMovingOpen index (fun d => (s.doors.doors.get d).movingOpen = true) rfl
        fun d => by simp [State.sourceAt, State.doorSource]
    · exact sourceTrue_ofDoor s .doorDisagree index (fun d => (s.doors.doors.get d).disagree = true) rfl
        fun d => by simp [State.sourceAt, State.doorSource]
    · exact sourceTrue_ofDoor s .doorObstructed index (fun d => (s.doors.doors.get d).state = .reversing) rfl
        fun d => by simp [State.sourceAt, State.doorSource]
    · exact sourceTrue_ofDoor s .doorReleased index (fun d => (s.doors.doors.get d).state = .released) rfl
        fun d => by simp [State.sourceAt, State.doorSource]
    · exact sourceTrue_ofDoor s .doorViewLost index (fun d => (s.doors.doors.get d).viewLost = true) rfl
        fun d => by simp [State.sourceAt, State.doorSource]
    · exact sourceTrue_ofDoor s .rampOut index (fun d => (s.setup.doors.get d).ramp ≠ 255 ∧
        ¬(s.sense.channels.get (s.setup.doors.get d).ramp).showsOne) rfl
        fun d => by simp [State.sourceAt, State.doorSource, rampOut_iff]
    · simp [State.sourceTrue, Source.range, State.sourceAt]
    · simp [State.sourceTrue, Source.range, State.sourceAt]
    · exact sourceTrue_readsInRange s .senseFault index 0 48 (fun c => (s.sense.channels.get c).faultClass ≠ .none)
        rfl (by decide) fun c => by simp [State.sourceAt]
    · exact sourceTrue_readsInRange s .stationSilent index 1 16 (fun a => (s.line.stations.get a).state = .silent)
        rfl (by decide) fun a => by simp [State.sourceAt]
    · exact sourceTrue_readsInRange s .stationFault index 1 16 (fun a => (s.line.stations.get a).state = .online ∧
        (s.line.stations.get a).flags.stationFault = true) rfl (by decide) fun a => by simp [State.sourceAt]
    · refine sourceTrue_readsInRange s .channelFailed index 0 2
        (fun c => (s.line.health (if c = 0 then .a else .b)).failed = true) rfl (by decide) fun c => ?_
      by_cases hc : c = 0 <;> simp [State.sourceAt, hc, BodyLine.health]
    · simp [State.sourceTrue, Source.range, State.sourceAt]
    · exact sourceTrue_readsInRange s .lampFault index 0 32
        (fun l => (s.comp.lamps.get l).proof = .openLoad ∨ (s.comp.lamps.get l).proof = .shorted)
        rfl (by decide) fun l => by simp [State.sourceAt, ProofState.failed]
    · simp [State.sourceTrue, Source.range, State.sourceAt]
    · simp [State.sourceTrue, Source.range, State.sourceAt]

end Sys2Proof.Machine
end

section
/-! PROOFS. O59: the wake from STANDBY, and the samples of a release channel that bring it. -/

namespace Sys2Proof.Machine

/-- The part with its blocks at their wake values: steps 1 to 3 of the wake (R196). -/
def wakeStarted (s : State) : State :=
  wakeBlocks (s.setRun { s.run with
    runOnTimer := none, configIdleTimer := none, standbyPending := false, applySlot := none })

theorem wake_eq (s : State) : wake s = startConfigIdle (changeRunState .config (countCycle (wakeStarted s))) := rfl

theorem wakeStarted_values (s : State) :
    (wakeStarted s).now = 0 ∧ (wakeStarted s).shop.session = .detached ∧ (wakeStarted s).doors.interlock = .demand ∧
      (wakeStarted s).line.log = s.line.log ∧ (wakeStarted s).gauges = s.gauges.map Gauge.atWake ∧
      (wakeStarted s).setup = s.setup ∧ (wakeStarted s).faults = s.faults := by
  simp [wakeStarted, wakeBlocks, blankBlocks, quietShop, DoorUnit.blanked, BodyLine.blanked]

theorem wakeStarted_run (s : State) :
    (wakeStarted s).run = { s.run with
      runOnTimer := none, configIdleTimer := none, standbyPending := false, applySlot := none } := by
  simp [wakeStarted]

/-- The ring is emptied and the registers take their wake values (R184). -/
theorem wakeStarted_port (s : State) :
    (wakeStarted s).port.noticeRead = 0#7 ∧ (wakeStarted s).port.noticeWrite = 0#7 ∧
      (wakeStarted s).port.noticeOverflow = false ∧ (wakeStarted s).port.writeRefused = false ∧
      (wakeStarted s).port.intEnable = false := by
  simp [wakeStarted, wakeBlocks, blankBlocks, quietShop, Port.restarted, writeStatus]

/-- The first notice on an emptied ring. -/
theorem changeRunState_first (new : RunState) (s : State) (hread : s.port.noticeRead = 0#7)
    (hwrite : s.port.noticeWrite = 0#7) (hover : s.port.noticeOverflow = false) :
    (changeRunState new s).port.noticeWrite = 1#7 ∧ (changeRunState new s).port.noticeOverflow = false ∧
      ((changeRunState new s).port.ring.get 0).kind = .stateChange := by
  simp [changeRunState, writeStatus, post, Port.posted, hread, hwrite, hover]

/-- A wake with ignition OFF counts no cycle (R158, R196). -/
theorem countCycle_idle (s : State) (h : s.run.ignition = false) : countCycle s = s := by
  simp [countCycle, h]

theorem startConfigIdle_starts (s : State) (hoff : s.run.ignition = false) (happly : s.run.applySlot = none) :
    (startConfigIdle s).run = { s.run with configIdleTimer := some (s.inMs Config.configIdle) } := by
  simp [startConfigIdle, hoff, happly]

/-- What every wake leaves (R196). -/
theorem wake_enters (s : State) :
    (wake s).run.state = .config ∧ (wake s).now = 0 ∧ (wake s).port.noticeRead = 0#7 ∧
      (wake s).port.writeRefused = false ∧ (wake s).port.intEnable = false ∧ (wake s).shop.session = .detached ∧
      (wake s).doors.interlock = .demand ∧ (wake s).gauges = s.gauges.map Gauge.atWake ∧ (wake s).setup = s.setup ∧
      (wake s).line.log = s.line.log := by
  obtain ⟨hnow, hsession, hinterlock, hlog, hgauges, hsetup, -⟩ := wakeStarted_values s
  obtain ⟨hread, -, -, hrefused, henable⟩ := wakeStarted_port s
  rw [wake_eq]
  simp [hnow, hsession, hinterlock, hlog, hgauges, hsetup, hread, hrefused, henable]

/-- A wake by a door or by the workshop line brings no ignition cycle, and one notice (R196). -/
theorem wake_quiet (s : State) (hoff : s.run.ignition = false) :
    (wake s).run.ignitionCycle = s.run.ignitionCycle ∧ (wake s).faults = s.faults ∧
      (wake s).port.noticeWrite = 1#7 ∧ (wake s).port.noticeOverflow = false ∧
      ((wake s).port.ring.get 0).kind = .stateChange ∧ (wake s).run.configIdleTimer = some 60000000 := by
  obtain ⟨hnow, -, -, -, -, -, hfaults⟩ := wakeStarted_values s
  obtain ⟨hread, hwrite, hover, -⟩ := wakeStarted_port s
  have hrun := wakeStarted_run s
  have hcount : countCycle (wakeStarted s) = wakeStarted s := countCycle_idle _ (by simp [hrun, hoff])
  obtain ⟨hposted, hkept, hkind⟩ := changeRunState_first .config (wakeStarted s) hread hwrite hover
  have hidle := startConfigIdle_starts (changeRunState .config (wakeStarted s)) (by simp [hrun, hoff])
    (by simp [hrun])
  rw [wake_eq, hcount, hidle]
  simp [hrun, hfaults, hposted, hkept, hkind, State.inMs, hnow, Config.configIdle]

theorem atWake_parked (s : State) (g : Nat) (hg : g < 6) :
    ((s.gauges.map Gauge.atWake).get g).state = .parked ∧ ((s.gauges.map Gauge.atWake).get g).known = false := by
  rw [Table.get_map _ _ _ hg]
  exact ⟨rfl, rfl⟩

/-- A sample of an enabled door's release channel in STANDBY moves the tally, and the tenth in a row wakes the part. -/
theorem releaseSampled_tallies (d reading n : Nat) (s : State) (hr : s.run.state = .standby)
    (he : (s.setup.doors.get d).enabled = true) (hn : 0 < n) :
    releaseSampled d reading n s =
      if 10 ≤ s.releaseTally d reading n then wake s
      else s.setRun { s.run with releaseTallies := s.run.releaseTallies.set d (s.releaseTally d reading n) } := by
  simp [releaseSampled, hr, he, hn, tallyRelease]

/-- Settles O59: all three wakes are the one of R196, and the tally decides which sample brings it. -/
theorem wakesEnterConfig : Obligations.WakesEnterConfig := by
  unfold Obligations.WakesEnterConfig
  intro d reading n s hr u woken
  have hwoken : woken (wake s) := by
    obtain ⟨hstate, hnow, hread, hrefused, henable, hsession, hinterlock, hgauges, hsetup, hlog⟩ := wake_enters s
    refine ⟨hstate, hnow, hread, hrefused, henable, hsession, hinterlock, fun g hg => ?_, wake_quiet s, hsetup, hlog,
      State.changesOnly_of _ _ _ (by simp [runParts])⟩
    rw [hgauges]
    exact atWake_parked s g hg
  have hline : wakeFromStandby s = wake s := by rw [wakeFromStandby, decide_eq_true hr, when_true]
  refine ⟨⟨wake s, congrArg _ hline, hwoken⟩, fun he hn => ?_⟩
  · have hexec (t : State) (h : releaseSampled d reading.toNat n s = t) :
        exec (.releaseChannelWake d reading n) s = .next t := congrArg _ h
    have hsampled := releaseSampled_tallies d reading.toNat n s hr he hn
    refine ⟨fun hc htenth => ⟨wake s, hexec _ ?_, hwoken⟩, fun hc hfewer => hexec _ ?_, fun hc => hexec _ ?_⟩
    · have htally : s.releaseTally d reading.toNat n = s.run.releaseTallies.get d + n := if_pos hc
      rw [hsampled, htally, if_pos htenth]
    · have htally : s.releaseTally d reading.toNat n = s.run.releaseTallies.get d + n := if_pos hc
      rw [hsampled, htally, if_neg (by omega)]
    · have htally : s.releaseTally d reading.toNat n = 0 := if_neg (Bool.eq_false_iff.1 hc)
      rw [hsampled, htally, if_neg (by decide)]

end Sys2Proof.Machine
end

section
/-! PROOFS. Shared by the two clears of the fault memory: what a clear leaves of each record (R160). -/

namespace Sys2Proof.Machine

/-! ### One record -/

theorem clearRecord_passive (scope : Option Nat) (i : Nat) (s : State)
    (ht : (s.faults.records.get i).taken scope = true) (h : (s.faults.records.get i).status = .passive) :
    clearRecord scope i s = handOn i .cleared (putRecord i {}) s := by
  simp [clearRecord, ht, h]

theorem clearRecord_active (scope : Option Nat) (i : Nat) (s : State)
    (ht : (s.faults.records.get i).taken scope = true) (h : (s.faults.records.get i).status = .active) :
    clearRecord scope i s = handOn i .restarted
      (putRecord i (s.freshRecord (s.faults.records.get i).code (s.faults.records.get i).origin)) s := by
  simp [clearRecord, ht, h]

theorem clearRecord_kept (scope : Option Nat) (i : Nat) (s : State)
    (h : (s.faults.records.get i).taken scope = false ∨ (s.faults.records.get i).status = .empty) :
    clearRecord scope i s = s := by
  obtain h | h := h <;> simp [clearRecord, h]

/-- A record `r` becomes `q` under a clear in state `s`: emptied, restarted, or kept (R160). -/
def State.clears (s : State) (scope : Option Nat) (r q : FaultRecord) : Prop :=
  (r.taken scope = true → r.status = .passive → q.status = .empty) ∧
  (r.taken scope = true → r.status = .active → ∃ u, q = { s.freshRecord r.code r.origin with upd := u }) ∧
  (r.taken scope = false ∨ r.status = .empty → q = r)

theorem clearRecord_get_other (scope : Option Nat) (i j : Nat) (s : State) (h : i ≠ j) :
    (clearRecord scope j s).faults.records.get i = s.faults.records.get i := by
  cases ht : (s.faults.records.get j).taken scope with
  | false => rw [clearRecord_kept scope j s (.inl ht)]
  | true =>
    cases hs : (s.faults.records.get j).status with
    | empty => rw [clearRecord_kept scope j s (.inr hs)]
    | passive =>
      rw [clearRecord_passive scope j s ht hs, handOn_changes_faults]
      exact Table.get_set_other _ _ _ _ h
    | active =>
      rw [clearRecord_active scope j s ht hs, handOn_changes_faults]
      exact Table.get_set_other _ _ _ _ h

theorem clearRecord_clears (scope : Option Nat) (i : Nat) (s : State) (hi : i < 48) :
    s.clears scope (s.faults.records.get i) ((clearRecord scope i s).faults.records.get i) := by
  refine ⟨fun ht hs => ?_, fun ht hs => ?_, fun h => ?_⟩
  · rw [clearRecord_passive scope i s ht hs, handOn_changes_faults]
    exact congrArg FaultRecord.status (Table.get_set_same _ _ _ hi)
  · rw [clearRecord_active scope i s ht hs, handOn_changes_faults]
    exact ⟨_, Table.get_set_same _ _ _ hi⟩
  · rw [clearRecord_kept scope i s h]

/-! ### The whole memory -/

/-- A record written new in two states that agree on the clock, the cycle and the signals. -/
theorem freshRecord_congr (s t : State) (hnow : t.now = s.now) (hrun : t.run = s.run) (hsetup : t.setup = s.setup)
    (hsignals : t.signals = s.signals) : t.freshRecord = s.freshRecord := by
  funext code origin
  simp [State.freshRecord, State.time, State.ms, State.snapshot, State.snapshotEntry, hnow, hrun, hsetup, hsignals]

/-- A clear takes each record once: those before it leave its entry, and those after it too. -/
theorem clearFaults_clears (scope : Option Nat) (i : Nat) (s : State) (hi : i < 48) :
    s.clears scope (s.faults.records.get i) ((clearFaults scope s).faults.records.get i) := by
  have hrecords : (clearFaults scope s).faults.records.get i =
      (forEach (List.range 48) (clearRecord scope) s).faults.records.get i := by simp [clearFaults]
  rw [hrecords]
  refine forEach_reaches
    (fun t => t.faults.records.get i = s.faults.records.get i ∧ t.freshRecord = s.freshRecord)
    (fun t => s.clears scope (s.faults.records.get i) (t.faults.records.get i)) _ (clearRecord scope) s i
    (List.mem_range.2 hi) List.nodup_range ⟨rfl, rfl⟩ (fun j _ hj t ht => ?_) (fun t ht => ?_) (fun j _ hj t ht => ?_)
  · obtain ⟨hentry, hfresh⟩ := ht
    exact ⟨(clearRecord_get_other scope i j t (Ne.symm hj)).trans hentry,
      (freshRecord_congr t _ (by simp) (by simp) (by simp) (by simp)).trans hfresh⟩
  · obtain ⟨hentry, hfresh⟩ := ht
    have hcleared := clearRecord_clears scope i t hi
    rwa [hentry, State.clears, hfresh] at hcleared
  · rwa [clearRecord_get_other scope i j t (Ne.symm hj)]

theorem clearFaults_past (scope : Option Nat) (i : Nat) (s : State) (hi : 48 ≤ i) :
    (clearFaults scope s).faults.records.get i = s.faults.records.get i := by
  rw [Table.get_past _ _ hi, Table.get_past _ _ hi]

theorem clearFaults_full (scope : Option Nat) (s : State) : (clearFaults scope s).faults.full = false := by
  simp [clearFaults]

end Sys2Proof.Machine
end

section
/-! PROOFS. O56: CLEAR_FAULTS and RESET_DOOR_COUNTER from the workshop. -/

namespace Sys2Proof.Machine

/-! ### The two services pass the tests of R165 -/

theorem Service.refusal_clear (session : Session) (scope low high : Byte) (h : session = .service) :
    Service.clearFaults.refusal session [scope, low, high] = none := by
  subst h; rfl

theorem Service.refusal_resetCounter (session : Session) (d : Byte) (h : session = .service) :
    Service.resetDoorCounter.refusal session [d] = none := by
  subst h; rfl

/-- The code of a clear, from its two bytes (R172). -/
theorem code_of_bytes (low high : Byte) : low.toNat + 256 * high.toNat = (high ++ low : Word).toNat := by
  have hword := congrArg BitVec.toNat (wordOfBytes_eq low high)
  rw [BitVec.toNat_ofNat, Nat.mod_eq_of_lt (by omega)] at hword
  exact hword

/-- CLEAR_FAULTS of a scope that it accepts (R172). -/
theorem serveClearFaults_accepted (scope : Option Nat) (k low high : Byte) (s : State)
    (h : (k = 0#8 ∧ scope = none) ∨
      (k = 1#8 ∧ (high ++ low : Word) ≠ 0#16 ∧ scope = some (high ++ low : Word).toNat)) :
    serveClearFaults [k, low, high] s =
      (.accepted, [byteOf (s.clearCounts scope).1, byteOf (s.clearCounts scope).2], clearFaults scope s) := by
  have hcode : dataAt [k, low, high] 1 + 256 * dataAt [k, low, high] 2 = (high ++ low : Word).toNat :=
    code_of_bytes low high
  obtain ⟨rfl, rfl⟩ | ⟨rfl, hne, rfl⟩ := h
  · simp [serveClearFaults, dataAt]
  · have hnat : (high ++ low : Word).toNat ≠ 0 := fun h => hne (BitVec.eq_of_toNat_eq h)
    simp only [serveClearFaults, hcode]
    simp [dataAt, hnat]

/-! ### The effect of a clear -/

/-- `t` is `s` with the records that `takes` names cleared, and the answer to CLEAR_FAULTS on its way (R160, R172). -/
def State.servesClear (s t : State) (tag : Byte) (takes : FaultRecord → Bool) : Prop :=
  let r := fun i => s.faults.records.get i
  let count := fun (x : FaultStatus) => byteOf ((List.range 48).countP fun i => takes (r i) && (r i).status = x)
  t.faults.full = false ∧
    t.shop.receiver = .answering (answerFrame 7#8 tag 0#8 [count .passive, count .active]) ∧
    (∀ i, i < 48 → takes (r i) = true → (r i).status = .passive → (t.faults.records.get i).status = .empty) ∧
    (∀ i, i < 48 → takes (r i) = true → (r i).status = .active →
      (t.faults.records.get i).status = .active ∧ (t.faults.records.get i).code = (r i).code ∧
      (t.faults.records.get i).origin = (r i).origin ∧ (t.faults.records.get i).occurrences = 1 ∧
      (t.faults.records.get i).aging = 0 ∧ (t.faults.records.get i).firstTime = s.time) ∧
    (∀ i, (takes (r i) = false ∨ (r i).status = .empty) → t.faults.records.get i = r i) ∧
    s.changesOnly t [.notices, .statusBlock, .faults, .receiver]

/-- A clear takes the records in use that its scope names, so the counts are of those. -/
theorem clearCounts_takes (s : State) (scope : Option Nat) (takes : FaultRecord → Bool)
    (ht : ∀ r : FaultRecord, r.status ≠ .empty → r.taken scope = takes r) :
    let count := fun (x : FaultStatus) =>
      (List.range 48).countP fun i => takes (s.faults.records.get i) && (s.faults.records.get i).status = x
    s.clearCounts scope = (count .passive, count .active) := by
  have hcount (x : FaultStatus) (hx : x ≠ .empty) :
      (s.faults.records.cells.countP fun r => r.taken scope && r.status = x) =
        (List.range 48).countP fun i => takes (s.faults.records.get i) && (s.faults.records.get i).status = x := by
    rw [Table.countP_cells]
    refine List.countP_congr fun i _ => ?_
    by_cases hs : (s.faults.records.get i).status = x
    · rw [ht _ (hs ▸ hx)]
    · simp [hs]
  exact Prod.ext (hcount .passive (by decide)) (hcount .active (by decide))

theorem servesClear_clearFaults (scope : Option Nat) (takes : FaultRecord → Bool) (tag : Byte) (data : List Byte)
    (s : State) (ht : ∀ r : FaultRecord, r.status ≠ .empty → r.taken scope = takes r) :
    let q := s.asked .clearFaults tag data
    s.servesClear (answered .clearFaults tag
      (.accepted, [byteOf (q.clearCounts scope).1, byteOf (q.clearCounts scope).2], clearFaults scope q))
      tag takes := by
  intro q
  have hfaults : q.faults = s.faults := by simp [q]
  have hclears (i : Nat) (hi : i < 48) := clearFaults_clears scope i q hi
  have htime : q.time = s.time := by simp [q, State.time, State.ms]
  rw [hfaults] at hclears
  refine ⟨by simp [clearFaults_full], ?_, fun i hi hi' hs => ?_, fun i hi hi' hs => ?_, fun i hi => ?_,
    State.changesOnly_of _ _ _ (by simp [q])⟩
  · rw [answered_receiver]
    simp only [clearCounts_takes q scope takes ht, hfaults]
    rfl
  · obtain ⟨hpassive, -, -⟩ := hclears i hi
    simpa using hpassive ((ht _ (by simp [hs])).trans hi') hs
  · obtain ⟨-, hactive, -⟩ := hclears i hi
    obtain ⟨u, hu⟩ := hactive ((ht _ (by simp [hs])).trans hi') hs
    simp only [answered_frame, hu]
    exact ⟨rfl, rfl, rfl, rfl, rfl, htime⟩
  · by_cases hlt : i < 48
    · obtain ⟨-, -, hkept⟩ := hclears i hlt
      by_cases hs : (s.faults.records.get i).status = .empty
      · simpa using hkept (.inr hs)
      · simpa using hkept (.inl ((ht _ hs).trans (hi.resolve_right hs)))
    · simpa [hfaults] using clearFaults_past scope i q (by omega)

/-- A clear of a scope that it accepts, taken from the line in a SERVICE session. -/
theorem receiveFrame_clears (scope : Option Nat) (takes : FaultRecord → Bool) (tag k low high : Byte) (s : State)
    (hr : s.run.state ≠ .standby) (hi : s.shop.receiver = .idle) (hs : s.shop.session = .service)
    (h : (k = 0#8 ∧ scope = none) ∨
      (k = 1#8 ∧ (high ++ low : Word) ≠ 0#16 ∧ scope = some (high ++ low : Word).toNat))
    (ht : ∀ r : FaultRecord, r.status ≠ .empty → r.taken scope = takes r) :
    s.servesClear (receiveFrame (serviceFrame .clearFaults tag [k, low, high]) s) tag takes := by
  rw [receiveFrame_served .clearFaults tag _ s hr hi (by simp) (Service.refusal_clear _ _ _ _ hs)]
  change s.servesClear (answered _ _ (serveClearFaults _ _)) tag takes
  rw [serveClearFaults_accepted scope k low high _ h]
  exact servesClear_clearFaults scope takes tag [k, low, high] s ht

/-! ### The counts of a door (R86) -/

theorem resetCounters_doors (d : Nat) (s : State) :
    (resetCounters d s).doors = { s.doors with
      doors := s.doors.doors.set d { s.doors.doors.get d with
        cycles := 0, obstructions := 0, written := true, upd := bump (s.doors.doors.get d).upd } } := rfl

theorem receiveFrame_resetsCounter (tag d : Byte) (s : State) (hr : s.run.state ≠ .standby)
    (hi : s.shop.receiver = .idle) (hs : s.shop.session = .service) (hd : d.toNat ≤ 3) :
    receiveFrame (serviceFrame .resetDoorCounter tag [d]) s = answered .resetDoorCounter tag
      (.accepted, [d], resetCounters d.toNat (s.asked .resetDoorCounter tag [d])) := by
  rw [receiveFrame_served .resetDoorCounter tag _ s hr hi (by simp) (Service.refusal_resetCounter _ _ hs)]
  congr 1
  change serveResetDoorCounter _ _ = _
  have hdoor : dataAt [d] 0 = d.toNat := rfl
  have hbyte : byteOf d.toNat = d := by simp [byteOf]
  rw [serveResetDoorCounter, hdoor, if_neg (by omega), hbyte]

/-- Settles O56: both clears of the fault memory are the one of R160, and a door's counts are zeroed with its record
written. -/
theorem retainedRecordsAreCleared : Obligations.RetainedRecordsAreCleared := by
  unfold Obligations.RetainedRecordsAreCleared
  intro tag d low high s hr hi hs
  refine ⟨⟨_, rfl, ?all⟩, fun hcode => ⟨_, rfl, ?one⟩, fun hd => ⟨_, rfl, ?counter⟩⟩
  case all =>
    exact receiveFrame_clears none (fun _ => true) tag 0#8 low high s hr hi hs (.inl ⟨rfl, rfl⟩) fun _ _ => rfl
  case one =>
    exact receiveFrame_clears (some (high ++ low : Word).toNat) (fun x => x.code = (high ++ low : Word).toNat) tag
      1#8 low high s hr hi hs
      (.inr ⟨rfl, hcode, rfl⟩) fun r hr => by simp [FaultRecord.taken, hr]
  case counter =>
    rw [receiveFrame_resetsCounter tag d s hr hi hs hd]
    refine ⟨?_, answered_receiver _ _ _, State.changesOnly_of _ _ _ (by simp)⟩
    simp only [answered_frame, resetCounters_doors, State.asked_frame]
    rfl

end Sys2Proof.Machine
end

section
/-! PROOFS. O17, part 1: the slot of a request that takes the part out of RUN is left alone by the work that ends with
RUN. -/

namespace Sys2Proof.Machine

/-! ### A slot that is left alone -/

/-- From `s` to `t` no byte of slot `k` changes. -/
def State.sparesSlot (s t : State) (k : Nat) : Prop :=
  ∀ o, o < 64 → Memory.read t.mem (slotBase k + o) = Memory.read s.mem (slotBase k + o)

theorem State.sparesSlot.refl (s : State) (k : Nat) : s.sparesSlot s k := fun _ _ => rfl

theorem State.sparesSlot.trans {s t u : State} {k : Nat} (h : s.sparesSlot t k) (g : t.sparesSlot u k) :
    s.sparesSlot u k := fun o ho => (g o ho).trans (h o ho)

theorem sparesSlot_of_mem (s t : State) (k : Nat) (h : t.mem = s.mem) : s.sparesSlot t k := fun _ _ => by rw [h]

theorem slotFailed_spares (j k : Nat) (code : ResultCode) (detail : Nat) (body : List Byte) (s : State)
    (h : j % 16 ≠ k % 16) : s.sparesSlot (slotFailed j code detail body s) k :=
  fun o ho => slotFailed_read_other j k code detail body s h o ho

theorem slotDone_spares (j k : Nat) (body : List Byte) (s : State) (h : j % 16 ≠ k % 16) :
    s.sparesSlot (slotDone j body s) k := fun o ho => by
  rw [slotDone_mem, finishSlot_read_other _ _ _ _ _ _ _ (slotBase_apart j k h o ho)]

/-! ### The body line (R52, R73) -/

/-- No transfer of the one-shot list answers in slot `k`. -/
def State.listSpares (s : State) (k : Nat) : Prop :=
  ∀ j a b d l ws, OneShot.transfer j a b d l ws ∈ s.line.oneShots → j % 16 ≠ k % 16

theorem listSpares_of_list (s t : State) (k : Nat)
    (h : ∀ j a b d l ws, OneShot.transfer j a b d l ws ∈ t.line.oneShots →
      OneShot.transfer j a b d l ws ∈ s.line.oneShots) (hs : s.listSpares k) : t.listSpares k :=
  fun j a b d l ws ho => hs j a b d l ws (h j a b d l ws ho)

theorem listSpares_of_same (s t : State) (k : Nat) (h : t.line.oneShots = s.line.oneShots) (hs : s.listSpares k) :
    t.listSpares k := listSpares_of_list s t k (fun _ _ _ _ _ _ ho => h ▸ ho) hs

/-- A service fetch that joins the list answers in no slot (R69). -/
theorem appendService_listSpares (a k : Nat) (s : State) (hs : s.listSpares k) :
    (appendOneShot (.service a) s).listSpares k :=
  listSpares_of_list s _ k (fun j a b d l ws ho => by simpa [appendOneShot] using ho) hs

theorem serviceFlag_listSpares (a k : Nat) (flags : StationFlags) (s : State) (hs : s.listSpares k) :
    (serviceFlag a flags s).listSpares k := by
  refine when_induct (·.listSpares k) _ _ s (fun _ hs => ?_) hs
  unfold askService
  split
  · exact listSpares_of_same s _ k (by simp [putStation]) hs
  · exact appendService_listSpares a k _ (listSpares_of_same s _ k (by simp [putStation]) hs)

theorem leaveHead_listSpares (k : Nat) (s : State) (hs : s.listSpares k) : (leaveHead s).listSpares k := by
  have hdrop : (s.setLine { s.line with oneShots := s.line.oneShots.drop 1 }).listSpares k :=
    listSpares_of_list s _ k (fun _ _ _ _ _ _ ho => List.mem_of_mem_drop ho) hs
  unfold leaveHead serveDeferred
  split
  · split
    · exact hdrop
    · exact appendService_listSpares _ k _ (listSpares_of_same _ _ k (by simp) hdrop)
  · exact hdrop

/-- The answer of a transfer goes to its own slot alone (R68). -/
theorem endTransfer_spares (j k : Nat) (o : LineOutcome) (flags : StationFlags) (c : Channel) (attempts : Nat)
    (words : List Word) (s : State) (h : j % 16 ≠ k % 16) :
    s.sparesSlot (endTransfer j o flags c attempts words s) k := by
  unfold endTransfer
  split
  · exact slotDone_spares j k _ s h
  · exact slotFailed_spares j k _ _ _ s h

theorem endOneShot_spares (a k : Nat) (o : LineOutcome) (flags : StationFlags) (c : Channel) (attempts : Nat)
    (words : List Word) (s : State) (hs : s.listSpares k) :
    s.sparesSlot (endOneShot a o flags c attempts words s) k ∧
      (endOneShot a o flags c attempts words s).listSpares k := by
  unfold endOneShot
  split
  · exact ⟨sparesSlot_of_mem _ _ k (by simp), serviceFlag_listSpares a k flags _
      (listSpares_of_same _ _ k (by simp [endService_line]) (leaveHead_listSpares k s hs))⟩
  · next slot b e d l ws rest hlist =>
    have hhead : slot % 16 ≠ k % 16 := hs slot b e d l ws (hlist ▸ List.mem_cons_self ..)
    let u := serviceFlag a flags (leaveHead s)
    have hu : u.listSpares k := serviceFlag_listSpares a k flags _ (leaveHead_listSpares k s hs)
    exact ⟨(sparesSlot_of_mem s u k (by simp [u])).trans (endTransfer_spares slot k o flags c attempts words u hhead),
      listSpares_of_same u _ k (by simp [u]) hu⟩
  · exact ⟨sparesSlot_of_mem _ _ k (by simp), serviceFlag_listSpares a k flags s hs⟩

/-- A transaction that ends outside RUN delivers nothing, and answers its own transfer's slot alone. -/
theorem endTransaction_spares (t : Transaction) (k : Nat) (o : LineOutcome) (flags : StationFlags) (words : List Word)
    (s : State) (hr : s.run.state ≠ .run) (hs : s.listSpares k) :
    s.sparesSlot (endTransaction t o flags words s) k ∧ (endTransaction t o flags words s).listSpares k := by
  let m := moveHealth t.made (s.setLine { s.line with transaction := none })
  have hnone : deliverEnd t o words m = m := deliverEnd_none t o words m (.inl (by simpa [m] using hr))
  let u := stationTold t o flags words s
  have htold : u = moveStation t.station t.made flags m := congrArg (moveStation t.station t.made flags) hnone
  have hmem : s.sparesSlot u k := sparesSlot_of_mem s u k (by simp [htold, m])
  have hlist : u.listSpares k := listSpares_of_same s u k (by simp [htold, m]) hs
  rw [endTransaction_eq]
  split
  · obtain ⟨hslot, hleft⟩ := endOneShot_spares t.station k o flags (finalChannel t.made s.normalChannel)
      t.made.length words u hlist
    exact ⟨(hmem.trans hslot).trans (sparesSlot_of_mem _ _ k (by simp [u])),
      listSpares_of_same _ _ k (by simp [u]) hleft⟩
  · exact ⟨hmem.trans (sparesSlot_of_mem _ _ k (by simp [u])),
      listSpares_of_same _ _ k (by simp [u]) (serviceFlag_listSpares t.station k flags u hlist)⟩

/-- The transfers of a list that is emptied fail in their own slots (R73). -/
theorem emptyList_spares (k : Nat) (s : State) (hs : s.listSpares k) : s.sparesSlot (emptyList s) k := by
  let u := s.setLine { s.line with oneShots := [] }
  have hmem : (emptyList s).mem = (s.line.oneShots.foldl (fun t o => abortOneShot o t) u).mem := by
    simp [emptyList, u]
  refine (foldl_induct (fun t => s.sparesSlot t k) s.line.oneShots (fun t o => abortOneShot o t) u
    (fun o ho t ht => ?_) (sparesSlot_of_mem _ _ k rfl)).trans (sparesSlot_of_mem _ _ k hmem)
  cases o with
  | transfer j a b d l ws => exact ht.trans (slotFailed_spares j k _ _ _ t (hs j a b d l ws ho))
  | service a => exact ht

theorem stopLine_spares (k : Nat) (s : State) (hr : s.run.state ≠ .run) (hs : s.listSpares k) :
    s.sparesSlot (stopLine s) k := by
  let u := s.setLine { s.line with walk := [], minorNext := none, probeNext := none }
  have hu : s.sparesSlot u k := sparesSlot_of_mem _ _ k rfl
  have hlist : u.listSpares k := listSpares_of_same s u k rfl hs
  have hwaiting : u.sparesSlot (endWaiting u) k ∧ (endWaiting u).listSpares k := by
    unfold endWaiting
    split
    · split
      · exact endTransaction_spares _ k _ _ _ u (by simpa [u] using hr) hlist
      · exact ⟨.refl u k, hlist⟩
    · exact ⟨.refl u k, hlist⟩
  obtain ⟨hended, hleft⟩ := hwaiting
  change s.sparesSlot (if u.line.phase.attempting then u else emptyList (endWaiting u)) k
  split
  · exact hu
  · exact (hu.trans hended).trans (emptyList_spares k _ hleft)

end Sys2Proof.Machine
end

section
/-! PROOFS. O17, part 2: the slot through the rest of what ends with RUN, and the gauges, the session and the timers
that leaving RUN leaves. -/

namespace Sys2Proof.Machine

/-! ### The lamp check's place through the end of the line and of the wiring checks -/

@[simp] theorem takeSummary_check (s : State) : (takeSummary s).comp.check = s.comp.check := by
  simp [takeSummary]

@[simp] theorem changeHealth_check (c : Channel) (h : ChannelHealth) (s : State) :
    (changeHealth c h s).comp.check = s.comp.check := by
  simp [changeHealth, channelChanged]

@[simp] theorem moveHealth_check (made : List (Channel × LineOutcome)) (s : State) :
    (moveHealth made s).comp.check = s.comp.check :=
  moveHealth_induct (fun t => t.comp.check = s.comp.check) made s
    (fun c h t ht => (changeHealth_check c h t).trans ht) rfl

@[simp] theorem changeStation_check (a : Nat) (x : Station) (s : State) :
    (changeStation a x s).comp.check = s.comp.check := by
  simp [changeStation, stationChanged, takeSearch]

@[simp] theorem moveStation_check (a : Nat) (made : List (Channel × LineOutcome)) (flags : StationFlags) (s : State) :
    (moveStation a made flags s).comp.check = s.comp.check :=
  moveStation_induct (fun t => t.comp.check = s.comp.check) a made flags s (fun x => changeStation_check a x s) rfl

/-- From `s` to `t` the lamp check and the workshop session stand. -/
def State.sameShop (s t : State) : Prop := t.comp.check = s.comp.check ∧ t.shop = s.shop

theorem endTransaction_sameShop (t : Transaction) (o : LineOutcome) (flags : StationFlags) (words : List Word)
    (s : State) (hr : s.run.state ≠ .run) : s.sameShop (endTransaction t o flags words s) := by
  have htold : s.sameShop (stationTold t o flags words s) := by
    rw [State.sameShop, stationTold, deliverEnd_none _ _ _ _ (.inl (by simpa using hr))]
    simp
  obtain ⟨hcheck, hshop⟩ := htold
  rw [endTransaction_eq]
  split <;> simp [State.sameShop, hcheck, hshop]

/-- Outside RUN the line stops with no reader of what it delivers. -/
theorem stopLine_sameShop (s : State) (hr : s.run.state ≠ .run) : s.sameShop (stopLine s) := by
  have hwaiting (t : State) (ht : t.run.state ≠ .run) : t.sameShop (endWaiting t) := by
    unfold endWaiting
    split
    · split
      · exact endTransaction_sameShop _ _ _ _ t ht
      · exact ⟨rfl, rfl⟩
    · exact ⟨rfl, rfl⟩
  unfold stopLine
  dsimp only
  split
  · exact ⟨rfl, rfl⟩
  · obtain ⟨hcheck, hshop⟩ := hwaiting
      (s.setLine { s.line with walk := [], minorNext := none, probeNext := none }) hr
    exact ⟨by simpa using hcheck, by simpa using hshop⟩

@[simp] theorem writeChannel_check (c : Nat) (x : SenseChannel) (s : State) :
    (writeChannel c x s).comp.check = s.comp.check := by
  simp [writeChannel, takeChannel]

@[simp] theorem abortCheck_check (restart : Bool) (c : Nat) (s : State) :
    (abortCheck restart c s).comp.check = s.comp.check := by
  cases h : (s.sense.channels.get c).check with
  | none => rw [abortCheck_none restart c s h]
  | some w =>
    rw [abortCheck_some restart c s w h]
    simp

@[simp] theorem stopSense_check (s : State) : (stopSense s).comp.check = s.comp.check := by
  simp [stopSense, abortChecks]

/-! ### The slot through the checks and the sweeps (R34, R129, R147) -/

theorem abortCheck_spares (restart : Bool) (c k : Nat) (s : State)
    (h : ∀ w, (s.sense.channels.get c).check = some w → w.slot % 16 ≠ k % 16) :
    s.sparesSlot (abortCheck restart c s) k := by
  cases hc : (s.sense.channels.get c).check with
  | none =>
    rw [abortCheck_none restart c s hc]
    exact .refl s k
  | some w =>
    rw [abortCheck_some restart c s w hc]
    exact (slotFailed_spares w.slot k .aborted 0 [] s (h w hc)).trans (sparesSlot_of_mem _ _ k (by simp))

/-- No wiring check answers in slot `k`. -/
def State.checksSpare (s : State) (k : Nat) : Prop :=
  ∀ c, c < 48 → ∀ w, (s.sense.channels.get c).check = some w → w.slot % 16 ≠ k % 16

theorem abortCheck_checksSpare (restart : Bool) (c k : Nat) (s : State) (h : s.checksSpare k) :
    (abortCheck restart c s).checksSpare k := by
  intro j hj w hw
  by_cases he : j = c
  · subst he
    obtain ⟨hnone, -⟩ := abortCheck_get_same restart j s hj
    rw [hnone] at hw
    cases hw
  · rw [abortCheck_get_other restart c j s he] at hw
    exact h j hj w hw

theorem stopSense_spares (k : Nat) (s : State) (h : s.checksSpare k) : s.sparesSlot (stopSense s) k := by
  have haborted : s.sparesSlot (abortChecks false s) k ∧ (abortChecks false s).checksSpare k := by
    refine forEach_induct (fun t => s.sparesSlot t k ∧ t.checksSpare k) _ _ s (fun c hc t ht => ?_) ⟨.refl s k, h⟩
    obtain ⟨hslot, hchecks⟩ := ht
    exact ⟨hslot.trans (abortCheck_spares false c k t (hchecks c (List.mem_range.1 hc))),
      abortCheck_checksSpare false c k t hchecks⟩
  obtain ⟨hslot, -⟩ := haborted
  exact hslot.trans (sparesSlot_of_mem _ _ k (by simp [stopSense]))

theorem endLampCheck_spares (k : Nat) (code : ResultCode) (cause : EndCause) (s : State)
    (h : ∀ j, s.comp.check = some (.request j) → j % 16 ≠ k % 16) : s.sparesSlot (endLampCheck code cause s) k := by
  unfold endLampCheck
  split
  · next j hj =>
    exact (sparesSlot_of_mem s (stopLampCheck s) k (by simp)).trans (slotFailed_spares j k _ _ _ _ (h j hj))
  · exact sparesSlot_of_mem _ _ k (by simp)
  · exact .refl s k

theorem stopGauges_spares (k : Nat) (s : State)
    (h : ∀ i, i < 6 → ∀ w j set, (s.gauges.get i).sweep = some w → w.owner = .request j set → j % 16 ≠ k % 16) :
    s.sparesSlot (stopGauges s) k := by
  let u := forEach ((List.range 6).filter (s.sweepsFor fun _ => true)) parkGauge s
  have hu : s.sparesSlot u k := sparesSlot_of_mem s u k (by simp [u])
  have hslots : u.sparesSlot (forEach (s.sweepSlots fun _ => true) (fun j => slotFailed j .aborted 0 []) u) k := by
    refine forEach_induct (fun t => u.sparesSlot t k) _ _ u (fun j hj t ht => ?_) (.refl u k)
    simp only [State.sweepSlots, List.mem_filter, List.any_eq_true, List.mem_range, State.sweepsFor_iff] at hj
    obtain ⟨-, i, hi, w, hw, -, howner⟩ := hj
    refine ht.trans (slotFailed_spares j k _ _ _ t ?_)
    cases ho : w.owner with
    | workshop set => simp [ho] at howner
    | request m set =>
      obtain rfl : m = j := by simpa [ho] using howner
      exact h i hi w m set hw ho
  exact (hu.trans hslots).trans (sparesSlot_of_mem _ _ k (by simp [stopGauges, endSweeps, u]))

/-- As the part leaves RUN a slot that holds no work is left alone. -/
theorem leaveRun_spares (new : RunState) (k : Nat) (s : State) (hnew : new ≠ .run) (h : s.slotFree k) :
    s.sparesSlot (leaveRun new s) k := by
  obtain ⟨hchecks, hsweeps, hlamps, hlist⟩ := h
  let a := changeRunState new s
  have hr : a.run.state ≠ .run := by simpa [a] using hnew
  let b := stopSense (stopLine a)
  let c := stopWarnings (stopDoors (stopSignals b))
  let d := stopComposition c
  have hline : s.sparesSlot (stopLine a) k :=
    (sparesSlot_of_mem s a k (by simp [a])).trans
      (stopLine_spares k a hr (listSpares_of_same s a k (by simp [a]) hlist))
  have hsense : (stopLine a).sparesSlot b k := stopSense_spares k _ (by simpa [State.checksSpare, a] using hchecks)
  have hcheck : c.comp.check = s.comp.check := by simp [c, b, (stopLine_sameShop a hr).1, a]
  have hlamp : c.sparesSlot d k :=
    (endLampCheck_spares k .aborted .leftRun c (by rwa [hcheck])).trans
      (sparesSlot_of_mem _ _ k (by simp [d, stopComposition]))
  have hgauges : d.gauges = s.gauges := by simp [d, c, b, stopLine_gauges a hr, a]
  have hgauge : d.sparesSlot (stopGauges d) k := stopGauges_spares k d (by rwa [hgauges])
  have hquiet : b.sparesSlot c k := sparesSlot_of_mem b c k (by simp [c])
  exact ((((hline.trans hsense).trans hquiet).trans hlamp).trans hgauge).trans
    (sparesSlot_of_mem (stopGauges d) (leaveRun new s) k (by simp [leaveRun, stopBlocks, d, c, b, a]))

/-! ### The gauges (R147, R149) -/

/-- The sweeps that leaving RUN ends leave the needles, and every gauge that does not sweep. -/
theorem leftSweeps_get (s : State) (i : Nat) (hi : i < 6) :
    let g := (endSweeps (fun _ => true) parkGauge .aborted .leftRun s).gauges.get i
    g.needle = (s.gauges.get i).needle ∧ ((s.gauges.get i).state ≠ .sweeping → g = s.gauges.get i) := by
  let l := (List.range 6).filter (s.sweepsFor fun _ => true)
  have hgauges : (endSweeps (fun _ => true) parkGauge .aborted .leftRun s).gauges = (forEach l parkGauge s).gauges := by
    simp [endSweeps, l]
  rw [hgauges]
  refine forEach_induct (fun t => (t.gauges.get i).needle = (s.gauges.get i).needle ∧
    ((s.gauges.get i).state ≠ .sweeping → t.gauges.get i = s.gauges.get i)) l parkGauge s (fun j hj t ht => ?_)
    ⟨rfl, fun _ => rfl⟩
  obtain ⟨hneedle, hstays⟩ := ht
  by_cases he : i = j
  · subst he
    obtain ⟨u, hu⟩ := putGauge_get_same i (t.gauges.get i).toParking t hi
    have hsweeping : (s.gauges.get i).state = .sweeping := by
      obtain ⟨-, hfor⟩ := List.mem_filter.1 hj
      obtain ⟨-, -, hstate, -⟩ := (State.sweepsFor_iff ..).1 hfor
      exact hstate
    rw [parkGauge, hu]
    exact ⟨hneedle, fun hnot => absurd hsweeping hnot⟩
  · rw [parkGauge, putGauge_get_other j i _ t he]
    exact ⟨hneedle, hstays⟩

theorem Gauge.leftRun_needle (g : Gauge) : g.leftRun.needle = g.needle := by
  unfold Gauge.leftRun
  split <;> rfl

theorem Gauge.leftRun_parks (g : Gauge) (h : g.state = .tracking ∨ g.state = .holding) :
    g.leftRun.state = .parking := by
  obtain h | h := h <;> simp [Gauge.leftRun, h, Gauge.toParking]

theorem stopGauges_get (s : State) (i : Nat) (hi : i < 6) :
    ∃ u, (stopGauges s).gauges.get i =
      { ((endSweeps (fun _ => true) parkGauge .aborted .leftRun s).gauges.get i).leftRun with upd := u } := by
  let e := endSweeps (fun _ => true) parkGauge .aborted .leftRun s
  have hloop : stopGauges s = forEach (List.range 6) (fun i t => putGauge i (t.gauges.get i).leftRun t) e := rfl
  rw [hloop]
  refine forEach_reaches (fun t => t.gauges.get i = e.gauges.get i)
    (fun t => ∃ u, t.gauges.get i = { (e.gauges.get i).leftRun with upd := u }) (List.range 6)
    (fun i t => putGauge i (t.gauges.get i).leftRun t) e i (List.mem_range.2 hi) List.nodup_range rfl
    (fun j _ hj t ht => ?_) (fun t ht => ?_) (fun j _ hj t ht => ?_)
  · exact (putGauge_get_other j i _ t (Ne.symm hj)).trans ht
  · rw [← ht]
    exact putGauge_get_same i _ t hi
  · rwa [putGauge_get_other j i _ t (Ne.symm hj)]

/-- As the part leaves RUN the needles stand, and a gauge that tracks or holds goes to PARKING (R149). -/
theorem leaveRun_gauge (new : RunState) (s : State) (hnew : new ≠ .run) (i : Nat) (hi : i < 6) :
    ((leaveRun new s).gauges.get i).needle = (s.gauges.get i).needle ∧
      ((s.gauges.get i).state = .tracking ∨ (s.gauges.get i).state = .holding →
        ((leaveRun new s).gauges.get i).state = .parking) := by
  let u := stopComposition (stopWarnings (stopDoors (stopSignals (stopSense (stopLine (changeRunState new s))))))
  have hleft : (leaveRun new s).gauges = (stopGauges u).gauges := by simp [leaveRun, stopBlocks, u]
  have hu : u.gauges = s.gauges := by
    simp [u, stopLine_gauges (changeRunState new s) (by simpa using hnew)]
  obtain ⟨upd, hget⟩ := stopGauges_get u i hi
  obtain ⟨hneedle, hstays⟩ := leftSweeps_get u i hi
  rw [hu] at hneedle hstays
  generalize (endSweeps (fun _ => true) parkGauge .aborted .leftRun u).gauges.get i = g at hget hneedle hstays
  rw [hleft, hget]
  refine ⟨(Gauge.leftRun_needle g).trans hneedle, fun hmoves => ?_⟩
  have hquiet : (s.gauges.get i).state ≠ .sweeping := by
    obtain h | h := hmoves <;> simp [h]
  rw [hstays hquiet]
  exact Gauge.leftRun_parks _ hmoves

/-! ### The session (R167, R199) -/

/-- Outside RUN, with no sweep under way, a demotion moves no slot and no gauge. -/
theorem demoteFor_outOfRun (cause : EndCause) (s : State) (hr : s.run.state ≠ .run) (hg : s.noSweep) :
    (demoteFor cause s).mem = s.mem ∧ (demoteFor cause s).doors = s.doors ∧ (demoteFor cause s).gauges = s.gauges := by
  refine when_induct (fun t => t.mem = s.mem ∧ t.doors = s.doors ∧ t.gauges = s.gauges) _ _ s (fun _ _ => ?_)
    ⟨rfl, rfl, rfl⟩
  obtain ⟨hmem, hdoors, -⟩ := lowerSession_outOfRun .read cause s hr
  have hemptied : (emptied .read s).gauges = s.gauges := emptied_gauges_outOfRun .read s hr
  have hsweeps : endWorkshopSweeps cause (emptied .read s) = emptied .read s :=
    endSweeps_none _ _ _ _ _ fun i hi => sweepsFor_of_calm _ _ i (hemptied ▸ hg i hi)
  refine ⟨hmem, hdoors, ?_⟩
  rw [lowerSession_eq, hsweeps]
  simpa using hemptied

theorem demoteFor_shop (cause : EndCause) (s : State) :
    (demoteFor cause s).shop.session = (if s.shop.session = .service then .read else s.shop.session) ∧
      (s.shop.session = .service → (demoteFor cause s).shop.forced = []) := by
  by_cases h : s.shop.session = .service
  · simp [demoteFor, h]
  · simp [demoteFor, h]

/-! ### RUN to CONFIG and to SHUTDOWN (R199) -/

theorem toConfig_leaves (s : State) :
    (toConfig s).run.state = .config ∧ (toConfig s).run.runOnTimer = none ∧ (toConfig s).now = s.now ∧
      (toConfig s).port.livenessTimer = none ∧
      (s.run.ignition = false → s.run.applySlot = none →
        (toConfig s).run.configIdleTimer = some (s.now + 60000000)) ∧
      (toConfig s).doors.interlock = .demand := by
  obtain ⟨hrun, hinterlock⟩ := leaveRun_leaves .config s
  obtain ⟨-, hcalm, -⟩ := leaveRun_waits .config s (by decide)
  obtain ⟨-, hdoors, -⟩ := demoteFor_outOfRun .leftRun (leaveRun .config s) (by simp [hrun]) hcalm
  obtain ⟨x, hidle⟩ := startConfigIdle_run (demoteFor .leftRun (leaveRun .config s))
  have hdemoted : (demoteFor .leftRun (leaveRun .config s)).run = (leaveRun .config s).run := by simp
  refine ⟨by simp [toConfig, hrun], ?_, by simp [toConfig], by simp [toConfig, leaveRun], fun hoff happly => ?_, ?_⟩
  · rw [toConfig, hidle, hdemoted, hrun]
  · rw [toConfig, startConfigIdle_starts _ (by simp [hrun, hoff]) (by simp [hrun, happly])]
    simp [State.inMs, Config.configIdle]
  · simp [toConfig, hdoors, hinterlock]

theorem toConfig_session (s : State) :
    (toConfig s).shop.session = (if s.shop.session = .service then .read else s.shop.session) ∧
      (s.shop.session = .service → (toConfig s).shop.forced = []) := by
  obtain ⟨hsession, hforced⟩ := demoteFor_shop .leftRun (leaveRun .config s)
  have hline : (stopLine (changeRunState .config s)).shop = s.shop := by
    simp [(stopLine_sameShop (changeRunState .config s) (by simp)).2]
  have hleft : (leaveRun .config s).shop.session = s.shop.session := by simp [leaveRun, stopBlocks, hline]
  rw [hleft] at hsession hforced
  exact ⟨by simpa [toConfig] using hsession, by simpa [toConfig] using hforced⟩

theorem toConfig_gauges (s : State) : (toConfig s).gauges = (leaveRun .config s).gauges := by
  obtain ⟨hrun, -⟩ := leaveRun_leaves .config s
  obtain ⟨-, hcalm, -⟩ := leaveRun_waits .config s (by decide)
  obtain ⟨-, -, hgauges⟩ := demoteFor_outOfRun .leftRun (leaveRun .config s) (by simp [hrun]) hcalm
  simpa [toConfig] using hgauges

theorem toConfig_spares (k : Nat) (s : State) (h : s.slotFree k) : s.sparesSlot (toConfig s) k := by
  obtain ⟨hrun, -⟩ := leaveRun_leaves .config s
  obtain ⟨-, hcalm, -⟩ := leaveRun_waits .config s (by decide)
  obtain ⟨hmem, -⟩ := demoteFor_outOfRun .leftRun (leaveRun .config s) (by simp [hrun]) hcalm
  exact (leaveRun_spares .config k s (by decide) h).trans (sparesSlot_of_mem _ _ k (by simp [toConfig, hmem]))

theorem toShutdown_spares (k : Nat) (s : State) (h : s.slotFree k) : s.sparesSlot (toShutdown s) k := by
  obtain ⟨hrun, -⟩ := leaveRun_leaves .shutdown s
  obtain ⟨hmem, -⟩ := endSession_outOfRun .leftRun false (leaveRun .shutdown s) (by simp [hrun])
  have hstarted : (shutdownStarted s).run.state ≠ .run := by simp [shutdownStarted, hrun]
  have hstandby : (standbyIfDue (shutdownStarted s)).mem = (shutdownStarted s).mem := by
    obtain ⟨hended, -⟩ := endSession_outOfRun .session false (shutdownStarted s) hstarted
    exact when_induct (fun t => t.mem = (shutdownStarted s).mem) _ enterStandby _
      (fun _ _ => by simpa [enterStandby, quietShop] using hended) rfl
  exact (leaveRun_spares .shutdown k s (by decide) h).trans
    (sparesSlot_of_mem _ _ k (hstandby.trans hmem))

end Sys2Proof.Machine
end

section
/-! PROOFS. O17, part 3: the requests that are served as they are taken in RUN. -/

namespace Sys2Proof.Machine

/-! ### The end of a taking -/

/-- A POSTED slot whose request is done at its taking, where what follows the answer leaves the slot alone. -/
theorem visitSlot_done (k : Nat) (body : List Byte) (s v u : State) (hv : v.memorySound)
    (hp : s.port.sweepPlace = some k) (h : s.slotState k = .posted) (ht : takeSlot k s = u)
    (hu : (slotDone k body v).sparesSlot u k) :
    ((visitSlot s).slotState k = .done ∧ Memory.read (visitSlot s).mem (slotBase k + 3) = 0#8) ∧
      ∀ j, j < 56 → Memory.read (visitSlot s).mem (slotBase k + 8 + j) = (padTo 56 body).getD j 0#8 := by
  have hmem : (visitSlot s).mem = u.mem := by
    rw [visitSlot_posted k s hp h, ht]
    simp
  have hread (o : Nat) (ho : o < 64) :
      Memory.read (visitSlot s).mem (slotBase k + o) = Memory.read (slotDone k body v).mem (slotBase k + o) := by
    rw [hmem, hu o ho]
  refine ⟨⟨?_, ?_⟩, fun j hj => ?_⟩
  · have hstate : (visitSlot s).slotState k = (slotDone k body v).slotState k :=
      congrArg (fun b : Byte => SlotState.ofCode b.toNat) (hread 0 (by decide))
    rw [hstate, slotDone_slotState k body v hv]
  · rw [hread 3 (by decide), slotDone_mem, finishSlot_read _ _ _ _ _ _ hv 3 (by decide)]
    rfl
  · rw [Nat.add_assoc, hread (8 + j) (by omega), ← Nat.add_assoc, slotDone_read_body k body v hv j hj]

/-! ### ACKNOWLEDGE (R106, R109) -/

theorem requestAcknowledge_unlisted (k target : Nat) (s : State) (hr : s.run.state = .run)
    (ht : s.slotByte k 0 = target) (h : 95 < target) (hne : target ≠ 255) :
    requestAcknowledge k s = refuseRequest k .badParameter 0 s := by
  simp [requestAcknowledge, State.inRun, hr, ht, h, hne]

/-- With 255 as its target a request acknowledges the warning of the TOP slot, if there is one (R106). -/
theorem requestAcknowledge_empty (k : Nat) (s : State) (hr : s.run.state = .run) (ht : s.slotByte k 0 = 255)
    (h : s.comp.record.top.kind ≠ .warning) : requestAcknowledge k s = refuseRequest k .notPending 0 s := by
  simp [requestAcknowledge, State.inRun, hr, ht, State.ackTarget, State.topWarning, h]

/-- Warning `w` is the one that a target names. -/
def State.targets (s : State) (target w : Nat) : Prop :=
  (target = w ∧ w ≤ 95) ∨ (target = 255 ∧ s.comp.record.top.kind = .warning ∧ s.comp.record.top.index = w)

theorem ackTarget_targets (s : State) (target w : Nat) (h : s.targets target w) :
    s.ackTarget target = some w ∧ ¬(95 < target && target ≠ 255) = true := by
  obtain ⟨rfl, hw⟩ | ⟨rfl, hkind, rfl⟩ := h
  · exact ⟨if_neg (by omega), by simp; omega⟩
  · simp [State.ackTarget, State.topWarning, hkind]

theorem requestAcknowledge_refused (k target w : Nat) (s : State) (r : ResultCode) (hr : s.run.state = .run)
    (ht : s.slotByte k 0 = target) (h : s.targets target w) (hw : s.ackRefusal w = some r) :
    requestAcknowledge k s = refuseRequest k r 0 s := by
  obtain ⟨hsome, hlisted⟩ := ackTarget_targets s target w h
  have hrun : s.inRun = true := by simp [State.inRun, hr]
  rw [requestAcknowledge, ht, hrun, if_neg (by simp), if_neg hlisted, hsome]
  simp only [hw]

theorem requestAcknowledge_accepted (k target w : Nat) (s : State) (hr : s.run.state = .run)
    (ht : s.slotByte k 0 = target) (h : s.targets target w) (hw : s.ackRefusal w = none) :
    requestAcknowledge k s = slotDone k [byteOf w] (acknowledge w s) := by
  obtain ⟨hsome, hlisted⟩ := ackTarget_targets s target w h
  have hrun : s.inRun = true := by simp [State.inRun, hr]
  rw [requestAcknowledge, ht, hrun, if_neg (by simp), if_neg hlisted, hsome]
  simp only [hw]

theorem ackRefusal_unfit (s : State) (w : Nat)
    (h : (s.setup.warnings.get w).kind = .unused ∨ (s.setup.warnings.get w).ackMode = .none) :
    s.ackRefusal w = some .notAcknowledgeable := by
  simp [State.ackRefusal, h]

/-- A warning that has nothing to acknowledge. -/
def Warning.settled (x : Warning) : Prop :=
  x.state = .inactive ∨ x.state = .arming ∨ ((x.state = .active ∨ x.state = .clearing) ∧ x.acked = true)

theorem ackRefusal_settled (s : State) (w : Nat) (hk : (s.setup.warnings.get w).kind ≠ .unused)
    (ha : (s.setup.warnings.get w).ackMode ≠ .none) (h : (s.warnings.get w).settled) :
    s.ackRefusal w = some .notPending := by
  obtain h | h | ⟨h | h, hacked⟩ := h <;> simp [State.ackRefusal, *]

theorem ackRefusal_pending (s : State) (w : Nat) (hk : (s.setup.warnings.get w).kind ≠ .unused)
    (ha : (s.setup.warnings.get w).ackMode ≠ .none) (h : (s.warnings.get w).state = .latched ∨
      (((s.warnings.get w).state = .active ∨ (s.warnings.get w).state = .clearing) ∧
        (s.warnings.get w).acked = false)) : s.ackRefusal w = none := by
  obtain h | ⟨h | h, hacked⟩ := h <;> simp [State.ackRefusal, *]

/-- What an acknowledgement makes of a warning (R109). -/
theorem Warning.acknowledged_spec (x : Warning) :
    (x.state = .latched → x.acknowledged.1.state = .inactive ∧ x.acknowledged.1.acked = false) ∧
      (x.state ≠ .latched → x.acknowledged.1.state = x.state ∧ x.acknowledged.1.acked = true ∧
        x.acknowledged.1.delay = x.delay) ∧
      x.acknowledged.1.occurrences = x.occurrences ∧ x.acknowledged.1.condition = x.condition := by
  cases h : x.state <;> simp [Warning.acknowledged, Warning.ended, h]

/-- Past the 96 warnings nothing is in force. -/
theorem warning_lt_of_inForce (s : State) (w : Nat) (h : (s.warnings.get w).state ≠ .inactive) : w < 96 := by
  by_contra hw
  rw [Table.get_past _ _ (by omega)] at h
  exact h rfl

/-! ### The statement -/

/-- ACKNOWLEDGE that is accepted. -/
theorem acknowledge_served (k w : Nat) (s : State) (hm : s.memorySound) (hp : s.port.sweepPlace = some k)
    (hs : s.slotState k = .posted) (ht : takeSlot k s = slotDone k [byteOf w] (acknowledge w s)) (hw : w < 96) :
    let t := visitSlot s
    let x := s.warnings.get w
    let y := t.warnings.get w
    (t.slotState k = .done ∧ Memory.read t.mem (slotBase k + 3) = 0#8) ∧
      Memory.read t.mem (slotBase k + 8) = byteOf w ∧
      (x.state = .latched → y.state = .inactive ∧ y.acked = false) ∧
      (x.state ≠ .latched → y.state = x.state ∧ y.acked = true ∧ y.delay = x.delay) ∧
      y.occurrences = x.occurrences ∧ y.condition = x.condition ∧
      (∀ v, v ≠ w → t.warnings.get v = s.warnings.get v) ∧
      s.changesOnly t (.slots :: .registers :: warningParts) := by
  intro t x y
  obtain ⟨hdone, hbody⟩ := visitSlot_done k [byteOf w] s (acknowledge w s) _
    (memorySound_of_mem s _ (by simp [acknowledge]) hm) hp hs ht (.refl _ k)
  have hvisit : t = sweepOn k (slotDone k [byteOf w] (acknowledge w s)) := by
    rw [← ht]
    exact visitSlot_posted k s hp hs
  have hwarnings : t.warnings = (putWarning w x.acknowledged.1 s).warnings := by
    simp [hvisit, acknowledge, commitWarning_warnings, x]
  obtain ⟨u, hu⟩ := putWarning_get_same w x.acknowledged.1 s hw
  have hy : y = { x.acknowledged.1 with upd := u } := by rw [← hu, ← hwarnings]
  obtain ⟨hlatched, hother, hoccurrences, hcondition⟩ := Warning.acknowledged_spec x
  refine ⟨hdone, hbody 0 (by decide), ?_, ?_, ?_, ?_, fun v hv => ?_, ?_⟩
  · rwa [hy]
  · rwa [hy]
  · rwa [hy]
  · rwa [hy]
  · rw [hwarnings, putWarning_get_other w v _ s hv]
  · rw [hvisit]
    exact State.changesOnly_of _ _ _ (by simp [warningParts, acknowledge])

/-- CLEAR_FAULTS that is accepted (R159, R160). -/
theorem requestClearFaults_served (k : Nat) (s : State) (hm : s.memorySound) (hp : s.port.sweepPlace = some k)
    (hs : s.slotState k = .posted)
    (ht : takeSlot k s = slotDone k [byteOf (s.clearCounts none).1, byteOf (s.clearCounts none).2]
      (clearFaults none s)) :
    let t := visitSlot s
    let r := fun i => s.faults.records.get i
    let q := fun i => t.faults.records.get i
    (t.slotState k = .done ∧ Memory.read t.mem (slotBase k + 3) = 0#8) ∧ t.faults.full = false ∧
      Memory.read t.mem (slotBase k + 8) = byteOf (s.faults.records.cells.countP fun r => r.status = .passive) ∧
      Memory.read t.mem (slotBase k + 9) = byteOf (s.faults.records.cells.countP fun r => r.status = .active) ∧
      (∀ i, i < 48 →
        ((r i).status = .passive → (q i).status = .empty) ∧
        ((r i).status = .active →
          (q i).status = .active ∧ (q i).code = (r i).code ∧ (q i).origin = (r i).origin ∧
          (q i).occurrences = 1 ∧ (q i).aging = 0 ∧ (q i).firstCycle = s.run.ignitionCycle ∧
          (q i).lastCycle = s.run.ignitionCycle ∧ (q i).firstTime = s.time ∧ (q i).lastTime = s.time ∧
          (q i).snapshot = s.snapshot) ∧
        ((r i).status = .empty → q i = r i)) ∧
      s.changesOnly t [.notices, .statusBlock, .registers, .slots, .faults] := by
  intro t r q
  obtain ⟨hdone, hbody⟩ := visitSlot_done k _ s (clearFaults none s) _
    (memorySound_of_mem s _ (by simp) hm) hp hs ht (.refl _ k)
  have hvisit : t = sweepOn k (slotDone k [byteOf (s.clearCounts none).1, byteOf (s.clearCounts none).2]
      (clearFaults none s)) := by
    rw [← ht]
    exact visitSlot_posted k s hp hs
  have hfaults : t.faults = (clearFaults none s).faults := by simp [hvisit]
  refine ⟨hdone, ?_, hbody 0 (by decide), hbody 1 (by decide), fun i hi => ?_, ?_⟩
  · rw [hfaults, clearFaults_full]
  · obtain ⟨hpassive, hactive, hkept⟩ := clearFaults_clears none i s hi
    have hq : q i = (clearFaults none s).faults.records.get i := congrArg (·.records.get i) hfaults
    rw [hq]
    refine ⟨hpassive rfl, fun ha => ?_, fun he => hkept (.inr he)⟩
    obtain ⟨u, hu⟩ := hactive rfl ha
    rw [hu]
    exact ⟨rfl, rfl, rfl, rfl, rfl, rfl, rfl, rfl, rfl, rfl⟩
  · rw [hvisit]
    exact State.changesOnly_of _ _ _ (by simp)

/-- The answer in its slot leaves the work that other slots wait for. -/
theorem slotDone_slotFree (k j : Nat) (body : List Byte) (s : State) (h : s.slotFree k) :
    (slotDone j body s).slotFree k := by
  simpa [State.slotFree] using h

/-- Settles O17: each request is one taking, refused in the order of its table or served, and what leaving RUN ends
answers in other slots. -/
theorem requestsInRunAreServed : Obligations.RequestsInRunAreServed := by
  unfold Obligations.RequestsInRunAreServed
  intro k s hm _ hp hs hr
  have taken (x : RequestKind) (n : Nat) (hn : RequestKind.ofCode n = some x)
      (h : (Memory.read s.mem (slotBase k + 1)).toNat = n) : takeSlot k s = x.route k s :=
    takeSlot_of_kind k s x (h ▸ hn)
  have fails (r : ResultCode) (ht : takeSlot k s = refuseRequest k r 0 s) := visitSlot_fails k s r hm hp hs ht
  have hrun : s.inRun = true := by simp [State.inRun, hr]
  refine ⟨fun hk => ?acknowledge, fun hk => ?clear, fun hk hfree => ?config, fun hk => ?standby⟩
  case acknowledge =>
    have ht := taken .acknowledge 6 rfl hk
    refine ⟨fun hlow hne => fails _ ?_, fun h255 htop => fails _ ?_, fun w hw => ⟨fun hunfit => fails _ ?_,
      fun hkind hmode => ⟨fun hsettled => fails _ ?_, fun hpending => ?_⟩⟩⟩
    · exact ht.trans (requestAcknowledge_unlisted k _ s hr rfl hlow hne)
    · exact ht.trans (requestAcknowledge_empty k s hr h255 htop)
    · exact ht.trans (requestAcknowledge_refused k _ w s _ hr rfl hw (ackRefusal_unfit s w hunfit))
    · exact ht.trans (requestAcknowledge_refused k _ w s _ hr rfl hw (ackRefusal_settled s w hkind hmode hsettled))
    · have hinForce : (s.warnings.get w).state ≠ .inactive := by
        obtain h | ⟨h | h, -⟩ := hpending <;> simp [h]
      have haccepted := requestAcknowledge_accepted k _ w s hr rfl hw (ackRefusal_pending s w hkind hmode hpending)
      exact acknowledge_served k w s hm hp hs (ht.trans haccepted) (warning_lt_of_inForce s w hinForce)
  case clear =>
    have ht : takeSlot k s = requestClearFaults k s := taken .clearFaults 10 rfl hk
    refine ⟨fun hmoving => fails _ ?_, fun hstopped hservice => fails _ ?_, fun hstopped hfree => ?_⟩
    · simp [ht, requestClearFaults, hrun, hmoving]
    · simp [ht, requestClearFaults, hrun, hstopped, hservice]
    · exact requestClearFaults_served k s hm hp hs (by simp [ht, requestClearFaults, hrun, hstopped, hfree])
  case config =>
    let d := slotDone k [] s
    have ht : takeSlot k s = toConfig d := by
      simp [taken .enterConfig 2 rfl hk, RequestKind.route, requestEnterConfig, hrun, d]
    obtain ⟨hdone, -⟩ := visitSlot_done k [] s s _ hm hp hs ht
      (toConfig_spares k d (slotDone_slotFree k k [] s hfree))
    have hvisit : visitSlot s = sweepOn k (toConfig d) := by rw [visitSlot_posted k s hp hs, ht]
    obtain ⟨hstate, hrunOn, -, hliveness, hidle, hinterlock⟩ := toConfig_leaves d
    obtain ⟨hsession, hforced⟩ := toConfig_session d
    have hd : d.run = s.run ∧ d.now = s.now ∧ d.shop = s.shop ∧ d.gauges = s.gauges := by simp [d]
    obtain ⟨drun, dnow, dshop, dgauges⟩ := hd
    rw [drun, dnow] at hidle
    rw [dshop] at hsession hforced
    refine ⟨hdone, ?_⟩
    rw [hvisit]
    refine ⟨by simpa using hstate, by simpa using hrunOn, by simp [dnow], by simpa using hliveness,
      fun hoff happly => by simpa using hidle hoff happly, by simpa using hinterlock,
      by simp [State.stopBrakeDemand, hinterlock], by simpa using hsession, fun h => by simpa using hforced h,
      fun g hg => ?_, State.changesOnly_of _ _ _ (by simp [runParts, d])⟩
    obtain ⟨hneedle, hparks⟩ := leaveRun_gauge .config d (by decide) g hg
    rw [dgauges] at hneedle hparks
    rw [← toConfig_gauges] at hneedle hparks
    exact ⟨by simpa using hneedle, by simpa using hparks⟩
  case standby =>
    have ht : takeSlot k s = requestStandbyPermit k s := taken .standbyPermit 3 rfl hk
    refine ⟨fun hon => fails _ (by simp [ht, requestStandbyPermit, hrun, hon]), fun hoff hfree => ?_⟩
    let d := slotDone k [] s
    have ht : takeSlot k s = toShutdown d := by simp [ht, requestStandbyPermit, hrun, hoff, d]
    obtain ⟨hdone, -⟩ := visitSlot_done k [] s s _ hm hp hs ht
      (toShutdown_spares k d (slotDone_slotFree k k [] s hfree))
    have hvisit : visitSlot s = sweepOn k (toShutdown d) := by rw [visitSlot_posted k s hp hs, ht]
    obtain ⟨-, hdemand, hsession, -⟩ := toShutdown_shuts d
    obtain ⟨-, hrunOn, -⟩ := toShutdown_leaves d
    obtain ⟨hstandby, hshutdown⟩ := toShutdown_state d
    have hd : d.now = s.now ∧ d.line = s.line ∧ d.gauges = s.gauges := by simp [d]
    obtain ⟨dnow, dline, dgauges⟩ := hd
    rw [dgauges, dline] at hstandby hshutdown
    refine ⟨hdone, ?_⟩
    rw [hvisit]
    exact ⟨by simpa using hrunOn, by simp [dnow], by simpa using hstandby, by simpa using hshutdown,
      by simpa using hdemand, by simp [State.stopBrakeDemand, hdemand], by simpa using hsession,
      State.changesOnly_of _ _ _ (by simp [runParts, d])⟩

end Sys2Proof.Machine
end
